-- ==== Sys2Proof/Word.lean ====
section
/-! DEFINITION. The widths and plainest identifiers of the GB644: bytes, the movement clock, transporters,
operations links, link ports, and keyed tables. -/

namespace Sys2Proof

/-- A byte of a link frame (10 R169). -/
abbrev Byte := BitVec 8

/-- The movement clock, 32 bits of milliseconds (11 R190). -/
abbrev Clock := BitVec 32

/-- A transporter T0 to T5, and with it its link TL0 to TL5 (00_scope.md 2.1). -/
abbrev TId := Fin 6

/-- An operations link: 0 is OPS-A, 1 is OPS-B. -/
abbrev OpsId := Fin 2

/-- A link port: one of TL0 to TL5, OPS-A, OPS-B (10 R169). -/
inductive PortId where
  /-- A transporter link. -/
  | tl (t : TId)
  /-- An operations link. -/
  | ops (o : OpsId)
deriving DecidableEq, Repr

/-- A keyed table: (identifier, record) pairs, in rising order of identifiers. -/
abbrev Table (α : Type) := List (Nat × α)

/-- One character as FRX sees it (10.5.2): the time in microseconds since the release of FDE, or since the character
before, its nine data bits, the ninth bit the most significant, and whether FDE is asserted while it arrives. -/
structure BusChar where
  /-- Microseconds before the character (R158). -/
  gap : Nat
  /-- Nine data bits. -/
  bits : BitVec 9
  /-- It arrives while FDE is asserted, and is ignored (R157). -/
  driven : Bool
deriving DecidableEq, Repr

end Sys2Proof
end

