-- ==== Sys2Proof/Syntax.lean ====
section
/-! DEFINITION. The commands of the block: one constructor for each row of spec/opcode_table.json.

A frame command carries its link and its payload. An operations command's payload begins with its tag, which is an
operand of its own; `p` holds the bytes after it (10.3.2). A transporter request's `p` is the whole payload. -/

namespace Sys2Proof

/-- The 65 commands of the GB644. -/
inductive Instr where
  -- operations queries
  | qSite (l : OpsId) (tag : Byte) (p : List Byte)
  | qSection (l : OpsId) (tag : Byte) (p : List Byte)
  | qPoint (l : OpsId) (tag : Byte) (p : List Byte)
  | qTransporter (l : OpsId) (tag : Byte) (p : List Byte)
  | qRoute (l : OpsId) (tag : Byte) (p : List Byte)
  | qPad (l : OpsId) (tag : Byte) (p : List Byte)
  | qTelescope (l : OpsId) (tag : Byte) (p : List Byte)
  | qUnit (l : OpsId) (tag : Byte) (p : List Byte)
  -- operations control commands
  | allStop (l : OpsId) (tag : Byte) (p : List Byte)
  | allResume (l : OpsId) (tag : Byte) (p : List Byte)
  | zoneClear (l : OpsId) (tag : Byte) (p : List Byte)
  | cancel (l : OpsId) (tag : Byte) (p : List Byte)
  | recover (l : OpsId) (tag : Byte) (p : List Byte)
  | retire (l : OpsId) (tag : Byte) (p : List Byte)
  | throwPoint (l : OpsId) (tag : Byte) (p : List Byte)
  | clearPoint (l : OpsId) (tag : Byte) (p : List Byte)
  | restoreSection (l : OpsId) (tag : Byte) (p : List Byte)
  | restoreUnit (l : OpsId) (tag : Byte) (p : List Byte)
  | padReserve (l : OpsId) (tag : Byte) (p : List Byte)
  | padFree (l : OpsId) (tag : Byte) (p : List Byte)
  | padService (l : OpsId) (tag : Byte) (p : List Byte)
  | declare (l : OpsId) (tag : Byte) (p : List Byte)
  | xferAbort (l : OpsId) (tag : Byte) (p : List Byte)
  -- configuration commands
  | setParam (l : OpsId) (tag : Byte) (p : List Byte)
  | defineSection (l : OpsId) (tag : Byte) (p : List Byte)
  | definePoint (l : OpsId) (tag : Byte) (p : List Byte)
  | definePad (l : OpsId) (tag : Byte) (p : List Byte)
  | defineUnit (l : OpsId) (tag : Byte) (p : List Byte)
  | defineTransporter (l : OpsId) (tag : Byte) (p : List Byte)
  | allocate (l : OpsId) (tag : Byte) (p : List Byte)
  | commit (l : OpsId) (tag : Byte) (p : List Byte)
  | configure (l : OpsId) (tag : Byte) (p : List Byte)
  -- commanded resets
  | resetLink (l : OpsId) (tag : Byte) (p : List Byte)
  | resetFieldbus (l : OpsId) (tag : Byte) (p : List Byte)
  | resetAll (l : OpsId) (tag : Byte) (p : List Byte)
  -- transporter requests
  | join (t : TId) (p : List Byte)
  | report (t : TId) (p : List Byte)
  | route (t : TId) (p : List Byte)
  | giveback (t : TId) (p : List Byte)
  | transfer (t : TId) (p : List Byte)
  | stepResult (t : TId) (p : List Byte)
  | leave (t : TId) (p : List Byte)
  -- link ports
  | holdByte (l : PortId)
  | goByte (l : PortId)
  | frameComplete (l : PortId) (bytes : List Byte)
  | frameGapTimeout (l : PortId)
  | flowByteSend (l : PortId)
  | tlTransmitStart (t : TId)
  | opsTransmitStart (l : OpsId)
  -- field bus
  | fieldbusGoodReply (chars : List BusChar)
  | fieldbusMiss
  -- countdown expiries
  | throwTimeout (p : Nat)
  | waitExpired (t : TId)
  | supervisionExpiry (t : TId)
  | stageTimeout (t : TId)
  | clampFailed (p : Nat)
  | mastLost
  -- stop lines
  | stopLineEdge (n : Fin 8) (asserted : Bool)
  -- full resets
  | powerOn
  | supplyLow
  | resetLine
  | clockStartUpEnd
  -- the Route Interlock's walk
  | pendingQueueWalk
  -- link ports, inside the frame header
  | synByte (l : PortId)
  | lenOutOfRange (l : PortId) (b : Byte)
deriving DecidableEq, Repr

end Sys2Proof
end

