-- ==== Sys2Proof/Config.lean ====
section
/-! DEFINITION. The fixed numbers of the part (00_scope.md 3), the special bytes of a link (10 R169) and the type
codes of the message catalogue (10.3). Nothing here is left open by the spec, so there is no free value. -/

namespace Sys2Proof.Config

/-- Track sections S0 to S95. -/
def numSections : Nat := 96
/-- Points P0 to P31. -/
def numPoints : Nat := 32
/-- Pads 0 to 79. -/
def numPads : Nat := 80
/-- Telescopes 1 to 16. -/
def numTelescopes : Nat := 16
/-- Field units at addresses 1 to 48. -/
def maxAddress : Nat := 48
/-- Passing groups 1 to 16; 0 means none. -/
def maxGroup : Nat := 16
/-- Authority pool: route entries shared by all transporters. -/
def authorityPool : Nat := 128
/-- Link receive queue. -/
def rxCapacity : Nat := 8
/-- Operations reply queue. -/
def replyCapacity : Nat := 8
/-- Notice queue. -/
def noticeCapacity : Nat := 32
/-- Refusal queue. -/
def refusalCapacity : Nat := 4
/-- Field-bus command queue. -/
def cmdCapacity : Nat := 16
/-- Commands sent between two polls at most (09 R163). -/
def forcedPollAt : Nat := 4
/-- The saturation of every distance (05 R93). -/
def maxDistance : Nat := 2000000
/-- Data bytes one REPLY frame carries (R181). -/
def replyPart : Nat := 119
/-- The highest route index (03 R39). -/
def maxIndex : Nat := 65535

/-- SYN (R169). -/
def synByte : Byte := 0xA5
/-- The HOLD flow byte (R169). -/
def holdByte : Byte := 0xC3
/-- The GO flow byte (R169). -/
def goByte : Byte := 0xC5

/-! Type codes of transporter messages (10.3.1). -/
def tyJoin : Byte := 0x10
def tyReport : Byte := 0x11
def tyRoute : Byte := 0x12
def tyGiveback : Byte := 0x13
def tyTransfer : Byte := 0x14
def tyStep : Byte := 0x15
def tyLeave : Byte := 0x16
def tyAuth : Byte := 0x20
def tyXferGo : Byte := 0x21
def tyXferEnd : Byte := 0x22
def tyRefuse : Byte := 0x23

/-! Type codes of operations messages (10.3.2). -/
def tyQSite : Byte := 0x40
def tyQSection : Byte := 0x41
def tyQPoint : Byte := 0x42
def tyQTransporter : Byte := 0x43
def tyQRoute : Byte := 0x44
def tyQPad : Byte := 0x45
def tyQTelescope : Byte := 0x46
def tyQUnit : Byte := 0x47
def tyAllStop : Byte := 0x50
def tyAllResume : Byte := 0x51
def tyZoneClear : Byte := 0x52
def tyCancel : Byte := 0x53
def tyRecover : Byte := 0x54
def tyRetire : Byte := 0x55
def tyThrow : Byte := 0x56
def tyClearPoint : Byte := 0x57
def tyRestoreSection : Byte := 0x58
def tyRestoreUnit : Byte := 0x59
def tyPadReserve : Byte := 0x5A
def tyPadFree : Byte := 0x5B
def tyPadService : Byte := 0x5C
def tyDeclare : Byte := 0x5D
def tyXferAbort : Byte := 0x5E
def tySetParam : Byte := 0x60
def tyDefineSection : Byte := 0x61
def tyDefinePoint : Byte := 0x62
def tyDefinePad : Byte := 0x63
def tyDefineUnit : Byte := 0x64
def tyDefineTransporter : Byte := 0x65
def tyAllocate : Byte := 0x66
def tyCommit : Byte := 0x67
def tyConfigure : Byte := 0x68
def tyReset : Byte := 0x69
def tyReply : Byte := 0x70
def tyNotice : Byte := 0x71

/-- The types a transporter may send (10.3.1). -/
def transporterTypes : List Byte :=
  [tyJoin, tyReport, tyRoute, tyGiveback, tyTransfer, tyStep, tyLeave]

/-- The types an operations station may send (10.3.2). -/
def operationsTypes : List Byte :=
  [tyQSite, tyQSection, tyQPoint, tyQTransporter, tyQRoute, tyQPad, tyQTelescope, tyQUnit,
   tyAllStop, tyAllResume, tyZoneClear, tyCancel, tyRecover, tyRetire, tyThrow, tyClearPoint,
   tyRestoreSection, tyRestoreUnit, tyPadReserve, tyPadFree, tyPadService, tyDeclare, tyXferAbort] ++
  [tySetParam, tyDefineSection, tyDefinePoint, tyDefinePad, tyDefineUnit, tyDefineTransporter,
   tyAllocate, tyCommit, tyConfigure, tyReset]

end Sys2Proof.Config
end

