-- ==== Sys2Proof/Machine/State.lean ====
section
/-! DEFINITION. Everything the spec gives the GB644 to hold, as plain data, the two ways a step could stop (none of
which the spec uses), and the state after reset. -/

namespace Sys2Proof.Machine

/-! ## Codes and sets -/

/-- Reason codes (10.3.3), OK among them as a REPLY result. -/
inductive Reason where
  | ok | frame | state | range | unknownId | notContiguous | repeatedSection | startMismatch | quota | held
  | notClear | locked | pointFault | moving | padState | alignment | loadMismatch | configLocked | unitSilent
  | indeterminate | waitExpired
deriving DecidableEq, Repr

/-- The site states (11 R183). -/
inductive SiteState where
  | unconfigured | survey | running
deriving DecidableEq, Repr

/-- The causes of a full reset (11 R190). -/
inductive ResetCause where
  | powerOn | supplyLow | resetLine | commanded
deriving DecidableEq, Repr

/-- A named end of a section (01 1.1.1). -/
inductive EndName where
  | a | b | c
deriving DecidableEq, Repr

/-- The direction of a report and the sense of an entry (01 R13). -/
inductive Dir where
  | up | down
deriving DecidableEq, Repr

/-- Detection of a section (02 2.1.2). -/
inductive Detection where
  | clear | occupied | disturbed | unknown
deriving DecidableEq, Repr

/-- Hold kinds (03 R40). -/
inductive HoldKind where
  | granted | setting | releasePending
deriving DecidableEq, Repr

/-- The two positions a point can be asked for (01 R10). -/
inductive Blade where
  | normal | reverse
deriving DecidableEq, Repr

/-- Point positions (02 2.2.2). -/
inductive PointPos where
  | normal | reverse | moving | unknown
deriving DecidableEq, Repr

/-- Causes of a point fault latch (02 R33). -/
inductive FaultCause where
  | throwTimeout | lostPosition | unitSilent
deriving DecidableEq, Repr

/-- Transporter states (06 R103). -/
inductive TState where
  | offline | parked | authorised | held | tripped | transfer
deriving DecidableEq, Repr

/-- Trip causes (06 R114). -/
inductive TripCause where
  | link | excursion | overspeed | wrongDirection | unauthorisedMotion | obstruction | transfer
deriving DecidableEq, Repr

/-- A set of trip causes, one bit each (06 R103). -/
structure TripSet where
  link : Bool
  excursion : Bool
  overspeed : Bool
  wrongDirection : Bool
  unauthorisedMotion : Bool
  obstruction : Bool
  transfer : Bool
deriving DecidableEq, Repr

/-- The empty set of trip causes. -/
def TripSet.empty : TripSet := ⟨false, false, false, false, false, false, false⟩

/-- A set of stop causes, one bit each (06 R103). -/
structure StopSet where
  allStop : Bool
  zoneStop : Bool
  wind : Bool
deriving DecidableEq, Repr

/-- The empty set of stop causes. -/
def StopSet.empty : StopSet := ⟨false, false, false⟩

/-- Causes of a release (04 R70). -/
inductive ReleaseCause where
  | rear | echo | recover | retire | leave
deriving DecidableEq, Repr

/-- Orders of an AUTH (10.5, AUTH order). -/
inductive Order where
  | go | stand | trip
deriving DecidableEq, Repr

/-- Unit types (09 R155). -/
inductive UnitType where
  | detector | point | pad | mast
deriving DecidableEq, Repr

/-- Unit states (09 R155). -/
inductive UnitState where
  | active | silent | restoring
deriving DecidableEq, Repr

/-- Functions of a field-bus request (09 R158, 10.5.2). -/
inductive BusFunc where
  | poll | throwNormal | throwReverse | clamp | unclamp
deriving DecidableEq, Repr

/-- The requester of a queued command (09 R162). -/
inductive Requester where
  /-- A throw asked for by the Route Interlock for a transporter. -/
  | tr (t : TId)
  /-- An operations THROW. -/
  | ops
  /-- A pad command of a transporter's transfer. -/
  | xfer (t : TId)
  /-- The CLAMP of a pad's clamp watch. -/
  | watch (pad : Nat)
deriving DecidableEq, Repr

/-- Transfer kinds (08 R146). -/
inductive XferKind where
  | lift | place
deriving DecidableEq, Repr

/-- Transfer stages (08 R147). -/
inductive Stage where
  | unclamp | raise | confirm | lower | clamp
deriving DecidableEq, Repr

/-- The stage command of a transfer (08 R147). -/
inductive StageCmd where
  | none | waiting | queued | sent
deriving DecidableEq, Repr

/-- Clamp readings (08 R137). -/
inductive Clamp where
  | opened | closed | travel | unknown
deriving DecidableEq, Repr

/-- Load readings (08 R137). -/
inductive Load where
  | loaded | empty | unsure | unknown
deriving DecidableEq, Repr

/-- Causes of a transfer abort (08 R151). -/
inductive AbortCause where
  | operations | stepFailed | timeout | unitSilent | loadUnknown | link | excursion | unauthorisedMotion
deriving DecidableEq, Repr

/-- Outcomes carried by XFER_END (08 R150, R153, R154). -/
inductive XferOutcome where
  | done | abortedClean | abortedIndeterminate
deriving DecidableEq, Repr

/-- Stop-line modes (07 R126). -/
inductive StopMode where
  | off | level | latch | latchLevel
deriving DecidableEq, Repr

/-- What freed a zone (07 R131). -/
inductive ClearCause where
  | line | clear | mode
deriving DecidableEq, Repr

/-- Causes of the wind band HOLD (07 7.2). -/
inductive HoldCause where
  | gust | mastPending | mastLost
deriving DecidableEq, Repr

/-- Wind bands; HOLD carries its cause (07 7.2). -/
inductive Band where
  | normal
  | caution
  | hold (c : HoldCause)
deriving DecidableEq, Repr

/-- Flow states of a link (10 R172, R174). -/
inductive Flow where
  | go | hold
deriving DecidableEq, Repr

/-- A countdown in steps of 100 ms, with the milliseconds spent in the present step (00_scope.md 5.2, log 2). -/
structure Countdown where
  steps : Nat
  ms : Nat
deriving DecidableEq, Repr

/-- A countdown freshly loaded with a number of steps. -/
def Countdown.load (n : Nat) : Countdown := ⟨n, 0⟩

/-! ## The track -/

/-- The link of an end (01 R4). -/
inductive TrackLink where
  | buffer
  | to (sec : Nat) (e : EndName)
deriving DecidableEq, Repr

/-- What a POINT section has beyond a PLAIN one (01 R1): lenAC and link C. -/
structure PointPart where
  lenAC : Nat
  linkC : TrackLink
deriving DecidableEq, Repr

/-- The definition of a section (01 R1). The kind is POINT exactly when `point` is present. -/
structure SectionDef where
  /-- Path A-B, cm. -/
  len : Nat
  /-- The second path and link of a POINT section. -/
  point : Option PointPart
  /-- Per mille, positive rising from A (R5). -/
  grade : Int
  /-- cm/s (R6). -/
  lineSpeed : Nat
  linkA : TrackLink
  linkB : TrackLink
  /-- Zone Zn in bit n. -/
  zones : BitVec 8
  /-- Passing group, 0 none. -/
  group : Nat
  /-- Detector address. -/
  detAddr : Nat
  /-- Detector slot 0-3. -/
  detSlot : Nat
deriving DecidableEq, Repr

/-- The hold fields of a section that has a holder (03 R40); a section without holder has none of them. -/
structure Hold where
  holder : TId
  kind : HoldKind
  entered : Bool
deriving DecidableEq, Repr

/-- A section: definition and runtime fields (01 1.1.5). -/
structure Section where
  defn : SectionDef
  det : Detection
  /-- Capture time (02 R23). -/
  capture : Clock
  hold : Option Hold
deriving DecidableEq, Repr

/-- A point: definition (01 R9) and runtime fields (02 2.2.2). -/
structure Point where
  sec : Nat
  addr : Nat
  pos : PointPos
  /-- Commanded position. -/
  cmd : Option Blade
  /-- Fault latch with its cause. -/
  latch : Option FaultCause
  /-- Lock owner. -/
  lock : Option TId
  /-- Throw countdown, none when stopped. -/
  throwCd : Option Countdown
  /-- The requester of the throw in progress (R27, R49). -/
  mover : Option Requester
deriving DecidableEq, Repr

/-! ## Routes -/

/-- A route entry with its index (03 R38, R39). -/
structure Entry where
  sec : Nat
  ent : EndName
  ext : EndName
  index : Nat
deriving DecidableEq, Repr

/-- A route position: an entry named by its index, and a travelled distance in it (01 R16). -/
structure RoutePos where
  idx : Nat
  off : Nat
deriving DecidableEq, Repr

/-- A route record (03 R38). The hold state of an entry is that of its section (R40, log 14). -/
structure RouteRecord where
  entries : List Entry
  /-- Route index of the front entry. -/
  front : Option Nat
  /-- End entry and end offset. -/
  endPos : Option RoutePos
  /-- Final stop offset. -/
  finalOff : Nat
  authNum : Nat
  nextIdx : Nat
  /-- Keep mark (04 R80). -/
  keep : Bool
deriving DecidableEq, Repr

/-- The record of an OFFLINE transporter (03 R41); the final stop offset 0 is log 5's. -/
def RouteRecord.empty : RouteRecord := ⟨[], none, none, 0, 0, 1, false⟩

/-- An entry of the pending queue (03 R59). -/
structure Waiting where
  t : TId
  /-- Wait countdown, absent when WAIT_LIMIT was 0 (R60). -/
  wait : Option Countdown
deriving DecidableEq, Repr

/-! ## Transporters -/

/-- A report as held (06 R103), after clamping. -/
structure Report where
  sec : Nat
  off : Nat
  dir : Dir
  speed : Nat
  load : Bool
  echo : Nat
  rear : Option Nat
deriving DecidableEq, Repr

/-- A transporter record (06 R103). -/
structure Transporter where
  state : TState
  stop : StopSet
  trips : TripSet
  /-- Supervision countdown, none when stopped. -/
  superv : Option Countdown
  last : Option Report
  standSeen : Bool
  awaitingFix : Bool
  decelEmpty : Nat
  decelLoaded : Nat
  vmaxEmpty : Nat
  vmaxLoaded : Nat
  supervision : Nat
  quota : Nat
deriving DecidableEq, Repr

/-- A transporter after a full reset (06 R104, R105). -/
def Transporter.initial : Transporter :=
  ⟨.offline, .empty, .empty, none, none, false, false, 20, 12, 200, 100, 30, 16⟩

/-! ## Pads and transfers -/

/-- Pad states (08 R137). -/
inductive PadState where
  | vacant
  | occupied (k : Nat)
  | transfer (t : TId)
  | blocked
  | outOfService
deriving DecidableEq, Repr

/-- The clamp watch of a pad (08 R141). -/
inductive Watch where
  | none
  | waiting
  | queued
  | running (cd : Countdown)
deriving DecidableEq, Repr

/-- A pad: definition (01 R11) and runtime fields (08 R137). -/
structure Pad where
  sec : Nat
  stop : Nat
  tol : Nat
  addr : Nat
  st : PadState
  reserv : Option Nat
  clamp : Clamp
  load : Load
  /-- Unit-silent flag. -/
  silent : Bool
  watch : Watch
deriving DecidableEq, Repr

/-- Locations of a telescope (08 R142); UNREGISTERED is an unlisted telescope. -/
inductive Location where
  | onPad (p : Nat)
  | onTransporter (t : TId)
  | indeterminate (p : Nat) (t : TId)
deriving DecidableEq, Repr

/-- A transfer record (08 R147); its transporter is its place in `State.transfers`, and its prior pad state is
OCCUPIED by its telescope for LIFT and VACANT for PLACE. -/
structure Transfer where
  pad : Nat
  kind : XferKind
  tel : Nat
  stage : Stage
  cmd : StageCmd
  unclampSent : Bool
  /-- Stage countdown, none when stopped. -/
  cd : Option Countdown
  loadMoving : Bool
deriving DecidableEq, Repr

/-! ## The field bus -/

/-- A unit record (09 R155), with the survey mark of R166. -/
structure UnitRec where
  typ : UnitType
  st : UnitState
  retries : Nat
  restorePending : Bool
  surveyed : Bool
deriving DecidableEq, Repr

/-- A unit record as DEFINE_UNIT writes it (09 R155). -/
def UnitRec.fresh (typ : UnitType) : UnitRec := ⟨typ, .active, 0, false, false⟩

/-- A command of the field-bus command queue (09 R162). -/
structure BusCmd where
  func : BusFunc
  /-- Address of the unit. -/
  addr : Nat
  /-- The point or the pad. -/
  entity : Nat
  req : Requester
deriving DecidableEq, Repr

/-- The request on the bus: its characters, the parameters it was sent under, and whether it is still being sent
(09 R157, R158, 10 R182). -/
structure Exchange where
  addr : Nat
  func : BusFunc
  /-- The characters put on FTX, back to back. -/
  chars : List (BitVec 9)
  /-- REPLY_WINDOW, ms. -/
  window : Nat
  /-- DRIVER_LEAD, microseconds: how long FDE is asserted before the first start bit. -/
  lead : Nat
  /-- FDE is asserted; once it is released, the reply window is open (log 12). -/
  fde : Bool
deriving DecidableEq, Repr

/-! ## Stop lines -/

/-- A stop line (07 7.1). -/
structure StopLine where
  /-- Sampled level ASSERTED. -/
  asserted : Bool
  mode : StopMode
  latch : Bool
deriving DecidableEq, Repr

/-! ## Messages and link ports -/

/-- The AUTH message (03 R57). -/
structure Auth where
  number : Nat
  /-- End section, absent when there is no end. -/
  endSec : Option Nat
  endIdx : Nat
  endOff : Nat
  ceiling : Nat
  order : Order
  stand : StopSet
  trips : TripSet
deriving DecidableEq, Repr

/-- A message of the XFER slot (08 R148, R150, R153, R154). -/
inductive XferMsg where
  /-- XFER_GO of a load-moving stage (RAISE or LOWER). -/
  | xgo (stage : Stage) (pad : Nat)
  /-- XFER_END. -/
  | xend (outcome : XferOutcome) (pad : Nat)
deriving DecidableEq, Repr

/-- A REFUSE message (10.3.1). -/
structure Refuse where
  reqType : Byte
  reason : Reason
deriving DecidableEq, Repr

/-- A REPLY (10 R176), its data as R181 codes them. -/
structure Reply where
  tag : Byte
  cmd : Byte
  result : Reason
  data : List Byte
deriving DecidableEq, Repr

/-- What a notice says (10.3.4), with the fields its posting rule names. -/
inductive NoticeBody where
  | granted (t : TId) (number : Nat) (endSec endIdx endOff : Nat) (secs : List Nat)
  | released (t : TId) (sec idx : Nat) (cause : ReleaseCause)
  | held (t : TId) (causes : StopSet)
  | resumed (t : TId) (number : Nat) (state : TState)
  | tripped (t : TId) (added whole : TripSet) (sec off : Option Nat)
  | recoverFailed (t : TId) (sec speed : Nat)
  | waitExpired (t : TId) (idx : Option Nat)
  | pointSet (p : Nat) (pos : PointPos)
  | pointFault (p : Nat) (cause : FaultCause) (detail : Option PointPos)
  | sectionDisturbed (sec : Nat) (before : Detection)
  | unexpectedOccupancy (sec : Nat) (before : Detection)
  | unitSilent (addr : Nat) (typ : UnitType) (func : BusFunc)
  | unitBack (addr : Nat) (typ : UnitType)
  | transferDone (t : TId) (pad : Nat) (kind : XferKind) (tel : Nat)
  | transferAborted (t : TId) (pad : Nat) (kind : XferKind) (stage : Stage) (cause : AbortCause) (outcome : XferOutcome)
  | clampFailed (pad : Nat) (clamp : Clamp) (tel : Option Nat)
  | windBand (after before : Band) (gust mean : Option Nat)
  | zoneStop (n : Nat) (mode : StopMode) (asserted : Bool)
  | zoneCleared (n : Nat) (mode : StopMode) (cause : ClearCause)
  | siteChanged (after before : SiteState)
  | siteAllStop (st : SiteState) (flag : Bool)
  | siteReset (cause : ResetCause)
  | overrun (l : PortId) (typ : Byte)
  | overflow (l : PortId) (lost : Nat)
deriving DecidableEq, Repr

/-- A notice with its clock time (10 R177). -/
structure Notice where
  time : Clock
  body : NoticeBody
deriving DecidableEq, Repr

/-- A frame of a receive queue: TYPE and PAYLOAD (10.5.1). -/
structure Frame where
  typ : Byte
  payload : List Byte
deriving DecidableEq, Repr

/-- The receiver of a Link Port; the partial frame holds the bytes after SYN (10 R169). -/
inductive Receiver where
  | hunting
  | assembling (partialFrame : List Byte)
deriving DecidableEq, Repr

/-- What every Link Port holds (10 R169-R174). -/
structure PortCore where
  receiver : Receiver
  /-- Receive queue, oldest first. -/
  rx : List Frame
  rxFlow : Flow
  /-- Frames since the last HOLD byte was ordered (R172). -/
  sinceHold : Nat
  /-- The waiting flow byte (R173). -/
  flowByte : Option Flow
  txFlow : Flow
  /-- The bytes last put on the transmit line: a frame or a flow byte (log 6). -/
  sent : List Byte
deriving DecidableEq, Repr

/-- A Link Port after a full reset (10 R178). -/
def PortCore.initial : PortCore := ⟨.hunting, [], .go, 0, none, .go, []⟩

/-- A transporter Link Port (10 R175). -/
structure TlPort where
  core : PortCore
  auth : Option Auth
  xfer : Option XferMsg
  refusals : List Refuse
deriving DecidableEq, Repr

/-- A transporter port after a full reset (10 R178). -/
def TlPort.initial : TlPort := ⟨.initial, none, none, []⟩

/-- An operations Link Port (10 R176, R177). -/
structure OpsPort where
  core : PortCore
  replies : List Reply
  /-- Payloads of the REPLY frames still to follow the one begun (R176). -/
  parts : List (List Byte)
  notices : List Notice
  overflow : Bool
  lost : Nat
deriving DecidableEq, Repr

/-- An operations port after a full reset (10 R178). -/
def OpsPort.initial : OpsPort := ⟨.initial, [], [], [], false, 0⟩

/-! ## Site Control -/

/-- The site parameters of 11 R188, but for STOP_MODE, which the stop lines hold. -/
structure Params where
  margin : Nat
  creep : Nat
  overspeedTol : Nat
  parkTol : Nat
  waitLimit : Nat
  throwTime : Nat
  clampTime : Nat
  jackTime : Nat
  confirmTime : Nat
  windCaution : Nat
  windResume : Nat
  windHold : Nat
  windCrawl : Nat
  mastHold : Nat
  replyWindow : Nat
  driverLead : Nat
  linkHoldUpper : Nat
  linkHoldLower : Nat
  linkHoldRepeat : Nat
deriving DecidableEq, Repr

/-- The defaults of 11 R188. -/
def Params.default : Params :=
  ⟨300, 8, 15, 50, 300, 80, 30, 60, 10, 1000, 1300, 1500, 50, 20, 8, 50, 6, 2, 2⟩

/-- A full reset in progress (11 R190): the cause that began it and the holds in force. -/
structure ResetHold where
  cause : ResetCause
  supply : Bool
  line : Bool
deriving DecidableEq, Repr

/-! ## The state -/

/-- The whole state of the GB644, and the queue of the commands that wait for it. -/
structure State where
  /-- The commands that are waiting, oldest first (the harness's queue, not the spec's). -/
  pending : List Instr
  -- Site Control
  site : SiteState
  resetCause : ResetCause
  resetHold : Option ResetHold
  clock : Clock
  allStop : Bool
  params : Params
  -- Track Monitor and the definitions
  sections : Table Section
  points : Table Point
  pads : Table Pad
  telescopes : Table Location
  transfers : Vector (Option Transfer) 6
  -- Transporter Supervisor, Route Interlock, Braking Curve Unit
  trs : Vector Transporter 6
  routes : Vector RouteRecord 6
  ceilings : Vector Nat 6
  waiting : List Waiting
  roomWait : Bool
  walkDue : Bool
  -- Field Bus Controller
  units : Table UnitRec
  restoreList : List Nat
  cmdQueue : List BusCmd
  pollPos : Option Nat
  forced : Nat
  /-- None while the bus is idle, with FDE released (R164). -/
  exchange : Option Exchange
  padWaiters : List Requester
  -- Stop Line Inputs and Wind Evaluator
  lines : Vector StopLine 8
  band : Band
  gust : Option Nat
  mean : Option Nat
  mastHold : Option Countdown
  -- Link Ports
  tls : Vector TlPort 6
  opss : Vector OpsPort 2
deriving DecidableEq, Repr

/-- The machine stops with a fault: the GB644 has none (its failures are replies, notices and state), so nothing
raises one. -/
inductive Fault where
deriving DecidableEq, Repr

/-- The model has no meaning for a command. -/
inductive Refusal where
  /-- Raised by exec for a command without a meaning yet; safe, because nothing is claimed of it. -/
  | notModelled (mnemonic : String)
deriving DecidableEq, Repr

/-- The state at the end of the clock start-up of a full reset with the given cause (11 R190, steps 1 to 4): every
table empty, every value at its default, and the SITE_STATE notice of step 4 in both notice queues. -/
def State.afterReset (cause : ResetCause) : State where
  pending := []
  site := .unconfigured
  resetCause := cause
  resetHold := none
  clock := 0
  allStop := false
  params := .default
  sections := []
  points := []
  pads := []
  telescopes := []
  transfers := Vector.replicate 6 none
  trs := Vector.replicate 6 .initial
  routes := Vector.replicate 6 .empty
  ceilings := Vector.replicate 6 0
  waiting := []
  roomWait := false
  walkDue := false
  units := []
  restoreList := []
  cmdQueue := []
  pollPos := none
  forced := 0
  exchange := none
  padWaiters := []
  lines := Vector.replicate 8 ⟨false, .level, false⟩
  band := .normal
  gust := none
  mean := none
  mastHold := none
  tls := Vector.replicate 6 .initial
  opss := Vector.replicate 2 { OpsPort.initial with notices := [⟨0, .siteReset cause⟩] }

/-- The machine right after reset: the full reset of power-on, complete (11 R190, log 4). -/
def State.reset : State := .afterReset .powerOn

end Sys2Proof.Machine
end

