-- ==== Sys2Proof/Machine/Access.lean ====
section
/-! DEFINITION. Reading and writing the state: keyed tables, fixed vectors, one named update for each group of State,
and the countdown's tick. -/

namespace Sys2Proof.Machine

/-! ## Keyed tables -/

/-- The record under a key. -/
def Table.find {α : Type} : Table α → Nat → Option α
  | [], _ => none
  | (j, v) :: r, k => if j = k then some v else Table.find r k

/-- Write a record under a key, keeping the keys rising. -/
def Table.put {α : Type} : Table α → Nat → α → Table α
  | [], k, v => [(k, v)]
  | (j, w) :: r, k, v =>
    if k < j then (k, v) :: (j, w) :: r
    else if k = j then (k, v) :: r
    else (j, w) :: Table.put r k v

/-- Remove the record under a key. -/
def Table.drop {α : Type} : Table α → Nat → Table α
  | [], _ => []
  | (j, w) :: r, k => if j = k then r else (j, w) :: Table.drop r k

/-- Change the record under a key, if there is one. -/
def Table.adjust {α : Type} : Table α → Nat → (α → α) → Table α
  | [], _, _ => []
  | (j, w) :: r, k, f => if j = k then (j, f w) :: r else (j, w) :: Table.adjust r k f

/-- Change every record. -/
def Table.mapAll {α : Type} (t : Table α) (f : α → α) : Table α := t.map fun p => (p.1, f p.2)

/-- The keys rise strictly: no key stands twice, and equal tables are equal data. -/
def Table.wf {α : Type} : Table α → Bool
  | [] => true
  | [_] => true
  | (j, _) :: (k, w) :: r => decide (j < k) && Table.wf ((k, w) :: r)

/-- Change one place of a fixed vector. -/
def upd {α : Type} {n : Nat} (v : Vector α n) (i : Fin n) (f : α → α) : Vector α n := v.set i (f v[i])

/-- The first check that fails gives the reason; none when every check passes (00_scope.md 5.6). -/
def firstFailing : List (Bool × Reason) → Option Reason
  | [] => none
  | (ok, r) :: rest => if ok then firstFailing rest else some r

/-! ## The state's groups -/

def State.sec? (s : State) (n : Nat) : Option Section := Table.find s.sections n
def State.point? (s : State) (p : Nat) : Option Point := Table.find s.points p
def State.pad? (s : State) (p : Nat) : Option Pad := Table.find s.pads p
def State.unit? (s : State) (a : Nat) : Option UnitRec := Table.find s.units a
def State.tr (s : State) (t : TId) : Transporter := s.trs[t]
def State.route (s : State) (t : TId) : RouteRecord := s.routes[t]
def State.tl (s : State) (t : TId) : TlPort := s.tls[t]
def State.opsPort (s : State) (l : OpsId) : OpsPort := s.opss[l]
/-- Where the register shows telescope k; none is UNREGISTERED (08 R142). -/
def State.locOf (s : State) (k : Nat) : Option Location := Table.find s.telescopes k

def State.modSec (s : State) (n : Nat) (f : Section → Section) : State :=
  { s with sections := Table.adjust s.sections n f }
def State.modPoint (s : State) (p : Nat) (f : Point → Point) : State :=
  { s with points := Table.adjust s.points p f }
def State.modPad (s : State) (p : Nat) (f : Pad → Pad) : State :=
  { s with pads := Table.adjust s.pads p f }
def State.modUnit (s : State) (a : Nat) (f : UnitRec → UnitRec) : State :=
  { s with units := Table.adjust s.units a f }
def State.modTr (s : State) (t : TId) (f : Transporter → Transporter) : State :=
  { s with trs := upd s.trs t f }
def State.modRoute (s : State) (t : TId) (f : RouteRecord → RouteRecord) : State :=
  { s with routes := upd s.routes t f }
def State.modTl (s : State) (t : TId) (f : TlPort → TlPort) : State :=
  { s with tls := upd s.tls t f }
def State.modOps (s : State) (l : OpsId) (f : OpsPort → OpsPort) : State :=
  { s with opss := upd s.opss l f }
def State.setCeiling (s : State) (t : TId) (c : Nat) : State :=
  { s with ceilings := upd s.ceilings t fun _ => c }
def State.setTransfer (s : State) (t : TId) (x : Option Transfer) : State :=
  { s with transfers := upd s.transfers t fun _ => x }
def State.modLine (s : State) (n : Fin 8) (f : StopLine → StopLine) : State :=
  { s with lines := upd s.lines n f }
def State.setLoc (s : State) (k : Nat) (l : Location) : State :=
  { s with telescopes := Table.put s.telescopes k l }

/-- The common part of a Link Port. -/
def State.core (s : State) : PortId → PortCore
  | .tl t => (s.tl t).core
  | .ops l => (s.opsPort l).core

/-- Change the common part of a Link Port. -/
def State.modCore (s : State) (l : PortId) (f : PortCore → PortCore) : State :=
  match l with
  | .tl t => s.modTl t fun p => { p with core := f p.core }
  | .ops o => s.modOps o fun p => { p with core := f p.core }

/-- The transporters, in the order the model takes them where one event touches several (log 15). -/
def allT : List TId := List.finRange 6

/-- Take each transporter in turn. -/
def State.forT (s : State) (f : TId → State → State) : State := allT.foldl (fun s t => f t s) s

/-- A re-evaluation trigger (03 R63): a walk of the pending queue is due (log 3). -/
def State.trigger (s : State) : State := { s with walkDue := true }

/-- While the controller is held in reset it takes no input (11 R190). -/
def State.live (s : State) (f : State → State) : State :=
  match s.resetHold with
  | some _ => s
  | none => f s

/-! ## Countdowns -/

/-- A countdown runs while it has steps left (00_scope.md 5.2). -/
def Countdown.running (c : Countdown) : Bool := decide (0 < c.steps)

/-- One millisecond of a countdown, and whether it expires now: it expires `100 * n` ms after it was loaded
with n. An expiring countdown keeps its last step until its expiry is taken (log 2). -/
def Countdown.tick (c : Countdown) : Countdown × Bool :=
  if c.steps = 0 then (c, false)
  else if c.ms < 99 then ({ c with ms := c.ms + 1 }, false)
  else if c.steps = 1 then (c, true)
  else (⟨c.steps - 1, 0⟩, false)

end Sys2Proof.Machine
end

