-- ==== Sys2Proof/Machine/Track.lean ====
section
/-! DEFINITION. The track model (chapter 01): kinds, links, path lengths, legal and linked entries, senses, travelled
distances, and the holdings a route record reads from the section table (03 R38, R40). -/

namespace Sys2Proof.Machine

/-! ## Sections, ends and links -/

def SectionDef.isPoint (d : SectionDef) : Bool := d.point.isSome

/-- The link of an end; none where the section has no such end (R4). -/
def SectionDef.linkOf (d : SectionDef) : EndName → Option TrackLink
  | .a => some d.linkA
  | .b => some d.linkB
  | .c => d.point.map (·.linkC)

/-- Whether a section has an end (C only on a POINT section). -/
def SectionDef.hasEnd (d : SectionDef) (e : EndName) : Bool := (d.linkOf e).isSome

/-- The path length between two ends (R3): lenAC for a path that touches C, and otherwise the first length. -/
def SectionDef.pathLen (d : SectionDef) (x y : EndName) : Nat :=
  if x = .c ∨ y = .c then (d.point.map (·.lenAC)).getD 0 else d.len

/-- The legal pairs of R12. -/
def SectionDef.legal (d : SectionDef) (x y : EndName) : Bool :=
  match x, y with
  | .a, .b => true
  | .b, .a => true
  | .a, .c => d.isPoint
  | .c, .a => d.isPoint
  | _, _ => false

/-- The position an entry requires of its section's point (R10). -/
def requiredBlade (x y : EndName) : Blade := if x = .c ∨ y = .c then .reverse else .normal

/-- The sense of an entry (R13). -/
def senseOf (entryEnd : EndName) : Dir := if entryEnd = .a then .up else .down

def Blade.pos : Blade → PointPos
  | .normal => .normal
  | .reverse => .reverse

/-! ## Entries in the state -/

/-- The path length of an entry (R3, R13). -/
def State.pathLen (s : State) (e : Entry) : Nat :=
  match s.sec? e.sec with
  | some x => x.defn.pathLen e.ent e.ext
  | none => 0

/-- The travelled distance of an offset from end A within an entry (R15); the offset is clamped (R14). -/
def State.travelled (s : State) (e : Entry) (off : Nat) : Nat :=
  let len := s.pathLen e
  let o := min off len
  if e.ent = .a then o else len - o

def State.sectionDefined (s : State) (n : Nat) : Bool := decide (n < Config.numSections) && (s.sec? n).isSome

/-- The point whose section is n (COMMIT makes it unique). -/
def State.pointOf (s : State) (n : Nat) : Option (Nat × Point) := s.points.find? fun p => decide (p.2.sec = n)

/-- Whether an entry names a defined section and a legal pair (R12). -/
def State.legalEntry (s : State) (sec : Nat) (x y : EndName) : Bool :=
  match s.sec? sec with
  | some z => z.defn.legal x y
  | none => false

/-- Two consecutive entries are linked when the exit end of the first is linked to the entry end of the second (R13). -/
def State.linked (s : State) (e f : Entry) : Bool :=
  match s.sec? e.sec with
  | some z => decide (z.defn.linkOf e.ext = some (.to f.sec f.ent))
  | none => false

/-- Every entry legal and every consecutive pair linked (R13). -/
def State.contiguous (s : State) : List Entry → Bool
  | [] => true
  | [e] => s.legalEntry e.sec e.ent e.ext
  | e :: f :: r => s.legalEntry e.sec e.ent e.ext && s.linked e f && s.contiguous (f :: r)

/-! ## Holdings -/

/-- How t holds section n, if it does (03 R40). -/
def State.holdBy (s : State) (t : TId) (n : Nat) : Option HoldKind :=
  match s.sec? n with
  | some x =>
    match x.hold with
    | some h => if h.holder = t then some h.kind else none
    | none => none
  | none => none

/-- The entries of t's record whose section t holds with a kind. -/
def State.run (s : State) (t : TId) (k : HoldKind) : List Entry :=
  (s.route t).entries.filter fun e => decide (s.holdBy t e.sec = some k)

/-- The GRANTED run (R38). -/
def State.grantedRun (s : State) (t : TId) : List Entry := s.run t .granted
/-- The SETTING run (R38). -/
def State.settingRun (s : State) (t : TId) : List Entry := s.run t .setting
/-- The RELEASE_PENDING run (R38). -/
def State.pendingRun (s : State) (t : TId) : List Entry := s.run t .releasePending
/-- The ungranted tail (R38): the entries whose sections t does not hold. -/
def State.tail (s : State) (t : TId) : List Entry :=
  (s.route t).entries.filter fun e => decide (s.holdBy t e.sec = none)
/-- The held entries, in route order. -/
def State.heldRun (s : State) (t : TId) : List Entry :=
  (s.route t).entries.filter fun e => (s.holdBy t e.sec).isSome

/-- Held GRANTED or RELEASE_PENDING by t, as the front of a report must be (06 R111). -/
def State.heldFirm (s : State) (t : TId) (n : Nat) : Bool :=
  decide (s.holdBy t n = some .granted ∨ s.holdBy t n = some .releasePending)

/-- Make section n held by t. -/
def State.setHold (s : State) (n : Nat) (h : Option Hold) : State := s.modSec n fun x => { x with hold := h }

/-- The entry of t's record with a route index (R39). -/
def State.entryAt (s : State) (t : TId) (i : Nat) : Option Entry :=
  (s.route t).entries.find? fun e => decide (e.index = i)

/-- The entry of t's record for a section; a section stands in one entry at most (R38). -/
def State.entryOf (s : State) (t : TId) (n : Nat) : Option Entry :=
  (s.route t).entries.find? fun e => decide (e.sec = n)

/-- The front entry. -/
def State.frontEntry (s : State) (t : TId) : Option Entry := (s.route t).front.bind (s.entryAt t)

/-- The front position: the front entry, and the latest report's offset read in its sense (R15, 05 R92). -/
def State.frontPos (s : State) (t : TId) : Option RoutePos :=
  match s.frontEntry t, (s.tr t).last with
  | some e, some r => some ⟨e.index, s.travelled e r.off⟩
  | _, _ => none

/-! ## Route positions (R16) -/

/-- Position p is ahead of position q. -/
def RoutePos.ahead (p q : RoutePos) : Bool := decide (q.idx < p.idx ∨ (q.idx = p.idx ∧ q.off < p.off))

/-- The distance from q to p along t's record, 0 where p lies behind q (R16, 05 R93), saturated. -/
def State.distance (s : State) (t : TId) (q p : RoutePos) : Nat :=
  if p.idx < q.idx then 0
  else if p.idx = q.idx then min (p.off - q.off) Config.maxDistance
  else
    let es := (s.route t).entries
    let first := ((s.entryAt t q.idx).map s.pathLen).getD 0 - q.off
    let mid := ((es.filter fun e => decide (q.idx < e.index ∧ e.index < p.idx)).map s.pathLen).sum
    min (first + mid + p.off) Config.maxDistance

/-- The span from one entry through another, both included; the first alone where the other lies behind it
(R16, 05 R94). -/
def State.span (s : State) (t : TId) (i j : Nat) : List Entry :=
  (s.route t).entries.filter fun e => decide (e.index = i ∨ (i ≤ e.index ∧ e.index ≤ j))

end Sys2Proof.Machine
end

