-- ==== Sys2Proof/Machine/Braking.lean ====
section
/-! DEFINITION. The Braking Curve Unit (chapter 05): distance to go, grade term, effective deceleration, curve speed,
ceiling, stop distance, braking test. All of it is exact integer arithmetic with the roundings the rules state. -/

namespace Sys2Proof.Machine

/-! ## Arithmetic -/

/-- The largest r built from the bits below `n`, on top of `r`, whose square does not exceed x. -/
def isqrtFrom (x : Nat) : Nat → Nat → Nat
  | 0, r => r
  | n + 1, r => if (r + 2 ^ n) * (r + 2 ^ n) ≤ x then isqrtFrom x n (r + 2 ^ n) else isqrtFrom x n r

/-- The integer floor square root (R96), for products below 2^64. -/
def isqrt (x : Nat) : Nat := isqrtFrom x 32 0

/-- The grade term (R95): 981 G / 1000 rounded up. -/
def gradeTerm (g : Nat) : Nat := (981 * g + 999) / 1000

/-- The effective deceleration (R95). -/
def effDecel (a g : Nat) : Nat := max 2 (a - gradeTerm g)

/-- The curve speed (R96). -/
def curveSpeed (d a m creep : Nat) : Nat := if d ≤ m then 0 else max (isqrt (2 * a * (d - m))) creep

/-- The stop distance (R99), rounded up. -/
def stopDistance (v a : Nat) : Nat := (v * v + 2 * a - 1) / (2 * a)

/-- The downhill grade of an entry (R94), 0 where it does not descend. -/
def downhill (grade : Int) (entryEnd : EndName) : Nat := (if entryEnd = .a then -grade else grade).toNat

/-! ## Inputs (R92) -/

/-- Telescope k rides on t, or is indeterminate at it (08 R142). -/
def Location.atTransporter (l : Location) (t : TId) : Bool :=
  match l with
  | .onPad _ => false
  | .onTransporter u => decide (u = t)
  | .indeterminate _ u => decide (u = t)

/-- The telescope the register shows at t (08 R142). -/
def State.telescopeAt (s : State) (t : TId) : Option Nat := (s.telescopes.find? fun p => p.2.atTransporter t).map (·.1)

/-- The latest report says load sensed. -/
def State.loadSensed (s : State) (t : TId) : Bool := ((s.tr t).last.map (·.load)).getD false

/-- T counts as loaded (06 R123, R92). -/
def State.loaded (s : State) (t : TId) : Bool := (s.telescopeAt t).isSome || s.loadSensed t

def State.decel (s : State) (t : TId) : Nat := if s.loaded t then (s.tr t).decelLoaded else (s.tr t).decelEmpty
def State.vmax (s : State) (t : TId) : Nat := if s.loaded t then (s.tr t).vmaxLoaded else (s.tr t).vmaxEmpty

/-- The speed of the latest accepted report; 0 before the first (R91). -/
def State.speed (s : State) (t : TId) : Nat := ((s.tr t).last.map (·.speed)).getD 0

/-! ## Stages -/

/-- The worst downhill grade of a list of entries (R94). -/
def State.worstGrade (s : State) (es : List Entry) : Nat :=
  es.foldl (fun g e => max g (match s.sec? e.sec with | some x => downhill x.defn.grade e.ent | none => 0)) 0

/-- The distance to go (R93); 0 where there is no front or no end. -/
def State.distanceToGo (s : State) (t : TId) : Nat :=
  match s.frontPos t, (s.route t).endPos with
  | some q, some p => s.distance t q p
  | _, _ => 0

/-- The effective deceleration of t over the span from the front through entry j (R94, R95). -/
def State.effDecelTo (s : State) (t : TId) (i j : Nat) : Nat := effDecel (s.decel t) (s.worstGrade (s.span t i j))

/-- The curve speed of t for its present end (R96). -/
def State.curve (s : State) (t : TId) : Nat :=
  match s.frontPos t, (s.route t).endPos with
  | some q, some p => curveSpeed (s.distance t q p) (s.effDecelTo t q.idx p.idx) s.params.margin s.params.creep
  | _, _ => 0

/-- The line speed of an entry's section (R97). -/
def State.lineSpeed (s : State) (e : Entry) : Nat := ((s.sec? e.sec).map (·.defn.lineSpeed)).getD 0

/-- The caps of the ceiling other than the curve (R97): front line speed, next line speed when the authority
contains the next entry, load maximum, and the crawl speed in CAUTION. -/
def State.caps (s : State) (t : TId) : List Nat :=
  (match s.frontEntry t, (s.route t).endPos with
   | some f, some p =>
     s.lineSpeed f ::
       (if f.index < p.idx then ((s.entryAt t (f.index + 1)).map s.lineSpeed).toList else [])
   | _, _ => []) ++
  [s.vmax t] ++ (if s.band = .caution then [s.params.windCrawl] else [])

/-- The ceiling of an AUTH formed for t now (R97): 0 unless t is AUTHORISED. -/
def State.ceilingNow (s : State) (t : TId) : Nat :=
  if (s.tr t).state = .authorised then (s.caps t).foldl min (s.curve t) else 0

/-- The braking test of a candidate end (R76, R99). -/
def State.brakingOk (s : State) (t : TId) (c : RoutePos) : Bool :=
  match s.frontPos t with
  | some q =>
    decide (c = q ∧ s.speed t = 0) ||
    decide (stopDistance (s.speed t) (s.effDecelTo t q.idx c.idx) + s.params.margin ≤ s.distance t q c)
  | none => false

end Sys2Proof.Machine
end

