-- ==== Sys2Proof/Machine/Messages.lean ====
section
/-! DEFINITION. Messages placed for sending: notices (10 R177), replies (R176), refusals and slots (R175), the AUTH of
a transporter (03 R57) and the ceiling-only update (05 R98). -/

namespace Sys2Proof.Machine

/-! ## Notices, replies, refusals -/

/-- Post a notice to one notice queue (R177): a full queue loses it, sets OVERFLOW and counts it. -/
def OpsPort.addNotice (n : Notice) (p : OpsPort) : OpsPort :=
  if p.notices.length < Config.noticeCapacity then { p with notices := p.notices ++ [n] }
  else { p with overflow := true, lost := min (p.lost + 1) 65535 }

/-- Post a notice to both operations links, stamped with the movement clock (R177, 02 R23: a detection change is
posted at its capture time). -/
def State.post (s : State) (b : NoticeBody) : State :=
  { s with opss := s.opss.map (OpsPort.addNotice ⟨s.clock, b⟩) }

/-- Queue a REPLY (R176). -/
def State.reply (s : State) (l : OpsId) (tag cmd : Byte) (r : Reason) (data : List Byte) : State :=
  s.modOps l fun p => { p with replies := p.replies ++ [⟨tag, cmd, r, data⟩] }

/-- Queue a REFUSE (R175): when four wait, the oldest is dropped first. -/
def State.refuse (s : State) (t : TId) (ty : Byte) (r : Reason) : State :=
  s.modTl t fun p =>
    { p with refusals :=
        (if p.refusals.length < Config.refusalCapacity then p.refusals else p.refusals.drop 1) ++ [⟨ty, r⟩] }

/-- Place a message in the XFER slot (R175). -/
def State.placeXfer (s : State) (t : TId) (m : XferMsg) : State := s.modTl t fun p => { p with xfer := some m }

/-! ## Sets of causes -/

def StopSet.isEmpty (c : StopSet) : Bool := decide (c = StopSet.empty)

def TripSet.insert (c : TripSet) : TripCause → TripSet
  | .link => { c with link := true }
  | .excursion => { c with excursion := true }
  | .overspeed => { c with overspeed := true }
  | .wrongDirection => { c with wrongDirection := true }
  | .unauthorisedMotion => { c with unauthorisedMotion := true }
  | .obstruction => { c with obstruction := true }
  | .transfer => { c with transfer := true }

/-- Add several causes. -/
def TripSet.addAll (c : TripSet) (cs : List TripCause) : TripSet := cs.foldl TripSet.insert c

/-! ## AUTH -/

/-- The order of an AUTH (R57). -/
def orderFor (st : TState) (stop : StopSet) : Order :=
  match st with
  | .tripped => .trip
  | .held => .stand
  | .offline => .stand
  | .parked => if stop.isEmpty then .go else .stand
  | .transfer => if stop.isEmpty then .go else .stand
  | .authorised => .go

/-- The AUTH of t as the record now stands (R57), with a ceiling. -/
def State.authNow (s : State) (t : TId) (ceiling : Nat) : Auth :=
  let r := s.route t
  let x := s.tr t
  { number := r.authNum
    endSec := r.endPos.bind fun p => (s.entryAt t p.idx).map (·.sec)
    endIdx := (r.endPos.map (·.idx)).getD 0
    endOff := (r.endPos.map (·.off)).getD 0
    ceiling := ceiling
    order := orderFor x.state x.stop
    stand := x.stop
    trips := x.trips }

/-- Form AUTH for t, place it in the AUTH slot, and keep its ceiling as the ceiling last sent (R57, R91, R175). -/
def State.formAuth (s : State) (t : TId) : State :=
  let c := s.ceilingNow t
  let a := s.authNow t c
  (s.modTl t fun p => { p with auth := some a }).setCeiling t c

/-- A lowering event (05 R98): a ceiling-only AUTH where the ceiling of an AUTHORISED transporter falls. -/
def State.recompute (s : State) (t : TId) : State :=
  if (s.tr t).state = .authorised ∧ s.ceilingNow t < s.ceilings[t] then s.formAuth t else s

/-- The next authority number (R56): 255 wraps to 1. -/
def nextAuth (n : Nat) : Nat := if n ≥ 255 then 1 else n + 1

/-- The authority number increments (R56). -/
def State.bumpAuth (s : State) (t : TId) : State :=
  s.modRoute t fun r => { r with authNum := nextAuth r.authNum }

end Sys2Proof.Machine
end

