-- ==== Sys2Proof/Machine/Flags.lean ====
section
/-! DEFINITION. Flags worked out from other state: the stopped flag of a zone (07 R126), the stop-cause set of a
transporter (06 R121) and what a change of it does (R122). -/

namespace Sys2Proof.Machine

/-- The stopped flag of a line's zone (07 R126). -/
def StopLine.stopped (x : StopLine) : Bool :=
  match x.mode with
  | .off => false
  | .level => x.asserted
  | .latch => x.latch
  | .latchLevel => x.latch

/-- Zone n counts as stopped for other blocks: only while the site is RUNNING (R126). -/
def State.zoneStopped (s : State) (n : Fin 8) : Bool := decide (s.site = .running) && s.lines[n].stopped

/-- A zone set names zone n. -/
def inZone (z : BitVec 8) (n : Fin 8) : Bool := z.getLsbD n.val

/-- A section lies in a stopped zone when any zone of its zone set is stopped (R126). -/
def State.inStoppedZone (s : State) (z : BitVec 8) : Bool :=
  (List.finRange 8).any fun n => inZone z n && s.zoneStopped n

/-- t holds, in any kind, a section that lies in a stopped zone (06 R121). -/
def State.holdsStopped (s : State) (t : TId) : Bool :=
  s.sections.any fun p =>
    (match p.2.hold with | some h => decide (h.holder = t) | none => false) && s.inStoppedZone p.2.defn.zones

/-- The stop causes present for a transporter that is not OFFLINE (06 R121). -/
def State.stopCauses (s : State) (t : TId) : StopSet :=
  { allStop := s.allStop
    zoneStop := s.holdsStopped t
    wind := match s.band with | .hold _ => true | _ => false }

/-- The stand-seen flag on entry to HELD (06 R111): set when the last report's speed is within OVERSPEED_TOL. -/
def State.standSeenOnEntry (s : State) (t : TId) : Bool := decide (s.speed t ≤ s.params.overspeedTol)

/-- Evaluate the stop-cause set of t, and act on a change by its state (R121, R122). -/
def State.evalStop (s : State) (t : TId) : State :=
  let x := s.tr t
  let new := s.stopCauses t
  if x.state = .offline ∨ new = x.stop then s
  else
    let s1 := s.modTr t fun x => { x with stop := new }
    match x.state with
    | .authorised =>
      if new.isEmpty then s1
      else
        ((s1.modTr t fun x => { x with state := .held, standSeen := s.standSeenOnEntry t }).formAuth t).post
          (.held t new)
    | .held =>
      if new.isEmpty then
        ((s1.modTr t fun x => { x with state := .authorised, standSeen := false }).formAuth t).post
          (.resumed t (s.route t).authNum .authorised)
      else s1.formAuth t
    | .parked => s1.formAuth t
    | .tripped => s1
    | .transfer => s1
    | .offline => s1

/-- Evaluate every transporter (R121). -/
def State.evalAll (s : State) : State := s.forT fun t s => s.evalStop t

end Sys2Proof.Machine
end

