-- ==== Sys2Proof/Machine/CommandQueue.lean ====
section
/-! DEFINITION. The field-bus command queue (09 R162): offers, exits, the pad commands that wait for room, clamp
watches (08 R141), and the throws outstanding (02 R27). -/

namespace Sys2Proof.Machine

/-- The functions each unit type accepts (09 R158). -/
def UnitType.accepts : UnitType → BusFunc → Bool
  | _, .poll => true
  | .point, .throwNormal => true
  | .point, .throwReverse => true
  | .pad, .clamp => true
  | .pad, .unclamp => true
  | _, _ => false

/-- A throw's position. -/
def BusFunc.blade : BusFunc → Option Blade
  | .throwNormal => some .normal
  | .throwReverse => some .reverse
  | _ => none

/-- The request for a blade position. -/
def Blade.throwFunc : Blade → BusFunc
  | .normal => .throwNormal
  | .reverse => .throwReverse

/-- A queued throw for point p (02 R27). -/
def State.queuedThrow (s : State) (p : Nat) : Option BusCmd :=
  s.cmdQueue.find? fun c => c.func.blade.isSome && decide (c.entity = p)

/-- The throw outstanding for point p, queued or in progress: its requester and the position it asks for (R27). -/
def State.outstanding (s : State) (p : Nat) : Option (Requester × Blade) :=
  match s.queuedThrow p with
  | some c => c.func.blade.map fun b => (c.req, b)
  | none =>
    match s.point? p with
    | some x =>
      match x.pos, x.mover, x.cmd with
      | .moving, some r, some b => some (r, b)
      | _, _, _ => none
    | none => none

/-- Whether the queue takes an offer, as a whole (R162). -/
def State.offerOk (s : State) (cs : List BusCmd) : Bool :=
  decide (s.cmdQueue.length + cs.length ≤ Config.cmdCapacity) &&
  cs.all fun c =>
    (match s.unit? c.addr with
     | some u => decide (u.st ≠ .silent) && u.typ.accepts c.func
     | none => false) &&
    (c.func.blade.isNone || (s.outstanding c.entity).isNone)

/-- The commands join the tail of the queue. -/
def State.enqueue (s : State) (cs : List BusCmd) : State := { s with cmdQueue := s.cmdQueue ++ cs }

/-- The pad command a waiter wants: the stage command of its transfer, or the CLAMP of its watch (R141, R148). -/
def State.padCommand (s : State) (r : Requester) : Option BusCmd :=
  match r with
  | .xfer t =>
    match s.transfers[t] with
    | some x =>
      (s.pad? x.pad).map fun p =>
        ⟨match x.kind with | .lift => .unclamp | .place => .clamp, p.addr, x.pad, r⟩
    | none => none
  | .watch n => (s.pad? n).map fun p => ⟨.clamp, p.addr, n, r⟩
  | .tr _ => none
  | .ops => none

/-- Mark the owner of a pad command (its transfer's stage command, or its watch) as queued. -/
def State.markQueued (s : State) (r : Requester) : State :=
  match r with
  | .xfer t => s.setTransfer t ((s.transfers[t]).map fun x => { x with cmd := .queued })
  | .watch n => s.modPad n fun p => { p with watch := .queued }
  | .tr _ => s
  | .ops => s

/-- Offer one waiting pad command again: it enters the queue, or waits on. -/
def State.reofferOne (r : Requester) (s : State) : State :=
  match s.padCommand r with
  | some c =>
    if s.offerOk [c] then
      ({ s with padWaiters := s.padWaiters.filter fun w => decide (w ≠ r) }.enqueue [c]).markQueued r
    else s
  | none => s

/-- After an exit: the pad commands that wait for room are offered first, oldest first; then the room-wait flag
raises its trigger (R162, 03 R53). -/
def State.commandExit (s : State) : State :=
  let s1 := s.padWaiters.foldl (fun s r => s.reofferOne r) s
  if s1.roomWait then s1.trigger else s1

/-- Offer a pad command for the first time: it is queued, or its owner waits for room (R141, R148). -/
def State.offerPad (s : State) (r : Requester) : State :=
  match s.padCommand r with
  | some c =>
    if s.offerOk [c] then (s.enqueue [c]).markQueued r
    else
      let s1 := { s with padWaiters := s.padWaiters ++ [r] }
      match r with
      | .xfer t => s1.setTransfer t ((s1.transfers[t]).map fun x => { x with cmd := .waiting })
      | .watch n => s1.modPad n fun p => { p with watch := .waiting }
      | .tr _ => s1
      | .ops => s1
  | none => s

/-- Withdraw a pad command: one that waits leaves the waiters, one that is queued leaves the queue, an exit
(R162, 08 R153, R154). -/
def State.withdrawPad (s : State) (r : Requester) : State :=
  let s1 := { s with padWaiters := s.padWaiters.filter fun w => decide (w ≠ r) }
  if s1.cmdQueue.any fun c => decide (c.req = r) then
    { s1 with cmdQueue := s1.cmdQueue.filter fun c => decide (c.req ≠ r) }.commandExit
  else s1

/-! ## Clamp watches (08 R141) -/

/-- The telescope a pad has (08 R142): ON_PAD there, or INDETERMINATE at it. -/
def Location.atPad (l : Location) (p : Nat) : Bool :=
  match l with
  | .onPad q => decide (q = p)
  | .onTransporter _ => false
  | .indeterminate q _ => decide (q = p)

/-- The telescope the register shows at pad p. -/
def State.telescopeOnPad (s : State) (p : Nat) : Option Nat := (s.telescopes.find? fun e => e.2.atPad p).map (·.1)

/-- Post CLAMP_FAILED for a pad: the pad, its clamp reading and the telescope on it (R141). -/
def State.postClampFailed (s : State) (n : Nat) : State :=
  s.post (.clampFailed n (((s.pad? n).map (·.clamp)).getD .unknown) (s.telescopeOnPad n))

/-- Open a clamp watch on a pad (R141). -/
def State.openWatch (s : State) (n : Nat) : State := s.offerPad (.watch n)

/-- A clamp watch, if there is one, ends with CLAMP_FAILED; one that waited for room waits no more (R141). -/
def State.failWatch (s : State) (n : Nat) : State :=
  match s.pad? n with
  | some p =>
    if p.watch = .none then s
    else
      ({ s with padWaiters := s.padWaiters.filter fun w => decide (w ≠ Requester.watch n) }.modPad n
        fun p => { p with watch := .none }).postClampFailed n
  | none => s

end Sys2Proof.Machine
end

