-- ==== Sys2Proof/Machine/Ops.lean ====
section
/-! DEFINITION. The shared operations of the Route Interlock and the Supervisor on holdings: dropping a reservation
(03 R58), leaving and joining the pending queue (R59, R60), releasing a section (04 R70) and the cascade (R71),
shortening (R76 to R78), a trip (06 R115), an obstruction (04 R84 to R88). -/

namespace Sys2Proof.Machine

/-! ## The pending queue (03 R59, R60) -/

/-- The wait countdown as WAIT_LIMIT loads it: absent when WAIT_LIMIT is 0 (R60). -/
def State.waitLoad (s : State) : Option Countdown :=
  if s.params.waitLimit = 0 then none else some (.load (10 * s.params.waitLimit))

/-- t has an entry in the pending queue. -/
def State.isWaiting (s : State) (t : TId) : Bool := s.waiting.any fun w => decide (w.t = t)

/-- t joins the queue at its tail (R59), unless it stands there already. -/
def State.joinQueue (s : State) (t : TId) : State :=
  if s.isWaiting t then s else { s with waiting := s.waiting ++ [⟨t, s.waitLoad⟩] }

/-- t's entry, if there is one, leaves the queue (R62). -/
def State.leaveQueue (s : State) (t : TId) : State :=
  { s with waiting := s.waiting.filter fun w => decide (w.t ≠ t) }

/-- t's wait countdown is loaded again (R60). -/
def State.reloadWait (s : State) (t : TId) : State :=
  { s with waiting := s.waiting.map fun w => if w.t = t then ⟨t, s.waitLoad⟩ else w }

/-! ## Dropping a reservation (03 R58) -/

/-- The sections t holds SETTING return to no holder; a re-evaluation trigger. The stop causes are not evaluated. -/
def State.dropSettingRaw (s : State) (t : TId) : State :=
  match s.settingRun t with
  | [] => s
  | es => (es.foldl (fun s e => s.setHold e.sec none) s).trigger

/-- Drop t's SETTING run, and evaluate its stop causes (R58, 06 R121). -/
def State.dropSetting (s : State) (t : TId) : State :=
  match s.settingRun t with
  | [] => s
  | _ => (s.dropSettingRaw t).evalStop t

/-- Next index follows the last entry, so that indices rise by 1 through cuts and later appends (R39, log 25). -/
def RouteRecord.followLast (r : RouteRecord) : RouteRecord :=
  match r.entries.getLast? with
  | some e => { r with nextIdx := e.index + 1 }
  | none => r

/-- Discard the ungranted tail. -/
def State.dropTail (s : State) (t : TId) : State :=
  s.modRoute t fun r => { r with entries := r.entries.filter fun e => (s.holdBy t e.sec).isSome }.followLast

/-- The final stop offset is set to the end offset. -/
def State.finalToEnd (s : State) (t : TId) : State :=
  s.modRoute t fun r => { r with finalOff := (r.endPos.map (·.off)).getD 0 }

def State.clearKeep (s : State) (t : TId) : State := s.modRoute t fun r => { r with keep := false }

/-- The part of a route not yet granted is withdrawn: the pending entry, the reservation, the tail (03 R62, 04 R75). -/
def State.withdrawRoute (s : State) (t : TId) : State := ((s.leaveQueue t).dropSetting t).dropTail t

/-! ## Releasing a section (04 R70) -/

/-- Clear the lock of a section's point where t owns it. -/
def State.unlockPoint (s : State) (t : TId) (n : Nat) : State :=
  match s.pointOf n with
  | some (p, x) => if x.lock = some t then s.modPoint p fun x => { x with lock := none } else s
  | none => s

/-- Lock a section's point to t, if the section has one (03 R51). -/
def State.lockPoint (s : State) (t : TId) (n : Nat) : State :=
  match s.pointOf n with
  | some (p, _) => s.modPoint p fun x => { x with lock := some t }
  | none => s

/-- Release entry e of t's record (R70); `keepEntry` leaves the entry in the record as ungranted tail (R81). -/
def State.release (s : State) (t : TId) (e : Entry) (cause : ReleaseCause) (keepEntry : Bool) : State :=
  let s1 := (s.setHold e.sec none).unlockPoint t e.sec
  let s2 := if keepEntry then s1
    else s1.modRoute t fun r =>
      { r with entries := r.entries.filter fun f => decide (f.index ≠ e.index) }.followLast
  ((s2.post (.released t e.sec e.index cause)).evalStop t).trigger

/-- Release several entries, in the order given. -/
def State.releaseAll (s : State) (t : TId) (es : List Entry) (cause : ReleaseCause) (keepEntry : Bool) : State :=
  es.foldl (fun s e => s.release t e cause keepEntry) s

/-- The release test (R68) on the rear entry: the entry, if it passes. -/
def State.releasable (s : State) (t : TId) : Option Entry :=
  let r := s.route t
  match r.entries with
  | [] => none
  | e :: _ =>
    match s.sec? e.sec with
    | some x =>
      if x.hold = some ⟨t, .granted, true⟩ ∧ x.det = .clear ∧ r.front ≠ none ∧ r.front ≠ some e.index ∧
          r.endPos.map (·.idx) ≠ some e.index ∧ (s.tr t).state ≠ .tripped then some e
      else none
    | none => none

/-- The cascade of sequential release (R69, R71): the rear is tested and released until it fails. -/
def cascadeFrom (t : TId) : Nat → State → State
  | 0, s => s
  | n + 1, s =>
    match s.releasable t with
    | some e => cascadeFrom t n (s.release t e .rear false)
    | none => s

/-- The release test of t's rear and its cascade; a record cannot release more entries than it has. -/
def State.cascade (s : State) (t : TId) : State := cascadeFrom t (s.route t).entries.length s

/-! ## Shortening (04 R76 to R78) -/

/-- The exit boundary of an entry (R15). -/
def State.exitBoundary (s : State) (e : Entry) : RoutePos := ⟨e.index, s.pathLen e⟩

/-- The candidates of the boundary search (R77): E, the exit of its own entry when E lies short of it, and the exits
of the later entries before the end entry. -/
def State.candidates (s : State) (t : TId) (e : RoutePos) : List RoutePos :=
  match (s.route t).endPos with
  | some p =>
    e :: (((s.route t).entries.filter fun f => decide (e.idx ≤ f.index ∧ f.index < p.idx)).map s.exitBoundary).filter
      fun c => c.ahead e
  | none => [e]

/-- The effective end of a CANCEL or GIVEBACK asking for E (R76, R77): E when it is the current end, otherwise the
first candidate that passes, otherwise the current end. -/
def State.effectiveEnd (s : State) (t : TId) (e : RoutePos) : RoutePos :=
  match (s.route t).endPos with
  | some p => if e = p then p else ((s.candidates t e).find? (s.brakingOk t)).getD p
  | none => e

/-- Steps 1 to 3 of R78: the number increments, the end moves, GRANTED entries after it become RELEASE_PENDING. -/
def State.moveEnd (s : State) (t : TId) (c : RoutePos) : State :=
  let cut := (s.grantedRun t).filter fun e => decide (c.idx < e.index)
  let s1 := (s.bumpAuth t).modRoute t fun r => { r with endPos := some c }
  cut.foldl (fun s e => s.modSec e.sec fun x =>
    { x with hold := x.hold.map fun h => { h with kind := .releasePending } }) s1

/-! ## Trips (06 R115) -/

/-- Add trip causes. -/
def State.addTrips (s : State) (t : TId) (cs : List TripCause) : State :=
  s.modTr t fun x => { x with trips := x.trips.addAll cs }

/-- Post TRIPPED (R115 step 8): the causes just added, the whole set, the front section and offset of the last report. -/
def State.postTripped (s : State) (t : TId) (cs : List TripCause) : State :=
  s.post (.tripped t (TripSet.empty.addAll cs) (s.tr t).trips ((s.tr t).last.map (·.sec)) ((s.tr t).last.map (·.off)))

/-- Steps 1 to 8 of R115. -/
def State.enterTripped (s : State) (t : TId) (cs : List TripCause) : State :=
  let s1 := (s.addTrips t cs).modTr t fun x => { x with state := .tripped, standSeen := false }
  let s2 := ((s1.withdrawRoute t).finalToEnd t).clearKeep t
  (s2.formAuth t).postTripped t cs

/-- A trip of t while PARKED, AUTHORISED, HELD or already TRIPPED (R115). -/
def State.trip (s : State) (t : TId) (c : TripCause) : State :=
  match (s.tr t).state with
  | .parked => s.enterTripped t [c]
  | .authorised => s.enterTripped t [c]
  | .held => s.enterTripped t [c]
  | .tripped => ((s.addTrips t [c]).formAuth t).postTripped t [c]
  | .transfer => s
  | .offline => s

/-! ## Obstructions (04 R84 to R88) -/

/-- Obstruction shortening (R85) before entry k of t's record: cut the authority at the exit of the entry before k,
or trip. -/
def State.obstructAhead (s : State) (t : TId) (k : Nat) : State :=
  let s1 := s.dropSetting t
  match s1.entryAt t (k - 1) with
  | some e =>
    let c := s1.exitBoundary e
    if s1.brakingOk t c then
      let had := !(s1.pendingRun t).isEmpty
      ((s1.moveEnd t c).modRoute t fun r => { r with keep := if had then r.keep else true }).formAuth t
    else s1.trip t .obstruction
  | none => s1.trip t .obstruction

/-- An obstruction of section n handed to the Route Interlock (R84); `fault` tells a point fault from a detection
change. -/
def State.obstruct (s : State) (n : Nat) (fault : Bool) : State :=
  match (s.sec? n).bind (·.hold) with
  | none => s
  | some h =>
    let t := h.holder
    match h.kind with
    | .releasePending => s
    | .setting => s.dropSetting t
    | .granted =>
      match (s.tr t).state with
      | .offline => s
      | .tripped => s
      | .transfer => s
      | _ =>
        match s.entryOf t n, (s.route t).front with
        | some e, some f =>
          if f < e.index then s.obstructAhead t e.index
          else if fault then s.trip t .obstruction
          else s
        | _, _ => s

/-- The point of a section has its fault latch set. -/
def State.pointFaulted (s : State) (n : Nat) : Bool :=
  match s.pointOf n with
  | some (_, x) => x.latch.isSome
  | none => false

/-- The detection of section n. -/
def State.detOf (s : State) (n : Nat) : Detection := ((s.sec? n).map (·.det)).getD .unknown

/-- What the deferred examination finds at an entry of a transporter that leaves TRANSFER for PARKED (R88): nothing,
an obstruction ahead of the front (false), or a point fault at or behind it (true). -/
def State.deferredAt (s : State) (t : TId) (e : Entry) : Option Bool :=
  match (s.route t).front with
  | none => none
  | some f =>
    if f < e.index then
      if s.detOf e.sec = .disturbed ∨ s.detOf e.sec = .unknown ∨ s.pointFaulted e.sec then some false else none
    else if s.pointFaulted e.sec then some true else none

/-- The examination of R88, in route order from the rear; it stops at the first entry that trips or shortens. -/
def State.examine (s : State) (t : TId) : State :=
  match (s.grantedRun t).find? fun e => (s.deferredAt t e).isSome with
  | some e =>
    if s.deferredAt t e = some true then s.trip t .obstruction else s.obstructAhead t e.index
  | none => s

end Sys2Proof.Machine
end

