-- ==== Sys2Proof/Machine/Transfers.lean ====
section
/-! DEFINITION. The Pad and Transfer Sequencer's transfers (08.3): stages, completion, aborts, and a trip that may
find its transporter in TRANSFER (06 R116). -/

namespace Sys2Proof.Machine

/-- Stage countdowns in steps of 100 ms, from parameters in seconds (08 R148, 11 R188). -/
def State.jackLoad (s : State) : Countdown := .load (10 * s.params.jackTime)
def State.confirmLoad (s : State) : Countdown := .load (10 * s.params.confirmTime)
def State.clampLoad (s : State) : Countdown := .load (10 * s.params.clampTime)

/-- The trip cause an abort cause is (R151, R153 step 6), if it is one. -/
def AbortCause.trip : AbortCause → Option TripCause
  | .link => some .link
  | .excursion => some .excursion
  | .unauthorisedMotion => some .unauthorisedMotion
  | _ => none

/-- The abort cause that a trip cause of a transporter in TRANSFER is (R116). -/
def TripCause.abort : TripCause → Option AbortCause
  | .link => some .link
  | .excursion => some .excursion
  | .unauthorisedMotion => some .unauthorisedMotion
  | _ => none

/-- Begin a stage of t's transfer (R148). -/
def State.beginStage (s : State) (t : TId) (x : Transfer) (g : Stage) : State :=
  match g with
  | .unclamp => (s.setTransfer t (some { x with stage := g, cmd := .none, cd := none })).offerPad (.xfer t)
  | .clamp => (s.setTransfer t (some { x with stage := g, cmd := .none, cd := none })).offerPad (.xfer t)
  | .raise =>
    (s.setTransfer t (some { x with stage := g, cmd := .none, cd := some s.jackLoad, loadMoving := true })).placeXfer t
      (.xgo .raise x.pad)
  | .lower =>
    (s.setTransfer t (some { x with stage := g, cmd := .none, cd := some s.jackLoad, loadMoving := true })).placeXfer t
      (.xgo .lower x.pad)
  | .confirm => s.setTransfer t (some { x with stage := g, cmd := .none, cd := some s.confirmLoad })

/-- A transporter leaves TRANSFER for PARKED (R150 steps 5 to 7, R153 step 6): the deferred examination of R88, and
AUTH unless it tripped. -/
def State.parkFromTransfer (s : State) (t : TId) : State :=
  let s1 := (s.modTr t fun x => { x with state := .parked }).examine t
  if (s1.tr t).state = .tripped then s1 else s1.formAuth t

/-- A transfer completes (R150). -/
def State.completeTransfer (s : State) (t : TId) (x : Transfer) : State :=
  let s1 := match x.kind with
    | .lift => (s.setLoc x.tel (.onTransporter t)).modPad x.pad fun p => { p with st := .vacant }
    | .place => (s.setLoc x.tel (.onPad x.pad)).modPad x.pad fun p => { p with st := .occupied x.tel, reserv := none }
  ((((s1.setTransfer t none).placeXfer t (.xend .done x.pad)).post
    (.transferDone t x.pad x.kind x.tel)).parkFromTransfer t)

/-- The end of a stage: the next begins at once, and the third completes the transfer (R148). -/
def State.endStage (s : State) (t : TId) (x : Transfer) : State :=
  match x.kind, x.stage with
  | .lift, .unclamp => s.beginStage t x .raise
  | .lift, .raise => s.beginStage t x .confirm
  | .lift, _ => s.completeTransfer t x
  | .place, .lower => s.beginStage t x .confirm
  | .place, .confirm => s.beginStage t x .clamp
  | .place, _ => s.completeTransfer t x

/-- A clean abort (R153). -/
def State.abortClean (s : State) (t : TId) (x : Transfer) (c : AbortCause) : State :=
  let s1 : State :=
    if x.unclampSent then
      if c = AbortCause.unitSilent then s.postClampFailed x.pad else s.openWatch x.pad
    else s.withdrawPad (.xfer t)
  let s2 := ((s1.modPad x.pad fun p => { p with st := .occupied x.tel }).setTransfer t none).placeXfer t
    (.xend .abortedClean x.pad)
  let s3 := s2.post (.transferAborted t x.pad x.kind x.stage c .abortedClean)
  match c.trip with
  | some k => s3.enterTripped t [k]
  | none => s3.parkFromTransfer t

/-- An indeterminate abort (R154). -/
def State.abortIndeterminate (s : State) (t : TId) (x : Transfer) (c : AbortCause) : State :=
  let s1 := s.withdrawPad (.xfer t)
  let s2 := (((s1.setLoc x.tel (.indeterminate x.pad t)).modPad x.pad fun p => { p with st := .blocked }).setTransfer t
    none).placeXfer t (.xend .abortedIndeterminate x.pad)
  let s3 := s2.post (.transferAborted t x.pad x.kind x.stage c .abortedIndeterminate)
  s3.enterTripped t (.transfer :: c.trip.toList)

/-- The outcome of an abort, by the load-moving flag (R152). -/
def Transfer.abortOutcome (x : Transfer) : XferOutcome :=
  if x.loadMoving then .abortedIndeterminate else .abortedClean

/-- Abort t's transfer, if it has one (R151, R152). -/
def State.abort (s : State) (t : TId) (c : AbortCause) : State :=
  match s.transfers[t] with
  | some x => if x.loadMoving then s.abortIndeterminate t x c else s.abortClean t x c
  | none => s

/-- A trip cause reaches t in any state: in TRANSFER it aborts the transfer (06 R115, R116). -/
def State.tripAny (s : State) (t : TId) (c : TripCause) : State :=
  if (s.tr t).state = .transfer then
    match c.abort with
    | some a => s.abort t a
    | none => s
  else s.trip t c

/-- A good reply of the pad's unit is handed to t's transfer (08 R138 step 4): load UNKNOWN aborts it in any stage
(R151), taken before the end of a stage (log 17), and otherwise the reading may end the stage (R148). -/
def State.transferReply (s : State) (t : TId) (clamp : Clamp) (load : Load) : State :=
  match s.transfers[t] with
  | none => s
  | some x =>
    if load = .unknown then s.abort t .loadUnknown
    else
      let ends : Bool := match x.kind, x.stage with
        | .lift, .unclamp => decide (x.cmd = .sent ∧ clamp = .opened)
        | .lift, .confirm => decide (load = .empty)
        | .place, .confirm => decide (load = .loaded)
        | .place, .clamp => decide (x.cmd = .sent ∧ clamp = .closed)
        | _, _ => false
      if ends then s.endStage t x else s

end Sys2Proof.Machine
end

