-- ==== Sys2Proof/Machine/Monitor.lean ====
section
/-! DEFINITION. The Track Monitor (chapter 02): detection changes and what they hand to the Route Interlock, point
replies, throws, fault latches. -/

namespace Sys2Proof.Machine

/-! ## Detection -/

/-- A change of detection: section, old and new value (02 R25). -/
structure DetChange where
  sec : Nat
  before : Detection
  after : Detection
deriving DecidableEq, Repr

/-- The detection a reading gives (R19, R20); DISTURBED is latched. -/
def Detection.read (now reading : Detection) : Detection := if now = .disturbed then .disturbed else reading

/-- Set the detection of a section and stamp its capture time (R23); the change, if there is one. -/
def State.setDet (s : State) (n : Nat) (d : Detection) : State × List DetChange :=
  match s.sec? n with
  | some x =>
    if x.det = d then (s, [])
    else (s.modSec n fun x => { x with det := d, capture := s.clock }, [⟨n, x.det, d⟩])
  | none => (s, [])

/-- The notices a detector reply calls for (R20, R24). -/
def State.postDetection (s : State) (c : DetChange) : State :=
  if c.after = .disturbed then s.post (.sectionDisturbed c.sec c.before)
  else if c.after = .occupied ∧ ((s.sec? c.sec).bind (·.hold)) = none ∧ s.site = .running then
    s.post (.unexpectedOccupancy c.sec c.before)
  else s

/-- A detection change handed to the Route Interlock (R25): the entered flag (04 R67), an obstruction (R84), the
triggers of 03 R63 and R65, and the release test of the holder's rear (04 R69), which comes last: a trip by the change
itself keeps the rear from being released (log 35). -/
def State.handDetection (s : State) (c : DetChange) : State :=
  match (s.sec? c.sec).bind (·.hold) with
  | none => if c.after = .clear then s.trigger else s
  | some h =>
    let s1 :=
      match c.after with
      | .occupied =>
        (match h.kind with
         | .granted => s.setHold c.sec (some { h with entered := true })
         | .setting => s.trigger
         | .releasePending => s)
      | .clear => (match h.kind with | .setting => s.trigger | _ => s)
      | _ => s.obstruct c.sec false
    s1.cascade h.holder

/-- The sections a detector unit serves, in slot order (01 R7). -/
def State.sectionsOf (s : State) (addr : Nat) : List (Nat × Nat) :=
  (List.range 4).flatMap fun slot =>
    (s.sections.filter fun p => decide (p.2.defn.detAddr = addr ∧ p.2.defn.detSlot = slot)).map fun p => (slot, p.1)

/-- Apply new detections to several sections, in order, and collect the changes. -/
def State.applyDets (s : State) : List (Nat × Detection) → State × List DetChange
  | [] => (s, [])
  | (n, d) :: r =>
    let a := s.setDet n d
    let b := a.1.applyDets r
    (b.1, a.2 ++ b.2)

/-- A good DETECTOR reply (R18): all slots are applied, then the notices posted, then the changes handed on. -/
def State.detectorReply (s : State) (addr : Nat) (readings : List Detection) : State :=
  let news := (s.sectionsOf addr).map fun p =>
    (p.2, Detection.read (s.detOf p.2) ((readings[p.1]?).getD .disturbed))
  let a := s.applyDets news
  let s1 := a.2.foldl State.postDetection a.1
  a.2.foldl State.handDetection s1

/-- The silence of a DETECTOR unit (R21): every section it serves becomes UNKNOWN. -/
def State.detectorSilent (s : State) (addr : Nat) : State :=
  let a := s.applyDets ((s.sectionsOf addr).map fun p => (p.2, .unknown))
  a.2.foldl State.handDetection a.1

/-! ## Points -/

/-- The position a blade reading gives; none is the reading NONE (02 R26, R33). -/
def bladePos : Option Blade → PointPos
  | some b => b.pos
  | none => .unknown

/-- A fault of point p (R30 to R32): the latch is set unless it is set already, the position is written and a throw
ends; a new fault is told by POINT_FAULT and handed to the Route Interlock (R34). -/
def State.faultPoint (s : State) (p : Nat) (c : FaultCause) (pos : PointPos) (detail : Option PointPos) : State :=
  match s.point? p with
  | none => s
  | some x =>
    let s1 := s.modPoint p fun x =>
      { x with pos := pos, throwCd := none, mover := none, latch := x.latch.orElse fun _ => some c }
    if x.latch.isSome then s1 else (s1.post (.pointFault p c detail)).obstruct x.sec true

/-- A blade reading of a good POINT reply (R26, R29, R31, R33). -/
def State.pointReading (s : State) (p : Nat) (reading : Option Blade) : State :=
  match s.point? p with
  | none => s
  | some x =>
    if x.latch.isSome then s.modPoint p fun x => { x with pos := bladePos reading }
    else
      match x.pos with
      | .moving =>
        if reading = x.cmd ∧ reading ≠ none then
          ((s.modPoint p fun x => { x with pos := bladePos reading, throwCd := none, mover := none }).post
            (.pointSet p (bladePos reading))).trigger
        else s
      | .unknown => if reading = none then s else s.modPoint p fun x => { x with pos := bladePos reading }
      | q => if bladePos reading = q then s else s.faultPoint p .lostPosition (bladePos reading) (some (bladePos reading))

/-- The point a POINT unit serves. -/
def State.pointAt (s : State) (addr : Nat) : Option (Nat × Point) := s.points.find? fun p => decide (p.2.addr = addr)

/-- A good POINT reply (R26). -/
def State.pointReply (s : State) (addr : Nat) (reading : Option Blade) : State :=
  match s.pointAt addr with
  | some (p, _) => s.pointReading p reading
  | none => s

/-- The silence of a POINT unit (R32). -/
def State.pointSilent (s : State) (addr : Nat) : State :=
  match s.pointAt addr with
  | some (p, _) => s.faultPoint p .unitSilent .unknown none
  | none => s

/-- The send test of a throw (R28). -/
def State.sendTest (s : State) (c : BusCmd) : Bool :=
  match s.point? c.entity with
  | none => false
  | some x =>
    match s.sec? x.sec with
    | none => false
    | some z =>
      x.lock.isNone && x.latch.isNone && decide (z.det = .clear) &&
      (match z.hold with
       | none => true
       | some h => decide (h.kind = .setting ∧ c.req = .tr h.holder))

/-- A throw is sent (R29). -/
def State.throwSent (s : State) (c : BusCmd) : State :=
  match c.func.blade with
  | some b => s.modPoint c.entity fun x =>
      { x with cmd := some b, pos := .moving, throwCd := some (.load s.params.throwTime), mover := some c.req }
  | none => s

end Sys2Proof.Machine
end

