-- ==== Sys2Proof/Machine/Grant.lean ====
section
/-! DEFINITION. The prefix grant (03.3) and the walk of the pending queue (R64). -/

namespace Sys2Proof.Machine

/-- The passing group of an entry's section (01 R6). -/
def State.groupOf (s : State) (e : Entry) : Nat := ((s.sec? e.sec).map (·.defn.group)).getD 0

/-- The next unit of t's route (R48). -/
def State.nextUnit (s : State) (t : TId) : List Entry :=
  match (s.route t).entries.dropWhile fun e => decide (s.holdBy t e.sec = some .granted) with
  | [] => []
  | e :: es =>
    let g := s.groupOf e
    if g = 0 then [e] else e :: es.takeWhile fun f => decide (s.groupOf f = g)

/-- The point tests of R49 for an entry through a point section. -/
def State.pointAvailable (s : State) (t : TId) (e : Entry) : Bool :=
  match s.pointOf e.sec with
  | none => true
  | some (p, x) =>
    x.latch.isNone && decide (x.lock = none ∨ x.lock = some t) &&
    (match s.outstanding p with
     | none => true
     | some (r, b) => decide (r = .tr t ∧ b = requiredBlade e.ent e.ext))

/-- An entry passes every test of R49. -/
def State.available (s : State) (t : TId) (e : Entry) : Bool :=
  match s.sec? e.sec with
  | none => false
  | some x =>
    (match x.hold with | none => true | some h => decide (h.holder = t ∧ h.kind = .setting)) &&
    decide (x.det = .clear) && !s.inStoppedZone x.defn.zones && s.pointAvailable t e

/-- The point of an entry is in the position the entry requires (R10, R51); an entry through a PLAIN section needs
none. -/
def State.inPosition (s : State) (e : Entry) : Bool :=
  match s.pointOf e.sec with
  | none => true
  | some (_, x) => decide (x.pos = (requiredBlade e.ent e.ext).pos)

/-- The throw an entry needs (R52): none when its point is in position, or when a throw is outstanding for it, which
by R49 is t's own toward the position. -/
def State.throwFor (s : State) (t : TId) (e : Entry) : Option BusCmd :=
  match s.pointOf e.sec with
  | none => none
  | some (p, x) =>
    if x.pos = (requiredBlade e.ent e.ext).pos ∨ (s.outstanding p).isSome then none
    else some ⟨(requiredBlade e.ent e.ext).throwFunc, x.addr, p, .tr t⟩

/-- Grant a unit (R51): each section held GRANTED with its entered flag clear, each point locked. -/
def State.grantUnit (s : State) (t : TId) (es : List Entry) : State :=
  (es.foldl (fun s e => (s.setHold e.sec (some ⟨t, .granted, false⟩)).lockPoint t e.sec) s).evalStop t

/-- Reserve a unit (R52): the sections not held SETTING already become so. -/
def State.reserveUnit (s : State) (t : TId) (es : List Entry) : State :=
  (es.foldl (fun s e => if s.holdBy t e.sec = some .setting then s
    else s.setHold e.sec (some ⟨t, .setting, false⟩)) s).evalStop t

/-- The prefix grant (R48 to R53): unit by unit from the end of the GRANTED run; the sections newly granted, in
route order. The fuel is the number of entries, since each round grants at least one. -/
def prefixGrant (t : TId) : Nat → State → State × List Nat
  | 0, s => (s, [])
  | n + 1, s =>
    match s.nextUnit t with
    | [] => (s, [])
    | u =>
      if u.all (s.available t) then
        if u.all s.inPosition then
          let r := prefixGrant t n (s.grantUnit t u)
          (r.1, u.map (·.sec) ++ r.2)
        else
          let cs := u.filterMap (s.throwFor t)
          if s.offerOk cs then ((s.enqueue cs).reserveUnit t u, [])
          else ({ s.dropSetting t with roomWait := true }, [])
      else (s.dropSetting t, [])

/-- The end of an authority that runs to the last GRANTED entry (R54 step 2). -/
def State.grantedEnd (s : State) (t : TId) : Option RoutePos :=
  ((s.grantedRun t).getLast?).map fun e =>
    ⟨e.index, if ((s.route t).entries.getLast?).map (·.index) = some e.index then (s.route t).finalOff
              else s.pathLen e⟩

/-- R55: a PARKED transporter that is granted becomes AUTHORISED, or HELD where its stop-cause set is not empty. -/
def State.leaveParked (s : State) (t : TId) : State :=
  if (s.tr t).state = .parked then
    if (s.tr t).stop.isEmpty then s.modTr t fun x => { x with state := .authorised }
    else s.modTr t fun x => { x with state := .held, standSeen := s.standSeenOnEntry t }
  else s

/-- Post GRANTED (R54 step 5, R46, 06 R108). -/
def State.postGranted (s : State) (t : TId) (secs : List Nat) : State :=
  let r := s.route t
  let i := (r.endPos.map (·.idx)).getD 0
  s.post (.granted t r.authNum (((s.entryAt t i).map (·.sec)).getD 0) i ((r.endPos.map (·.off)).getD 0) secs)

/-- The route is fully granted: no SETTING run and no tail. -/
def State.fullyGranted (s : State) (t : TId) : Bool := (s.settingRun t).isEmpty && (s.tail t).isEmpty

/-- The completion of a grant (R54, R55), and of a grant of no new section (R46). -/
def State.completeGrant (s : State) (t : TId) (secs : List Nat) : State :=
  let s1 := (s.bumpAuth t).modRoute t fun r => { r with endPos := s.grantedEnd t }
  let s2 := ((s1.reloadWait t).leaveParked t).formAuth t
  let s3 := s2.postGranted t secs
  if s3.fullyGranted t then s3.leaveQueue t else s3

/-- An evaluation of t (R47, R54): the prefix grant, completed when it granted at least one section. -/
def State.evaluate (s : State) (t : TId) : State :=
  let r := prefixGrant t (s.route t).entries.length s
  if r.2.isEmpty then r.1 else r.1.completeGrant t r.2

/-- One entry of a walk (R64): skipped when it has left the queue or its transporter has a RELEASE_PENDING run. -/
def State.walkOne (s : State) (t : TId) : State :=
  if s.isWaiting t && (s.pendingRun t).isEmpty then s.evaluate t else s

/-- One walk of the pending queue (R64), oldest first. An empty queue does nothing (R63). -/
def State.walkOnce (s : State) : State :=
  if s.waiting.isEmpty then { s with walkDue := false }
  else (s.waiting.map (·.t)).foldl State.walkOne { s with walkDue := false, roomWait := false }

/-- A walk, and while its own work has raised triggers, the one further walk that they cause, started when it ends (R63). -/
def walkFrom : Nat → State → State
  | 0, s => s.walkOnce
  | n + 1, s => if s.walkOnce.walkDue then walkFrom n s.walkOnce else s.walkOnce

/-- The walk of the pending queue with the further walks it causes. Only a reservation dropped in a walk causes another,
and no unit reserved in a walk is dropped in a later one of the same chain: so each waiting transporter causes at most one,
and the fuel is their number (log 3). -/
def State.walk (s : State) : State := walkFrom s.waiting.length s

end Sys2Proof.Machine
end

