-- ==== Sys2Proof/Machine/StopWind.lean ====
section
/-! DEFINITION. The Stop Line Inputs and the Wind Evaluator (chapter 07). -/

namespace Sys2Proof.Machine

/-! ## Zones -/

/-- The transporters that hold a section of zone n SETTING. -/
def State.settingInZone (s : State) (n : Fin 8) (t : TId) : Bool :=
  (s.settingRun t).any fun e => match s.sec? e.sec with | some x => inZone x.defn.zones n | none => false

/-- Zone n becomes stopped while the site is RUNNING (R130). -/
def State.zoneStop (s : State) (n : Fin 8) : State :=
  let s1 := s.post (.zoneStop n.val s.lines[n].mode s.lines[n].asserted)
  (s1.forT fun t s => if s.settingInZone n t then s.dropSettingRaw t else s).evalAll

/-- Zone n ceases to be stopped while the site is RUNNING (R131). -/
def State.zoneFree (s : State) (n : Fin 8) (c : ClearCause) : State :=
  ((s.post (.zoneCleared n.val s.lines[n].mode c)).evalAll).trigger

/-- Change line n, and act on a change of its zone's flag while the site is RUNNING (R126, R130, R131). -/
def State.changeLine (s : State) (n : Fin 8) (f : StopLine → StopLine) (c : ClearCause) : State :=
  let s1 := s.modLine n f
  if s.zoneStopped n = s1.zoneStopped n then s1
  else if s1.zoneStopped n then s1.zoneStop n
  else s1.zoneFree n c

/-- The mode latches. -/
def StopMode.latching : StopMode → Bool
  | .latch => true
  | .latchLevel => true
  | _ => false

/-- An edge of line n (R125, R126): an asserting edge sets the latch of a latching line while RUNNING. -/
def State.lineEdge (s : State) (n : Fin 8) (asserted : Bool) : State :=
  if s.lines[n].asserted = asserted then s
  else s.changeLine n (fun x =>
    { x with asserted := asserted
             latch := x.latch || (asserted && x.mode.latching && decide (s.site = .running)) }) .line

/-- The latch of a line after its mode is written (R129). -/
def State.latchAfterMode (s : State) (x : StopLine) (m : StopMode) : Bool :=
  if !m.latching then false
  else if x.mode.latching then x.latch
  else x.asserted && decide (s.site = .running)

/-- STOP_MODE[n] is written (R129). -/
def State.setMode (s : State) (n : Fin 8) (m : StopMode) : State :=
  s.changeLine n (fun x => { x with mode := m, latch := s.latchAfterMode x m }) .mode

/-- Entry into RUNNING (R127): asserted latching lines set their latches, and each stopped zone is told, Z0 to Z7. -/
def State.enterRunning (s : State) : State :=
  let s1 := { s with lines := s.lines.map fun x => { x with latch := x.latch || (x.mode.latching && x.asserted) } }
  (List.finRange 8).foldl (fun s n =>
    if s.zoneStopped n then s.post (.zoneStop n.val s.lines[n].mode s.lines[n].asserted) else s) s1

/-! ## Wind -/

def Band.isHold : Band → Bool
  | .hold _ => true
  | _ => false

/-- Write the band and act on its change (R134): WIND_BAND, the stop causes on entering or leaving HOLD, the ceilings
on NORMAL to CAUTION (05 R98). -/
def State.setBand (s : State) (b : Band) : State :=
  if s.band = b then s
  else
    let old := s.band
    let s1 := { s with band := b }.post (.windBand b old s.gust s.mean)
    if old.isHold ≠ b.isHold then s1.evalAll
    else if old = .normal ∧ b = .caution then s1.forT fun t s => s.recompute t
    else s1

/-- The band after a gust (R133). -/
def bandAfter (p : Params) (now : Band) (g : Nat) : Band :=
  if now.isHold then
    if g > p.windResume then .hold .gust else if p.windCaution ≤ g then .caution else .normal
  else
    if g ≥ p.windHold then .hold .gust else if p.windCaution ≤ g then .caution else .normal

/-- A good MAST reply (R133): saturated at 6000, stored, the mast-hold countdown stopped, the band set. -/
def State.mastReply (s : State) (mean gust : Nat) : State :=
  let g := min gust 6000
  { s with gust := some g, mean := some (min mean 6000), mastHold := none }.setBand (bandAfter s.params s.band g)

/-- The mast-hold countdown reaches 0 (R135). -/
def State.mastExpired (s : State) : State := { s with mastHold := some (.load 0) }.setBand (.hold .mastLost)

/-- The mast-hold countdown is running. -/
def State.mastRunning (s : State) : Bool :=
  match s.mastHold with
  | some c => c.running
  | none => false

/-- The silence of the MAST unit (R135); with MAST_HOLD 0 the expiry follows at once. -/
def State.mastSilent (s : State) : State :=
  if s.mastRunning ∨ s.band = .hold .mastLost then s
  else if s.params.mastHold = 0 then s.mastExpired
  else { s with mastHold := some (.load (10 * s.params.mastHold)) }

end Sys2Proof.Machine
end

