-- ==== Sys2Proof/Machine/FieldBus.lean ====
section
/-! DEFINITION. The Field Bus Controller (chapter 09): judging replies, delivering them, misses and silence, choosing
the next exchange, survey, restore and reset of the bus. -/

namespace Sys2Proof.Machine

/-! ## Codes on the bus (10.5.2) -/

def BusFunc.code : BusFunc → Nat
  | .poll => 1
  | .throwNormal => 2
  | .throwReverse => 3
  | .clamp => 4
  | .unclamp => 5

def UnitType.code : UnitType → Nat
  | .detector => 1
  | .point => 2
  | .pad => 3
  | .mast => 4

/-- The characters of a reply, by the type of the unit (10.5.2). -/
def UnitType.replyLength : UnitType → Nat
  | .detector => 7
  | .point => 4
  | .pad => 5
  | .mast => 7

/-- The three characters of a request (R182). -/
def requestChars (addr : Nat) (f : BusFunc) : List (BitVec 9) :=
  [BitVec.ofNat 9 (256 + addr % 256), BitVec.ofNat 9 f.code,
   BitVec.ofNat 9 ((512 - (addr + f.code) % 256) % 256)]

/-- Detector slot readings; a code outside the set is applied as DISTURBED (02 R18). -/
def detReading (c : Nat) : Detection :=
  if c = 0 then .clear else if c = 1 then .occupied else .disturbed

/-- Blade readings; a code outside the set is taken as NONE (02 2.2.1). -/
def bladeReading (c : Nat) : Option Blade :=
  if c = 1 then some .normal else if c = 2 then some .reverse else none

/-- Clamp readings; a code outside the set is taken as TRAVEL (08 R138). -/
def clampReading (c : Nat) : Clamp := if c = 1 then .opened else if c = 2 then .closed else .travel

/-- Load readings; a code outside the set is taken as UNKNOWN (08 R138). -/
def loadReading (c : Nat) : Load :=
  if c = 1 then .empty else if c = 2 then .loaded else if c = 3 then .unsure else .unknown

/-- The low eight bits of a character. -/
def busLow (c : BusChar) : Nat := c.bits.toNat % 256

/-- The ninth bit of a character. -/
def busNinth (c : BusChar) : Bool := c.bits.msb

/-- The judgement of a reply (R158, R182): enough characters, no gap over REPLY_WINDOW, the address character of the
request's unit, the type of the unit record, the ninth bit clear after the first character, the check good. -/
def replyGood (x : Exchange) (typ : UnitType) (chars : List BusChar) : Bool :=
  let cs := chars.take typ.replyLength
  decide (typ.replyLength ≤ chars.length) &&
  cs.all (fun c => decide (c.gap ≤ 1000 * x.window)) &&
  (match cs with
   | a :: ty :: rest =>
     busNinth a && decide (busLow a = x.addr) && !busNinth ty && decide (busLow ty = typ.code) &&
       rest.all fun c => !busNinth c
   | _ => false) &&
  decide ((cs.map busLow).sum % 256 = 0)

/-- The reading characters of a reply. -/
def replyReadings (typ : UnitType) (chars : List BusChar) : List Nat :=
  ((chars.take (typ.replyLength - 1)).drop 2).map busLow

/-! ## Choosing the next exchange (R163, R164) -/

/-- A unit that polls take: ACTIVE or RESTORING (R164), and in SURVEY unsurveyed (R166, log 19). -/
def State.pollable (s : State) (u : UnitRec) : Bool :=
  decide (u.st ≠ .silent) && (decide (s.site ≠ .survey) || !u.surveyed)

/-- The addresses polls take, ascending. -/
def State.pollList (s : State) : List Nat := (s.units.filter fun p => s.pollable p.2).map (·.1)

/-- The first address of a rising list at or after a, wrapping to the lowest. -/
def nextFrom (l : List Nat) (a : Nat) : Option Nat := (l.find? fun b => decide (a ≤ b)).orElse fun _ => l.head?

/-- The request for function f of the unit at an address, its check computed, under the parameters as they stand; FDE is
asserted (R157, R158, R182). -/
def State.request (s : State) (addr : Nat) (f : BusFunc) : Exchange :=
  ⟨addr, f, requestChars addr f, s.params.replyWindow, s.params.driverLead, true⟩

/-- Put a request on the bus (R157). -/
def State.startExchange (s : State) (addr : Nat) (f : BusFunc) : State := { s with exchange := some (s.request addr f) }

/-- A poll is chosen (R164): the oldest unit of the restore list, or the unit at the poll position, which then moves
on. The position moves only here, so that it keeps the address of a unit that has since become SILENT until the next poll
is chosen, which passes that unit over (log 34). With no unit to poll the bus is idle. -/
def State.choosePoll (s : State) : State :=
  match s.restoreList with
  | a :: _ => { s with forced := 0 }.startExchange a .poll
  | [] =>
    match nextFrom s.pollList (s.pollPos.getD 0) with
    | some a => { s with forced := 0, pollPos := nextFrom s.pollList (a + 1) }.startExchange a .poll
    | none => { s with exchange := none }

/-- Tell the owner of a command that it is sent (R163): a throw begins (02 R29), a stage countdown or a watch
countdown starts (08 R148, R141). -/
def State.tellSent (s : State) (c : BusCmd) : State :=
  match c.req with
  | .tr _ => s.throwSent c
  | .ops => s.throwSent c
  | .xfer t =>
    s.setTransfer t ((s.transfers[t]).map fun x =>
      { x with cmd := .sent, cd := some s.clampLoad, unclampSent := x.unclampSent || decide (c.func = .unclamp) })
  | .watch n => s.modPad n fun p => { p with watch := .running s.clampLoad }

/-- Choose the next exchange (R163). The fuel bounds the throws the send test discards. -/
def chooseFrom : Nat → State → State
  | 0, s => s.choosePoll
  | n + 1, s =>
    if s.forced ≥ Config.forcedPollAt then s.choosePoll
    else
      match s.cmdQueue with
      | [] => s.choosePoll
      | c :: rest =>
        let s1 := { s with cmdQueue := rest }
        if c.func.blade.isSome ∧ s.sendTest c = false then chooseFrom n s1.commandExit.trigger
        else
          ({ s1.commandExit.tellSent c with forced := s.forced + 1 }).startExchange c.addr c.func

/-- Choose the next exchange; every discard takes one of the commands queued or waiting. -/
def State.chooseNext (s : State) : State := chooseFrom (s.cmdQueue.length + s.padWaiters.length + 1) s

/-! ## Survey (R166, 11 R185) -/

/-- The number of units not yet surveyed. -/
def State.unsurveyed (s : State) : Nat := (s.units.filter fun p => !p.2.surveyed).length

/-- The lowest defined address. -/
def State.lowestUnit (s : State) : Option Nat := s.units.head?.map (·.1)

/-- A unit becomes surveyed at its good reply or its silence; when every unit is, the site enters RUNNING
(R166, 11 R185, 07 R127), and polling goes on from the lowest address. -/
def State.markSurveyed (s : State) (a : Nat) : State :=
  if s.site ≠ .survey then s
  else
    let s1 := s.modUnit a fun u => { u with surveyed := true }
    if s1.unsurveyed = 0 then
      (({ s1 with site := .running, pollPos := s1.lowestUnit }).post (.siteChanged .running .survey)).enterRunning
    else s1

/-! ## Good replies (R160) -/

/-- The pad a PAD unit serves. -/
def State.padAt (s : State) (addr : Nat) : Option (Nat × Pad) := s.pads.find? fun p => decide (p.2.addr = addr)

/-- A good PAD reply (08 R138). -/
def State.padReply (s : State) (addr : Nat) (clamp : Clamp) (load : Load) : State :=
  match s.padAt addr with
  | none => s
  | some (n, p) =>
    let s1 := s.modPad n fun p =>
      { p with clamp := clamp, load := load, silent := false
               watch := match p.watch with
                 | .running cd => if clamp = .closed then .none else .running cd
                 | w => w }
    match p.st with
    | .transfer t => s1.transferReply t clamp load
    | _ => s1

/-- Deliver the readings to the owner of the unit's entities (R160 step 3). -/
def State.deliver (s : State) (addr : Nat) (typ : UnitType) (rs : List Nat) : State :=
  match typ, rs with
  | .detector, rs => s.detectorReply addr (rs.map detReading)
  | .point, b :: _ => s.pointReply addr (bladeReading b)
  | .pad, c :: l :: _ => s.padReply addr (clampReading c) (loadReading l)
  | .mast, a :: b :: c :: d :: _ => s.mastReply (256 * a + b) (256 * c + d)
  | _, _ => s

/-- A RESTORING unit answers (R160 step 2). -/
def State.unitBack (s : State) (addr : Nat) (u : UnitRec) : State :=
  if u.st = .restoring then
    ({ s.modUnit addr fun u => { u with st := .active, restorePending := false } with
        restoreList := s.restoreList.filter fun a => decide (a ≠ addr) }).post (.unitBack addr u.typ)
  else s

/-- An exchange ends in a good reply (R160). -/
def State.goodReply (s : State) (addr : Nat) (u : UnitRec) (chars : List BusChar) : State :=
  let s1 := s.modUnit addr fun u => { u with retries := 0 }
  let s2 := (s1.unitBack addr u).deliver addr u.typ (replyReadings u.typ chars)
  (s2.markSurveyed addr).chooseNext

/-! ## Misses and silence (R159, R161) -/

/-- The silence of a PAD unit (08 R138). -/
def State.padSilent (s : State) (addr : Nat) : State :=
  match s.padAt addr with
  | none => s
  | some (n, p) =>
    let s1 := (s.modPad n fun p => { p with silent := true, clamp := .unknown, load := .unknown }).failWatch n
    match p.st with
    | .transfer t => s1.abort t .unitSilent
    | _ => s1

/-- The silence handed to the owner (R161 step 3). -/
def State.handSilence (s : State) (addr : Nat) : UnitType → State
  | .detector => s.detectorSilent addr
  | .point => s.pointSilent addr
  | .pad => s.padSilent addr
  | .mast => s.mastSilent

/-- Discard the oldest queued command of a silent unit, an exit; a throw discarded for silence sets the latch of its
point unless it is set (R161 step 4, 02 R32). -/
def discardSilent (addr : Nat) : Nat → State → State
  | 0, s => s
  | n + 1, s =>
    match s.cmdQueue.find? fun c => decide (c.addr = addr) with
    | none => s
    | some c =>
      let s1 := { s with cmdQueue := s.cmdQueue.erase c }
      let s2 := if c.func.blade.isSome then s1.faultPoint c.entity .unitSilent .unknown none else s1
      discardSilent addr n s2.commandExit

/-- The third consecutive miss (R161). The poll position is left as it is (log 34). -/
def State.silence (s : State) (addr : Nat) (u : UnitRec) (f : BusFunc) : State :=
  let s1 := { s.modUnit addr fun u => { u with st := .silent, retries := 0, restorePending := false } with
    restoreList := s.restoreList.filter fun a => decide (a ≠ addr) }
  let s2 := (s1.post (.unitSilent addr u.typ f)).handSilence addr u.typ
  let s3 := discardSilent addr (s2.cmdQueue.length + s2.padWaiters.length) s2
  (s3.markSurveyed addr).chooseNext

/-- The exchange ends in a miss (R159): the request is repeated, or the unit becomes SILENT. -/
def State.miss (s : State) : State :=
  match s.exchange with
  | none => s
  | some x =>
    match s.unit? x.addr with
    | none => s
    | some u =>
      if u.retries < 2 then
        (s.modUnit x.addr fun u => { u with retries := u.retries + 1 }).startExchange x.addr x.func
      else s.silence x.addr u x.func

/-- Characters arrive in an open reply window (R158): a good reply, or a miss. With no request on the bus they are
discarded. -/
def State.windowReply (s : State) (chars : List BusChar) : State :=
  match s.exchange with
  | none => s
  | some x =>
    match s.unit? x.addr with
    | none => s
    | some u => if replyGood x u.typ chars then s.goodReply x.addr u chars else s.miss

/-- Characters arrive at FRX: those that arrive while FDE is asserted are ignored (R157); the others come after its release,
in the reply window. Where all of them are ignored, the exchange goes on as it is. -/
def State.busReply (s : State) (chars : List BusChar) : State :=
  if !chars.isEmpty && chars.all BusChar.driven then s
  else s.windowReply (chars.filter fun c => !c.driven)

/-! ## Reset of the bus (R167) -/

/-- RESET FIELDBUS step 2: discard every queued command, oldest first, each an exit reported to its owner, until the
queue is empty (log 18). -/
def discardAll : Nat → State → State
  | 0, s => { s with cmdQueue := [] }
  | n + 1, s =>
    match s.cmdQueue with
    | [] => s
    | c :: rest =>
      let s1 := { s with cmdQueue := rest }
      let s2 := match c.req with
        | .tr _ => s1.trigger
        | .ops => s1.trigger
        | .xfer _ => s1
        | .watch p => s1.failWatch p
      discardAll n s2.commandExit

/-- RESET FIELDBUS on the bus's own state (R167). -/
def State.resetBus (s : State) : State :=
  let s1 : State := discardAll (s.cmdQueue.length + s.padWaiters.length) { s with exchange := none }
  let s2 : State := { s1 with
    units := Table.mapAll s1.units fun u =>
      { u with st := if u.st = UnitState.silent then UnitState.restoring else u.st
               retries := 0
               restorePending := false
               surveyed := if u.st = UnitState.silent ∧ s1.site = SiteState.survey then false else u.surveyed }
    restoreList := []
    forced := 0 }
  let s3 : State := { s2 with
    pollPos := if s2.site = SiteState.survey
      then (List.find? (fun p : Nat × UnitRec => !p.2.surveyed) s2.units).map (·.1)
      else s2.lowestUnit }
  s3.choosePoll

end Sys2Proof.Machine
end

