-- ==== Sys2Proof/Machine/Coding.lean ====
section
/-! DEFINITION. The bytes of messages sent (10.5): field coding (R181), the CRC (R170), frames, the payloads of AUTH,
XFER, REFUSE, REPLY and NOTICE, and the data of every query's reply. Where R181 leaves a coding open, log 9 says what
the model does. -/

namespace Sys2Proof.Machine

/-! ## Bytes -/

/-- A one-byte unsigned field. -/
def b8 (n : Nat) : Byte := BitVec.ofNat 8 n

/-- A two-byte unsigned field, high byte first. -/
def be16 (n : Nat) : List Byte := [b8 (n / 256), b8 n]

/-- A four-byte clock time, high byte first. -/
def be32 (c : Clock) : List Byte :=
  [b8 (c.toNat / 16777216), b8 (c.toNat / 65536), b8 (c.toNat / 256), b8 c.toNat]

/-- A flag. -/
def flag (b : Bool) : Byte := if b then 1 else 0

/-- An absent one-byte field. -/
def absent8 : Byte := 0xFF

/-- A one-byte field that may be absent. -/
def opt8 : Option Nat → Byte
  | some n => b8 n
  | none => absent8

/-- A two-byte field that may be absent: 0xFFFF (R181 says so of countdowns; log 9 for the rest). -/
def opt16 : Option Nat → List Byte
  | some n => be16 n
  | none => [0xFF, 0xFF]

/-- A countdown: its steps of 100 ms, 0xFFFF when stopped or absent. -/
def cdBytes (c : Option Countdown) : List Byte := opt16 (c.map (·.steps))

/-! ## The CRC and the frame (R170, 10.5.1) -/

/-- One bit into the check register. -/
def crcBit (r : BitVec 16) (bit : Bool) : BitVec 16 :=
  if r.msb = bit then r <<< 1 else (r <<< 1) ^^^ 0x1021#16

/-- One byte, most significant bit first. -/
def crcByte (r : BitVec 16) (b : Byte) : BitVec 16 :=
  [7, 6, 5, 4, 3, 2, 1, 0].foldl (fun r i => crcBit r (b.getLsbD i)) r

/-- The check over a list of bytes, from 0xFFFF. -/
def crc16 (bs : List Byte) : BitVec 16 := bs.foldl crcByte 0xFFFF#16

/-- The CRC as it stands in a frame, high byte first. -/
def crcBytes (bs : List Byte) : List Byte := be16 (crc16 bs).toNat

/-- A whole frame: SYN, LEN, TYPE, PAYLOAD, CRC (10.5.1). -/
def frameBytes (typ : Byte) (payload : List Byte) : List Byte :=
  let body := b8 (payload.length + 1) :: typ :: payload
  Config.synByte :: body ++ crcBytes body

/-! ## Codes of enumerated fields (10.3.3, R181) -/

def Reason.code : Reason → Byte
  | .ok => 0 | .frame => 1 | .state => 2 | .range => 3 | .unknownId => 4 | .notContiguous => 5
  | .repeatedSection => 6 | .startMismatch => 7 | .quota => 8 | .held => 9 | .notClear => 10 | .locked => 11
  | .pointFault => 12 | .moving => 13 | .padState => 14 | .alignment => 15 | .loadMismatch => 16
  | .configLocked => 17 | .unitSilent => 18 | .indeterminate => 19 | .waitExpired => 20

def SiteState.code : SiteState → Byte
  | .unconfigured => 0 | .survey => 1 | .running => 2

def ResetCause.code : ResetCause → Byte
  | .powerOn => 0 | .supplyLow => 1 | .resetLine => 2 | .commanded => 3

def EndName.code : EndName → Byte
  | .a => 0 | .b => 1 | .c => 2

def Dir.code : Dir → Byte
  | .up => 0 | .down => 1

def Detection.code : Detection → Byte
  | .clear => 0 | .occupied => 1 | .disturbed => 2 | .unknown => 3

def HoldKind.code : HoldKind → Byte
  | .granted => 0 | .setting => 1 | .releasePending => 2

/-- The hold state of a route entry (03 R38), not held last. -/
def holdStateCode : Option HoldKind → Byte
  | some k => k.code
  | none => 3

def PointPos.code : PointPos → Byte
  | .unknown => 0 | .normal => 1 | .reverse => 2 | .moving => 3

/-- A blade reading, numbered from 0 in the order of the table of 02 2.2.1, NORMAL, REVERSE, NONE (R181, last row); the
reading NONE stands as the position UNKNOWN in State (02 R33). -/
def PointPos.readingCode : PointPos → Byte
  | .normal => 0 | .reverse => 1 | .unknown => 2 | .moving => 2

def FaultCause.code : FaultCause → Byte
  | .throwTimeout => 0 | .lostPosition => 1 | .unitSilent => 2

def TState.code : TState → Byte
  | .offline => 0 | .parked => 1 | .authorised => 2 | .held => 3 | .tripped => 4 | .transfer => 5

def ReleaseCause.code : ReleaseCause → Byte
  | .rear => 0 | .echo => 1 | .recover => 2 | .retire => 3 | .leave => 4

def Order.code : Order → Byte
  | .go => 0 | .stand => 1 | .trip => 2

/-- Unit types as R181 codes them; the same codes as on the field bus. -/
def UnitType.byte (u : UnitType) : Byte := b8 u.code

def UnitState.code : UnitState → Byte
  | .active => 0 | .silent => 1 | .restoring => 2

/-- The function of a request as a field of a message, numbered from 0 in the order of R158's table. -/
def BusFunc.field : BusFunc → Byte
  | .poll => 0 | .throwNormal => 1 | .throwReverse => 2 | .clamp => 3 | .unclamp => 4

def XferKind.code : XferKind → Byte
  | .lift => 0 | .place => 1

def Stage.code : Stage → Byte
  | .unclamp => 0 | .raise => 1 | .confirm => 2 | .lower => 3 | .clamp => 4

/-- The stage of an XFER_GO: RAISE 0, LOWER 1. -/
def Stage.goCode : Stage → Byte
  | .lower => 1
  | _ => 0

def StageCmd.code : StageCmd → Byte
  | .none => 0 | .waiting => 1 | .queued => 2 | .sent => 3

def Clamp.code : Clamp → Byte
  | .opened => 0 | .closed => 1 | .travel => 2 | .unknown => 3

def Load.code : Load → Byte
  | .loaded => 0 | .empty => 1 | .unsure => 2 | .unknown => 3

def AbortCause.code : AbortCause → Byte
  | .operations => 0 | .stepFailed => 1 | .timeout => 2 | .unitSilent => 3 | .loadUnknown => 4 | .link => 5
  | .excursion => 6 | .unauthorisedMotion => 7

/-- XFER_END outcome. -/
def XferOutcome.code : XferOutcome → Byte
  | .done => 0 | .abortedClean => 1 | .abortedIndeterminate => 2

/-- The outcome of an abort as a field of a reply or a notice: CLEAN 0, INDETERMINATE 1 (R151, R153). -/
def XferOutcome.abortCode : XferOutcome → Byte
  | .abortedIndeterminate => 1
  | _ => 0

def StopMode.code : StopMode → Nat
  | .off => 0 | .level => 1 | .latch => 2 | .latchLevel => 3

/-- The sampled level: RELEASED 0, ASSERTED 1, in the order of R125's first edge. The list before R125 names ASSERTED first,
and R181 does not say which of the two orders counts: this one is the model's choice (log 9, DESIGN CHOICE). -/
def levelCode (asserted : Bool) : Byte := flag asserted

def ClearCause.code : ClearCause → Byte
  | .line => 0 | .clear => 1 | .mode => 2

def HoldCause.code : HoldCause → Byte
  | .gust => 0 | .mastPending => 1 | .mastLost => 2

def Band.code : Band → Byte
  | .normal => 0 | .caution => 1 | .hold _ => 2

/-- The hold cause of a band, absent unless the band is HOLD. -/
def Band.causeByte : Band → Byte
  | .hold c => c.code
  | _ => absent8

/-- A set of stop causes, in the order of R103. -/
def StopSet.byte (c : StopSet) : Byte :=
  b8 ((if c.allStop then 1 else 0) + (if c.zoneStop then 2 else 0) + (if c.wind then 4 else 0))

/-- A set of trip causes, in the order of R103. -/
def TripSet.byte (c : TripSet) : Byte :=
  b8 ((if c.link then 1 else 0) + (if c.excursion then 2 else 0) + (if c.overspeed then 4 else 0) +
    (if c.wrongDirection then 8 else 0) + (if c.unauthorisedMotion then 16 else 0) +
    (if c.obstruction then 32 else 0) + (if c.transfer then 64 else 0))

/-- The link of an end. -/
def TrackLink.bytes : TrackLink → List Byte
  | .buffer => [0xFE, 0xFE]
  | .to n e => [b8 n, e.code]

def optLink : Option TrackLink → List Byte
  | some l => l.bytes
  | none => [0xFF, 0xFF]

/-- The number a link port has in RESET LINK and in notices (R191). -/
def portNumber : PortId → Nat
  | .tl t => t.val
  | .ops l => 6 + l.val

/-! ## Transporter messages (10.3.1) -/

/-- The payload of AUTH. -/
def Auth.payload (a : Auth) : List Byte :=
  [b8 a.number, opt8 a.endSec] ++ be16 a.endIdx ++ be16 a.endOff ++ be16 a.ceiling ++
    [a.order.code, a.stand.byte, a.trips.byte]

/-- Type and payload of an XFER slot's message. -/
def XferMsg.frame : XferMsg → Frame
  | .xgo g p => ⟨Config.tyXferGo, [g.goCode, b8 p]⟩
  | .xend o p => ⟨Config.tyXferEnd, [o.code, b8 p]⟩

/-- The payload of REFUSE. -/
def Refuse.payload (r : Refuse) : List Byte := [r.reqType, r.reason.code]

/-! ## REPLY (R176, R181) -/

/-- The payloads of the frames of a reply, from part k on, in parts of 119 data bytes; the fuel bounds the parts. -/
def replyParts (r : Reply) : Nat → Nat → List Byte → List (List Byte)
  | 0, _, _ => []
  | n + 1, k, data =>
    if data.length ≤ Config.replyPart then [[r.tag, r.cmd, b8 k, 1, r.result.code] ++ data]
    else ([r.tag, r.cmd, b8 k, 0, r.result.code] ++ data.take Config.replyPart) ::
      replyParts r n (k + 1) (data.drop Config.replyPart)

/-- The payloads of a reply's frames. -/
def Reply.payloads (r : Reply) : List (List Byte) := replyParts r (r.data.length + 1) 0 r.data

/-! ## NOTICE (R177, R181) -/

/-- Subject classes. -/
inductive SubjectClass where
  | transporter | point | trackSection | unit | pad | zone | site | link
deriving DecidableEq, Repr

def SubjectClass.code : SubjectClass → Byte
  | .transporter => 0 | .point => 1 | .trackSection => 2 | .unit => 3 | .pad => 4 | .zone => 5 | .site => 6 | .link => 7

/-- Kind, subject and details of a notice (10.3.4). The subject and the clock time stand in the notice's own fields
and are not repeated among the details (log 9). POINT_FAULT carries the position asked for with THROW_TIMEOUT (02 R30), a
point position, 0xFF where none was commanded (log 9), and the reading with LOST_POSITION (02 R31), a blade reading, which
R181's last row numbers. -/
def NoticeBody.parts : NoticeBody → Byte × SubjectClass × Nat × List Byte
  | .granted t num es ei eo secs =>
    (1, .transporter, t.val, [b8 num, b8 es] ++ be16 ei ++ be16 eo ++ (b8 secs.length :: secs.map b8))
  | .released t n i c => (2, .transporter, t.val, b8 n :: be16 i ++ [c.code])
  | .held t c => (3, .transporter, t.val, [c.byte])
  | .resumed t num st => (4, .transporter, t.val, [b8 num, st.code])
  | .tripped t a w n o => (5, .transporter, t.val, [a.byte, w.byte, opt8 n] ++ opt16 o)
  | .recoverFailed t n v => (6, .transporter, t.val, b8 n :: be16 v)
  | .waitExpired t i => (7, .transporter, t.val, be16 (i.getD 0))
  | .pointSet p q => (8, .point, p, [q.code])
  | .pointFault p c d =>
    (9, .point, p, c.code :: (match c with
      | .unitSilent => []
      | .lostPosition => [(d.map PointPos.readingCode).getD absent8]
      | .throwTimeout => [(d.map PointPos.code).getD absent8]))
  | .sectionDisturbed n d => (10, .trackSection, n, [d.code])
  | .unexpectedOccupancy n d => (11, .trackSection, n, [d.code])
  | .unitSilent a u f => (12, .unit, a, [u.byte, f.field])
  | .unitBack a u => (13, .unit, a, [u.byte])
  | .transferDone t p k n => (14, .transporter, t.val, [b8 p, k.code, b8 n])
  | .transferAborted t p k g c o => (15, .transporter, t.val, [b8 p, k.code, g.code, c.code, o.abortCode])
  | .clampFailed p c n => (16, .pad, p, [c.code, b8 (n.getD 0)])
  | .windBand a b g m => (17, .site, 0, [a.code, b.code, a.causeByte] ++ opt16 g ++ opt16 m)
  | .zoneStop n m lv => (18, .zone, n, [b8 m.code, levelCode lv])
  | .zoneCleared n m c => (19, .zone, n, [b8 m.code, c.code])
  | .siteChanged a b => (20, .site, 0, [a.code, b.code])
  | .siteAllStop st f => (20, .site, 0, [st.code, flag f])
  | .siteReset c => (20, .site, 0, [SiteState.unconfigured.code, c.code])
  | .overrun l ty => (21, .link, portNumber l, [ty])
  | .overflow l lost => (22, .link, portNumber l, be16 lost)

/-- The payload of NOTICE. -/
def Notice.payload (n : Notice) : List Byte :=
  let p := n.body.parts
  [p.1, p.2.1.code, b8 p.2.2.1] ++ be32 n.time ++ p.2.2.2

/-! ## The data of the queries' replies -/

/-- The parameters in the order of R188's table, codes 1 to 19. -/
def Params.values (p : Params) : List Nat :=
  [p.margin, p.creep, p.overspeedTol, p.parkTol, p.waitLimit, p.throwTime, p.clampTime, p.jackTime, p.confirmTime,
   p.windCaution, p.windResume, p.windHold, p.windCrawl, p.mastHold, p.replyWindow, p.driverLead, p.linkHoldUpper,
   p.linkHoldLower, p.linkHoldRepeat]

/-- Q_SITE (R183). -/
def State.siteData (s : State) : List Byte :=
  [s.site.code, s.resetCause.code] ++ be32 s.clock ++ [flag s.allStop] ++
  s.params.values.flatMap be16 ++ s.lines.toList.flatMap (fun x => be16 x.mode.code) ++
  s.trs.toList.map (fun x => b8 x.quota) ++
  s.lines.toList.flatMap (fun x => [b8 x.mode.code, levelCode x.asserted, flag x.latch]) ++
  s.lines.toList.map (fun x => flag x.stopped) ++
  [s.band.code, s.band.causeByte] ++ opt16 s.gust ++ opt16 s.mean ++ cdBytes s.mastHold ++
  [b8 s.sections.length, b8 s.points.length, b8 s.pads.length, b8 s.units.length] ++
  (if s.site = .survey then [b8 s.unsurveyed] else [])

/-- Q_SECTION (R17): the definition as DEFINE_SECTION lays it out, then the runtime fields. -/
def Section.data (n : Nat) (x : Section) : List Byte :=
  [b8 n, flag x.defn.isPoint] ++ be16 x.defn.len ++ opt16 (x.defn.point.map (·.lenAC)) ++
  [BitVec.ofInt 8 x.defn.grade] ++ be16 x.defn.lineSpeed ++ x.defn.linkA.bytes ++ x.defn.linkB.bytes ++
  optLink (x.defn.point.map (·.linkC)) ++
  [x.defn.zones, b8 x.defn.group, b8 x.defn.detAddr, b8 x.defn.detSlot] ++
  [x.det.code] ++ be32 x.capture ++
  [opt8 (x.hold.map (·.holder.val)), (x.hold.map (·.kind.code)).getD absent8,
   flag ((x.hold.map (·.entered)).getD false)]

/-- Q_POINT (R17, R9). R181 gives the point position no code for absent: where no position has been commanded the model
sends 0xFF (log 9). -/
def Point.data (p : Nat) (x : Point) : List Byte :=
  [b8 p, b8 x.sec, b8 x.addr, x.pos.code, (x.cmd.map fun b => b.pos.code).getD absent8,
   (x.latch.map FaultCause.code).getD absent8, opt8 (x.lock.map (·.val))] ++ cdBytes x.throwCd

/-- A pad state: its code and the telescope or transporter it names. -/
def PadState.bytes : PadState → List Byte
  | .vacant => [0, absent8]
  | .occupied k => [1, b8 k]
  | .transfer t => [2, b8 t.val]
  | .blocked => [3, absent8]
  | .outOfService => [4, absent8]

/-- A clamp watch: its code and its countdown. -/
def Watch.bytes : Watch → List Byte
  | .none => 0 :: cdBytes Option.none
  | .waiting => 1 :: cdBytes Option.none
  | .queued => 2 :: cdBytes Option.none
  | .running c => 3 :: cdBytes (some c)

/-- A transfer record (08 R147). -/
def Transfer.data (t : TId) (x : Transfer) : List Byte :=
  [b8 t.val, b8 x.pad, x.kind.code, b8 x.tel] ++
  (match x.kind with | .lift => (PadState.occupied x.tel).bytes | .place => PadState.vacant.bytes) ++
  [x.stage.code, x.cmd.code, flag x.unclampSent] ++ cdBytes x.cd ++ [flag x.loadMoving]

/-- Q_PAD (R17, R145). -/
def State.padData (s : State) (n : Nat) (p : Pad) : List Byte :=
  [b8 n, b8 p.sec] ++ be16 p.stop ++ be16 p.tol ++ [b8 p.addr] ++ p.st.bytes ++
  [b8 (p.reserv.getD 0), p.clamp.code, p.load.code, flag p.silent] ++ p.watch.bytes ++
  (match p.st with
   | .transfer t => ((s.transfers[t]).map (Transfer.data t)).getD []
   | _ => [])

/-- A last report; every field absent when there is none. R181 gives a direction, a load flag and an echoed number no
code for absent: the model sends 0xFF (log 9). -/
def reportData : Option Report → List Byte
  | some r => b8 r.sec :: be16 r.off ++ [r.dir.code] ++ be16 r.speed ++ [flag r.load, b8 r.echo, opt8 r.rear]
  | none => [0xFF, 0xFF, 0xFF, 0xFF, 0xFF, 0xFF, 0xFF, 0xFF, 0xFF]

/-- Q_TRANSPORTER (R124). Where there is no last report, the load flag of the report is 0xFF, as its other bytes are, while
the separate field 'load sensed' of R124's fifth point is 0, by the model's choice (log 9). -/
def State.transporterData (s : State) (t : TId) : List Byte :=
  let x := s.tr t
  [x.state.code, x.stop.byte, x.trips.byte] ++ cdBytes x.superv ++ reportData x.last ++
  [flag x.standSeen, flag x.awaitingFix, flag (s.loaded t), b8 ((s.telescopeAt t).getD 0), flag (s.loadSensed t)] ++
  be16 x.decelEmpty ++ be16 x.decelLoaded ++ be16 x.vmaxEmpty ++ be16 x.vmaxLoaded ++ be16 x.supervision ++
  [b8 x.quota]

/-- The position of an item in a list, counted from 1: of the pending queue by R66, of the restore list by the model's
choice (log 9). -/
def placeIn {α : Type} (l : List α) (q : α → Bool) : Option Nat := (l.findIdx? q).map (· + 1)

/-- Q_ROUTE (R66). Of an empty record the front and end indices and the end offset are 0 (log 9). -/
def State.routeData (s : State) (t : TId) : List Byte :=
  let r := s.route t
  [(s.tr t).state.code, b8 r.entries.length] ++
  r.entries.flatMap (fun e => be16 e.index ++ [b8 e.sec, e.ent.code, e.ext.code, holdStateCode (s.holdBy t e.sec)]) ++
  be16 (r.front.getD 0) ++ be16 ((r.endPos.map (·.idx)).getD 0) ++ be16 ((r.endPos.map (·.off)).getD 0) ++
  be16 r.finalOff ++ [flag r.keep, b8 r.authNum] ++ be16 (s.ceilings[t]) ++
  [opt8 (placeIn s.waiting fun w => decide (w.t = t))] ++
  cdBytes ((s.waiting.find? fun w => decide (w.t = t)).bind (·.wait)) ++ [flag s.roomWait]

/-- The pad reserved for telescope k. -/
def State.padReservedFor (s : State) (k : Nat) : Option Nat :=
  (s.pads.find? fun p => decide (p.2.reserv = some k)).map (·.1)

/-- A location: its code, the pad and the transporter it names. -/
def locationBytes : Option Location → List Byte
  | none => [0, absent8, absent8]
  | some (.onPad p) => [1, b8 p, absent8]
  | some (.onTransporter t) => [2, absent8, b8 t.val]
  | some (.indeterminate p t) => [3, b8 p, b8 t.val]

/-- Q_TELESCOPE (R145). -/
def State.telescopeData (s : State) (k : Nat) : List Byte :=
  locationBytes (s.locOf k) ++ [opt8 (s.padReservedFor k)]

/-- The entities a unit serves (R155): sections with their slots, a point, or a pad. -/
def State.entityBytes (s : State) (a : Nat) : UnitType → List Byte
  | .detector =>
    let l := s.sectionsOf a
    b8 l.length :: l.flatMap fun p => [b8 p.2, b8 p.1]
  | .point =>
    let l := s.points.filter fun p => decide (p.2.addr = a)
    b8 l.length :: l.map fun p => b8 p.1
  | .pad =>
    let l := s.pads.filter fun p => decide (p.2.addr = a)
    b8 l.length :: l.map fun p => b8 p.1
  | .mast => [0]

/-- Q_UNIT (R168). The unit's place on the restore list counts from 1 and is 0xFF off it, by the model's choice (log 9). -/
def State.unitData (s : State) (a : Nat) (u : UnitRec) : List Byte :=
  let cs := s.cmdQueue.filter fun c => decide (c.addr = a)
  u.typ.byte :: s.entityBytes a u.typ ++
  [u.st.code, b8 u.retries, flag u.restorePending, opt8 (placeIn s.restoreList fun b => decide (b = a)),
   b8 cs.length] ++ cs.flatMap (fun c => [c.func.field, b8 c.entity]) ++
  [b8 s.cmdQueue.length, opt8 s.pollPos, b8 s.forced]

end Sys2Proof.Machine
end

