-- ==== Sys2Proof/Machine/Link.lean ====
section
/-! DEFINITION. The Link Ports (10.1, 10.2): the judgement of frames, the receive queue and its flow control, what the
transmit line carries, and RESET LINK. -/

namespace Sys2Proof.Machine

/-! ## The receive queue and its flow control (R171, R172) -/

/-- Order a flow byte; it replaces one that waits (R173). -/
def PortCore.orderFlow (c : PortCore) (f : Flow) : PortCore := { c with flowByte := some f }

/-- The receive flow state after a valid frame completed, `joined` telling whether it joined the queue (R172). -/
def PortCore.flowAfterFrame (p : Params) (joined : Bool) (c : PortCore) : PortCore :=
  match c.rxFlow with
  | .go =>
    if joined && decide (p.linkHoldUpper ≤ c.rx.length) then
      { c with rxFlow := .hold, sinceHold := 0 }.orderFlow .hold
    else c
  | .hold =>
    if p.linkHoldRepeat ≤ c.sinceHold + 1 then { c with sinceHold := 0 }.orderFlow .hold
    else { c with sinceHold := c.sinceHold + 1 }

/-- A valid frame joins the receive queue, or is discarded with OVERRUN (R171). -/
def State.receiveFrame (s : State) (l : PortId) (f : Frame) : State :=
  if (s.core l).rx.length < Config.rxCapacity then
    s.modCore l fun c => { c with rx := c.rx ++ [f] }.flowAfterFrame s.params true
  else (s.modCore l fun c => c.flowAfterFrame s.params false).post (.overrun l f.typ)

/-- GO is ordered when the count in HOLD is LINK_HOLD_LOWER or fewer (R172). -/
def PortCore.flowDown (p : Params) (c : PortCore) : PortCore :=
  if c.rxFlow = .hold ∧ c.rx.length ≤ p.linkHoldLower then { c with rxFlow := .go }.orderFlow .go else c

/-- The head of the receive queue is taken (R171, R172). -/
def State.takeFrame (s : State) (l : PortId) : State :=
  s.modCore l fun c => { c with rx := c.rx.drop 1 }.flowDown s.params

/-- A port judges its count against changed parameters (R172). -/
def PortCore.rejudge (p : Params) (c : PortCore) : PortCore :=
  match c.rxFlow with
  | .go =>
    if p.linkHoldUpper ≤ c.rx.length then { c with rxFlow := .hold, sinceHold := 0 }.orderFlow .hold else c
  | .hold => c.flowDown p

/-- Every port judges its count (R172). -/
def State.rejudgePorts (s : State) : State :=
  { s with
    tls := s.tls.map fun p => { p with core := p.core.rejudge s.params }
    opss := s.opss.map fun p => { p with core := p.core.rejudge s.params } }

/-! ## Judging frames (R169, R170) -/

/-- The types the far end of a link may send (R170). -/
def validType (l : PortId) (ty : Byte) : Bool :=
  match l with
  | .tl _ => Config.transporterTypes.contains ty
  | .ops _ => Config.operationsTypes.contains ty

/-- The bytes LEN, TYPE, PAYLOAD, CRC of a complete frame, judged (R170): the frame, if it is valid. -/
def judgeFrame (l : PortId) (bs : List Byte) : Option Frame :=
  match bs with
  | len :: ty :: rest =>
    let payload := rest.take (len.toNat - 1)
    if crcBytes (len :: ty :: payload) = rest.drop (len.toNat - 1) ∧ validType l ty then some ⟨ty, payload⟩ else none
  | _ => none

/-- Set the receiver of a port. -/
def State.setReceiver (s : State) (l : PortId) (r : Receiver) : State := s.modCore l fun c => { c with receiver := r }

/-- LEN lies in 2 to 125. -/
def lenOk (b : Byte) : Bool := decide (2 ≤ b.toNat ∧ b.toNat ≤ 125)

/-! ## Taking a frame (R171, R176) -/

/-- The reply queue of an operations link has room (R176). -/
def State.replyRoom (s : State) (l : OpsId) : Bool := decide ((s.opsPort l).replies.length < Config.replyCapacity)

/-- A valid frame taken reloads the supervision of its transporter, unless it is OFFLINE (06 R109). -/
def State.reloadSupervision (s : State) (t : TId) : State :=
  if (s.tr t).state = .offline then s
  else s.modTr t fun x => { x with superv := some (.load x.supervision) }

/-! ## Sending (R173 to R177, log 6) -/

/-- A flow byte's code. -/
def Flow.byte : Flow → Byte
  | .hold => Config.holdByte
  | .go => Config.goByte

/-- The waiting flow byte goes out at the first moment the line is free, whatever the transmit flow state (R173). -/
def State.sendFlowByte (s : State) (l : PortId) : State :=
  s.modCore l fun c =>
    match c.flowByte with
    | some f => { c with flowByte := none, sent := [f.byte] }
    | none => c

/-- The port may start a frame: transmit flow GO (R174), and no flow byte waits, which would go first (R173). -/
def PortCore.mayStart (c : PortCore) : Bool := decide (c.txFlow = .go ∧ c.flowByte = none)

/-- Begin a frame on the transmit line. -/
def PortCore.send (c : PortCore) (ty : Byte) (payload : List Byte) : PortCore := { c with sent := frameBytes ty payload }

/-- A transporter port starts its next frame: AUTH, then XFER, then the oldest refusal (R175). -/
def TlPort.start (p : TlPort) : TlPort :=
  if p.core.mayStart then
    match p.auth, p.xfer, p.refusals with
    | some a, _, _ => { p with auth := none, core := p.core.send Config.tyAuth a.payload }
    | none, some x, _ => { p with xfer := none, core := p.core.send x.frame.typ x.frame.payload }
    | none, none, r :: rs => { p with refusals := rs, core := p.core.send Config.tyRefuse r.payload }
    | none, none, [] => p
  else p

/-- A notice leaves its queue: while OVERFLOW is set, the OVERFLOW notice takes the place just freed (R177). -/
def OpsPort.afterNotice (now : Clock) (l : OpsId) (p : OpsPort) : OpsPort :=
  if p.overflow then
    { p with notices := p.notices ++ [⟨now, .overflow (.ops l) p.lost⟩], overflow := false, lost := 0 }
  else p

/-- An operations port starts its next frame: the rest of a reply begun, the oldest reply, the oldest notice
(R176, R177). -/
def OpsPort.start (now : Clock) (l : OpsId) (p : OpsPort) : OpsPort :=
  if p.core.mayStart then
    match p.parts, p.replies, p.notices with
    | d :: ds, _, _ => { p with parts := ds, core := p.core.send Config.tyReply d }
    | [], r :: rs, _ =>
      match r.payloads with
      | d :: ds => { p with replies := rs, parts := ds, core := p.core.send Config.tyReply d }
      | [] => { p with replies := rs }
    | [], [], n :: ns =>
      { p with notices := ns, core := p.core.send Config.tyNotice n.payload }.afterNotice now l
    | [], [], [] => p
  else p

/-! ## RESET LINK (R178, R191) -/

/-- The common part of a port after RESET LINK: a GO byte waits if the receive flow state was HOLD; what is on the
line is completed. -/
def PortCore.reset (c : PortCore) : PortCore :=
  { PortCore.initial with flowByte := (if c.rxFlow = .hold then some .go else none), sent := c.sent }

/-- The port of link number n is reset. -/
def State.resetPort (s : State) : PortId → State
  | .tl t => s.modTl t fun p => { TlPort.initial with core := p.core.reset }
  | .ops l => s.modOps l fun p => { OpsPort.initial with core := p.core.reset }

/-- The port of a link number (R191). -/
def portOf (n : Nat) : Option PortId :=
  if h : n < 6 then some (.tl ⟨n, h⟩) else if n = 6 then some (.ops 0) else if n = 7 then some (.ops 1) else none

end Sys2Proof.Machine
end

