-- ==== Sys2Proof/Machine/Operands.lean ====
section
/-! DEFINITION. Payload fields (R179 to R181): numbers, codes, optional fields, and the operand forms of the commands.
A parser answers none where the length is wrong (reason FRAME); a code outside its set is a none of its own field
(reason RANGE). -/

namespace Sys2Proof.Machine

/-- A two-byte unsigned number, high byte first. -/
def num16 (h l : Byte) : Nat := 256 * h.toNat + l.toNat

/-- An optional identifier: 0xFF is absent. -/
def optId (b : Byte) : Option Nat := if b = 0xFF then none else some b.toNat

/-- A transporter number in T0 to T5. -/
def tid? (n : Nat) : Option TId := if h : n < 6 then some ⟨n, h⟩ else none

/-- A line number in 0 to 7. -/
def line? (n : Nat) : Option (Fin 8) := if h : n < 8 then some ⟨n, h⟩ else none

def endOf (b : Byte) : Option EndName :=
  if b = 0 then some .a else if b = 1 then some .b else if b = 2 then some .c else none

def dirOf (b : Byte) : Option Dir := if b = 0 then some .up else if b = 1 then some .down else none

def flagOf (b : Byte) : Option Bool := if b = 0 then some false else if b = 1 then some true else none

/-- A throw's position: NORMAL or REVERSE (R35). -/
def bladeOf (b : Byte) : Option Blade := if b = 1 then some .normal else if b = 2 then some .reverse else none

def xferKindOf (b : Byte) : Option XferKind := if b = 0 then some .lift else if b = 1 then some .place else none

def stopModeOf (n : Nat) : Option StopMode :=
  if n = 0 then some .off else if n = 1 then some .level else if n = 2 then some .latch
  else if n = 3 then some .latchLevel else none

/-- A unit type of DEFINE_UNIT: `some none` is NONE. -/
def unitTypeOf (b : Byte) : Option (Option UnitType) :=
  if b = 0 then some none else if b = 1 then some (some .detector) else if b = 2 then some (some .point)
  else if b = 3 then some (some .pad) else if b = 4 then some (some .mast) else none

/-! ## Transporter requests -/

/-- The fields of JOIN, the two coded ones as codes. -/
structure JoinFields where
  sec : Nat
  off : Nat
  dir : Option Dir
  load : Option Bool
  rear : Option Nat
deriving DecidableEq, Repr

/-- JOIN: front section, offset, direction, load sensed, rear section. -/
def parseJoin : List Byte → Option JoinFields
  | [sec, oh, ol, d, ld, rear] => some ⟨sec.toNat, num16 oh ol, dirOf d, flagOf ld, optId rear⟩
  | _ => none

/-- The fields of REPORT. -/
structure ReportFields where
  echo : Nat
  sec : Nat
  off : Nat
  dir : Option Dir
  speed : Nat
  load : Option Bool
  rear : Option Nat
deriving DecidableEq, Repr

/-- REPORT: echoed number, front section, offset, direction, speed, load sensed, rear section (10.5.1). -/
def parseReport : List Byte → Option ReportFields
  | [echo, sec, oh, ol, d, vh, vl, ld, rear] =>
    some ⟨echo.toNat, sec.toNat, num16 oh ol, dirOf d, num16 vh vl, flagOf ld, optId rear⟩
  | _ => none

/-- A route entry triple as sent. -/
structure Triple where
  sec : Nat
  ent : EndName
  ext : EndName
deriving DecidableEq, Repr

/-- The entries of a ROUTE, three bytes each: `some none` where an end code lies outside its set. -/
def parseTriples : List Byte → Option (Option (List Triple))
  | [] => some (some [])
  | s :: x :: y :: rest =>
    (parseTriples rest).map fun r =>
      match endOf x, endOf y, r with
      | some x, some y, some ts => some (⟨s.toNat, x, y⟩ :: ts)
      | _, _, _ => none
  | _ => none

/-- ROUTE: entry count 1 to 32, final stop offset, exactly that many entries (R42 step 1). -/
def parseRoute : List Byte → Option (Nat × Option (List Triple))
  | n :: fh :: fl :: rest =>
    if 1 ≤ n.toNat ∧ n.toNat ≤ 32 ∧ rest.length = 3 * n.toNat then (parseTriples rest).map fun ts => (num16 fh fl, ts)
    else none
  | _ => none

/-- GIVEBACK: entry index and offset. -/
def parsePos : List Byte → Option RoutePos
  | [ih, il, oh, ol] => some ⟨num16 ih il, num16 oh ol⟩
  | _ => none

/-! ## Answers -/

/-- Judge an operations command: the first failing check's reason, or the effect and REPLY OK with its data. -/
def State.judge (s : State) (l : OpsId) (tag ty : Byte) (checks : List (Bool × Reason)) (act : State → State)
    (data : State → List Byte) : State :=
  match firstFailing checks with
  | some r => s.reply l tag ty r []
  | none => (act s).reply l tag ty .ok (data (act s))

/-- No data in the reply. -/
def noData (_ : State) : List Byte := []

/-- A command whose payload holds one identifier. -/
def State.oneId (s : State) (l : OpsId) (tag ty : Byte) (p : List Byte) (f : Nat → State) : State :=
  match p with
  | [b] => f b.toNat
  | _ => s.reply l tag ty .frame []

/-- A command whose payload holds nothing after the tag. -/
def State.noFields (s : State) (l : OpsId) (tag ty : Byte) (p : List Byte) (f : State) : State :=
  match p with
  | [] => f
  | _ => s.reply l tag ty .frame []

/-- A query of one identifier: its data, or UNKNOWN_ID. -/
def State.query (s : State) (l : OpsId) (tag ty : Byte) (p : List Byte) (find : Nat → Option (List Byte)) : State :=
  s.oneId l tag ty p fun n =>
    match find n with
    | some d => s.reply l tag ty .ok d
    | none => s.reply l tag ty .unknownId []

/-- The site is RUNNING. -/
def State.running (s : State) : Bool := decide (s.site = .running)

end Sys2Proof.Machine
end

