-- ==== Sys2Proof/Machine/Queries.lean ====
section
/-! DEFINITION. The eight queries. Each is taken in every site state and changes no state but the queues of its link
(R17, R66, R124, R145, R168, R183). -/

namespace Sys2Proof.Machine

/-- Q_SITE (11 R183). -/
def State.onQSite (s : State) (l : OpsId) (tag : Byte) (p : List Byte) : State :=
  s.noFields l tag Config.tyQSite p (s.reply l tag Config.tyQSite .ok s.siteData)

/-- Q_SECTION (01 R17). -/
def State.onQSection (s : State) (l : OpsId) (tag : Byte) (p : List Byte) : State :=
  s.query l tag Config.tyQSection p fun n =>
    if n < Config.numSections then (s.sec? n).map (Section.data n) else none

/-- Q_POINT (01 R17). -/
def State.onQPoint (s : State) (l : OpsId) (tag : Byte) (p : List Byte) : State :=
  s.query l tag Config.tyQPoint p fun n =>
    if n < Config.numPoints then (s.point? n).map (Point.data n) else none

/-- Q_TRANSPORTER (06 R124). -/
def State.onQTransporter (s : State) (l : OpsId) (tag : Byte) (p : List Byte) : State :=
  s.query l tag Config.tyQTransporter p fun n => (tid? n).map s.transporterData

/-- Q_ROUTE (03 R66). -/
def State.onQRoute (s : State) (l : OpsId) (tag : Byte) (p : List Byte) : State :=
  s.query l tag Config.tyQRoute p fun n => (tid? n).map s.routeData

/-- Q_PAD (01 R17, 08 R145). -/
def State.onQPad (s : State) (l : OpsId) (tag : Byte) (p : List Byte) : State :=
  s.query l tag Config.tyQPad p fun n =>
    if n < Config.numPads then (s.pad? n).map (s.padData n) else none

/-- Q_TELESCOPE (08 R145). -/
def State.onQTelescope (s : State) (l : OpsId) (tag : Byte) (p : List Byte) : State :=
  s.query l tag Config.tyQTelescope p fun n =>
    if 1 ≤ n ∧ n ≤ Config.numTelescopes then some (s.telescopeData n) else none

/-- Q_UNIT (09 R168). -/
def State.onQUnit (s : State) (l : OpsId) (tag : Byte) (p : List Byte) : State :=
  s.query l tag Config.tyQUnit p fun n =>
    if 1 ≤ n ∧ n ≤ Config.maxAddress then (s.unit? n).map (s.unitData n) else none

end Sys2Proof.Machine
end

