-- ==== Sys2Proof/Machine/Control.lean ====
section
/-! DEFINITION. The fifteen control commands of the operations links, each judged in the order of its rule's table. -/

namespace Sys2Proof.Machine

/-! ## ALL_STOP and ALL_RESUME (11 R189) -/

/-- Write the ALL_STOP flag; a change is told and handed to the Supervisor (R189, 06 R121). -/
def State.setAllStop (s : State) (b : Bool) : State :=
  if s.allStop = b then s else ({ s with allStop := b }.post (.siteAllStop s.site b)).evalAll

/-- ALL_STOP (R189). -/
def State.onAllStop (s : State) (l : OpsId) (tag : Byte) (p : List Byte) : State :=
  s.noFields l tag Config.tyAllStop p
    (s.judge l tag Config.tyAllStop [(s.running, .state)] (fun s => s.setAllStop true) noData)

/-- ALL_RESUME (R189). -/
def State.onAllResume (s : State) (l : OpsId) (tag : Byte) (p : List Byte) : State :=
  s.noFields l tag Config.tyAllResume p
    (s.judge l tag Config.tyAllResume [(s.running, .state)] (fun s => s.setAllStop false) noData)

/-! ## ZONE_CLEAR (07 R128) -/

/-- The latch of line n is cleared; the zone is freed (R128, R131). -/
def State.clearLatch (s : State) (n : Fin 8) : State := s.changeLine n (fun x => { x with latch := false }) .clear

/-- ZONE_CLEAR, its number read (R128 steps 2 to 6). -/
def State.zoneClear (s : State) (l : OpsId) (tag : Byte) (n : Nat) : State :=
  match line? n with
  | none => s.judge l tag Config.tyZoneClear [(s.running, .state), (false, .unknownId)] id noData
  | some n =>
    let x := s.lines[n]
    s.judge l tag Config.tyZoneClear
      [(s.running, .state), (x.mode.latching, .state), (x.latch, .state),
       (decide (x.mode ≠ .latchLevel) || !x.asserted, .state)]
      (fun s => s.clearLatch n) noData

/-- ZONE_CLEAR (R128). -/
def State.onZoneClear (s : State) (l : OpsId) (tag : Byte) (p : List Byte) : State :=
  s.oneId l tag Config.tyZoneClear p (s.zoneClear l tag)

/-! ## Shortening on request (04 R73 to R79) -/

/-- Steps 5 to 8 of R73 for a requested end E. -/
def State.endChecks (s : State) (t : TId) (e : RoutePos) : List (Bool × Reason) :=
  match s.entryAt t e.idx, s.frontPos t, (s.route t).endPos with
  | some x, some q, some p =>
    [(decide (q.idx ≤ e.idx ∧ e.idx ≤ p.idx), .range), (decide (e.off ≤ s.pathLen x), .range),
     (!q.ahead e, .range), (!e.ahead p, .range)]
  | _, _, _ => [(false, .range)]

/-- The states that take a CANCEL or GIVEBACK (R73 step 4). -/
def TState.shortenable : TState → Bool
  | .parked => true
  | .authorised => true
  | .held => true
  | _ => false

/-- The withdrawal of R75. -/
def State.withdraw (s : State) (t : TId) : State := (s.withdrawRoute t).clearKeep t

/-- The record is cut at its end entry where no RELEASE_PENDING run is left (R78). -/
def State.cutRecord (s : State) (t : TId) : State := if (s.pendingRun t).isEmpty then s.finalToEnd t else s

/-- A GIVEBACK whose effective end is the front position parks an AUTHORISED transporter (R79, 06 R112), at any
reported speed: R112 says that this end is taken only at speed 0, but R76 does not test the current end, so that a
transporter reported moving with its front at its end can have it, and R79 sets no speed (the model's choice, log 37). -/
def State.parkAt (s : State) (t : TId) (c : RoutePos) : State :=
  if (s.tr t).state = .authorised ∧ s.frontPos t = some c then s.modTr t fun x => { x with state := .parked } else s

/-- Carry out a CANCEL or GIVEBACK toward E (R75 to R79): the state, the effective end, and whether the end moved.
`park` tells a GIVEBACK. -/
def State.shorten (s : State) (t : TId) (e : RoutePos) (park : Bool) : State × RoutePos × Bool :=
  let s1 := s.withdraw t
  let c := s1.effectiveEnd t e
  let moved := decide ((s1.route t).endPos ≠ some c)
  let s2 := if moved then s1.moveEnd t c else s1
  let s3 := if park then s2.parkAt t c else s2
  let s4 := if moved then s3.formAuth t else s3
  (s4.cutRecord t, c, moved)

/-- The data of CANCEL's reply (R79). -/
def cancelData (t : TId) (r : State × RoutePos × Bool) : List Byte :=
  b8 t.val :: be16 r.2.1.idx ++ be16 r.2.1.off ++ [b8 (r.1.route t).authNum, flag r.2.2]

/-- CANCEL, its fields read (R73 steps 2 to 8). -/
def State.cancel (s : State) (l : OpsId) (tag : Byte) (n : Nat) (e : RoutePos) : State :=
  match tid? n with
  | none => s.judge l tag Config.tyCancel [(s.running, .state), (false, .unknownId)] id noData
  | some t =>
    s.judge l tag Config.tyCancel
      ([(s.running, .state), ((s.tr t).state.shortenable, .state)] ++ s.endChecks t e)
      (fun s => (s.shorten t e false).1) (fun _ => cancelData t (s.shorten t e false))

/-- CANCEL (R73). -/
def State.onCancel (s : State) (l : OpsId) (tag : Byte) (p : List Byte) : State :=
  match p with
  | [n, ih, il, oh, ol] => s.cancel l tag n.toNat ⟨num16 ih il, num16 oh ol⟩
  | _ => s.reply l tag Config.tyCancel .frame []

/-! ## RECOVER and RETIRE (06 R117, R119) -/

/-- A telescope is INDETERMINATE at t. -/
def State.indeterminateAt (s : State) (t : TId) : Bool :=
  s.telescopes.any fun p => match p.2 with | .indeterminate _ u => decide (u = t) | _ => false

/-- RECOVER, its number read (R117 steps 2 to 6). -/
def State.recover (s : State) (l : OpsId) (tag : Byte) (n : Nat) : State :=
  match tid? n with
  | none => s.judge l tag Config.tyRecover [(s.running, .state), (false, .unknownId)] id noData
  | some t =>
    s.judge l tag Config.tyRecover
      [(s.running, .state), (decide ((s.tr t).state = .tripped), .state), (!s.indeterminateAt t, .indeterminate),
       (decide ((s.tr t).superv.map (·.steps) ≠ some 0), .state)]
      (fun s => s.modTr t fun x => { x with awaitingFix := true }) noData

/-- RECOVER (R117). -/
def State.onRecover (s : State) (l : OpsId) (tag : Byte) (p : List Byte) : State :=
  s.oneId l tag Config.tyRecover p (s.recover l tag)

/-- The transporter record of a transporter that becomes OFFLINE (R105): parameters and quota stay. -/
def Transporter.offline (x : Transporter) : Transporter :=
  { Transporter.initial with
    decelEmpty := x.decelEmpty, decelLoaded := x.decelLoaded, vmaxEmpty := x.vmaxEmpty
    vmaxLoaded := x.vmaxLoaded, supervision := x.supervision, quota := x.quota }

/-- Steps 1 to 5 of R119, with the release cause of RETIRE or LEAVE. -/
def State.goOffline (s : State) (t : TId) (c : ReleaseCause) : State :=
  let s1 := s.withdrawRoute t
  let s2 := s1.releaseAll t (s1.heldRun t) c false
  (((s2.modRoute t fun _ => .empty).modTr t Transporter.offline).formAuth t)

/-- RETIRE, its number read (R119). -/
def State.retire (s : State) (l : OpsId) (tag : Byte) (n : Nat) : State :=
  match tid? n with
  | none => s.judge l tag Config.tyRetire [(s.running, .state), (false, .unknownId)] id noData
  | some t =>
    s.judge l tag Config.tyRetire
      [(s.running, .state), (decide ((s.tr t).state = .parked ∨ (s.tr t).state = .tripped), .state),
       (!s.indeterminateAt t, .indeterminate)]
      (fun s => s.goOffline t .retire) noData

/-- RETIRE (R119). -/
def State.onRetire (s : State) (l : OpsId) (tag : Byte) (p : List Byte) : State :=
  s.oneId l tag Config.tyRetire p (s.retire l tag)

/-! ## Points (02 R35, R36) -/

/-- THROW, its fields read (R35 steps 1 to 9). -/
def State.throwCommand (s : State) (l : OpsId) (tag : Byte) (n : Nat) (pos : Byte) : State :=
  match (if n < Config.numPoints then s.point? n else none) with
  | none => s.judge l tag Config.tyThrow [(s.running, .state), (false, .unknownId)] id noData
  | some x =>
    match bladeOf pos with
    | none => s.judge l tag Config.tyThrow [(s.running, .state), (false, .range)] id noData
    | some b =>
      s.judge l tag Config.tyThrow
        [(s.running, .state), (x.lock.isNone, .locked), (((s.sec? x.sec).bind (·.hold)).isNone, .held),
         (decide (s.detOf x.sec = .clear), .notClear), (x.latch.isNone, .pointFault),
         (decide (x.pos ≠ .moving) && (s.outstanding n).isNone, .moving),
         (decide (s.cmdQueue.length < Config.cmdCapacity), .state)]
        (fun s => s.enqueue [⟨b.throwFunc, x.addr, n, .ops⟩]) noData

/-- THROW (R35). -/
def State.onThrowPoint (s : State) (l : OpsId) (tag : Byte) (p : List Byte) : State :=
  match p with
  | [n, pos] => s.throwCommand l tag n.toNat pos
  | _ => s.reply l tag Config.tyThrow .frame []

/-- The state of the unit at an address, if one is defined there. -/
def State.unitState (s : State) (a : Nat) : Option UnitState := (s.unit? a).map (·.st)

/-- CLEAR_POINT, its number read (R36 steps 1 to 5). -/
def State.clearPoint (s : State) (l : OpsId) (tag : Byte) (n : Nat) : State :=
  match (if n < Config.numPoints then s.point? n else none) with
  | none => s.judge l tag Config.tyClearPoint [(s.running, .state), (false, .unknownId)] id noData
  | some x =>
    s.judge l tag Config.tyClearPoint
      [(s.running, .state), (x.latch.isSome, .state),
       (decide (s.unitState x.addr ≠ some .silent ∧ s.unitState x.addr ≠ some .restoring), .unitSilent),
       (x.lock.isNone, .locked)]
      (fun s => (s.modPoint n fun x => { x with latch := none, pos := .unknown }).trigger) noData

/-- CLEAR_POINT (R36). -/
def State.onClearPoint (s : State) (l : OpsId) (tag : Byte) (p : List Byte) : State :=
  s.oneId l tag Config.tyClearPoint p (s.clearPoint l tag)

/-! ## RESTORE_SECTION (02 R22) and RESTORE_UNIT (09 R165) -/

/-- The detection becomes OCCUPIED, and the change is handed on (R22, R25). -/
def State.restoreDetection (s : State) (n : Nat) : State :=
  let a := s.setDet n .occupied
  a.2.foldl State.handDetection a.1

/-- RESTORE_SECTION, its number read (R22 steps 1 to 4). -/
def State.restoreSection (s : State) (l : OpsId) (tag : Byte) (n : Nat) : State :=
  match (if n < Config.numSections then s.sec? n else none) with
  | none => s.judge l tag Config.tyRestoreSection [(s.running, .state), (false, .unknownId)] id noData
  | some x =>
    s.judge l tag Config.tyRestoreSection
      [(s.running, .state), (decide (x.det = .disturbed ∨ x.det = .unknown), .state),
       (decide (s.unitState x.defn.detAddr ≠ some .silent), .unitSilent)]
      (fun s => s.restoreDetection n) noData

/-- RESTORE_SECTION (R22). -/
def State.onRestoreSection (s : State) (l : OpsId) (tag : Byte) (p : List Byte) : State :=
  s.oneId l tag Config.tyRestoreSection p (s.restoreSection l tag)

/-- The unit becomes RESTORING and joins the restore list, unless it stands on it; an idle bus leaves idle
(R164, R165). -/
def State.restore (s : State) (a : Nat) : State :=
  match s.unit? a with
  | none => s
  | some u =>
    if u.restorePending then s
    else
      let s1 := { s.modUnit a fun u => { u with st := .restoring, retries := 0, restorePending := true } with
        restoreList := s.restoreList ++ [a] }
      if s1.exchange.isNone then s1.chooseNext else s1

/-- RESTORE_UNIT, its address read (R165 steps 2 to 4). -/
def State.restoreUnit (s : State) (l : OpsId) (tag : Byte) (a : Nat) : State :=
  match (if 1 ≤ a ∧ a ≤ Config.maxAddress then s.unit? a else none) with
  | none => s.judge l tag Config.tyRestoreUnit [(s.running, .state), (false, .unknownId)] id noData
  | some u =>
    s.judge l tag Config.tyRestoreUnit [(s.running, .state), (decide (u.st ≠ .active), .state)]
      (fun s => s.restore a) noData

/-- RESTORE_UNIT (R165). -/
def State.onRestoreUnit (s : State) (l : OpsId) (tag : Byte) (p : List Byte) : State :=
  s.oneId l tag Config.tyRestoreUnit p (s.restoreUnit l tag)

/-! ## Pads (08 R139, R140) -/

/-- The pad under a number in 0 to 79. -/
def State.padIn (s : State) (n : Nat) : Option Pad := if n < Config.numPads then s.pad? n else none

/-- PAD_RESERVE, its fields read (R139 steps 2 to 7). -/
def State.padReserve (s : State) (l : OpsId) (tag : Byte) (n k : Nat) : State :=
  match s.padIn n with
  | none => s.judge l tag Config.tyPadReserve [(s.running, .state), (false, .unknownId)] id noData
  | some x =>
    s.judge l tag Config.tyPadReserve
      [(s.running, .state), (decide (1 ≤ k ∧ k ≤ Config.numTelescopes), .range),
       (decide (x.st ≠ .outOfService), .padState), (decide (x.reserv = none ∨ x.reserv = some k), .padState),
       (s.pads.all fun p => decide (p.1 = n ∨ p.2.reserv ≠ some k), .padState)]
      (fun s => s.modPad n fun x => { x with reserv := some k }) noData

/-- PAD_RESERVE (R139). -/
def State.onPadReserve (s : State) (l : OpsId) (tag : Byte) (p : List Byte) : State :=
  match p with
  | [n, k] => s.padReserve l tag n.toNat k.toNat
  | _ => s.reply l tag Config.tyPadReserve .frame []

/-- PAD_FREE, its number read (R140). -/
def State.padFree (s : State) (l : OpsId) (tag : Byte) (n : Nat) : State :=
  s.judge l tag Config.tyPadFree [(s.running, .state), ((s.padIn n).isSome, .unknownId)]
    (fun s => s.modPad n fun x => { x with reserv := none }) noData

/-- PAD_FREE (R140). -/
def State.onPadFree (s : State) (l : OpsId) (tag : Byte) (p : List Byte) : State :=
  s.oneId l tag Config.tyPadFree p (s.padFree l tag)

/-- PAD_SERVICE OUT (true) or IN (false), its fields read (R140). -/
def State.padService (s : State) (l : OpsId) (tag : Byte) (n : Nat) (out : Bool) : State :=
  match s.padIn n with
  | none => s.judge l tag Config.tyPadService [(s.running, .state), (false, .unknownId)] id noData
  | some x =>
    if out then
      s.judge l tag Config.tyPadService
        [(s.running, .state), (decide (x.st = .vacant ∧ x.watch = .none), .padState)]
        (fun s => s.modPad n fun x => { x with st := .outOfService, reserv := none }) noData
    else
      s.judge l tag Config.tyPadService [(s.running, .state), (decide (x.st = .outOfService), .padState)]
        (fun s => s.modPad n fun x => { x with st := .vacant }) noData

/-- PAD_SERVICE (R140); a request other than IN and OUT is refused with RANGE after the length (R180). -/
def State.onPadService (s : State) (l : OpsId) (tag : Byte) (p : List Byte) : State :=
  match p with
  | [n, q] =>
    match flagOf q with
    | some out => s.padService l tag n.toNat out
    | none => s.reply l tag Config.tyPadService .range []
  | _ => s.reply l tag Config.tyPadService .frame []

/-! ## DECLARE (08 R143, R144) -/

/-- The clamp watch of a pad is absent. -/
def Pad.unwatched (x : Pad) : Bool := decide (x.watch = .none)

/-- DECLARE(k, ON_PAD p) for a defined pad (R143, R144). -/
def State.declarePad (s : State) (l : OpsId) (tag : Byte) (k n : Nat) (x : Pad) : State :=
  match s.locOf k with
  | none =>
    s.judge l tag Config.tyDeclare
      [(s.running, .state), (decide (1 ≤ k ∧ k ≤ Config.numTelescopes), .unknownId),
       (decide (x.st = .vacant ∧ (x.reserv = none ∨ x.reserv = some k)) && x.unwatched, .padState),
       (decide (x.load = .loaded), .loadMismatch)]
      (fun s => (s.setLoc k (.onPad n)).modPad n fun x => { x with st := .occupied k }) noData
  | some (.indeterminate q _) =>
    s.judge l tag Config.tyDeclare
      [(s.running, .state), (decide (1 ≤ k ∧ k ≤ Config.numTelescopes), .unknownId), (decide (q = n), .range),
       (decide (s.unitState x.addr ≠ some .silent), .unitSilent)]
      (fun s => ((s.setLoc k (.onPad n)).modPad n fun x =>
        { x with st := .occupied k, reserv := if x.reserv = some k then none else x.reserv }).openWatch n) noData
  | some _ =>
    s.judge l tag Config.tyDeclare
      [(s.running, .state), (decide (1 ≤ k ∧ k ≤ Config.numTelescopes), .unknownId), (false, .state)] id noData

/-- DECLARE(k, ON_TRANSPORTER t) (R143, R144). Step 6 of R143 has two reasons: a t that carries a telescope and is in TRANSFER is
answered LOAD_MISMATCH, by the model's choice (log 38). -/
def State.declareTransporter (s : State) (l : OpsId) (tag : Byte) (k : Nat) (t : TId) : State :=
  match s.locOf k with
  | none =>
    s.judge l tag Config.tyDeclare
      [(s.running, .state), (decide (1 ≤ k ∧ k ≤ Config.numTelescopes), .unknownId),
       ((s.telescopeAt t).isNone, .loadMismatch), (decide ((s.tr t).state ≠ .transfer), .state)]
      (fun s => (s.setLoc k (.onTransporter t)).recompute t) noData
  | some (.indeterminate q u) =>
    s.judge l tag Config.tyDeclare
      [(s.running, .state), (decide (1 ≤ k ∧ k ≤ Config.numTelescopes), .unknownId), (decide (u = t), .range)]
      (fun s => ((s.setLoc k (.onTransporter t)).modPad q fun x => { x with st := .vacant }).recompute t) noData
  | some _ =>
    s.judge l tag Config.tyDeclare
      [(s.running, .state), (decide (1 ≤ k ∧ k ≤ Config.numTelescopes), .unknownId), (false, .state)] id noData

/-- DECLARE, its fields read; a target that is not there is UNKNOWN_ID at step 3. -/
def State.declare (s : State) (l : OpsId) (tag : Byte) (k : Nat) (onTransporter : Bool) (n : Nat) : State :=
  if onTransporter then
    match tid? n with
    | some t => s.declareTransporter l tag k t
    | none => s.judge l tag Config.tyDeclare [(s.running, .state), (false, .unknownId)] id noData
  else
    match s.padIn n with
    | some x => s.declarePad l tag k n x
    | none => s.judge l tag Config.tyDeclare [(s.running, .state), (false, .unknownId)] id noData

/-- DECLARE (R143, R144); a target kind outside its set is refused with RANGE after the length (R180). -/
def State.onDeclare (s : State) (l : OpsId) (tag : Byte) (p : List Byte) : State :=
  match p with
  | [k, kind, n] =>
    match flagOf kind with
    | some b => s.declare l tag k.toNat b n.toNat
    | none => s.reply l tag Config.tyDeclare .range []
  | _ => s.reply l tag Config.tyDeclare .frame []

/-! ## XFER_ABORT (08 R151) -/

/-- The outcome the abort of t's transfer will have (R152). -/
def State.abortOutcome (s : State) (t : TId) : List Byte :=
  match s.transfers[t] with
  | some x => [x.abortOutcome.abortCode]
  | none => []

/-- XFER_ABORT, its number read (R151). -/
def State.xferAbort (s : State) (l : OpsId) (tag : Byte) (n : Nat) : State :=
  match tid? n with
  | none => s.judge l tag Config.tyXferAbort [(s.running, .state), (false, .unknownId)] id noData
  | some t =>
    s.judge l tag Config.tyXferAbort [(s.running, .state), (decide ((s.tr t).state = .transfer), .state)]
      (fun s => s.abort t .operations) (fun _ => s.abortOutcome t)

/-- XFER_ABORT (R151). -/
def State.onXferAbort (s : State) (l : OpsId) (tag : Byte) (p : List Byte) : State :=
  s.oneId l tag Config.tyXferAbort p (s.xferAbort l tag)

end Sys2Proof.Machine
end

