-- ==== Sys2Proof/Machine/ConfigCmds.lean ====
section
/-! DEFINITION. The nine configuration commands: SET_PARAM, the five DEFINE commands, ALLOCATE, COMMIT, CONFIGURE
(chapters 01, 06, 09 and 11). -/

namespace Sys2Proof.Machine

/-! ## SET_PARAM (11 R188) -/

/-- The range of a parameter's value (R188 step 5); code 20 is STOP_MODE. -/
def paramInRange (code v : Nat) : Bool :=
  match code with
  | 1 => decide (v ≤ 2000)
  | 2 => decide (1 ≤ v ∧ v ≤ 20)
  | 3 => decide (v ≤ 50)
  | 4 => decide (5 ≤ v ∧ v ≤ 200)
  | 5 => decide (v ≤ 900)
  | 6 => decide (20 ≤ v ∧ v ≤ 300)
  | 7 => decide (1 ≤ v ∧ v ≤ 120)
  | 8 => decide (1 ≤ v ∧ v ≤ 120)
  | 9 => decide (1 ≤ v ∧ v ≤ 120)
  | 10 => decide (v ≤ 6000)
  | 11 => decide (v ≤ 6000)
  | 12 => decide (v ≤ 6000)
  | 13 => decide (5 ≤ v ∧ v ≤ 100)
  | 14 => decide (v ≤ 120)
  | 15 => decide (2 ≤ v ∧ v ≤ 25)
  | 16 => decide (v = 0 ∨ v = 50 ∨ v = 100 ∨ v = 200)
  | 17 => decide (2 ≤ v ∧ v ≤ 8)
  | 18 => decide (v ≤ 7)
  | 19 => decide (v = 1 ∨ v = 2 ∨ v = 4 ∨ v = 8)
  | 20 => decide (v ≤ 3)
  | _ => false

/-- The parameters writable in RUNNING. -/
def writableRunning (code : Nat) : Bool := decide (code = 5 ∨ (10 ≤ code ∧ code ≤ 14) ∨ (17 ≤ code ∧ code ≤ 20))

/-- The code is in the table, with an index it has (R188 step 2). -/
def paramKnown (code idx : Nat) : Bool := decide (1 ≤ code ∧ code ≤ 20 ∧ (if code = 20 then idx ≤ 7 else idx = 0))

/-- The parameter table with one value written; STOP_MODE stands with the stop lines. -/
def Params.write (p : Params) (code v : Nat) : Params :=
  match code with
  | 1 => { p with margin := v }
  | 2 => { p with creep := v }
  | 3 => { p with overspeedTol := v }
  | 4 => { p with parkTol := v }
  | 5 => { p with waitLimit := v }
  | 6 => { p with throwTime := v }
  | 7 => { p with clampTime := v }
  | 8 => { p with jackTime := v }
  | 9 => { p with confirmTime := v }
  | 10 => { p with windCaution := v }
  | 11 => { p with windResume := v }
  | 12 => { p with windHold := v }
  | 13 => { p with windCrawl := v }
  | 14 => { p with mastHold := v }
  | 15 => { p with replyWindow := v }
  | 16 => { p with driverLead := v }
  | 17 => { p with linkHoldUpper := v }
  | 18 => { p with linkHoldLower := v }
  | 19 => { p with linkHoldRepeat := v }
  | _ => p

/-- The relations between parameters (R188 step 6, R136, R172). -/
def Params.ordered (p : Params) : Bool :=
  decide (p.windCaution < p.windResume ∧ p.windResume < p.windHold ∧ p.linkHoldLower < p.linkHoldUpper)

/-- The value is written and takes effect (R188): WIND_CRAWL through the ceilings while the band is CAUTION (05 R98),
the LINK_HOLD limits on every port at once (10 R172), STOP_MODE on its line (07 R129). -/
def State.writeParam (s : State) (code idx v : Nat) : State :=
  let s1 : State := { s with params := s.params.write code v }
  if code = 13 then (if s1.band = .caution then s1.forT fun t s => s.recompute t else s1)
  else if code = 17 ∨ code = 18 then s1.rejudgePorts
  else if code = 20 then
    match line? idx, stopModeOf v with
    | some n, some m => s1.setMode n m
    | _, _ => s1
  else s1

/-- SET_PARAM, its fields read (R188 steps 2 to 6). -/
def State.setParam (s : State) (l : OpsId) (tag : Byte) (code idx v : Nat) : State :=
  s.judge l tag Config.tySetParam
    [(paramKnown code idx, .unknownId), (decide (s.site ≠ .survey), .state),
     (decide (s.site ≠ .running) || writableRunning code, .configLocked), (paramInRange code v, .range),
     ((s.params.write code v).ordered, .range)]
    (fun s => s.writeParam code idx v) noData

/-- SET_PARAM (R188). -/
def State.onSetParam (s : State) (l : OpsId) (tag : Byte) (p : List Byte) : State :=
  match p with
  | [code, idx, vh, vl] => s.setParam l tag code.toNat idx.toNat (num16 vh vl)
  | _ => s.reply l tag Config.tySetParam .frame []

/-! ## What the DEFINE commands share -/

/-- A DEFINE command in SURVEY is refused with STATE, in RUNNING with CONFIG_LOCKED (R183). -/
def State.defineOpen (s : State) : List (Bool × Reason) :=
  [(decide (s.site ≠ .survey), .state), (decide (s.site ≠ .running), .configLocked)]

/-- The poll position is the lowest defined address (09 R156). -/
def State.pollLowest (s : State) : State := { s with pollPos := s.lowestUnit }

/-! ## DEFINE_SECTION (01 R1, R2) -/

/-- A link field as sent: its section byte and its end byte. -/
structure LinkField where
  sec : Byte
  e : Byte
deriving DecidableEq, Repr

def LinkField.isBuffer (f : LinkField) : Bool := decide (f.sec = 0xFE ∧ f.e = 0xFE)
def LinkField.isAbsent (f : LinkField) : Bool := decide (f.sec = 0xFF ∧ f.e = 0xFF)

/-- The linked section id is in S0 to S95 (R2 step 7). -/
def LinkField.secOk (f : LinkField) : Bool := f.isBuffer || decide (f.sec.toNat < Config.numSections)

/-- The linked end is A, B or C, in another section than `n` (R2 step 8). -/
def LinkField.endOk (n : Nat) (f : LinkField) : Bool := f.isBuffer || ((endOf f.e).isSome && decide (f.sec.toNat ≠ n))

/-- The link a field gives. -/
def LinkField.link (f : LinkField) : TrackLink :=
  if f.isBuffer then .buffer
  else match endOf f.e with
    | some e => .to f.sec.toNat e
    | none => .buffer

/-- No two of the links that are not BUFFER are the same. -/
def distinctLinks : List LinkField → Bool
  | [] => true
  | f :: r => (f.isBuffer || !r.contains f) && distinctLinks r

/-- The fields of DEFINE_SECTION for PLAIN and POINT, as sent (R1). -/
structure SectionFields where
  id : Nat
  kind : Byte
  len : Nat
  len2 : Nat
  grade : Int
  speed : Nat
  a : LinkField
  b : LinkField
  c : LinkField
  zones : BitVec 8
  group : Nat
  addr : Nat
  slot : Nat
deriving DecidableEq, Repr

/-- The forms of DEFINE_SECTION: the id and the kind alone, or all the fields. -/
inductive SectionForm where
  | bare (id : Nat) (kind : Byte)
  | full (f : SectionFields)
deriving DecidableEq, Repr

/-- DEFINE_SECTION's payload, judged by its length alone (R180): two bytes for kind NONE, nineteen otherwise (log 8). -/
def parseSection : List Byte → Option SectionForm
  | [id, kind] => if kind = 0 ∨ kind = 1 then none else some (.bare id.toNat kind)
  | [id, kind, lh, ll, mh, ml, g, vh, vl, a1, a2, b1, b2, c1, c2, z, grp, ad, sl] =>
    if kind = 2 then none
    else some (.full ⟨id.toNat, kind, num16 lh ll, num16 mh ml, g.toInt, num16 vh vl, ⟨a1, a2⟩, ⟨b1, b2⟩, ⟨c1, c2⟩, z,
      grp.toNat, ad.toNat, sl.toNat⟩)
  | _ => none

/-- The kind of a payload is POINT. -/
def SectionFields.isPoint (f : SectionFields) : Bool := decide (f.kind = 1)

/-- The links a payload carries: C only for POINT. -/
def SectionFields.links (f : SectionFields) : List LinkField := if f.isPoint then [f.a, f.b, f.c] else [f.a, f.b]

def lengthOk (n : Nat) : Bool := decide (100 ≤ n ∧ n ≤ 65000)

/-- The fields that the kind requires are present, and those it must not have absent (R2 step 1). -/
def SectionFields.presentOk (f : SectionFields) : Bool :=
  (decide (f.kind ≠ 0) || decide (f.len2 = 65535) && f.c.isAbsent) &&
  (decide (f.kind ≠ 1) || decide (f.len2 ≠ 65535) && !f.c.isAbsent) &&
  (decide (f.kind ≠ 0 ∧ f.kind ≠ 1) || !f.a.isAbsent && !f.b.isAbsent)

/-- Steps 1 to 10 of R2. -/
def SectionFields.checks (f : SectionFields) : List (Bool × Reason) :=
  [(f.presentOk, .frame),
   (decide (f.id < Config.numSections), .unknownId), (decide (f.kind = 0 ∨ f.kind = 1), .range),
   (lengthOk f.len && (!f.isPoint || lengthOk f.len2), .range),
   (decide (-60 ≤ f.grade ∧ f.grade ≤ 60), .range), (decide (10 ≤ f.speed ∧ f.speed ≤ 300), .range),
   (f.links.all LinkField.secOk, .unknownId), (f.links.all (LinkField.endOk f.id) && distinctLinks f.links, .range),
   (decide (f.group ≤ Config.maxGroup), .range),
   (decide (1 ≤ f.addr ∧ f.addr ≤ Config.maxAddress ∧ f.slot ≤ 3), .range)]

/-- The definition a payload gives. -/
def SectionFields.defn (f : SectionFields) : SectionDef :=
  ⟨f.len, if f.isPoint then some ⟨f.len2, f.c.link⟩ else none, f.grade, f.speed, f.a.link, f.b.link, f.zones, f.group,
   f.addr, f.slot⟩

/-- A definition replaces the whole record (R1, R8). -/
def State.putSection (s : State) (f : SectionFields) : State :=
  { s with sections := Table.put s.sections f.id ⟨f.defn, .unknown, s.clock, none⟩ }

/-- DEFINE_SECTION (R1, R2). -/
def State.onDefineSection (s : State) (l : OpsId) (tag : Byte) (p : List Byte) : State :=
  match parseSection p with
  | none => s.reply l tag Config.tyDefineSection .frame []
  | some (.bare n kind) =>
    s.judge l tag Config.tyDefineSection
      (s.defineOpen ++ [(decide (n < Config.numSections), .unknownId), (decide (kind = 2), .range)])
      (fun s => { s with sections := Table.drop s.sections n }) noData
  | some (.full f) =>
    s.judge l tag Config.tyDefineSection (s.defineOpen ++ f.checks) (fun s => s.putSection f) noData

/-! ## DEFINE_POINT (01 R9) -/

/-- A freshly defined point, and the runtime fields of every point after COMMIT and CONFIGURE (R9, R37). -/
def Point.fresh (sec addr : Nat) : Point := ⟨sec, addr, .unknown, none, none, none, none, none⟩

/-- DEFINE_POINT (R9): a point id, then a section and an address, or NONE alone. -/
def State.onDefinePoint (s : State) (l : OpsId) (tag : Byte) (p : List Byte) : State :=
  match p with
  | [n, z] =>
    if z = 0xFF then
      s.judge l tag Config.tyDefinePoint (s.defineOpen ++ [(decide (n.toNat < Config.numPoints), .unknownId)])
        (fun s => { s with points := Table.drop s.points n.toNat }) noData
    else s.reply l tag Config.tyDefinePoint .frame []
  | [n, sec, ad] =>
    if sec = 0xFF then s.reply l tag Config.tyDefinePoint .frame []
    else
      s.judge l tag Config.tyDefinePoint
        (s.defineOpen ++
          [(decide (n.toNat < Config.numPoints), .unknownId), (decide (sec.toNat < Config.numSections), .unknownId),
           (decide (1 ≤ ad.toNat ∧ ad.toNat ≤ Config.maxAddress), .range)])
        (fun s => { s with points := Table.put s.points n.toNat (.fresh sec.toNat ad.toNat) }) noData
  | _ => s.reply l tag Config.tyDefinePoint .frame []

/-! ## DEFINE_PAD (01 R11, 08 R137) -/

/-- A freshly defined pad (R137). -/
def Pad.fresh (sec stop tol addr : Nat) : Pad :=
  ⟨sec, stop, tol, addr, .vacant, none, .unknown, .unknown, false, .none⟩

/-- A pad record is written whole. -/
def State.putPad (s : State) (n : Nat) (x : Pad) : State := { s with pads := Table.put s.pads n x }

/-- DEFINE_PAD (R11): a pad id, then a section, a stop offset, a tolerance and an address, or NONE alone. -/
def State.onDefinePad (s : State) (l : OpsId) (tag : Byte) (p : List Byte) : State :=
  match p with
  | [n, z] =>
    if z = 0xFF then
      s.judge l tag Config.tyDefinePad (s.defineOpen ++ [(decide (n.toNat < Config.numPads), .unknownId)])
        (fun s => { s with pads := Table.drop s.pads n.toNat }) noData
    else s.reply l tag Config.tyDefinePad .frame []
  | [n, sec, oh, ol, th, tl, ad] =>
    if sec = 0xFF then s.reply l tag Config.tyDefinePad .frame []
    else
      s.judge l tag Config.tyDefinePad
        (s.defineOpen ++
          [(decide (n.toNat < Config.numPads), .unknownId), (decide (sec.toNat < Config.numSections), .unknownId),
           (decide (num16 oh ol ≤ 65000), .range), (decide (1 ≤ num16 th tl ∧ num16 th tl ≤ 50), .range),
           (decide (1 ≤ ad.toNat ∧ ad.toNat ≤ Config.maxAddress), .range)])
        (fun s => s.putPad n.toNat (.fresh sec.toNat (num16 oh ol) (num16 th tl) ad.toNat)) noData
  | _ => s.reply l tag Config.tyDefinePad .frame []

/-! ## DEFINE_UNIT (09 R155) -/

/-- A unit record is written, or removed by NONE (R155); the poll position follows (R156). -/
def State.putUnit (s : State) (a : Nat) (u : Option UnitType) : State :=
  match u with
  | some typ => { s with units := Table.put s.units a (.fresh typ) }.pollLowest
  | none => { s with units := Table.drop s.units a }.pollLowest

/-- DEFINE_UNIT (R155). -/
def State.onDefineUnit (s : State) (l : OpsId) (tag : Byte) (p : List Byte) : State :=
  match p with
  | [a, ty] =>
    s.judge l tag Config.tyDefineUnit
      (s.defineOpen ++
        [(decide (1 ≤ a.toNat ∧ a.toNat ≤ Config.maxAddress), .unknownId), ((unitTypeOf ty).isSome, .range)])
      (fun s => s.putUnit a.toNat ((unitTypeOf ty).getD none)) noData
  | _ => s.reply l tag Config.tyDefineUnit .frame []

/-! ## DEFINE_TRANSPORTER (06 R104) -/

/-- DEFINE_TRANSPORTER, its fields read. -/
def State.defineTransporter (s : State) (l : OpsId) (tag : Byte) (n de dl ve vl sv : Nat) : State :=
  match tid? n with
  | none => s.judge l tag Config.tyDefineTransporter (s.defineOpen ++ [(false, .unknownId)]) id noData
  | some t =>
    s.judge l tag Config.tyDefineTransporter
      (s.defineOpen ++
        [(decide (4 ≤ de ∧ de ≤ 100 ∧ 4 ≤ dl ∧ dl ≤ 100), .range),
         (decide (10 ≤ ve ∧ ve ≤ 300 ∧ 10 ≤ vl ∧ vl ≤ 300), .range), (decide (3 ≤ sv ∧ sv ≤ 127), .range)])
      (fun s => s.modTr t fun x =>
        { x with decelEmpty := de, decelLoaded := dl, vmaxEmpty := ve, vmaxLoaded := vl, supervision := sv }) noData

/-- DEFINE_TRANSPORTER (R104). -/
def State.onDefineTransporter (s : State) (l : OpsId) (tag : Byte) (p : List Byte) : State :=
  match p with
  | [n, ah, al, bh, bl, ch, cl, dh, dl, eh, el] =>
    s.defineTransporter l tag n.toNat (num16 ah al) (num16 bh bl) (num16 ch cl) (num16 dh dl) (num16 eh el)
  | _ => s.reply l tag Config.tyDefineTransporter .frame []

/-! ## ALLOCATE (11 R187) -/

/-- The quota a list of six gives t. -/
def quotaOf (qs : List Nat) (t : TId) : Nat := (qs[t.val]?).getD 0

/-- Step 4 of R187: in RUNNING every transporter is OFFLINE, or PARKED with no pending entry and a record within its
new quota. -/
def State.quotasFit (s : State) (qs : List Nat) : Bool :=
  decide (s.site ≠ .running) ||
  allT.all fun t =>
    decide ((s.tr t).state = .offline) ||
    (decide ((s.tr t).state = .parked) && !s.isWaiting t &&
      decide ((s.route t).entries.length ≤ quotaOf qs t))

/-- ALLOCATE (R187). -/
def State.onAllocate (s : State) (l : OpsId) (tag : Byte) (p : List Byte) : State :=
  if p.length = 6 then
    let qs := p.map BitVec.toNat
    s.judge l tag Config.tyAllocate
      [(decide (s.site ≠ .survey), .state),
       (qs.all (fun q => decide (2 ≤ q ∧ q ≤ 32)) && decide (qs.sum ≤ Config.authorityPool), .range),
       (s.quotasFit qs, .state)]
      (fun s => s.forT fun t s => s.modTr t fun x => { x with quota := quotaOf qs t }) noData
  else s.reply l tag Config.tyAllocate .frame []

/-! ## COMMIT (11 R184, R185) -/

/-- A failed check of COMMIT: reason, subject class, identifier. -/
abbrev CommitFault := Reason × SubjectClass × Nat

/-- A failure naming a section, and the like for points, pads and units. -/
def secFault (r : Reason) (n : Nat) : Option CommitFault := some (r, .trackSection, n)
def pointFault (r : Reason) (n : Nat) : Option CommitFault := some (r, .point, n)
def padFault (r : Reason) (n : Nat) : Option CommitFault := some (r, .pad, n)
def unitFault (r : Reason) (n : Nat) : Option CommitFault := some (r, .unit, n)

/-- Step 1: at least one section; the refusal names the site (log 22). -/
def State.commit1 (s : State) : Option CommitFault := if s.sections.isEmpty then some (.unknownId, .site, 0) else none

/-- One link of section n, from its end e (step 2). -/
def State.linkFault (s : State) (n : Nat) (e : EndName) : Option TrackLink → Option CommitFault
  | some (.to m f) =>
    match s.sec? m with
    | none => secFault .unknownId n
    | some y => if y.defn.linkOf f = some (.to n e) then none else secFault .range n
  | _ => none

/-- Step 2: links A, B, C of each section, in this order (log 36). -/
def State.commit2 (s : State) : Option CommitFault :=
  s.sections.findSome? fun p =>
    [EndName.a, .b, .c].findSome? fun e => s.linkFault p.1 e (p.2.defn.linkOf e)

/-- Step 3: every POINT section named by exactly one point, every point naming a defined POINT section. -/
def State.commit3 (s : State) : Option CommitFault :=
  (s.sections.findSome? fun p =>
    if p.2.defn.isPoint ∧ (s.points.filter fun q => decide (q.2.sec = p.1)).length ≠ 1 then secFault .range p.1
    else none).orElse fun _ =>
  s.points.findSome? fun q =>
    match s.sec? q.2.sec with
    | none => pointFault .unknownId q.1
    | some x => if x.defn.isPoint then none else pointFault .range q.1

/-- An address that must hold a record of a type. -/
def State.recordFault (s : State) (a : Nat) (typ : UnitType) : Option Reason :=
  match s.unit? a with
  | none => some .unknownId
  | some u => if u.typ = typ then none else some .range

/-- Step 4: every section at a DETECTOR record, no slot named twice; of one section the record is judged first (log 36). -/
def State.commit4 (s : State) : Option CommitFault :=
  s.sections.findSome? fun p =>
    match s.recordFault p.2.defn.detAddr .detector with
    | some r => secFault r p.1
    | none =>
      if s.sections.any fun q =>
          decide (q.1 ≠ p.1 ∧ q.2.defn.detAddr = p.2.defn.detAddr ∧ q.2.defn.detSlot = p.2.defn.detSlot) then
        secFault .range p.1
      else none

/-- Step 5: every point at a POINT record of its own, every pad at a PAD record of its own; of one point or pad the record
is judged first (log 36). -/
def State.commit5 (s : State) : Option CommitFault :=
  (s.points.findSome? fun p =>
    match s.recordFault p.2.addr .point with
    | some r => pointFault r p.1
    | none =>
      if s.points.any fun q => decide (q.1 ≠ p.1 ∧ q.2.addr = p.2.addr) then pointFault .range p.1 else none).orElse
  fun _ => s.pads.findSome? fun p =>
    match s.recordFault p.2.addr .pad with
    | some r => padFault r p.1
    | none => if s.pads.any fun q => decide (q.1 ≠ p.1 ∧ q.2.addr = p.2.addr) then padFault .range p.1 else none

/-- Step 6: every pad on a defined PLAIN section, its stop offset within it. -/
def State.commit6 (s : State) : Option CommitFault :=
  s.pads.findSome? fun p =>
    match s.sec? p.2.sec with
    | none => padFault .unknownId p.1
    | some x => if x.defn.isPoint ∨ x.defn.len < p.2.stop then padFault .range p.1 else none

/-- The addresses of the MAST records. -/
def State.masts (s : State) : List Nat := (s.units.filter fun p => decide (p.2.typ = .mast)).map (·.1)

/-- Step 7: at most one MAST; the refusal names the second lowest (log 22). -/
def State.commit7 (s : State) : Option CommitFault :=
  match s.masts with
  | _ :: a :: _ => unitFault .range a
  | _ => none

/-- Step 8: no address named by entities of two kinds, no record but the MAST's unnamed. -/
def State.commit8 (s : State) : Option CommitFault :=
  s.units.findSome? fun p =>
    let sec := s.sections.any fun q => decide (q.2.defn.detAddr = p.1)
    let pt := s.points.any fun q => decide (q.2.addr = p.1)
    let pd := s.pads.any fun q => decide (q.2.addr = p.1)
    if (sec && pt) || (sec && pd) || (pt && pd) || (decide (p.2.typ ≠ .mast) && !sec && !pt && !pd) then
      unitFault .range p.1
    else none

/-- Step 9: the quotas fit the authority pool; the refusal names the site (log 22). -/
def State.commit9 (s : State) : Option CommitFault :=
  if (s.trs.toList.map (·.quota)).sum ≤ Config.authorityPool then none else some (.range, .site, 0)

/-- The first check of R184 that fails, with its step. -/
def State.commitFault (s : State) : Option (Nat × CommitFault) :=
  ([(1, s.commit1), (2, s.commit2), (3, s.commit3), (4, s.commit4), (5, s.commit5), (6, s.commit6), (7, s.commit7),
    (8, s.commit8), (9, s.commit9)] : List (Nat × Option CommitFault)).findSome? fun p => p.2.map fun f => (p.1, f)

/-- The runtime state that COMMIT and CONFIGURE clear alike (R8, R37, R41, R90, R91, R105, R136, R137, R156): the
definitions, the parameters, the stop lines, the links and the clock keep their values. -/
def State.clearRun (s : State) : State :=
  { s with
    sections := Table.mapAll s.sections fun x => { x with det := .unknown, capture := s.clock, hold := none }
    points := Table.mapAll s.points fun x => .fresh x.sec x.addr
    pads := Table.mapAll s.pads fun x => .fresh x.sec x.stop x.tol x.addr
    transfers := Vector.replicate 6 none
    trs := s.trs.map Transporter.offline
    routes := Vector.replicate 6 .empty
    ceilings := Vector.replicate 6 0
    waiting := []
    roomWait := false
    walkDue := false
    units := Table.mapAll s.units fun u => .fresh u.typ
    restoreList := []
    cmdQueue := []
    pollPos := s.lowestUnit
    forced := 0
    exchange := none
    padWaiters := []
    gust := none
    mean := none
    mastHold := none }

/-- Move to a site state and tell it (R183). -/
def State.setSite (s : State) (x : SiteState) : State := { s with site := x }.post (.siteChanged x s.site)

/-- The band at COMMIT (R136): HOLD with MAST_PENDING where a MAST is defined, told by WIND_BAND; NORMAL otherwise. -/
def State.commitBand (s : State) : State :=
  if s.masts.isEmpty then { s with band := .normal }
  else { s with band := .hold .mastPending }.post (.windBand (.hold .mastPending) s.band none none)

/-- COMMIT accepted (R185), up to its reply: the survey begins with the first poll (R166). -/
def State.commitAccepted (s : State) : State := (s.setSite .survey).clearRun.commitBand.chooseNext

/-- COMMIT, with its checks (R184). -/
def State.commit (s : State) (l : OpsId) (tag : Byte) : State :=
  if s.site ≠ .unconfigured then s.reply l tag Config.tyCommit .state []
  else
    match s.commitFault with
    | some (step, r, c, n) => s.reply l tag Config.tyCommit r [b8 step, c.code, b8 n]
    | none => s.commitAccepted.reply l tag Config.tyCommit .ok []

/-- COMMIT (R184, R185). -/
def State.onCommit (s : State) (l : OpsId) (tag : Byte) (p : List Byte) : State :=
  s.noFields l tag Config.tyCommit p (s.commit l tag)

/-! ## CONFIGURE (11 R186) -/

/-- Every transporter is OFFLINE. -/
def State.allOffline (s : State) : Bool := allT.all fun t => decide ((s.tr t).state = .offline)

/-- CONFIGURE accepted (R186): beyond what it shares with COMMIT, every telescope becomes UNREGISTERED and the band
NORMAL. -/
def State.configureAccepted (s : State) : State :=
  { (s.setSite .unconfigured).clearRun with telescopes := [], band := .normal }

/-- CONFIGURE (R186). -/
def State.onConfigure (s : State) (l : OpsId) (tag : Byte) (p : List Byte) : State :=
  s.noFields l tag Config.tyConfigure p
    (s.judge l tag Config.tyConfigure [(s.running, .state), (s.allOffline, .state)]
      (fun s => s.configureAccepted) noData)

end Sys2Proof.Machine
end

