-- ==== Sys2Proof/Machine/Requests.lean ====
section
/-! DEFINITION. The seven transporter requests: JOIN, REPORT, ROUTE, GIVEBACK, TRANSFER, STEP, LEAVE (chapters 03, 04,
06 and 08). -/

namespace Sys2Proof.Machine

/-- Judge a transporter request: REFUSE with the first failing check's reason, or the effect. -/
def State.judgeTl (s : State) (t : TId) (ty : Byte) (checks : List (Bool × Reason)) (act : State → State) : State :=
  match firstFailing checks with
  | some r => s.refuse t ty r
  | none => act s

/-! ## JOIN (06 R106 to R108) -/

/-- The far end of section n from end A, as its point stands; none where the point sets no path (R107). -/
def State.farEnd (s : State) (n : Nat) : Option EndName :=
  match s.sec? n with
  | none => none
  | some x =>
    if x.defn.isPoint then
      match s.pointOf n with
      | some (_, z) =>
        (match z.pos with
         | .normal => some .b
         | .reverse => some .c
         | _ => none)
      | none => none
    else some .b

/-- The front entry of a JOIN (R107), with index 0 for now. -/
def State.joinFront (s : State) (n : Nat) (d : Dir) : Option Entry :=
  (s.farEnd n).map fun e =>
    match d with
    | .up => ⟨n, .a, e, 0⟩
    | .down => ⟨n, e, .a, 0⟩

/-- The end of section m that is linked to an end of another section. -/
def State.endLinkedTo (s : State) (m : Nat) (n : Nat) (e : EndName) : Option EndName :=
  (s.sec? m).bind fun x => [EndName.a, .b, .c].find? fun f => decide (x.defn.linkOf f = some (.to n e))

/-- The rear entry of a JOIN (R107): its exit end is linked to the front entry's entry end, along the path its point
sets. -/
def State.joinRear (s : State) (m : Nat) (front : Entry) : Option Entry :=
  match s.endLinkedTo m front.sec front.ent, s.farEnd m with
  | some x, some far =>
    if x = .a then some ⟨m, far, .a, 0⟩ else if x = far then some ⟨m, .a, x, 0⟩ else none
  | _, _ => none

/-- The point of a section, where it is a POINT section, satisfies a test (R106 steps 4 and 5). -/
def State.pointPasses (s : State) (n : Nat) (q : Point → Bool) : Bool :=
  match s.pointOf n with
  | some (_, x) => q x
  | none => true

/-- Number entries from k (R39). -/
def numberFrom : Nat → List Entry → List Entry
  | _, [] => []
  | k, e :: r => { e with index := k } :: numberFrom (k + 1) r

/-- The checks of R106 from step 3 on, and the standing entries, rear first. -/
def State.joinChecks (s : State) (j : JoinFields) (d : Dir) : List (Bool × Reason) :=
  let secs := j.sec :: j.rear.toList
  let detOk : Detection → Bool := fun d => decide (d = .occupied ∨ d = .disturbed)
  [(secs.all s.sectionDefined, .unknownId),
   (secs.all fun n => s.pointPasses n fun x => x.latch.isNone, .pointFault),
   (secs.all fun n => s.pointPasses n fun x => decide (x.pos = .normal ∨ x.pos = .reverse), .moving),
   (decide (j.rear ≠ some j.sec), .repeatedSection),
   (match s.joinFront j.sec d, j.rear with
    | some f, some m => (s.joinRear m f).isSome
    | some _, none => true
    | none, _ => false, .notContiguous),
   (secs.all fun n => ((s.sec? n).bind (·.hold)).isNone, .held),
   (secs.all fun n => detOk (s.detOf n), .notClear)]

/-- The standing entries, numbered from 1 at the rear (R107, R108). -/
def State.standing (s : State) (j : JoinFields) (d : Dir) : List Entry :=
  match s.joinFront j.sec d with
  | none => []
  | some f => numberFrom 1 (((j.rear.bind fun m => s.joinRear m f).toList) ++ [f])

/-- JOIN accepted (R108). -/
def State.joinAccepted (s : State) (t : TId) (j : JoinFields) (d : Dir) (ld : Bool) : State :=
  let es := s.standing j d
  match es.getLast? with
  | none => s
  | some f =>
    let off := min j.off (s.pathLen f)
    let p : RoutePos := ⟨f.index, s.travelled f j.off⟩
    let s1 := s.modRoute t fun _ => ⟨es, some f.index, some p, p.off, 1, f.index + 1, false⟩
    let s2 := es.foldl (fun s e => (s.setHold e.sec (some ⟨t, .granted, true⟩)).lockPoint t e.sec) s1
    let s3 := s2.modTr t fun x =>
      { x with
        state := .parked, stop := .empty, trips := .empty, superv := some (.load x.supervision)
        last := some ⟨j.sec, off, d, 0, ld, 0, j.rear⟩, standSeen := false, awaitingFix := false }
    ((s3.evalStop t).formAuth t).postGranted t (es.map (·.sec))

/-- JOIN, its fields read (R106). -/
def State.joinRequest (s : State) (t : TId) (j : JoinFields) : State :=
  match j.dir, j.load with
  | some d, some ld =>
    s.judgeTl t Config.tyJoin
      ((s.running && decide ((s.tr t).state = .offline), .state) :: s.joinChecks j d)
      (fun s => s.joinAccepted t j d ld)
  | _, _ => s.refuse t Config.tyJoin .range

/-- JOIN (R106 to R108). -/
def State.onJoin (s : State) (t : TId) (p : List Byte) : State :=
  match parseJoin p with
  | some j => s.joinRequest t j
  | none => s.refuse t Config.tyJoin .frame

/-! ## REPORT (06 R111 to R113, R118; 04 R81, R82; 05 R101) -/

/-- A report as held, its speed clamped to 500 (R111 step 1). -/
def reportOf (r : ReportFields) (d : Dir) (ld : Bool) : Report :=
  ⟨r.sec, r.off, d, min r.speed 500, ld, r.echo, r.rear⟩

/-- The front and the rear of a report lie in sections t holds firmly, the rear at or behind the front (R111 step 2). -/
def State.reportHeld (s : State) (t : TId) (r : Report) : Bool :=
  s.heldFirm t r.sec &&
  (match r.rear with
   | none => true
   | some m =>
     s.heldFirm t m &&
     (match s.entryOf t m, s.entryOf t r.sec with
      | some e, some f => decide (e.index ≤ f.index)
      | _, _ => false))

/-- The last report is replaced, its offset clamped to the front's entry (R111 step 3). -/
def State.takeReport (s : State) (t : TId) (r : Report) : State :=
  let off := match s.entryOf t r.sec with
    | some f => min r.off (s.pathLen f)
    | none => r.off
  s.modTr t fun x => { x with last := some { r with off := off } }

/-- The front entry becomes the entry of the front section, where t holds it firmly. -/
def State.setFront (s : State) (t : TId) (n : Nat) : State :=
  if s.heldFirm t n then
    match s.entryOf t n with
    | some f => s.modRoute t fun x => { x with front := some f.index }
    | none => s
  else s

/-- The echo release (04 R81): the run is released in route order, kept in the record or cut from it by the keep
mark. Whether such a release is the event 'A section of the transporter is released' of R69, whose source is given as R71
alone, is left open: the model does not test the rear after it (the model's choice, log 39). -/
def State.echoRelease (s : State) (t : TId) : State :=
  let keep := (s.route t).keep
  let s1 := s.releaseAll t (s.pendingRun t) .echo keep
  let s2 := if keep then s1.joinQueue t else (s1.dropTail t).finalToEnd t
  s2.clearKeep t

/-- Whether the front entry lies at or before the end entry. -/
def State.frontWithin (s : State) (t : TId) : Bool :=
  match (s.route t).front, (s.route t).endPos with
  | some f, some p => decide (f ≤ p.idx)
  | _, _ => false

/-- The park test (R112). -/
def State.parkTest (s : State) (t : TId) (v : Nat) : Bool :=
  decide (v = 0) && (s.tail t).isEmpty && (s.settingRun t).isEmpty && (s.pendingRun t).isEmpty &&
  decide (s.distanceToGo t ≤ s.params.parkTol)

/-- Step 5 of R111: whether motion while standing trips t. -/
def State.standingMotion (s : State) (t : TId) (r : Report) : Bool :=
  match (s.tr t).state with
  | .parked => decide (s.params.overspeedTol < r.speed)
  | .transfer =>
    decide (s.params.overspeedTol < r.speed) ||
    (match (s.transfers[t]).bind fun x => s.pad? x.pad with
     | some p => decide (p.sec ≠ r.sec)
     | none => false)
  | .held => (s.tr t).standSeen && decide (s.params.overspeedTol < r.speed)
  | _ => false

/-- Step 4 of R111: an AUTHORISED transporter runs against the sense of its front entry. -/
def State.runsBack (s : State) (t : TId) (r : Report) : Bool :=
  decide ((s.tr t).state = .authorised ∧ 0 < r.speed) &&
  (match s.frontEntry t with
   | some f => decide (r.dir ≠ senseOf f.ent)
   | none => false)

/-- A report that echoes the current number with its front in the pending run (04 R82). -/
def State.runsOver (s : State) (t : TId) (r : Report) : Bool :=
  !(s.pendingRun t).isEmpty && decide (r.echo = (s.route t).authNum) && !s.frontWithin t

/-- A report that releases the pending run (04 R81). -/
def State.echoes (s : State) (t : TId) (r : Report) : Bool :=
  !(s.pendingRun t).isEmpty && decide (r.echo = (s.route t).authNum) && s.frontWithin t

/-- The overspeed check (05 R101). -/
def State.overspeeds (s : State) (t : TId) (r : Report) : Bool :=
  decide ((s.tr t).state = .authorised ∧ r.echo = (s.route t).authNum ∧
    s.curve t + s.params.overspeedTol < r.speed)

/-- Steps 8 and 9 of R111. -/
def State.parkAndAnswer (s : State) (t : TId) (r : Report) : State :=
  (if (s.tr t).state = .authorised ∧ s.parkTest t r.speed then s.modTr t fun x => { x with state := .parked }
   else s).formAuth t

/-- The stand-seen flag (R111 step 5). -/
def State.seeStand (s : State) (t : TId) (r : Report) : State :=
  if (s.tr t).state = .held ∧ r.speed ≤ s.params.overspeedTol then s.modTr t fun x => { x with standSeen := true }
  else s

/-- Steps 6 to 9 of R111. -/
def State.echoStep (s : State) (t : TId) (r : Report) : State :=
  if s.runsOver t r then s.tripAny t .excursion
  else
    let s1 := if s.echoes t r then s.echoRelease t else s
    if s1.overspeeds t r then s1.tripAny t .overspeed else s1.parkAndAnswer t r

/-- A REPORT in PARKED, AUTHORISED, HELD or TRANSFER (R111). -/
def State.liveReport (s : State) (t : TId) (r : Report) : State :=
  if !s.reportHeld t r then s.tripAny t .excursion
  else
    let old := (s.route t).front
    let s1 := (s.takeReport t r).setFront t r.sec
    let s2 := if (s1.route t).front = old then s1 else s1.cascade t
    if s2.runsBack t r then s2.tripAny t .wrongDirection
    else if s2.standingMotion t r then s2.tripAny t .unauthorisedMotion
    else (s2.seeStand t r).echoStep t r

/-- A REPORT in TRIPPED, taken into the record (R113): where the front is not held firmly its offset stays as
reported and the front entry keeps its value. -/
def State.noteReport (s : State) (t : TId) (r : Report) : State :=
  if s.heldFirm t r.sec then (s.takeReport t r).setFront t r.sec
  else s.modTr t fun x => { x with last := some r }

/-- The rearmost index of the kept run (R118 step 1): from the front entry, through the named rear entry, then
rearward while the detection is not CLEAR. -/
def State.keptFrom (s : State) (t : TId) (f : Nat) (rear : Option Nat) : Nat :=
  let named : Nat := ((rear.bind fun m => (s.heldRun t).find? fun e => decide (e.sec = m)).map fun e =>
    min e.index f).getD f
  let behind := ((s.heldRun t).filter fun e => decide (e.index < named)).reverse
  named - (behind.takeWhile fun e => decide (s.detOf e.sec ≠ .clear)).length

/-- Recovery onto the kept run (R118 steps 1 to 7), and the release test of the new rear (04 R69). R118 numbers no step for
that test and R69 gives it no place: it is made last, after AUTH and RESUMED, so that RELEASED (REAR) stands behind RESUMED
(log 33). -/
def State.recovered (s : State) (t : TId) (f : Entry) (r : Report) : State :=
  let lo := s.keptFrom t f.index r.rear
  let behind := (s.heldRun t).filter fun e => decide (e.index < lo)
  let ahead := (s.heldRun t).filter fun e => decide (f.index < e.index)
  let kept := (s.heldRun t).filter fun e => decide (lo ≤ e.index ∧ e.index ≤ f.index)
  let s1 := (s.releaseAll t behind .recover false).releaseAll t ahead .recover false
  let s2 := kept.foldl (fun s e => s.setHold e.sec (some ⟨t, .granted, true⟩)) s1
  let p : RoutePos := ⟨f.index, s.travelled f r.off⟩
  let s3 := s2.modRoute t fun x => { x with entries := kept, endPos := some p, finalOff := p.off, keep := false }.followLast
  let s4 := (s3.modTr t fun x => { x with trips := .empty, awaitingFix := false }).bumpAuth t
  let s5 := (s4.modTr t fun x => { x with state := .parked }).evalStop t
  ((s5.formAuth t).post (.resumed t (s5.route t).authNum .parked)).cascade t

/-- A fix report (R118). -/
def State.fixReport (s : State) (t : TId) (r : Report) : State :=
  let s1 := s.noteReport t r
  match (if s.heldFirm t r.sec && decide (r.speed ≤ s.params.overspeedTol) then s.entryOf t r.sec else none) with
  | some f => s1.recovered t f r
  | none =>
    ((s1.modTr t fun x => { x with awaitingFix := false }).post (.recoverFailed t r.sec r.speed)).formAuth t

/-- REPORT by the state of its transporter (R109, R111, R113, R118). -/
def State.handleReport (s : State) (t : TId) (r : Report) : State :=
  match (s.tr t).state with
  | .offline => s.refuse t Config.tyReport .state
  | .tripped => if (s.tr t).awaitingFix then s.fixReport t r else (s.noteReport t r).formAuth t
  | _ => s.liveReport t r

/-- REPORT (R111); a bad code is refused with RANGE and changes no record (R180). -/
def State.onReport (s : State) (t : TId) (p : List Byte) : State :=
  match parseReport p with
  | none => s.refuse t Config.tyReport .frame
  | some r =>
    match r.dir, r.load with
    | some d, some ld => s.handleReport t (reportOf r d ld)
    | _, _ => s.refuse t Config.tyReport .range

/-! ## ROUTE (03 R42 to R47) -/

/-- The triple of an entry. -/
def Entry.triple (e : Entry) : Triple := ⟨e.sec, e.ent, e.ext⟩

/-- An entry read the other way round (R43). -/
def Entry.flip (e : Entry) : Entry := { e with ent := e.ext, ext := e.ent }

/-- A request's triple as an entry, not yet numbered. -/
def Triple.entry (x : Triple) : Entry := ⟨x.sec, x.ent, x.ext, 0⟩

/-- The request asks a PARKED transporter's held run to be read the other way round (R43). -/
def wantsFlip (f : Entry) (ts : List Triple) : Bool :=
  match ts with
  | x :: _ => decide (x = f.flip.triple)
  | [] => false

/-- The held run as the request reads it (R43). -/
def State.orientedRun (s : State) (t : TId) (flip : Bool) : List Entry :=
  if flip then (s.grantedRun t).reverse.map Entry.flip else s.grantedRun t

/-- The entries of an oriented run from the front on. -/
def fromFront (run : List Entry) (f : Entry) : List Entry := run.dropWhile fun e => decide (e.sec ≠ f.sec)

/-- The start of a request meets the record (R43). -/
def State.startMatches (s : State) (t : TId) (ts : List Triple) : Bool :=
  if (s.tr t).state = .parked then
    match s.frontEntry t with
    | none => false
    | some f =>
      let held := (fromFront (s.orientedRun t (wantsFlip f ts)) f).map Entry.triple
      !held.isEmpty && decide (ts.take held.length = held)
  else
    match (s.route t).endPos.bind fun p => s.entryAt t p.idx with
    | some e => decide (ts.head? = some e.triple)
    | none => false

/-- The request's entries that are not repeats of held entries. -/
def State.newEntries (s : State) (t : TId) (ts : List Triple) : List Entry :=
  if (s.tr t).state = .parked then
    match s.frontEntry t with
    | some f => (ts.drop (fromFront (s.orientedRun t (wantsFlip f ts)) f).length).map Triple.entry
    | none => []
  else (ts.drop 1).map Triple.entry

/-- The record's entries as they would stand after acceptance (R44, R45). -/
def State.routeAfter (s : State) (t : TId) (ts : List Triple) : List Entry :=
  if (s.tr t).state = .parked then
    match s.frontEntry t with
    | some f => numberFrom 1 (s.orientedRun t (wantsFlip f ts) ++ s.newEntries t ts)
    | none => []
  else (s.route t).entries ++ numberFrom (s.route t).nextIdx (s.newEntries t ts)

/-- No section stands twice in a list of entries. -/
def distinctSections : List Entry → Bool
  | [] => true
  | e :: r => r.all (fun f => decide (f.sec ≠ e.sec)) && distinctSections r

/-- The present end read in the record as a request of a PARKED transporter will rebuild it (R46, log 16): the same
physical place, in the new numbering and sense. -/
def State.endRebuilt (s : State) (t : TId) (ts : List Triple) : Option RoutePos :=
  match (s.route t).endPos with
  | none => none
  | some p =>
    match s.entryAt t p.idx, s.frontEntry t with
    | some e, some f =>
      if (s.tr t).state = .parked then
        ((s.routeAfter t ts).find? fun g => decide (g.sec = e.sec)).map fun g =>
          ⟨g.index, if wantsFlip f ts then s.pathLen e - p.off else p.off⟩
      else some p
    | _, _ => none

/-- The end a request that adds no entry asks for (R46): its last entry at the final stop offset. -/
def State.endAsked (s : State) (t : TId) (ts : List Triple) (final : Nat) : Option RoutePos :=
  match ts.getLast? with
  | none => none
  | some x => ((s.routeAfter t ts).find? fun g => decide (g.sec = x.sec)).map fun g => ⟨g.index, final⟩

/-- Where the end asked for lies behind the present end. -/
def State.endBehind (s : State) (t : TId) (ts : List Triple) (final : Nat) : Bool :=
  match s.endAsked t ts final, s.endRebuilt t ts with
  | some new, some old => old.ahead new
  | _, _ => false

/-- Where the end asked for lies ahead of the present end. -/
def State.endAhead (s : State) (t : TId) (ts : List Triple) (final : Nat) : Bool :=
  match s.endAsked t ts final, s.endRebuilt t ts with
  | some new, some old => new.ahead old
  | _, _ => false

/-- The state takes a ROUTE (R42 step 2). -/
def State.routeState (s : State) (t : TId) : Bool :=
  s.running && (s.pendingRun t).isEmpty &&
  (match (s.tr t).state with
   | .parked => true
   | .authorised => (s.settingRun t).isEmpty && (s.tail t).isEmpty
   | .held => (s.settingRun t).isEmpty && (s.tail t).isEmpty
   | _ => false)

/-- Steps 2 to 8 of R42. -/
def State.routeChecks (s : State) (t : TId) (ts : List Triple) (final : Nat) : List (Bool × Reason) :=
  let es := s.routeAfter t ts
  [(s.routeState t, .state), (ts.all fun x => s.sectionDefined x.sec, .unknownId),
   (s.contiguous (ts.map Triple.entry), .notContiguous), (s.startMatches t ts, .startMismatch),
   (distinctSections es, .repeatedSection),
   (decide (es.length ≤ (s.tr t).quota) && es.all fun e => decide (e.index ≤ Config.maxIndex), .quota),
   (decide (final ≤ ((ts.getLast?.map fun x => s.pathLen x.entry)).getD 0) &&
     (!(s.newEntries t ts).isEmpty || !s.endBehind t ts final), .range)]

/-- Join the queue at its tail where the route is not fully granted (R47). -/
def State.queueIfOpen (s : State) (t : TId) : State := if s.fullyGranted t then s else s.joinQueue t

/-- R44 steps 1 to 4: the record of a PARKED transporter is rebuilt. -/
def State.rebuild (s : State) (t : TId) (ts : List Triple) (final : Nat) : State :=
  let s1 := s.withdrawRoute t
  let es := s1.routeAfter t ts
  let front := (s1.frontEntry t).bind fun f => (es.find? fun g => decide (g.sec = f.sec)).map (·.index)
  let s2 := s1.modRoute t fun r =>
    { r with entries := es, front := front, finalOff := final, nextIdx := es.length + 1 }
  s2.modRoute t fun r => { r with endPos := s2.grantedEnd t }

/-- The end as an AUTH names it: section, index, offset. -/
def State.endTriple (s : State) (t : TId) : Option (Nat × RoutePos) :=
  (s.route t).endPos.bind fun p => (s.entryAt t p.idx).map fun e => (e.sec, p)

/-- ROUTE accepted in PARKED (R44, R46, R47). -/
def State.routeParked (s : State) (t : TId) (ts : List Triple) (final : Nat) : State :=
  let s1 := s.rebuild t ts final
  if (s.newEntries t ts).isEmpty && s.endAhead t ts final then s1.completeGrant t []
  else
    let s2 := if s1.endTriple t = s.endTriple t then s1 else (s1.bumpAuth t).formAuth t
    (s2.evaluate t).queueIfOpen t

/-- ROUTE accepted in AUTHORISED or HELD (R45, R46, R47). -/
def State.routeRunning (s : State) (t : TId) (ts : List Triple) (final : Nat) : State :=
  let es := s.routeAfter t ts
  let new := s.newEntries t ts
  let s1 := s.modRoute t fun r =>
    { r with entries := es, finalOff := final, nextIdx := r.nextIdx + new.length }
  if new.isEmpty then
    (if s.endAhead t ts final then s1.completeGrant t [] else s1)
  else (s1.evaluate t).queueIfOpen t

/-- ROUTE, its fields read (R42). -/
def State.routeRequest (s : State) (t : TId) (ts : List Triple) (final : Nat) : State :=
  s.judgeTl t Config.tyRoute (s.routeChecks t ts final) fun s =>
    if (s.tr t).state = .parked then s.routeParked t ts final else s.routeRunning t ts final

/-- ROUTE (R42 to R47); an end code outside its set is refused with RANGE after the length (R180). -/
def State.onRoute (s : State) (t : TId) (p : List Byte) : State :=
  match parseRoute p with
  | none => s.refuse t Config.tyRoute .frame
  | some (_, none) => s.refuse t Config.tyRoute .range
  | some (final, some ts) => s.routeRequest t ts final

/-! ## GIVEBACK (04 R74) -/

/-- GIVEBACK, its fields read. -/
def State.givebackRequest (s : State) (t : TId) (e : RoutePos) : State :=
  s.judgeTl t Config.tyGiveback
    ([(s.running, .state), ((s.tr t).state.shortenable, .state)] ++ s.endChecks t e)
    fun s => (s.shorten t e true).1

/-- GIVEBACK (R74). -/
def State.onGiveback (s : State) (t : TId) (p : List Byte) : State :=
  match parsePos p with
  | none => s.refuse t Config.tyGiveback .frame
  | some e => s.givebackRequest t e

/-! ## TRANSFER (08 R146, R147) -/

/-- The telescope that rides on t, ON_TRANSPORTER(t). -/
def State.carried (s : State) (t : TId) : Option Nat :=
  (s.telescopes.find? fun p => decide (p.2 = .onTransporter t)).map (·.1)

/-- The telescope a transfer concerns (R147): the one on the pad, or the one t carries. -/
def State.xferTelescope (s : State) (t : TId) (x : Pad) : XferKind → Option Nat
  | .lift => match x.st with | .occupied k => some k | _ => none
  | .place => s.carried t

/-- Step 6 of R146: the front is on the pad's section, within the tolerance of the stop offset. -/
def State.aligned (s : State) (t : TId) (x : Pad) : Bool :=
  match (s.tr t).last with
  | some r => decide (r.sec = x.sec ∧ r.off ≤ x.stop + x.tol ∧ x.stop ≤ r.off + x.tol)
  | none => false

/-- Steps 5 to 11 of R146. -/
def State.transferChecks (s : State) (t : TId) (x : Pad) (k : XferKind) : List (Bool × Reason) :=
  [(decide (s.speed t = 0), .moving), (s.aligned t x, .alignment), (!x.silent, .unitSilent),
   (match k with
    | .lift => (s.telescopeAt t).isNone && !s.loadSensed t
    | .place => (s.carried t).isSome, .loadMismatch),
   ((match k with
     | .lift => (s.xferTelescope t x .lift).isSome
     | .place => decide (x.st = .vacant ∧ (x.reserv = none ∨ x.reserv = s.carried t))) && x.unwatched, .padState),
   (match k with | .lift => decide (x.load = .loaded) | .place => decide (x.load = .empty), .loadMismatch),
   (match k with | .lift => decide (s.cmdQueue.length < Config.cmdCapacity) | .place => true, .state)]

/-- TRANSFER accepted (R147). -/
def State.transferAccepted (s : State) (t : TId) (n : Nat) (x : Pad) (k : XferKind) : State :=
  match s.xferTelescope t x k with
  | none => s
  | some tel =>
    let s1 := (s.withdrawRoute t).finalToEnd t
    let rec0 : Transfer := ⟨n, k, tel, .unclamp, .none, false, none, false⟩
    let s2 := (s1.modPad n fun x => { x with st := .transfer t }).modTr t fun x => { x with state := .transfer }
    let s3 := s2.beginStage t rec0 (match k with | .lift => .unclamp | .place => .lower)
    s3.formAuth t

/-- Step 2 of R146. -/
def State.transferState (s : State) (t : TId) : Bool :=
  s.running && decide ((s.tr t).state = .parked) && (s.pendingRun t).isEmpty

/-- TRANSFER, its fields read (R146 steps 2 to 11). -/
def State.transferRequest (s : State) (t : TId) (n : Nat) (kind : Byte) : State :=
  match s.padIn n with
  | none => s.judgeTl t Config.tyTransfer [(s.transferState t, .state), (false, .unknownId)] id
  | some x =>
    match xferKindOf kind with
    | none => s.judgeTl t Config.tyTransfer [(s.transferState t, .state), (false, .range)] id
    | some k =>
      s.judgeTl t Config.tyTransfer ((s.transferState t, .state) :: s.transferChecks t x k)
        fun s => s.transferAccepted t n x k

/-- TRANSFER (R146, R147). -/
def State.onTransfer (s : State) (t : TId) (p : List Byte) : State :=
  match p with
  | [n, kind] => s.transferRequest t n.toNat kind
  | _ => s.refuse t Config.tyTransfer .frame

/-! ## STEP (08 R149) -/

/-- The stage a STEP ends. -/
def Stage.jacks : Stage → Bool
  | .raise => true
  | .lower => true
  | _ => false

/-- STEP, its result read: DONE is true. -/
def State.stepRequest (s : State) (t : TId) (done : Bool) : State :=
  match s.transfers[t] with
  | some x =>
    if x.stage.jacks then (if done then s.endStage t x else s.abort t .stepFailed)
    else s.refuse t Config.tyStep .state
  | none => s.refuse t Config.tyStep .state

/-- STEP (R149); a result outside its set is refused with RANGE (R180). -/
def State.onStepResult (s : State) (t : TId) (p : List Byte) : State :=
  match p with
  | [r] =>
    match flagOf r with
    | some failed => s.stepRequest t (!failed)
    | none => s.refuse t Config.tyStep .range
  | _ => s.refuse t Config.tyStep .frame

/-! ## LEAVE (06 R120) -/

/-- LEAVE (R120); its one payload byte is ignored (R179). -/
def State.onLeave (s : State) (t : TId) (p : List Byte) : State :=
  match p with
  | [_] =>
    s.judgeTl t Config.tyLeave [(s.running && decide ((s.tr t).state = .parked), .state)] fun s => s.goOffline t .leave
  | _ => s.refuse t Config.tyLeave .frame

end Sys2Proof.Machine
end

