-- ==== Sys2Proof/Machine/Events.lean ====
section
/-! DEFINITION. The events that no message carries: the ends of field-bus exchanges, countdown expiries, stop-line
edges, and the walk of the pending queue. An expiry of a countdown that is not running, and a walk that is not due,
change nothing (log 2, log 3). -/

namespace Sys2Proof.Machine

/-- FIELDBUS_GOOD_REPLY (09 R158, R160): the characters of a reply; one that fails a test of R158 is a miss. -/
def execFieldbusGoodReply (chars : List BusChar) (s : State) : Host.Outcome State Fault Refusal :=
  .next (s.live fun s => s.busReply chars)

/-- FIELDBUS_MISS (09 R159, R161). -/
def execFieldbusMiss (s : State) : Host.Outcome State Fault Refusal := .next (s.live fun s => s.miss)

/-- A countdown that may be stopped is running. -/
def cdRunning : Option Countdown → Bool
  | some c => c.running
  | none => false

/-- The throw countdown of point p reaches 0 (02 R30). -/
def State.throwExpires (s : State) (p : Nat) : State :=
  match s.point? p with
  | some x =>
    if x.pos = .moving ∧ cdRunning x.throwCd then s.faultPoint p .throwTimeout .unknown (x.cmd.map Blade.pos) else s
  | none => s

/-- THROW_TIMEOUT (R30). -/
def execThrowTimeout (p : Nat) (s : State) : Host.Outcome State Fault Refusal :=
  .next (s.live fun s => s.throwExpires p)

/-- The wait of t's pending entry expires (03 R61). -/
def State.waitExpires (s : State) (t : TId) : State :=
  if s.waiting.any fun w => decide (w.t = t) && cdRunning w.wait then
    let s1 := (s.leaveQueue t).dropSetting t
    let cut := ((s1.tail t).head?).map (·.index)
    ((((s1.dropTail t).finalToEnd t).clearKeep t).refuse t Config.tyRoute .waitExpired).post (.waitExpired t cut)
  else s

/-- WAIT_EXPIRED (R61). -/
def execWaitExpired (t : TId) (s : State) : Host.Outcome State Fault Refusal :=
  .next (s.live fun s => s.waitExpires t)

/-- The supervision countdown of t reaches 0 and stays there (06 R110). -/
def State.supervisionExpires (s : State) (t : TId) : State :=
  if (s.tr t).state ≠ .offline ∧ cdRunning (s.tr t).superv then
    (s.modTr t fun x => { x with superv := some (.load 0), awaitingFix := false }).tripAny t .link
  else s

/-- SUPERVISION_EXPIRY (R110). -/
def execSupervisionExpiry (t : TId) (s : State) : Host.Outcome State Fault Refusal :=
  .next (s.live fun s => s.supervisionExpires t)

/-- The stage countdown of t's transfer reaches 0 (08 R148, R151). -/
def State.stageExpires (s : State) (t : TId) : State :=
  match s.transfers[t] with
  | some x => if cdRunning x.cd then s.abort t .timeout else s
  | none => s

/-- STAGE_TIMEOUT (R148). -/
def execStageTimeout (t : TId) (s : State) : Host.Outcome State Fault Refusal :=
  .next (s.live fun s => s.stageExpires t)

/-- The countdown of pad p's clamp watch reaches 0 (08 R141). -/
def State.watchExpires (s : State) (p : Nat) : State :=
  match s.pad? p with
  | some x =>
    (match x.watch with
     | .running c => if c.running then s.failWatch p else s
     | _ => s)
  | none => s

/-- CLAMP_FAILED (R141). -/
def execClampFailed (p : Nat) (s : State) : Host.Outcome State Fault Refusal :=
  .next (s.live fun s => s.watchExpires p)

/-- MAST_LOST: the mast-hold countdown reaches 0 (07 R135). -/
def execMastLost (s : State) : Host.Outcome State Fault Refusal :=
  .next (s.live fun s => if s.mastRunning then s.mastExpired else s)

/-- STOP_LINE_EDGE (07 R125, R126). -/
def execStopLineEdge (n : Fin 8) (asserted : Bool) (s : State) : Host.Outcome State Fault Refusal :=
  .next (s.live fun s => s.lineEdge n asserted)

/-- A walk that is due (03 R63, R64). -/
def State.walkIfDue (s : State) : State := if s.walkDue then s.walk else s

/-- PENDING_QUEUE_WALK (R64). -/
def execPendingQueueWalk (s : State) : Host.Outcome State Fault Refusal := .next (s.live fun s => s.walkIfDue)

/-! ## One millisecond (log 2) -/

/-- A countdown that may be stopped, one millisecond on. -/
def tickCd (c : Option Countdown) : Option Countdown := c.map fun c => c.tick.1

/-- The countdown expires in this millisecond. -/
def expiresNow : Option Countdown → Bool
  | some c => c.tick.2
  | none => false

/-- A watch, one millisecond on. -/
def Watch.tick : Watch → Watch
  | .running c => .running c.tick.1
  | w => w

/-- A watch expires in this millisecond. -/
def Watch.expiresNow : Watch → Bool
  | .running c => c.tick.2
  | _ => false

/-- The expiries of this millisecond, as commands, in a fixed order: throws, supervision, waits, stages, watches, the
mast (log 2). -/
def State.expiries (s : State) : List Instr :=
  ((s.points.filter fun p => expiresNow p.2.throwCd).map fun p => Instr.throwTimeout p.1) ++
  ((allT.filter fun t => expiresNow (s.tr t).superv).map Instr.supervisionExpiry) ++
  ((s.waiting.filter fun w => expiresNow w.wait).map fun w => Instr.waitExpired w.t) ++
  ((allT.filter fun t => expiresNow ((s.transfers[t]).bind (·.cd))).map Instr.stageTimeout) ++
  ((s.pads.filter fun p => p.2.watch.expiresNow).map fun p => Instr.clampFailed p.1) ++
  (if expiresNow s.mastHold then [Instr.mastLost] else [])

/-- One millisecond passes: the movement clock counts (11 R190), every countdown runs, what expires joins the waiting
commands, and a request on the bus is sent, so that FDE is released and the reply window opens (09 R157, log 12). -/
def State.tick (s : State) : State :=
  { s with
    clock := s.clock + 1
    points := Table.mapAll s.points fun x => { x with throwCd := tickCd x.throwCd }
    trs := s.trs.map fun x => { x with superv := tickCd x.superv }
    waiting := s.waiting.map fun w => { w with wait := tickCd w.wait }
    transfers := s.transfers.map fun x => x.map fun x => { x with cd := tickCd x.cd }
    pads := Table.mapAll s.pads fun x => { x with watch := x.watch.tick }
    mastHold := tickCd s.mastHold
    exchange := s.exchange.map fun x => { x with fde := false }
    pending := s.pending ++ s.expiries }

/-- What the block does when no command waits: it is held in reset, it walks when a walk is due, or a millisecond
passes (log 2). -/
def State.idle (s : State) : State := s.live fun s => if s.walkDue then s.walk else s.tick

end Sys2Proof.Machine
end

