-- ==== Sys2Proof/Machine/Resets.lean ====
section
/-! DEFINITION. The resets: the three scopes of RESET (11 R190, R191), the causes of a full reset that come from
outside, and the end of the clock start-up. -/

namespace Sys2Proof.Machine

/-! ## Full resets (R190) -/

/-- A full reset begins, or its hold is extended: the record keeps the cause that began it. While it is held the bus
is released and nothing is sent (log 11). -/
def State.beginReset (s : State) (c : ResetCause) (supply line : Bool) : State :=
  match s.resetHold with
  | some h => { s with resetHold := some { h with supply := h.supply || supply, line := h.line || line } }
  | none => { s with resetHold := some ⟨c, supply, line⟩, exchange := none }

/-- POWER_ON (R190). -/
def execPowerOn (s : State) : Host.Outcome State Fault Refusal := .next (s.beginReset .powerOn true false)

/-- SUPPLY_LOW (R190). -/
def execSupplyLow (s : State) : Host.Outcome State Fault Refusal := .next (s.beginReset .supplyLow true false)

/-- RESET_LINE (R190). -/
def execResetLine (s : State) : Host.Outcome State Fault Refusal := .next (s.beginReset .resetLine false true)

/-- CLOCK_START_UP_END (R190 steps 1 to 4): every hold has ended and the start-up is over. The commands that wait are
the harness's own queue and stay. -/
def execClockStartUpEnd (s : State) : Host.Outcome State Fault Refusal :=
  .next (match s.resetHold with
    | some h => { State.afterReset h.cause with pending := s.pending }
    | none => s)

/-! ## RESET (R191) -/

/-- RESET LINK n, its number read: UNKNOWN_ID for no link; the port is reset and then REPLY OK is queued. -/
def State.resetLinkCommand (s : State) (l : OpsId) (tag : Byte) (n : Nat) : State :=
  match portOf n with
  | some q => (s.resetPort q).reply l tag Config.tyReset .ok []
  | none => s.reply l tag Config.tyReset .unknownId []

/-- A point is MOVING. -/
def State.anyMoving (s : State) : Bool := s.points.any fun p => decide (p.2.pos = .moving)

/-- A transfer record exists. -/
def State.anyTransfer (s : State) : Bool := allT.any fun t => (s.transfers[t]).isSome

/-- RESET FIELDBUS (R191, 09 R167). -/
def State.resetFieldbusCommand (s : State) (l : OpsId) (tag : Byte) : State :=
  s.judge l tag Config.tyReset
    [(decide (s.site ≠ .unconfigured), .state), (!s.anyTransfer && !s.anyMoving, .state)]
    (fun s => s.resetBus) noData

/-- RESET by its scope byte and link number (log 10): a scope outside its set, and a link number other than 0 with
FIELDBUS or ALL, are refused with RANGE. -/
def State.resetCommand (s : State) (l : OpsId) (tag : Byte) (p : List Byte) : State :=
  match p with
  | [scope, n] =>
    if scope = 0 then s.resetLinkCommand l tag n.toNat
    else if (scope = 1 ∨ scope = 2) ∧ n = 0 then
      (if scope = 1 then s.resetFieldbusCommand l tag else s.beginReset .commanded false false)
    else s.reply l tag Config.tyReset .range []
  | _ => s.reply l tag Config.tyReset .frame []

end Sys2Proof.Machine
end

