-- ==== Sys2Proof/Machine/Intake.lean ====
section
/-! DEFINITION. How the controller takes the frames that arrive (10 R169 to R171, R176, R180): the owner of each type, the
intake of a receive queue, and the receiver that assembles frames from bytes. -/

namespace Sys2Proof.Machine

/-! ## Owners (R180, 10.3) -/

/-- The operations commands by type code (10.3.2), each with what its owner does with its tag and payload. -/
def opsOwners : List (Byte × (State → OpsId → Byte → List Byte → State)) :=
  [(Config.tyQSite, State.onQSite),
   (Config.tyQSection, State.onQSection),
   (Config.tyQPoint, State.onQPoint),
   (Config.tyQTransporter, State.onQTransporter),
   (Config.tyQRoute, State.onQRoute),
   (Config.tyQPad, State.onQPad),
   (Config.tyQTelescope, State.onQTelescope),
   (Config.tyQUnit, State.onQUnit),
   (Config.tyAllStop, State.onAllStop),
   (Config.tyAllResume, State.onAllResume),
   (Config.tyZoneClear, State.onZoneClear),
   (Config.tyCancel, State.onCancel),
   (Config.tyRecover, State.onRecover),
   (Config.tyRetire, State.onRetire),
   (Config.tyThrow, State.onThrowPoint),
   (Config.tyClearPoint, State.onClearPoint),
   (Config.tyRestoreSection, State.onRestoreSection),
   (Config.tyRestoreUnit, State.onRestoreUnit),
   (Config.tyPadReserve, State.onPadReserve),
   (Config.tyPadFree, State.onPadFree),
   (Config.tyPadService, State.onPadService),
   (Config.tyDeclare, State.onDeclare),
   (Config.tyXferAbort, State.onXferAbort),
   (Config.tySetParam, State.onSetParam),
   (Config.tyDefineSection, State.onDefineSection),
   (Config.tyDefinePoint, State.onDefinePoint),
   (Config.tyDefinePad, State.onDefinePad),
   (Config.tyDefineUnit, State.onDefineUnit),
   (Config.tyDefineTransporter, State.onDefineTransporter),
   (Config.tyAllocate, State.onAllocate),
   (Config.tyCommit, State.onCommit),
   (Config.tyConfigure, State.onConfigure),
   (Config.tyReset, State.resetCommand)]

/-- The transporter requests by type code (10.3.1), each with what its owner does with its payload. -/
def tlOwners : List (Byte × (State → TId → List Byte → State)) :=
  [(Config.tyJoin, State.onJoin),
   (Config.tyReport, State.onReport),
   (Config.tyRoute, State.onRoute),
   (Config.tyGiveback, State.onGiveback),
   (Config.tyTransfer, State.onTransfer),
   (Config.tyStep, State.onStepResult),
   (Config.tyLeave, State.onLeave)]

/-- What is listed under a type code. -/
def ownerOf {α : Type} (l : List (Byte × α)) (ty : Byte) : Option α := (l.find? fun e => decide (e.1 = ty)).map (·.2)

/-- A frame taken from port l goes to its owner, a transporter's after its supervision is reloaded (R109, R180). No port
queues a frame without an owner (R170). -/
def State.own (s : State) (l : PortId) (f : Frame) : State :=
  match l with
  | .ops o =>
    match ownerOf opsOwners f.typ, f.payload with
    | some act, tag :: p => act s o tag p
    | _, _ => s
  | .tl t =>
    match ownerOf tlOwners f.typ with
    | some act => act (s.reloadSupervision t) t f.payload
    | none => s

/-! ## Intake (R171, R176) -/

/-- The block may take a frame of port l now: it is not held in reset, and an operations link has room for the reply
(R176, R190). -/
def State.mayTake (s : State) (l : PortId) : Bool :=
  s.resetHold.isNone && (match l with | .ops o => s.replyRoom o | .tl _ => true)

/-- The oldest frame of port l leaves its queue and goes to its owner. -/
def State.takeHead (s : State) (l : PortId) : State :=
  match (s.core l).rx with
  | f :: _ => (s.takeFrame l).own l f
  | [] => s

/-- Frames are taken one after another, oldest first, while they may be; the fuel is the number of frames that wait. -/
def intake (l : PortId) : Nat → State → State
  | 0, s => s
  | n + 1, s => if s.mayTake l then intake l n (s.takeHead l) else s

/-- The block takes what it may of port l's receive queue. -/
def State.takeIn (s : State) (l : PortId) : State := intake l (s.core l).rx.length s

/-- A valid frame completes at port l: it joins the receive queue, or meets OVERRUN, and the block takes what it may (R171,
log 1). -/
def State.frameArrives (s : State) (l : PortId) (f : Frame) : State := (s.receiveFrame l f).takeIn l

/-! ## The receiver (R169, R170) -/

/-- One byte arrives at a port's receiver (R169). -/
def State.receiveByte (s : State) (l : PortId) (b : Byte) : State :=
  match (s.core l).receiver with
  | .hunting =>
    if b = Config.synByte then s.setReceiver l (.assembling [])
    else if b = Config.holdByte then s.modCore l fun c => { c with txFlow := .hold }
    else if b = Config.goByte then s.modCore l fun c => { c with txFlow := .go }
    else s
  | .assembling [] => if lenOk b then s.setReceiver l (.assembling [b]) else s.setReceiver l .hunting
  | .assembling (len :: rest) =>
    let bs := len :: rest ++ [b]
    if bs.length = len.toNat + 3 then
      match judgeFrame l bs with
      | some f => (s.setReceiver l .hunting).frameArrives l f
      | none => s.setReceiver l .hunting
    else s.setReceiver l (.assembling bs)

/-- Several bytes arrive, one after another; a reset that one of them completes ends the input (11 R190). -/
def State.receiveBytes (s : State) (l : PortId) (bs : List Byte) : State :=
  bs.foldl (fun s b => s.live fun s => s.receiveByte l b) s

/-- A gap of more than 20 ms while ASSEMBLING (R169). -/
def State.gapTimeout (s : State) (l : PortId) : State :=
  match (s.core l).receiver with
  | .hunting => s
  | .assembling _ => s.setReceiver l .hunting

/-! ## Intake after a reply (R176) -/

/-- The line of an operations link is free: it starts its next frame, and intake resumes where a reply leaves
(R176, R177). -/
def State.startOps (s : State) (l : OpsId) : State :=
  let s1 := s.modOps l (OpsPort.start s.clock l)
  if (s1.opsPort l).replies.length < (s.opsPort l).replies.length then s1.takeIn (.ops l) else s1

end Sys2Proof.Machine
end

