-- ==== Sys2Proof/Machine/Ports.lean ====
section
/-! DEFINITION. The commands of the link ports: bytes that arrive (10 R169, R170), the gap, and what the transmit line
starts (R173 to R177). -/

namespace Sys2Proof.Machine

/-- HOLD_BYTE: the byte 0xC3 arrives (R169, R174). -/
def execHoldByte (l : PortId) (s : State) : Host.Outcome State Fault Refusal :=
  .next (s.live fun s => s.receiveByte l Config.holdByte)

/-- GO_BYTE: the byte 0xC5 arrives (R169, R174). -/
def execGoByte (l : PortId) (s : State) : Host.Outcome State Fault Refusal :=
  .next (s.live fun s => s.receiveByte l Config.goByte)

/-- SYN_BYTE: the byte 0xA5 arrives (R169). -/
def execSynByte (l : PortId) (s : State) : Host.Outcome State Fault Refusal :=
  .next (s.live fun s => s.receiveByte l Config.synByte)

/-- LEN_OUT_OF_RANGE: a byte that is no LEN arrives (R169). -/
def execLenOutOfRange (l : PortId) (b : Byte) (s : State) : Host.Outcome State Fault Refusal :=
  .next (s.live fun s => s.receiveByte l b)

/-- FRAME_COMPLETE: the bytes that follow SYN arrive, the second CRC byte last (R169, R170). -/
def execFrameComplete (l : PortId) (bytes : List Byte) (s : State) : Host.Outcome State Fault Refusal :=
  .next (s.live fun s => s.receiveBytes l bytes)

/-- FRAME_GAP_TIMEOUT: 20 ms have passed inside a frame (R169). -/
def execFrameGapTimeout (l : PortId) (s : State) : Host.Outcome State Fault Refusal :=
  .next (s.live fun s => s.gapTimeout l)

/-- FLOW_BYTE_SEND: the line is not inside a frame (R173). -/
def execFlowByteSend (l : PortId) (s : State) : Host.Outcome State Fault Refusal :=
  .next (s.live fun s => s.sendFlowByte l)

/-- TL_TRANSMIT_START: the line of a transporter link is free (R175). -/
def execTlTransmitStart (t : TId) (s : State) : Host.Outcome State Fault Refusal :=
  .next (s.live fun s => s.modTl t TlPort.start)

/-- OPS_TRANSMIT_START: the line of an operations link is free (R176, R177). -/
def execOpsTransmitStart (l : OpsId) (s : State) : Host.Outcome State Fault Refusal :=
  .next (s.live fun s => s.startOps l)

end Sys2Proof.Machine
end

