-- ==== Sys2Proof/Machine/Commands.lean ====
section
/-! DEFINITION. The commands that are frames: each is one frame of its type that completes at its port (log 1). What its
owner does with it when it is taken is the definition its docstring names; the order of its checks stands there. -/

namespace Sys2Proof.Machine

/-! ## Queries -/

/-- Q_SITE (11 R183): taken by State.onQSite. -/
def execQSite (l : OpsId) (tag : Byte) (p : List Byte) (s : State) : Host.Outcome State Fault Refusal :=
  .next (s.live fun s => s.frameArrives (.ops l) ⟨Config.tyQSite, tag :: p⟩)

/-- Q_SECTION (01 R17): taken by State.onQSection. -/
def execQSection (l : OpsId) (tag : Byte) (p : List Byte) (s : State) : Host.Outcome State Fault Refusal :=
  .next (s.live fun s => s.frameArrives (.ops l) ⟨Config.tyQSection, tag :: p⟩)

/-- Q_POINT (01 R17): taken by State.onQPoint. -/
def execQPoint (l : OpsId) (tag : Byte) (p : List Byte) (s : State) : Host.Outcome State Fault Refusal :=
  .next (s.live fun s => s.frameArrives (.ops l) ⟨Config.tyQPoint, tag :: p⟩)

/-- Q_TRANSPORTER (06 R124): taken by State.onQTransporter. -/
def execQTransporter (l : OpsId) (tag : Byte) (p : List Byte) (s : State) : Host.Outcome State Fault Refusal :=
  .next (s.live fun s => s.frameArrives (.ops l) ⟨Config.tyQTransporter, tag :: p⟩)

/-- Q_ROUTE (03 R66): taken by State.onQRoute. -/
def execQRoute (l : OpsId) (tag : Byte) (p : List Byte) (s : State) : Host.Outcome State Fault Refusal :=
  .next (s.live fun s => s.frameArrives (.ops l) ⟨Config.tyQRoute, tag :: p⟩)

/-- Q_PAD (01 R17, 08 R145): taken by State.onQPad. -/
def execQPad (l : OpsId) (tag : Byte) (p : List Byte) (s : State) : Host.Outcome State Fault Refusal :=
  .next (s.live fun s => s.frameArrives (.ops l) ⟨Config.tyQPad, tag :: p⟩)

/-- Q_TELESCOPE (08 R145): taken by State.onQTelescope. -/
def execQTelescope (l : OpsId) (tag : Byte) (p : List Byte) (s : State) : Host.Outcome State Fault Refusal :=
  .next (s.live fun s => s.frameArrives (.ops l) ⟨Config.tyQTelescope, tag :: p⟩)

/-- Q_UNIT (09 R168): taken by State.onQUnit. -/
def execQUnit (l : OpsId) (tag : Byte) (p : List Byte) (s : State) : Host.Outcome State Fault Refusal :=
  .next (s.live fun s => s.frameArrives (.ops l) ⟨Config.tyQUnit, tag :: p⟩)

/-! ## Control commands -/

/-- ALL_STOP (R189): taken by State.onAllStop. -/
def execAllStop (l : OpsId) (tag : Byte) (p : List Byte) (s : State) : Host.Outcome State Fault Refusal :=
  .next (s.live fun s => s.frameArrives (.ops l) ⟨Config.tyAllStop, tag :: p⟩)

/-- ALL_RESUME (R189): taken by State.onAllResume. -/
def execAllResume (l : OpsId) (tag : Byte) (p : List Byte) (s : State) : Host.Outcome State Fault Refusal :=
  .next (s.live fun s => s.frameArrives (.ops l) ⟨Config.tyAllResume, tag :: p⟩)

/-- ZONE_CLEAR (R128): taken by State.onZoneClear. -/
def execZoneClear (l : OpsId) (tag : Byte) (p : List Byte) (s : State) : Host.Outcome State Fault Refusal :=
  .next (s.live fun s => s.frameArrives (.ops l) ⟨Config.tyZoneClear, tag :: p⟩)

/-- CANCEL (R73): taken by State.onCancel. -/
def execCancel (l : OpsId) (tag : Byte) (p : List Byte) (s : State) : Host.Outcome State Fault Refusal :=
  .next (s.live fun s => s.frameArrives (.ops l) ⟨Config.tyCancel, tag :: p⟩)

/-- RECOVER (R117): taken by State.onRecover. -/
def execRecover (l : OpsId) (tag : Byte) (p : List Byte) (s : State) : Host.Outcome State Fault Refusal :=
  .next (s.live fun s => s.frameArrives (.ops l) ⟨Config.tyRecover, tag :: p⟩)

/-- RETIRE (R119): taken by State.onRetire. -/
def execRetire (l : OpsId) (tag : Byte) (p : List Byte) (s : State) : Host.Outcome State Fault Refusal :=
  .next (s.live fun s => s.frameArrives (.ops l) ⟨Config.tyRetire, tag :: p⟩)

/-- THROW (R35): taken by State.onThrowPoint. -/
def execThrowPoint (l : OpsId) (tag : Byte) (p : List Byte) (s : State) : Host.Outcome State Fault Refusal :=
  .next (s.live fun s => s.frameArrives (.ops l) ⟨Config.tyThrow, tag :: p⟩)

/-- CLEAR_POINT (R36): taken by State.onClearPoint. -/
def execClearPoint (l : OpsId) (tag : Byte) (p : List Byte) (s : State) : Host.Outcome State Fault Refusal :=
  .next (s.live fun s => s.frameArrives (.ops l) ⟨Config.tyClearPoint, tag :: p⟩)

/-- RESTORE_SECTION (R22): taken by State.onRestoreSection. -/
def execRestoreSection (l : OpsId) (tag : Byte) (p : List Byte) (s : State) : Host.Outcome State Fault Refusal :=
  .next (s.live fun s => s.frameArrives (.ops l) ⟨Config.tyRestoreSection, tag :: p⟩)

/-- RESTORE_UNIT (R165): taken by State.onRestoreUnit. -/
def execRestoreUnit (l : OpsId) (tag : Byte) (p : List Byte) (s : State) : Host.Outcome State Fault Refusal :=
  .next (s.live fun s => s.frameArrives (.ops l) ⟨Config.tyRestoreUnit, tag :: p⟩)

/-- PAD_RESERVE (R139): taken by State.onPadReserve. -/
def execPadReserve (l : OpsId) (tag : Byte) (p : List Byte) (s : State) : Host.Outcome State Fault Refusal :=
  .next (s.live fun s => s.frameArrives (.ops l) ⟨Config.tyPadReserve, tag :: p⟩)

/-- PAD_FREE (R140): taken by State.onPadFree. -/
def execPadFree (l : OpsId) (tag : Byte) (p : List Byte) (s : State) : Host.Outcome State Fault Refusal :=
  .next (s.live fun s => s.frameArrives (.ops l) ⟨Config.tyPadFree, tag :: p⟩)

/-- PAD_SERVICE (R140): taken by State.onPadService. -/
def execPadService (l : OpsId) (tag : Byte) (p : List Byte) (s : State) : Host.Outcome State Fault Refusal :=
  .next (s.live fun s => s.frameArrives (.ops l) ⟨Config.tyPadService, tag :: p⟩)

/-- DECLARE (R143, R144): taken by State.onDeclare. -/
def execDeclare (l : OpsId) (tag : Byte) (p : List Byte) (s : State) : Host.Outcome State Fault Refusal :=
  .next (s.live fun s => s.frameArrives (.ops l) ⟨Config.tyDeclare, tag :: p⟩)

/-- XFER_ABORT (R151): taken by State.onXferAbort. -/
def execXferAbort (l : OpsId) (tag : Byte) (p : List Byte) (s : State) : Host.Outcome State Fault Refusal :=
  .next (s.live fun s => s.frameArrives (.ops l) ⟨Config.tyXferAbort, tag :: p⟩)

/-! ## Configuration commands -/

/-- SET_PARAM (R188): taken by State.onSetParam. -/
def execSetParam (l : OpsId) (tag : Byte) (p : List Byte) (s : State) : Host.Outcome State Fault Refusal :=
  .next (s.live fun s => s.frameArrives (.ops l) ⟨Config.tySetParam, tag :: p⟩)

/-- DEFINE_SECTION (R1, R2): taken by State.onDefineSection. -/
def execDefineSection (l : OpsId) (tag : Byte) (p : List Byte) (s : State) : Host.Outcome State Fault Refusal :=
  .next (s.live fun s => s.frameArrives (.ops l) ⟨Config.tyDefineSection, tag :: p⟩)

/-- DEFINE_POINT (R9): taken by State.onDefinePoint. -/
def execDefinePoint (l : OpsId) (tag : Byte) (p : List Byte) (s : State) : Host.Outcome State Fault Refusal :=
  .next (s.live fun s => s.frameArrives (.ops l) ⟨Config.tyDefinePoint, tag :: p⟩)

/-- DEFINE_PAD (R11): taken by State.onDefinePad. -/
def execDefinePad (l : OpsId) (tag : Byte) (p : List Byte) (s : State) : Host.Outcome State Fault Refusal :=
  .next (s.live fun s => s.frameArrives (.ops l) ⟨Config.tyDefinePad, tag :: p⟩)

/-- DEFINE_UNIT (R155): taken by State.onDefineUnit. -/
def execDefineUnit (l : OpsId) (tag : Byte) (p : List Byte) (s : State) : Host.Outcome State Fault Refusal :=
  .next (s.live fun s => s.frameArrives (.ops l) ⟨Config.tyDefineUnit, tag :: p⟩)

/-- DEFINE_TRANSPORTER (R104): taken by State.onDefineTransporter. -/
def execDefineTransporter (l : OpsId) (tag : Byte) (p : List Byte) (s : State) : Host.Outcome State Fault Refusal :=
  .next (s.live fun s => s.frameArrives (.ops l) ⟨Config.tyDefineTransporter, tag :: p⟩)

/-- ALLOCATE (R187): taken by State.onAllocate. -/
def execAllocate (l : OpsId) (tag : Byte) (p : List Byte) (s : State) : Host.Outcome State Fault Refusal :=
  .next (s.live fun s => s.frameArrives (.ops l) ⟨Config.tyAllocate, tag :: p⟩)

/-- COMMIT (R184, R185): taken by State.onCommit. -/
def execCommit (l : OpsId) (tag : Byte) (p : List Byte) (s : State) : Host.Outcome State Fault Refusal :=
  .next (s.live fun s => s.frameArrives (.ops l) ⟨Config.tyCommit, tag :: p⟩)

/-- CONFIGURE (R186): taken by State.onConfigure. -/
def execConfigure (l : OpsId) (tag : Byte) (p : List Byte) (s : State) : Host.Outcome State Fault Refusal :=
  .next (s.live fun s => s.frameArrives (.ops l) ⟨Config.tyConfigure, tag :: p⟩)

/-! ## RESET (11 R190, R191): three rows of one message (log 10) -/

/-- RESET_LINK (R191): taken by State.resetCommand. -/
def execResetLink (l : OpsId) (tag : Byte) (p : List Byte) (s : State) : Host.Outcome State Fault Refusal :=
  .next (s.live fun s => s.frameArrives (.ops l) ⟨Config.tyReset, tag :: p⟩)

/-- RESET_FIELDBUS (R191): taken by State.resetCommand. -/
def execResetFieldbus (l : OpsId) (tag : Byte) (p : List Byte) (s : State) : Host.Outcome State Fault Refusal :=
  .next (s.live fun s => s.frameArrives (.ops l) ⟨Config.tyReset, tag :: p⟩)

/-- RESET_ALL (R190): taken by State.resetCommand. -/
def execResetAll (l : OpsId) (tag : Byte) (p : List Byte) (s : State) : Host.Outcome State Fault Refusal :=
  .next (s.live fun s => s.frameArrives (.ops l) ⟨Config.tyReset, tag :: p⟩)

/-! ## Transporter requests -/

/-- JOIN (R106 to R108): taken by State.onJoin. -/
def execJoin (t : TId) (p : List Byte) (s : State) : Host.Outcome State Fault Refusal :=
  .next (s.live fun s => s.frameArrives (.tl t) ⟨Config.tyJoin, p⟩)

/-- REPORT (R111): taken by State.onReport. -/
def execReport (t : TId) (p : List Byte) (s : State) : Host.Outcome State Fault Refusal :=
  .next (s.live fun s => s.frameArrives (.tl t) ⟨Config.tyReport, p⟩)

/-- ROUTE (R42 to R47): taken by State.onRoute. -/
def execRoute (t : TId) (p : List Byte) (s : State) : Host.Outcome State Fault Refusal :=
  .next (s.live fun s => s.frameArrives (.tl t) ⟨Config.tyRoute, p⟩)

/-- GIVEBACK (R74): taken by State.onGiveback. -/
def execGiveback (t : TId) (p : List Byte) (s : State) : Host.Outcome State Fault Refusal :=
  .next (s.live fun s => s.frameArrives (.tl t) ⟨Config.tyGiveback, p⟩)

/-- TRANSFER (R146, R147): taken by State.onTransfer. -/
def execTransfer (t : TId) (p : List Byte) (s : State) : Host.Outcome State Fault Refusal :=
  .next (s.live fun s => s.frameArrives (.tl t) ⟨Config.tyTransfer, p⟩)

/-- STEP (R149): taken by State.onStepResult. -/
def execStepResult (t : TId) (p : List Byte) (s : State) : Host.Outcome State Fault Refusal :=
  .next (s.live fun s => s.frameArrives (.tl t) ⟨Config.tyStep, p⟩)

/-- LEAVE (R120): taken by State.onLeave. -/
def execLeave (t : TId) (p : List Byte) (s : State) : Host.Outcome State Fault Refusal :=
  .next (s.live fun s => s.frameArrives (.tl t) ⟨Config.tyLeave, p⟩)

end Sys2Proof.Machine
end

