-- ==== Sys2Proof/Machine/Dispatch.lean ====
section
/-! DEFINITION. The meaning of every command, one arm each. -/

namespace Sys2Proof.Machine

/-- The effect of a command on everything but the queue of waiting commands. -/
def exec (i : Instr) (s : State) : Host.Outcome State Fault Refusal :=
  match i with
  | .qSite l tag p => Sys2Proof.Machine.execQSite l tag p s
  | .qSection l tag p => Sys2Proof.Machine.execQSection l tag p s
  | .qPoint l tag p => Sys2Proof.Machine.execQPoint l tag p s
  | .qTransporter l tag p => Sys2Proof.Machine.execQTransporter l tag p s
  | .qRoute l tag p => Sys2Proof.Machine.execQRoute l tag p s
  | .qPad l tag p => Sys2Proof.Machine.execQPad l tag p s
  | .qTelescope l tag p => Sys2Proof.Machine.execQTelescope l tag p s
  | .qUnit l tag p => Sys2Proof.Machine.execQUnit l tag p s
  | .allStop l tag p => Sys2Proof.Machine.execAllStop l tag p s
  | .allResume l tag p => Sys2Proof.Machine.execAllResume l tag p s
  | .zoneClear l tag p => Sys2Proof.Machine.execZoneClear l tag p s
  | .cancel l tag p => Sys2Proof.Machine.execCancel l tag p s
  | .recover l tag p => Sys2Proof.Machine.execRecover l tag p s
  | .retire l tag p => Sys2Proof.Machine.execRetire l tag p s
  | .throwPoint l tag p => Sys2Proof.Machine.execThrowPoint l tag p s
  | .clearPoint l tag p => Sys2Proof.Machine.execClearPoint l tag p s
  | .restoreSection l tag p => Sys2Proof.Machine.execRestoreSection l tag p s
  | .restoreUnit l tag p => Sys2Proof.Machine.execRestoreUnit l tag p s
  | .padReserve l tag p => Sys2Proof.Machine.execPadReserve l tag p s
  | .padFree l tag p => Sys2Proof.Machine.execPadFree l tag p s
  | .padService l tag p => Sys2Proof.Machine.execPadService l tag p s
  | .declare l tag p => Sys2Proof.Machine.execDeclare l tag p s
  | .xferAbort l tag p => Sys2Proof.Machine.execXferAbort l tag p s
  | .setParam l tag p => Sys2Proof.Machine.execSetParam l tag p s
  | .defineSection l tag p => Sys2Proof.Machine.execDefineSection l tag p s
  | .definePoint l tag p => Sys2Proof.Machine.execDefinePoint l tag p s
  | .definePad l tag p => Sys2Proof.Machine.execDefinePad l tag p s
  | .defineUnit l tag p => Sys2Proof.Machine.execDefineUnit l tag p s
  | .defineTransporter l tag p => Sys2Proof.Machine.execDefineTransporter l tag p s
  | .allocate l tag p => Sys2Proof.Machine.execAllocate l tag p s
  | .commit l tag p => Sys2Proof.Machine.execCommit l tag p s
  | .configure l tag p => Sys2Proof.Machine.execConfigure l tag p s
  | .resetLink l tag p => Sys2Proof.Machine.execResetLink l tag p s
  | .resetFieldbus l tag p => Sys2Proof.Machine.execResetFieldbus l tag p s
  | .resetAll l tag p => Sys2Proof.Machine.execResetAll l tag p s
  | .join t p => Sys2Proof.Machine.execJoin t p s
  | .report t p => Sys2Proof.Machine.execReport t p s
  | .route t p => Sys2Proof.Machine.execRoute t p s
  | .giveback t p => Sys2Proof.Machine.execGiveback t p s
  | .transfer t p => Sys2Proof.Machine.execTransfer t p s
  | .stepResult t p => Sys2Proof.Machine.execStepResult t p s
  | .leave t p => Sys2Proof.Machine.execLeave t p s
  | .holdByte l => Sys2Proof.Machine.execHoldByte l s
  | .goByte l => Sys2Proof.Machine.execGoByte l s
  | .frameComplete l bytes => Sys2Proof.Machine.execFrameComplete l bytes s
  | .frameGapTimeout l => Sys2Proof.Machine.execFrameGapTimeout l s
  | .flowByteSend l => Sys2Proof.Machine.execFlowByteSend l s
  | .tlTransmitStart t => Sys2Proof.Machine.execTlTransmitStart t s
  | .opsTransmitStart l => Sys2Proof.Machine.execOpsTransmitStart l s
  | .fieldbusGoodReply chars => Sys2Proof.Machine.execFieldbusGoodReply chars s
  | .fieldbusMiss => Sys2Proof.Machine.execFieldbusMiss s
  | .throwTimeout p => Sys2Proof.Machine.execThrowTimeout p s
  | .waitExpired t => Sys2Proof.Machine.execWaitExpired t s
  | .supervisionExpiry t => Sys2Proof.Machine.execSupervisionExpiry t s
  | .stageTimeout t => Sys2Proof.Machine.execStageTimeout t s
  | .clampFailed p => Sys2Proof.Machine.execClampFailed p s
  | .mastLost => Sys2Proof.Machine.execMastLost s
  | .stopLineEdge n asserted => Sys2Proof.Machine.execStopLineEdge n asserted s
  | .powerOn => Sys2Proof.Machine.execPowerOn s
  | .supplyLow => Sys2Proof.Machine.execSupplyLow s
  | .resetLine => Sys2Proof.Machine.execResetLine s
  | .clockStartUpEnd => Sys2Proof.Machine.execClockStartUpEnd s
  | .pendingQueueWalk => Sys2Proof.Machine.execPendingQueueWalk s
  | .synByte l => Sys2Proof.Machine.execSynByte l s
  | .lenOutOfRange l b => Sys2Proof.Machine.execLenOutOfRange l b s

end Sys2Proof.Machine
end

