-- ==== Sys2Proof/Safety.lean ====
section
/-! DEFINITION. What counts as a sound state and as a port ready to take a command, in the terms the statements use. -/

namespace Sys2Proof.Machine

/-! ## Ports ready to take a command -/

/-- The controller is not held in reset, the port's receive queue is empty and its far end may send: a frame that
arrives now is taken at once and moves no flow state (R171, R172). -/
abbrev State.Quiet (s : State) (l : PortId) : Prop :=
  s.resetHold = none ∧ (s.core l).rx = [] ∧ (s.core l).rxFlow = .go ∧ 2 ≤ s.params.linkHoldUpper

/-- An operations link that takes a command now: its port is quiet and its reply queue has room (R176). -/
abbrev State.OpsReady (s : State) (l : OpsId) : Prop :=
  s.Quiet (.ops l) ∧ (s.opsPort l).replies.length < Config.replyCapacity

/-- The command is a byte, or several, at the receiver of port l, and may complete a frame there (R169). -/
def bytesAt (l : PortId) (c : Instr) : Prop :=
  c = .holdByte l ∨ c = .goByte l ∨ c = .synByte l ∨ (∃ b, c = .lenOutOfRange l b) ∨ ∃ bs, c = .frameComplete l bs

/-! ## Invariants -/

/-- No frame waits that may be taken: none at a transporter's port, and at an operations port only while its reply queue
is full or the controller is held in reset (R171, R176). -/
abbrev State.IntakeDone (s : State) : Prop :=
  (∀ t : TId, (s.core (.tl t)).rx = []) ∧
  ∀ l : OpsId, (s.core (.ops l)).rx = [] ∨ 8 ≤ (s.opsPort l).replies.length ∨ s.resetHold ≠ none

/-- A transporter port within its capacities (R171, R175). -/
abbrev TlPort.Bounded (p : TlPort) : Prop :=
  p.core.rx.length ≤ Config.rxCapacity ∧ p.refusals.length ≤ Config.refusalCapacity

/-- An operations port within its capacities (R171, R176, R177). -/
abbrev OpsPort.Bounded (p : OpsPort) : Prop :=
  p.core.rx.length ≤ Config.rxCapacity ∧ p.replies.length ≤ Config.replyCapacity ∧
  p.notices.length ≤ Config.noticeCapacity ∧ p.lost ≤ 65535

/-- Every queue of fixed size is within it (00_scope.md 3). -/
abbrev State.Bounded (s : State) : Prop :=
  (∀ t : TId, (s.tl t).Bounded) ∧ (∀ l : OpsId, (s.opsPort l).Bounded) ∧ s.cmdQueue.length ≤ Config.cmdCapacity

/-- Every table is in its one canonical form: identifiers rise strictly, so no identifier has two records. -/
abbrev State.TablesWf (s : State) : Prop :=
  Table.wf s.sections = true ∧ Table.wf s.points = true ∧ Table.wf s.pads = true ∧ Table.wf s.units = true ∧
  Table.wf s.telescopes = true

/-- No transporter stands twice in the pending queue (R59). -/
abbrev State.QueueOnce (s : State) : Prop := (s.waiting.map (·.t)).Nodup

/-- Outside RUNNING every transporter is OFFLINE, no section is held, no transfer is in progress and the pending queue
is empty (R183, R59). -/
abbrev State.IdleSite (s : State) : Prop :=
  s.site ≠ .running →
    (∀ t : TId, (s.tr t).state = .offline) ∧ (∀ p ∈ s.sections, p.2.hold = none) ∧
    (∀ t : TId, s.transfers[t] = none) ∧ s.waiting = []

/-- A transporter has trip causes exactly while it is TRIPPED, and a transfer record exactly while it is in TRANSFER
(R103, R115, R147). -/
abbrev State.StatesMatch (s : State) : Prop :=
  ∀ t : TId, ((s.tr t).state = .tripped ↔ (s.tr t).trips ≠ .empty) ∧
    ((s.tr t).state = .transfer ↔ s.transfers[t] ≠ none)

/-- A transporter that is not OFFLINE has exactly the stop causes that are present (R121): ALL_STOP while the flag is
set, ZONE_STOP while it holds a section of a stopped zone, WIND while the band is HOLD. -/
abbrev State.StopsCurrent (s : State) : Prop :=
  ∀ t : TId, (s.tr t).state ≠ .offline →
    ((s.tr t).stop.allStop = true ↔ s.allStop = true) ∧
    ((s.tr t).stop.zoneStop = true ↔
      ∃ p ∈ s.sections, (∃ h, p.2.hold = some h ∧ h.holder = t) ∧ s.inStoppedZone p.2.defn.zones = true) ∧
    ((s.tr t).stop.wind = true ↔ ∃ c, s.band = .hold c)

/-- AUTHORISED is for a transporter without stop causes, HELD for one that has some (R103, R122). -/
abbrev State.StandsMatch (s : State) : Prop :=
  ∀ t : TId, ((s.tr t).state = .authorised → (s.tr t).stop = .empty) ∧
    ((s.tr t).state = .held → (s.tr t).stop ≠ .empty)

/-- Route indices rise along every record, the next index lies beyond them (R39), and no section stands in two entries
of one record (R38). -/
abbrev State.RoutesRise (s : State) : Prop :=
  ∀ t : TId, ((s.route t).entries.map (·.index)).Pairwise (· < ·) ∧
    (∀ e ∈ (s.route t).entries, e.index < (s.route t).nextIdx) ∧ ((s.route t).entries.map (·.sec)).Nodup

/-- Every site parameter lies in its range, and the ordered ones are in order (R188). -/
abbrev Params.Legal (p : Params) : Prop :=
  (p.margin ≤ 2000 ∧ 1 ≤ p.creep ∧ p.creep ≤ 20 ∧ p.overspeedTol ≤ 50 ∧ 5 ≤ p.parkTol ∧ p.parkTol ≤ 200) ∧
  (p.waitLimit ≤ 900 ∧ 20 ≤ p.throwTime ∧ p.throwTime ≤ 300) ∧
  (1 ≤ p.clampTime ∧ p.clampTime ≤ 120 ∧ 1 ≤ p.jackTime ∧ p.jackTime ≤ 120 ∧ 1 ≤ p.confirmTime ∧ p.confirmTime ≤ 120) ∧
  (p.windCaution < p.windResume ∧ p.windResume < p.windHold ∧ p.windHold ≤ 6000) ∧
  (5 ≤ p.windCrawl ∧ p.windCrawl ≤ 100 ∧ p.mastHold ≤ 120 ∧ 2 ≤ p.replyWindow ∧ p.replyWindow ≤ 25) ∧
  p.driverLead ∈ [0, 50, 100, 200] ∧
  (2 ≤ p.linkHoldUpper ∧ p.linkHoldUpper ≤ 8 ∧ p.linkHoldLower < p.linkHoldUpper) ∧
  p.linkHoldRepeat ∈ [1, 2, 4, 8]

/-- The field bus's counts: at most four commands since the last poll, at most two misses before silence
(R159, R163). -/
abbrev State.BusCounts (s : State) : Prop := s.forced ≤ 4 ∧ ∀ p ∈ s.units, p.2.retries ≤ 2

/-- A countdown that is stopped or stands at 0 does not run (00_scope.md 5.2). -/
abbrev stopped (c : Option Countdown) : Prop := ∀ d : Countdown, c = some d → d.steps = 0

/-! ## What a command leaves alone, and what it tells -/

/-- Everything that belongs to transporter u alone is the same: record, route, link port, ceiling, transfer. -/
abbrev State.SameTransporter (s t : State) (u : TId) : Prop :=
  t.tr u = s.tr u ∧ t.route u = s.route u ∧ t.tl u = s.tl u ∧ t.ceilings[u] = s.ceilings[u] ∧
  t.transfers[u] = s.transfers[u]

/-- The notices bs were posted in order, at s's clock, and the operations ports changed in no other way (R177). -/
abbrev State.Told (s t : State) (bs : List NoticeBody) : Prop :=
  ∀ k : OpsId, t.opsPort k = bs.foldl (fun p b => p.addNotice ⟨s.clock, b⟩) (s.opsPort k)

/-- The AUTH slot of u holds the AUTH that its record calls for, and its ceiling is the ceiling last sent (R57). -/
abbrev State.AuthCurrent (s : State) (u : TId) : Prop :=
  (s.tl u).auth = some (s.authNow u (s.ceilingNow u)) ∧ s.ceilings[u] = s.ceilingNow u

/-- The link port of u differs in its AUTH slot at most. -/
abbrev State.OnlyAuth (s t : State) (u : TId) : Prop := t.tl u = { s.tl u with auth := (t.tl u).auth }

/-! ## Evaluating stop causes (R121, R122) -/

/-- The record of a transporter whose stop causes are found to be `new`; `slow` says that its last report's speed is
within OVERSPEED_TOL (R122). -/
def Transporter.evaluated (x : Transporter) (new : StopSet) (slow : Bool) : Transporter :=
  if x.state = .offline ∨ x.stop = new then x
  else if x.state = .authorised ∧ new ≠ .empty then { x with stop := new, state := .held, standSeen := slow }
  else if x.state = .held ∧ new = .empty then { x with stop := new, state := .authorised, standSeen := false }
  else { x with stop := new }

/-- The notice that evaluation posts (R122). -/
def State.evaluationNotice (s : State) (u : TId) : List NoticeBody :=
  if (s.tr u).stop = s.stopCauses u then []
  else if (s.tr u).state = .authorised ∧ s.stopCauses u ≠ .empty then [.held u (s.stopCauses u)]
  else if (s.tr u).state = .held ∧ s.stopCauses u = .empty then [.resumed u (s.route u).authNum .authorised]
  else []

/-- The evaluation is answered by a new AUTH: the causes changed, in AUTHORISED with causes now present, in HELD, or in
PARKED (R122). -/
def State.evaluationAuth (s : State) (u : TId) : Prop :=
  (s.tr u).stop ≠ s.stopCauses u ∧
    ((s.tr u).state = .authorised ∧ s.stopCauses u ≠ .empty ∨ (s.tr u).state = .held ∨ (s.tr u).state = .parked)

/-- Between s and t the stop causes of the transporters us were evaluated, in that order, and nothing else happened
(R121, R122). The order of the notices of several transporters, T0 to T5 where us is allT, is the model's (log 15), and so
are the details of RESUMED, the authority number and AUTHORISED, which R122 does not name (log 24). -/
structure State.Evaluated (s t : State) (us : List TId) : Prop where
  only : t = { s with trs := t.trs, tls := t.tls, ceilings := t.ceilings, opss := t.opss }
  others : ∀ u ∉ us, s.SameTransporter t u
  record : ∀ u ∈ us, t.tr u = (s.tr u).evaluated (s.stopCauses u) (decide (s.speed u ≤ s.params.overspeedTol))
  port : ∀ u, s.OnlyAuth t u
  auth : ∀ u ∈ us, s.evaluationAuth u → t.AuthCurrent u
  quiet : ∀ u ∈ us, ¬ s.evaluationAuth u → (t.tl u).auth = (s.tl u).auth ∧ t.ceilings[u] = s.ceilings[u]
  notices : s.Told t (us.flatMap s.evaluationNotice)

/-! ## The frames of the commands (10.3) -/

/-- An operations command as a frame: link, type code, tag, and the payload after the tag (10.3.2). -/
def opsFrame : Instr → Option (OpsId × Byte × Byte × List Byte)
  | .qSite l tag p => some (l, 0x40, tag, p)
  | .qSection l tag p => some (l, 0x41, tag, p)
  | .qPoint l tag p => some (l, 0x42, tag, p)
  | .qTransporter l tag p => some (l, 0x43, tag, p)
  | .qRoute l tag p => some (l, 0x44, tag, p)
  | .qPad l tag p => some (l, 0x45, tag, p)
  | .qTelescope l tag p => some (l, 0x46, tag, p)
  | .qUnit l tag p => some (l, 0x47, tag, p)
  | .allStop l tag p => some (l, 0x50, tag, p)
  | .allResume l tag p => some (l, 0x51, tag, p)
  | .zoneClear l tag p => some (l, 0x52, tag, p)
  | .cancel l tag p => some (l, 0x53, tag, p)
  | .recover l tag p => some (l, 0x54, tag, p)
  | .retire l tag p => some (l, 0x55, tag, p)
  | .throwPoint l tag p => some (l, 0x56, tag, p)
  | .clearPoint l tag p => some (l, 0x57, tag, p)
  | .restoreSection l tag p => some (l, 0x58, tag, p)
  | .restoreUnit l tag p => some (l, 0x59, tag, p)
  | .padReserve l tag p => some (l, 0x5A, tag, p)
  | .padFree l tag p => some (l, 0x5B, tag, p)
  | .padService l tag p => some (l, 0x5C, tag, p)
  | .declare l tag p => some (l, 0x5D, tag, p)
  | .xferAbort l tag p => some (l, 0x5E, tag, p)
  | .setParam l tag p => some (l, 0x60, tag, p)
  | .defineSection l tag p => some (l, 0x61, tag, p)
  | .definePoint l tag p => some (l, 0x62, tag, p)
  | .definePad l tag p => some (l, 0x63, tag, p)
  | .defineUnit l tag p => some (l, 0x64, tag, p)
  | .defineTransporter l tag p => some (l, 0x65, tag, p)
  | .allocate l tag p => some (l, 0x66, tag, p)
  | .commit l tag p => some (l, 0x67, tag, p)
  | .configure l tag p => some (l, 0x68, tag, p)
  | .resetLink l tag p => some (l, 0x69, tag, p)
  | .resetFieldbus l tag p => some (l, 0x69, tag, p)
  | .resetAll l tag p => some (l, 0x69, tag, p)
  | .join _ _ => none
  | .report _ _ => none
  | .route _ _ => none
  | .giveback _ _ => none
  | .transfer _ _ => none
  | .stepResult _ _ => none
  | .leave _ _ => none
  | .holdByte _ => none
  | .goByte _ => none
  | .frameComplete _ _ => none
  | .frameGapTimeout _ => none
  | .flowByteSend _ => none
  | .tlTransmitStart _ => none
  | .opsTransmitStart _ => none
  | .fieldbusGoodReply _ => none
  | .fieldbusMiss => none
  | .throwTimeout _ => none
  | .waitExpired _ => none
  | .supervisionExpiry _ => none
  | .stageTimeout _ => none
  | .clampFailed _ => none
  | .mastLost => none
  | .stopLineEdge _ _ => none
  | .powerOn => none
  | .supplyLow => none
  | .resetLine => none
  | .clockStartUpEnd => none
  | .pendingQueueWalk => none
  | .synByte _ => none
  | .lenOutOfRange _ _ => none

/-- A transporter request as a frame: transporter, type code, payload (10.3.1). -/
def tlFrame : Instr → Option (TId × Byte × List Byte)
  | .join t p => some (t, 0x10, p)
  | .report t p => some (t, 0x11, p)
  | .route t p => some (t, 0x12, p)
  | .giveback t p => some (t, 0x13, p)
  | .transfer t p => some (t, 0x14, p)
  | .stepResult t p => some (t, 0x15, p)
  | .leave t p => some (t, 0x16, p)
  | .qSite _ _ _ => none
  | .qSection _ _ _ => none
  | .qPoint _ _ _ => none
  | .qTransporter _ _ _ => none
  | .qRoute _ _ _ => none
  | .qPad _ _ _ => none
  | .qTelescope _ _ _ => none
  | .qUnit _ _ _ => none
  | .allStop _ _ _ => none
  | .allResume _ _ _ => none
  | .zoneClear _ _ _ => none
  | .cancel _ _ _ => none
  | .recover _ _ _ => none
  | .retire _ _ _ => none
  | .throwPoint _ _ _ => none
  | .clearPoint _ _ _ => none
  | .restoreSection _ _ _ => none
  | .restoreUnit _ _ _ => none
  | .padReserve _ _ _ => none
  | .padFree _ _ _ => none
  | .padService _ _ _ => none
  | .declare _ _ _ => none
  | .xferAbort _ _ _ => none
  | .setParam _ _ _ => none
  | .defineSection _ _ _ => none
  | .definePoint _ _ _ => none
  | .definePad _ _ _ => none
  | .defineUnit _ _ _ => none
  | .defineTransporter _ _ _ => none
  | .allocate _ _ _ => none
  | .commit _ _ _ => none
  | .configure _ _ _ => none
  | .resetLink _ _ _ => none
  | .resetFieldbus _ _ _ => none
  | .resetAll _ _ _ => none
  | .holdByte _ => none
  | .goByte _ => none
  | .frameComplete _ _ => none
  | .frameGapTimeout _ => none
  | .flowByteSend _ => none
  | .tlTransmitStart _ => none
  | .opsTransmitStart _ => none
  | .fieldbusGoodReply _ => none
  | .fieldbusMiss => none
  | .throwTimeout _ => none
  | .waitExpired _ => none
  | .supervisionExpiry _ => none
  | .stageTimeout _ => none
  | .clampFailed _ => none
  | .mastLost => none
  | .stopLineEdge _ _ => none
  | .powerOn => none
  | .supplyLow => none
  | .resetLine => none
  | .clockStartUpEnd => none
  | .pendingQueueWalk => none
  | .synByte _ => none
  | .lenOutOfRange _ _ => none

/-- The lengths an operations command's payload may have after its tag, by type code (10.5.1, 10.5.3, log 8). -/
def opsLengths (ty : Byte) : List Nat :=
  if ty ∈ [0x40, 0x50, 0x51, 0x67, 0x68] then [0]
  else if ty ∈ [0x41, 0x42, 0x43, 0x44, 0x45, 0x46, 0x47, 0x52, 0x54, 0x55, 0x57, 0x58, 0x59, 0x5B, 0x5E] then [1]
  else if ty ∈ [0x56, 0x5A, 0x5C, 0x64, 0x69] then [2]
  else if ty = 0x5D then [3]
  else if ty = 0x60 then [4]
  else if ty = 0x53 then [5]
  else if ty = 0x66 then [6]
  else if ty = 0x65 then [11]
  else if ty = 0x61 then [2, 19]
  else if ty = 0x62 then [2, 3]
  else if ty = 0x63 then [2, 7]
  else []

/-- A transporter request's payload has the length of its type; a ROUTE's is given by its entry count of 1 to 32
(10.5.1, R42). -/
def tlLengthOk (ty : Byte) (p : List Byte) : Prop :=
  ty = 0x10 ∧ p.length = 6 ∨ ty = 0x11 ∧ p.length = 9 ∨ ty = 0x13 ∧ p.length = 4 ∨ ty = 0x14 ∧ p.length = 2 ∨
  (ty = 0x15 ∨ ty = 0x16) ∧ p.length = 1 ∨
  ty = 0x12 ∧ ∃ n, p.head? = some n ∧ 1 ≤ n.toNat ∧ n.toNat ≤ 32 ∧ p.length = 3 + 3 * n.toNat

/-- Every coded field of a transporter request lies in its set: directions, flags, results and end names (R180). -/
def tlCoded (ty : Byte) (p : List Byte) : Prop :=
  (ty = 0x10 → ∀ i ∈ [3, 4], ∀ b, p[i]? = some b → b.toNat ≤ 1) ∧
  (ty = 0x11 → ∀ i ∈ [4, 7], ∀ b, p[i]? = some b → b.toNat ≤ 1) ∧
  (ty = 0x15 → ∀ b, p[0]? = some b → b.toNat ≤ 1) ∧
  (ty = 0x12 → ∀ k b, k % 3 ≠ 0 → p[3 + k]? = some b → b.toNat ≤ 2)

/-! ## Withdrawing, shortening, leaving -/

/-- Section n stands in t's record. -/
abbrev State.inRecord (s : State) (t : TId) (n : Nat) : Prop := ∃ e ∈ (s.route t).entries, e.sec = n

/-- Between s and u the reservation of t was dropped, and its stop causes evaluated (R58, R121; the details of RESUMED: log
24); without a reservation nothing happened. -/
structure State.Dropped (s u : State) (t : TId) : Prop where
  nothing : s.settingRun t = [] → u = s
  drop : s.settingRun t ≠ [] → ∃ m : State, m = { s with sections := m.sections, walkDue := true } ∧
    (∀ n, m.sec? n = (s.sec? n).map fun x =>
      { x with hold := if s.holdBy t n = some .setting ∧ s.inRecord t n then none else x.hold }) ∧ m.Evaluated u [t]

/-- The candidates of a shortening toward e from the end p (R76, R77). -/
def State.shortenCandidate (s : State) (t : TId) (e p d : RoutePos) : Prop :=
  d = e ∨ ∃ f ∈ (s.route t).entries, d = s.exitBoundary f ∧ e.idx ≤ f.index ∧ f.index < p.idx ∧ d.ahead e = true

/-- The hold of section n after t's authority is shortened from p to c (R75, R78): a reservation is dropped, a GRANTED
section beyond the new end becomes RELEASE_PENDING. -/
def State.holdShortened (s : State) (t : TId) (p c : RoutePos) (n : Nat) (h : Option Hold) : Option Hold :=
  if s.holdBy t n = some .setting ∧ s.inRecord t n then none
  else if s.holdBy t n = some .granted ∧ c ≠ p ∧ ∃ e ∈ (s.route t).entries, e.sec = n ∧ c.idx < e.index then
    h.map fun x => { x with kind := .releasePending }
  else h

/-- Between s and u the authority of t, whose end was p, was shortened toward e on request, to the effective end c
(R75 to R79); `park` tells a GIVEBACK, which parks at any reported speed (log 37). First t leaves the queue and its
reservation is dropped (Dropped); after that nothing is told, and no AUTH is formed unless the end moves. -/
structure State.Shortened (s u : State) (t : TId) (e p c : RoutePos) (park : Bool) : Prop where
  chosen : c = p ∨ u.shortenCandidate t e p c ∧ u.brakingOk t c = true
  first : ∀ d, u.shortenCandidate t e p d → c.ahead d = true → u.brakingOk t d = false
  number : (u.route t).authNum = if c = p then (s.route t).authNum else nextAuth (s.route t).authNum
  endPos : (u.route t).endPos = some c
  keep : (u.route t).keep = false
  entries : (u.route t).entries = (s.route t).entries.filter fun x =>
    decide (s.holdBy t x.sec = some .granted ∨ s.holdBy t x.sec = some .releasePending)
  final : (u.route t).finalOff = if u.pendingRun t = [] then c.off else (s.route t).finalOff
  holds : ∀ n, u.sec? n = (s.sec? n).map fun x => { x with hold := s.holdShortened t p c n x.hold }
  record : u.tr t =
    let x := if s.settingRun t = [] then s.tr t
      else (s.tr t).evaluated (u.stopCauses t) (decide (s.speed t ≤ s.params.overspeedTol))
    if park = true ∧ x.state = .authorised ∧ u.frontPos t = some c then { x with state := .parked } else x
  auth : c ≠ p → u.AuthCurrent t
  waiting : u.waiting = s.waiting.filter fun w => decide (w.t ≠ t)
  walk : u.walkDue = (s.walkDue || !(s.settingRun t).isEmpty)
  told : s.settingRun t = [] → u.opss = s.opss
  dropped : ∃ d, ({ s with waiting := u.waiting } : State).Dropped d t ∧ u.opss = d.opss ∧
    (c = p → (u.tl t).auth = (d.tl t).auth ∧ u.ceilings[t] = d.ceilings[t])
  route : u.route t = { s.route t with
    entries := (u.route t).entries, endPos := some c, finalOff := (u.route t).finalOff
    nextIdx := (u.route t).nextIdx, authNum := (u.route t).authNum, keep := false }
  port : s.OnlyAuth u t
  only : u = { s with sections := u.sections, trs := u.trs, routes := u.routes, tls := u.tls, ceilings := u.ceilings
                      waiting := u.waiting, walkDue := u.walkDue, opss := u.opss }
  others : ∀ v, v ≠ t → s.SameTransporter u v

/-- t holds section n, in a kind that a release ends (R70). -/
abbrev State.holdsFirm (s : State) (t : TId) (n : Nat) : Prop :=
  s.holdBy t n = some .granted ∨ s.holdBy t n = some .releasePending

/-- Between s and u transporter t went OFFLINE by RETIRE or LEAVE (R119, R120, R105): its whole route is released, its
record is empty but for its parameters, and its AUTH slot orders STAND with number 0. Its route record is the empty one,
whose final stop offset is 0 by log 5. -/
structure State.WentOffline (s u : State) (t : TId) (cause : ReleaseCause) : Prop where
  record : u.tr t = { Transporter.initial with
    decelEmpty := (s.tr t).decelEmpty, decelLoaded := (s.tr t).decelLoaded, vmaxEmpty := (s.tr t).vmaxEmpty
    vmaxLoaded := (s.tr t).vmaxLoaded, supervision := (s.tr t).supervision, quota := (s.tr t).quota }
  route : u.route t = RouteRecord.empty
  port : u.tl t = { s.tl t with auth := some ⟨0, none, 0, 0, 0, .stand, .empty, .empty⟩ }
  ceiling : u.ceilings[t] = 0
  holds : ∀ n, u.sec? n = (s.sec? n).map fun x =>
    { x with hold := if s.holdBy t n ≠ none ∧ s.inRecord t n then none else x.hold }
  locks : ∀ p, (u.point? p = s.point? p) ∨
    ∃ x, s.point? p = some x ∧ x.lock = some t ∧ u.point? p = some { x with lock := none }
  unlocked : ∀ n p x, s.holdsFirm t n → s.inRecord t n → u.pointOf n = some (p, x) → x.lock ≠ some t
  waiting : u.waiting = s.waiting.filter fun w => decide (w.t ≠ t)
  walk : u.walkDue = (s.walkDue || decide (∃ e ∈ (s.route t).entries, s.holdBy t e.sec ≠ none))
  told : s.Told u (((s.route t).entries.filter fun e => decide (s.holdsFirm t e.sec)).map fun e =>
    .released t e.sec e.index cause)
  only : u = { s with sections := u.sections, points := u.points, trs := u.trs, routes := u.routes, tls := u.tls
                      ceilings := u.ceilings, waiting := u.waiting, walkDue := u.walkDue, opss := u.opss }
  others : ∀ v, v ≠ t → s.SameTransporter u v

/-! ## Zones that become stopped -/

/-- Between s and w the zone n became stopped, before any evaluation (R130): ZONE_STOP is told, and every transporter
that holds a section of the zone SETTING loses its whole reservation. -/
structure State.ZoneStopping (s w : State) (n : Fin 8) : Prop where
  told : s.Told w [.zoneStop n.val s.lines[n].mode s.lines[n].asserted]
  holds : ∀ m, w.sec? m = (s.sec? m).map fun x => { x with hold :=
    match x.hold with
    | some h => if h.kind = .setting ∧ s.settingInZone n h.holder = true ∧ s.inRecord h.holder m then none else x.hold
    | none => x.hold }
  walk : w.walkDue = true ↔ s.walkDue = true ∨ ∃ t, s.settingInZone n t = true
  only : w = { s with sections := w.sections, walkDue := w.walkDue, opss := w.opss }

/-- Between s and u line n took the value y (R126, R130, R131): where that changes the zone's flag in RUNNING, the zone
is stopped or freed, and every transporter is evaluated; otherwise nothing else happens. -/
def State.LineChanged (s u : State) (n : Fin 8) (y : StopLine) (c : ClearCause) : Prop :=
  let s1 : State := { s with lines := s.lines.set n y }
  (s.site ≠ .running ∨ s.lines[n].stopped = y.stopped → u = s1) ∧
  (s.site = .running → s.lines[n].stopped = true → y.stopped = false →
    ({ s1 with walkDue := true }.post (.zoneCleared n.val y.mode c)).Evaluated u allT) ∧
  (s.site = .running → s.lines[n].stopped = false → y.stopped = true →
    ∃ w, s1.ZoneStopping w n ∧ w.Evaluated u allT)

/-! ## A configuration that COMMIT accepts (R184) -/

/-- The address a holds a unit record of type typ. -/
abbrev State.servedBy (s : State) (a : Nat) (typ : UnitType) : Prop := ∃ u, s.unit? a = some u ∧ u.typ = typ

/-- The nine checks of R184, in its order. -/
structure State.Sound (s : State) : Prop where
  some_section : s.sections ≠ []
  links : ∀ p ∈ s.sections, ∀ e m f, p.2.defn.linkOf e = some (.to m f) →
    ∃ y, s.sec? m = some y ∧ y.defn.linkOf f = some (.to p.1 e)
  point_sections : ∀ p ∈ s.sections, p.2.defn.isPoint = true →
    (s.points.filter fun q => decide (q.2.sec = p.1)).length = 1
  points : ∀ q ∈ s.points, ∃ x, s.sec? q.2.sec = some x ∧ x.defn.isPoint = true
  detectors : ∀ p ∈ s.sections, s.servedBy p.2.defn.detAddr .detector ∧ ∀ q ∈ s.sections, q.1 ≠ p.1 →
    ¬ (q.2.defn.detAddr = p.2.defn.detAddr ∧ q.2.defn.detSlot = p.2.defn.detSlot)
  point_units : ∀ p ∈ s.points, s.servedBy p.2.addr .point ∧ ∀ q ∈ s.points, q.1 ≠ p.1 → q.2.addr ≠ p.2.addr
  pad_units : ∀ p ∈ s.pads, s.servedBy p.2.addr .pad ∧ ∀ q ∈ s.pads, q.1 ≠ p.1 → q.2.addr ≠ p.2.addr
  pads : ∀ p ∈ s.pads, ∃ x, s.sec? p.2.sec = some x ∧ x.defn.isPoint = false ∧ p.2.stop ≤ x.defn.len
  one_mast : (s.units.filter fun p => decide (p.2.typ = .mast)).length ≤ 1
  one_kind : ∀ p ∈ s.units,
    let sec := ∃ q ∈ s.sections, q.2.defn.detAddr = p.1
    let pt := ∃ q ∈ s.points, q.2.addr = p.1
    let pd := ∃ q ∈ s.pads, q.2.addr = p.1
    ¬ (sec ∧ pt) ∧ ¬ (sec ∧ pd) ∧ ¬ (pt ∧ pd) ∧ (p.2.typ = .mast ∨ sec ∨ pt ∨ pd)
  pool : (s.trs.toList.map (·.quota)).sum ≤ 128

/-- The subject of class k and number n fails a step of R184, for the reason r. Where one subject may fail one step in
several ways, the way numbers them in the order of log 36: links A, B, C, and the unit record before a double naming.
Steps 1 and 9 name the site, step 7 every MAST but the lowest (log 22). -/
inductive State.Fails (s : State) : (step : Nat) → (k : SubjectClass) → (n way : Nat) → (r : Reason) → Prop
  | noSection : s.sections = [] → s.Fails 1 .site 0 0 .unknownId
  | linkToNone (n x e m f) : (n, x) ∈ s.sections → x.defn.linkOf e = some (.to m f) → s.sec? m = none →
      s.Fails 2 .trackSection n e.code.toNat .unknownId
  | linkNotBack (n x e m f y) : (n, x) ∈ s.sections → x.defn.linkOf e = some (.to m f) → s.sec? m = some y →
      y.defn.linkOf f ≠ some (.to n e) → s.Fails 2 .trackSection n e.code.toNat .range
  | pointsOfSection (n x) : (n, x) ∈ s.sections → x.defn.isPoint = true →
      (s.points.filter fun q => decide (q.2.sec = n)).length ≠ 1 → s.Fails 3 .trackSection n 0 .range
  | pointOnNone (n x) : (n, x) ∈ s.points → s.sec? x.sec = none → s.Fails 3 .point n 0 .unknownId
  | pointOnPlain (n x y) : (n, x) ∈ s.points → s.sec? x.sec = some y → y.defn.isPoint = false →
      s.Fails 3 .point n 0 .range
  | sectionUnitNone (n x) : (n, x) ∈ s.sections → s.unit? x.defn.detAddr = none → s.Fails 4 .trackSection n 0 .unknownId
  | sectionUnitOther (n x u) : (n, x) ∈ s.sections → s.unit? x.defn.detAddr = some u → u.typ ≠ .detector →
      s.Fails 4 .trackSection n 0 .range
  | slotTwice (n x m y) : (n, x) ∈ s.sections → (m, y) ∈ s.sections → m ≠ n → y.defn.detAddr = x.defn.detAddr →
      y.defn.detSlot = x.defn.detSlot → s.Fails 4 .trackSection n 1 .range
  | pointUnitNone (n x) : (n, x) ∈ s.points → s.unit? x.addr = none → s.Fails 5 .point n 0 .unknownId
  | pointUnitOther (n x u) : (n, x) ∈ s.points → s.unit? x.addr = some u → u.typ ≠ .point → s.Fails 5 .point n 0 .range
  | pointUnitTwice (n x m y) : (n, x) ∈ s.points → (m, y) ∈ s.points → m ≠ n → y.addr = x.addr →
      s.Fails 5 .point n 1 .range
  | padUnitNone (n x) : (n, x) ∈ s.pads → s.unit? x.addr = none → s.Fails 5 .pad n 0 .unknownId
  | padUnitOther (n x u) : (n, x) ∈ s.pads → s.unit? x.addr = some u → u.typ ≠ .pad → s.Fails 5 .pad n 0 .range
  | padUnitTwice (n x m y) : (n, x) ∈ s.pads → (m, y) ∈ s.pads → m ≠ n → y.addr = x.addr → s.Fails 5 .pad n 1 .range
  | padOnNone (n x) : (n, x) ∈ s.pads → s.sec? x.sec = none → s.Fails 6 .pad n 0 .unknownId
  | padPlace (n x y) : (n, x) ∈ s.pads → s.sec? x.sec = some y → y.defn.isPoint = true ∨ y.defn.len < x.stop →
      s.Fails 6 .pad n 0 .range
  | secondMast (a x b y) : (a, x) ∈ s.units → x.typ = .mast → (b, y) ∈ s.units → y.typ = .mast → b < a →
      s.Fails 7 .unit a 0 .range
  | kindsOfUnit (a x) : (a, x) ∈ s.units →
      (let sec := ∃ q ∈ s.sections, q.2.defn.detAddr = a
       let pt := ∃ q ∈ s.points, q.2.addr = a
       let pd := ∃ q ∈ s.pads, q.2.addr = a
       sec ∧ pt ∨ sec ∧ pd ∨ pt ∧ pd ∨ x.typ ≠ .mast ∧ ¬ sec ∧ ¬ pt ∧ ¬ pd) → s.Fails 8 .unit a 0 .range
  | quotas : 128 < (s.trs.toList.map (·.quota)).sum → s.Fails 9 .site 0 0 .range

/-- The turn of a subject class within a step of R184: sections, then points, then pads, then addresses. -/
def SubjectClass.turn : SubjectClass → Nat
  | .site => 0
  | .trackSection => 0
  | .point => 1
  | .pad => 2
  | .unit => 3
  | .transporter => 4
  | .zone => 4
  | .link => 4

/-- The failure that a refused COMMIT names (R184): of the first step that fails, of its lowest subject, of its first way. -/
def State.FailsFirst (s : State) (step : Nat) (k : SubjectClass) (n : Nat) (r : Reason) : Prop :=
  ∃ way, s.Fails step k n way r ∧ ∀ step' k' n' way' r', s.Fails step' k' n' way' r' →
    step < step' ∨ step = step' ∧ (k.turn < k'.turn ∨ k.turn = k'.turn ∧ (n < n' ∨ n = n' ∧ way ≤ way'))

/-- The runtime state that COMMIT and CONFIGURE leave alike (R185, R186): detection UNKNOWN and nothing held, points and
pads as freshly defined, every transporter OFFLINE, no transfer, no queue, every unit ACTIVE and unsurveyed. An empty
route record has the final stop offset 0 (log 5). -/
structure State.RunCleared (s u : State) : Prop where
  sections : ∀ n, u.sec? n = (s.sec? n).map fun x => ⟨x.defn, .unknown, s.clock, none⟩
  points : ∀ p, u.point? p = (s.point? p).map fun x => ⟨x.sec, x.addr, .unknown, none, none, none, none, none⟩
  pads : ∀ p, u.pad? p = (s.pad? p).map fun x =>
    ⟨x.sec, x.stop, x.tol, x.addr, .vacant, none, .unknown, .unknown, false, .none⟩
  units : ∀ a, u.unit? a = (s.unit? a).map fun x => ⟨x.typ, .active, 0, false, false⟩
  transporters : ∀ t, u.tr t = { Transporter.initial with
    decelEmpty := (s.tr t).decelEmpty, decelLoaded := (s.tr t).decelLoaded, vmaxEmpty := (s.tr t).vmaxEmpty
    vmaxLoaded := (s.tr t).vmaxLoaded, supervision := (s.tr t).supervision, quota := (s.tr t).quota }
  routes : ∀ t, u.route t = RouteRecord.empty ∧ u.ceilings[t] = 0 ∧ u.transfers[t] = none
  rest : u.waiting = [] ∧ u.roomWait = false ∧ u.walkDue = false ∧ u.restoreList = [] ∧ u.cmdQueue = [] ∧
    u.forced = 0 ∧ u.padWaiters = [] ∧ u.gust = none ∧ u.mean = none ∧ u.mastHold = none
  kept : u.pending = s.pending ∧ u.clock = s.clock ∧ u.allStop = s.allStop ∧ u.params = s.params ∧
    u.lines = s.lines ∧ u.tls = s.tls ∧ u.resetHold = s.resetHold ∧ u.resetCause = s.resetCause

/-! ## Joining, tripping, recovering -/

/-- Between s and u transporter t joined with the standing run es, rear first (R107, R108): front section and offset as
sent, direction d, load ld, rear section. Of the points only those of the run's sections change, which it locks. -/
structure State.Joined (s u : State) (t : TId) (es : List Entry) (sec off : Nat) (d : Dir) (ld : Bool)
    (rear : Option Nat) : Prop where
  sections : es.map (·.sec) = rear.toList ++ [sec]
  indices : es.map (·.index) = (List.range es.length).map (· + 1)
  contiguous : s.contiguous es = true
  inPosition : ∀ e ∈ es, ∀ x, s.sec? e.sec = some x → x.defn.isPoint = true → s.inPosition e = true
  sense : ∀ f, es.getLast? = some f → senseOf f.ent = d
  route : ∀ f, es.getLast? = some f → u.route t =
    ⟨es, some f.index, some ⟨f.index, s.travelled f off⟩, s.travelled f off, 1, f.index + 1, false⟩
  record : ∀ f, es.getLast? = some f → u.tr t = { s.tr t with
    state := .parked, stop := u.stopCauses t, trips := .empty, superv := some (.load (s.tr t).supervision)
    last := some ⟨sec, min off (s.pathLen f), d, 0, ld, 0, rear⟩, standSeen := false, awaitingFix := false }
  holds : ∀ n, u.sec? n = (s.sec? n).map fun x =>
    { x with hold := if n ∈ es.map (·.sec) then some ⟨t, .granted, true⟩ else x.hold }
  locks : ∀ n ∈ es.map (·.sec), ∀ p x, u.pointOf n = some (p, x) → x.lock = some t
  points : ∀ p, u.point? p = (s.point? p).map fun x =>
    { x with lock := if ∃ e ∈ es, (s.pointOf e.sec).map (·.1) = some p then some t else x.lock }
  auth : u.AuthCurrent t
  port : s.OnlyAuth u t
  told : ∀ f, es.getLast? = some f → s.Told u [.granted t 1 sec f.index (s.travelled f off) (es.map (·.sec))]
  only : u = { s with sections := u.sections, points := u.points, trs := u.trs, routes := u.routes, tls := u.tls
                      ceilings := u.ceilings, opss := u.opss }
  others : ∀ v, v ≠ t → s.SameTransporter u v

/-- Between s and u transporter t, not yet TRIPPED, tripped for the cause c (R115). -/
structure State.TripTaken (s u : State) (t : TId) (c : TripCause) : Prop where
  record : u.tr t = { s.tr t with
    state := .tripped, standSeen := false, trips := (s.tr t).trips.insert c
    stop := if s.settingRun t = [] then (s.tr t).stop else u.stopCauses t }
  entries : (u.route t).entries = (s.route t).entries.filter fun e => decide (s.holdsFirm t e.sec)
  route : u.route t = { s.route t with
    entries := (u.route t).entries, nextIdx := (u.route t).nextIdx, keep := false
    finalOff := ((s.route t).endPos.map (·.off)).getD 0 }
  holds : ∀ n, u.sec? n = (s.sec? n).map fun x =>
    { x with hold := if s.holdBy t n = some .setting ∧ s.inRecord t n then none else x.hold }
  waiting : u.waiting = s.waiting.filter fun w => decide (w.t ≠ t)
  walk : u.walkDue = (s.walkDue || !(s.settingRun t).isEmpty)
  auth : u.AuthCurrent t
  port : s.OnlyAuth u t
  told : s.Told u [.tripped t (TripSet.empty.insert c) (u.tr t).trips ((s.tr t).last.map (·.sec))
    ((s.tr t).last.map (·.off))]
  only : u = { s with sections := u.sections, trs := u.trs, routes := u.routes, tls := u.tls, ceilings := u.ceilings
                      waiting := u.waiting, walkDue := u.walkDue, opss := u.opss }
  others : ∀ v, v ≠ t → s.SameTransporter u v

/-- Between s and u transporter t recovered from TRIPPED on a fix report r whose front entry is f (R118): the held entries
behind and ahead of the kept run are released with RECOVER, and, last, after RESUMED, its rear entries that are CLEAR are
released in turn (R69; that this comes last is log 33). -/
structure State.Recovered (s u : State) (t : TId) (f : Entry) (r : Report) : Prop where
  record : u.tr t = { s.tr t with
    state := .parked, trips := .empty, awaitingFix := false, stop := u.stopCauses t
    last := some { r with off := min r.off (s.pathLen f) } }
  front : (u.route t).front = some f.index ∧ f ∈ (u.route t).entries
  endPos : (u.route t).endPos = some ⟨f.index, s.travelled f r.off⟩
  final : (u.route t).finalOff = s.travelled f r.off
  number : (u.route t).authNum = nextAuth (s.route t).authNum
  keep : (u.route t).keep = false
  entries : (u.route t).entries = ((s.heldRun t).filter fun e =>
    decide (s.keptFrom t f.index r.rear ≤ e.index ∧ e.index ≤ f.index)).dropWhile fun e =>
      decide (e ≠ f ∧ s.detOf e.sec = .clear)
  kept : ∀ e ∈ (u.route t).entries, (u.sec? e.sec).map (·.hold) = some (some ⟨t, .granted, true⟩)
  released : ∀ e ∈ (s.route t).entries, e.sec ∉ (u.route t).entries.map (·.sec) → u.holdBy t e.sec = none
  holds : ∀ n, u.sec? n = (s.sec? n).map fun x =>
    { x with hold :=
        if n ∈ (u.route t).entries.map (·.sec) then some ⟨t, .granted, true⟩
        else if n ∈ (s.heldRun t).map (·.sec) then none else x.hold }
  locks : s.TablesWf → ∀ p, u.point? p = (s.point? p).map fun x =>
    let freed := ∃ e ∈ s.heldRun t, e ∉ (u.route t).entries ∧ (s.pointOf e.sec).map (·.1) = some p
    { x with lock := if x.lock = some t ∧ freed then none else x.lock }
  told :
    let lo := s.keptFrom t f.index r.rear
    let behind := (s.heldRun t).filter fun e => decide (e.index < lo)
    let ahead := (s.heldRun t).filter fun e => decide (f.index < e.index)
    let clear := ((s.heldRun t).filter fun e => decide (lo ≤ e.index ∧ e.index ≤ f.index)).takeWhile fun e =>
      decide (e ≠ f ∧ s.detOf e.sec = .clear)
    s.Told u ((behind ++ ahead).map (fun e => .released t e.sec e.index .recover) ++
      [.resumed t (u.route t).authNum .parked] ++ clear.map fun e => .released t e.sec e.index .rear)
  walk : u.walkDue = (s.walkDue || decide (∃ e ∈ s.heldRun t, e ∉ (u.route t).entries))
  auth : u.AuthCurrent t
  port : s.OnlyAuth u t
  detection : ∀ n, (u.sec? n).map (fun x => (x.defn, x.det, x.capture)) =
    (s.sec? n).map fun x => (x.defn, x.det, x.capture)
  only : u = { s with sections := u.sections, points := u.points, trs := u.trs, routes := u.routes, tls := u.tls
                      ceilings := u.ceilings, walkDue := u.walkDue, opss := u.opss }
  others : ∀ v, v ≠ t → s.SameTransporter u v

/-! ## Grants -/

/-- The grant of t has stopped where the rules stop it (R48 to R53): its next unit, if there is one, is not available, and
nothing is reserved; or it is available but out of position, and then it is reserved whole, with t's own throw outstanding
for each point out of position, or, where the throws do not fit, nothing is reserved and the room-wait flag is set. -/
structure State.GrantStops (s : State) (t : TId) : Prop where
  unavailable : (∃ e ∈ s.nextUnit t, s.available t e = false) → s.settingRun t = []
  granted : s.nextUnit t ≠ [] → (∀ e ∈ s.nextUnit t, s.available t e = true) →
    ∃ e ∈ s.nextUnit t, s.inPosition e = false
  setting : s.nextUnit t ≠ [] → (∀ e ∈ s.nextUnit t, s.available t e = true) →
    (∀ e ∈ s.nextUnit t, e ∈ s.settingRun t) ∧ (∀ e ∈ s.nextUnit t, s.inPosition e = false → ∃ p x,
      s.pointOf e.sec = some (p, x) ∧ s.outstanding p = some (.tr t, requiredBlade e.ent e.ext)) ∨
    s.settingRun t = [] ∧ s.roomWait = true ∧ s.offerOk ((s.nextUnit t).filterMap (s.throwFor t)) = false

/-- The entries of t's record that are GRANTED in u and were not in s, in route order. -/
def State.newlyGranted (s u : State) (t : TId) : List Entry :=
  (u.route t).entries.filter fun e => decide (u.holdBy t e.sec = some .granted ∧ s.holdBy t e.sec ≠ some .granted)

/-- Between s and u sections were granted, reserved and dropped for the transporters of `who`, and points locked, by the
rules R50 to R52 and R58 alone: definitions, detection and capture times stay; a hold that changed was none or a SETTING of
one of these, and is none or a GRANTED or SETTING of one of these in an entry of its record, its entered flag clear; and
every point is as before but for the lock of the points of the newly GRANTED sections. -/
structure State.TrackGranted (s u : State) (who : TId → Prop) : Prop where
  detection : ∀ n, (u.sec? n).map (fun x => (x.defn, x.det, x.capture)) =
    (s.sec? n).map fun x => (x.defn, x.det, x.capture)
  holds : ∀ n, (u.sec? n).bind (·.hold) = (s.sec? n).bind (·.hold) ∨
    (∀ h, (s.sec? n).bind (·.hold) = some h → h.kind = .setting ∧ who h.holder) ∧
    ∀ h, (u.sec? n).bind (·.hold) = some h → (h.kind = .granted ∨ h.kind = .setting) ∧ h.entered = false ∧
      who h.holder ∧ ∃ e ∈ (u.route h.holder).entries, e.sec = n
  locked : ∀ t, ∀ e ∈ s.newlyGranted u t, ∀ p, (s.pointOf e.sec).map (·.1) = some p →
    u.point? p = (s.point? p).map fun x => { x with lock := some t }
  points : ∀ p, (∀ t, ∀ e ∈ s.newlyGranted u t, (s.pointOf e.sec).map (·.1) ≠ some p) → u.point? p = s.point? p

/-- GRANTED with what t's record holds, number and end, and the sections newly granted (R54 step 5, R46). -/
def State.grantNotice (s : State) (t : TId) (secs : List Nat) : NoticeBody :=
  let i := ((s.route t).endPos.map (·.idx)).getD 0
  .granted t (s.route t).authNum (((s.entryAt t i).map (·.sec)).getD 0) i (((s.route t).endPos.map (·.off)).getD 0) secs

/-- The notices of one evaluation of t between s and u (R47, R54): where it granted or reserved a section, what the
evaluation of t's stop causes brings (R121; the details of RESUMED: log 24), and where it granted one, GRANTED. -/
def State.grantTold (s u : State) (t : TId) : List NoticeBody :=
  (if s.newlyGranted u t = [] ∧ u.settingRun t = [] then [] else s.evaluationNotice t) ++
  if s.newlyGranted u t = [] then [] else [u.grantNotice t ((s.newlyGranted u t).map (·.sec))]

/-- t's entry in the pending queue as it is loaded (R60): with WAIT_LIMIT, or with no countdown where that is 0. -/
def State.waitEntry (s : State) (t : TId) : Waiting :=
  ⟨t, if s.params.waitLimit = 0 then none else some (.load (10 * s.params.waitLimit))⟩

/-- The pending queue after one evaluation of t between s and u (R47, R54, R59, R60): t leaves it when it is granted the
last of its route; its countdown is loaded again where it is granted a part; and it joins the tail, its countdown loaded,
where its route is not fully granted and it does not wait yet. -/
def State.QueueKept (s u : State) (t : TId) : Prop :=
  u.waiting =
    if u.fullyGranted t = true then
      if s.newlyGranted u t = [] then s.waiting else s.waiting.filter fun w => decide (w.t ≠ t)
    else if s.isWaiting t = false then s.waiting ++ [s.waitEntry t]
    else if s.newlyGranted u t = [] then s.waiting
    else s.waiting.map fun w => if w.t = t then s.waitEntry t else w

/-- The end of a record rebuilt as es, with its section (R44 step 4): in the last GRANTED entry, at the final stop offset
if that is the last entry of the route, and otherwise at its path length. -/
def State.rebuiltEnd (s : State) (t : TId) (es : List Entry) (final : Nat) : Option (Nat × RoutePos) :=
  ((es.filter fun e => decide (s.holdBy t e.sec = some .granted)).getLast?).map fun e =>
    (e.sec, ⟨e.index, if (es.getLast?).map (·.index) = some e.index then final else s.pathLen e⟩)

/-- t waits, may be evaluated, and comes before every other waiting transporter that a walk could give anything or take
anything from (R64): each older one has a RELEASE_PENDING run, or holds nothing SETTING and has no available next unit. -/
def State.firstServed (s : State) (t : TId) : Prop :=
  ∃ before w after, s.waiting = before ++ w :: after ∧ w.t = t ∧ s.pendingRun t = [] ∧
    ∀ v ∈ before, s.pendingRun v.t ≠ [] ∨
      s.settingRun v.t = [] ∧ (s.nextUnit v.t = [] ∨ ∃ e ∈ s.nextUnit v.t, s.available v.t e = false)

/-! ## Releases, obstructions, detection changes -/

/-- Entry e is the rear of t's record and passes the release test (R68). -/
def State.PassesRelease (s : State) (t : TId) (e : Entry) : Prop :=
  (s.route t).entries.head? = some e ∧
  (∃ x, s.sec? e.sec = some x ∧ x.hold = some ⟨t, .granted, true⟩ ∧ x.det = .clear) ∧
  (∃ f, (s.route t).front = some f ∧ f ≠ e.index) ∧ (s.route t).endPos.map (·.idx) ≠ some e.index ∧
  (s.tr t).state ≠ .tripped

/-- Between s and u entry e of t's record was released (R70): the hold and the lock go, and so does the entry unless it is
kept as ungranted tail (R81); RELEASED is told, t's stop causes are evaluated (the details of RESUMED: log 24), and a walk
is due. -/
def State.Released (s u : State) (t : TId) (e : Entry) (cause : ReleaseCause) (kept : Bool := false) : Prop :=
  ∃ m : State, m = { s with
      sections := m.sections, points := m.points, routes := m.routes, walkDue := true, opss := m.opss } ∧
    (∀ n, m.sec? n = (s.sec? n).map fun x => { x with hold := if n = e.sec then none else x.hold }) ∧
    (∀ p, m.point? p = (s.point? p).map fun x =>
      { x with lock := if (s.pointOf e.sec).map (·.1) = some p ∧ x.lock = some t then none else x.lock }) ∧
    m.route t = { s.route t with
      entries := if kept then (s.route t).entries else (s.route t).entries.filter fun f => decide (f.index ≠ e.index)
      nextIdx := if kept then (s.route t).nextIdx else (m.route t).nextIdx } ∧
    (∀ v, v ≠ t → m.route v = s.route v) ∧ s.Told m [.released t e.sec e.index cause] ∧ m.Evaluated u [t]

/-- Between s and u the entries es of t's record were released one after another, rear first, each passing the release test
when it is the rear, until the rear fails it (R69, R71). -/
def State.Cascaded (t : TId) : List Entry → State → State → Prop
  | [], s, u => u = s ∧ ∀ e, ¬ s.PassesRelease t e
  | e :: es, s, u => s.PassesRelease t e ∧ ∃ m, s.Released m t e .rear ∧ State.Cascaded t es m u

/-- Between s and u the authority of t was cut back to c by an obstruction (R78, R80, R85): GRANTED entries beyond are
RELEASE_PENDING, the keep mark is set where no such run was there before, and the tail stays in the record. -/
structure State.CutBack (s u : State) (t : TId) (c : RoutePos) : Prop where
  route : u.route t = { s.route t with
    authNum := nextAuth (s.route t).authNum, endPos := some c
    keep := if s.pendingRun t = [] then true else (s.route t).keep }
  holds : ∀ n, u.sec? n = (s.sec? n).map fun x =>
    { x with hold := if s.holdBy t n = some .granted ∧ ∃ e ∈ (s.route t).entries, e.sec = n ∧ c.idx < e.index
        then x.hold.map fun h => { h with kind := .releasePending } else x.hold }
  auth : u.AuthCurrent t
  port : s.OnlyAuth u t
  only : u = { s with sections := u.sections, routes := u.routes, tls := u.tls, ceilings := u.ceilings }
  others : ∀ v, v ≠ t → s.SameTransporter u v

/-- Between s and u an obstruction at entry e, ahead of t's front, was met (R85): the reservation is dropped, and then the
authority ends at the exit of the entry before e if the braking test allows it, or else t trips. -/
def State.CutBefore (s u : State) (t : TId) (e : Entry) : Prop :=
  ∃ m, s.Dropped m t ∧
    (∀ f, m.entryAt t (e.index - 1) = some f → m.brakingOk t (m.exitBoundary f) = true →
      m.CutBack u t (m.exitBoundary f)) ∧
    ((∀ f, m.entryAt t (e.index - 1) = some f → m.brakingOk t (m.exitBoundary f) = false) →
      m.TripTaken u t .obstruction)

/-- Between s and u an obstruction of section n was met: a point fault, or a detection DISTURBED or UNKNOWN (R83 to R88). -/
structure State.Obstructed (s u : State) (n : Nat) (fault : Bool) : Prop where
  unheld : (s.sec? n).bind (·.hold) = none → u = s
  setting : ∀ h, (s.sec? n).bind (·.hold) = some h → h.kind = .setting → s.Dropped u h.holder
  pending : ∀ h, (s.sec? n).bind (·.hold) = some h → h.kind = .releasePending → u = s
  deferred : ∀ h, (s.sec? n).bind (·.hold) = some h → h.kind = .granted →
    (s.tr h.holder).state = .offline ∨ (s.tr h.holder).state = .tripped ∨ (s.tr h.holder).state = .transfer → u = s
  ahead : ∀ h e f, (s.sec? n).bind (·.hold) = some h → h.kind = .granted →
    (s.tr h.holder).state = .parked ∨ (s.tr h.holder).state = .authorised ∨ (s.tr h.holder).state = .held →
    s.entryOf h.holder n = some e → (s.route h.holder).front = some f → f < e.index → s.CutBefore u h.holder e
  behind : ∀ h e f, (s.sec? n).bind (·.hold) = some h → h.kind = .granted →
    (s.tr h.holder).state = .parked ∨ (s.tr h.holder).state = .authorised ∨ (s.tr h.holder).state = .held →
    s.entryOf h.holder n = some e → (s.route h.holder).front = some f → e.index ≤ f →
    (fault = true → s.TripTaken u h.holder .obstruction) ∧ (fault = false → u = s)

/-- Between s and u the deferred examination of t was made, which leaves TRANSFER for PARKED (R88): the first GRANTED entry
from the rear that calls for it is met as an obstruction; where none does, nothing happens. -/
structure State.Examined (s u : State) (t : TId) : Prop where
  nothing : (∀ e ∈ s.grantedRun t, s.deferredAt t e = none) → u = s
  ahead : ∀ before e after f, s.grantedRun t = before ++ e :: after → (∀ b ∈ before, s.deferredAt t b = none) →
    (s.route t).front = some f → f < e.index →
    s.detOf e.sec = .disturbed ∨ s.detOf e.sec = .unknown ∨ (s.pointOf e.sec).bind (·.2.latch) ≠ none → s.CutBefore u t e
  behind : ∀ before e after f, s.grantedRun t = before ++ e :: after → (∀ b ∈ before, s.deferredAt t b = none) →
    (s.route t).front = some f → e.index ≤ f → (s.pointOf e.sec).bind (·.2.latch) ≠ none → s.TripTaken u t .obstruction

/-- Between s and u the Route Interlock was handed the change of section n to detection d (R25): without a holder, CLEAR
is a trigger (R63); OCCUPIED sets the entered flag of a GRANTED section (R67); on a SETTING one CLEAR and OCCUPIED are
triggers (R65); DISTURBED and UNKNOWN are an obstruction; and then the holder's rear is tested (R69), last (log 35). -/
def State.HandedOn (s u : State) (n : Nat) (d : Detection) : Prop :=
  ((s.sec? n).bind (·.hold) = none → u = if d = .clear then { s with walkDue := true } else s) ∧
  ∀ h, (s.sec? n).bind (·.hold) = some h → ∃ m es, State.Cascaded h.holder es m u ∧
    (d = .occupied → h.kind = .granted → m = { s with sections := m.sections } ∧
      ∀ k, m.sec? k = (s.sec? k).map fun x =>
        { x with hold := if k = n then some { h with entered := true } else x.hold }) ∧
    (d = .occupied ∨ d = .clear → h.kind = .setting → m = { s with walkDue := true }) ∧
    (d = .occupied → h.kind = .releasePending → m = s) ∧ (d = .clear → h.kind ≠ .setting → m = s) ∧
    (d = .disturbed ∨ d = .unknown → s.Obstructed m n false)

/-- Between s and u several detection changes were handed on, one after another (R18, R25, R89). -/
def State.AllHandedOn : List (Nat × Detection) → State → State → Prop
  | [], s, u => u = s
  | c :: cs, s, u => ∃ m, s.HandedOn m c.1 c.2 ∧ State.AllHandedOn cs m u

/-! ## Exits from the command queue -/

/-- c is the command that the owner r of a pad command offers (R141, R148, R162): a LIFT its UNCLAMP, a PLACE its CLAMP, a
clamp watch its CLAMP, to the unit of the pad. -/
def State.PadOffers (s : State) (r : Requester) (c : BusCmd) : Prop :=
  match r with
  | .xfer t => ∃ x p, s.transfers[t] = some x ∧ s.pad? x.pad = some p ∧
      c = ⟨if x.kind = .lift then .unclamp else .clamp, p.addr, x.pad, .xfer t⟩
  | .watch n => ∃ p, s.pad? n = some p ∧ c = ⟨.clamp, p.addr, n, .watch n⟩
  | .tr _ => False
  | .ops => False

/-- The command queue takes the pad command c (R162): one of its 16 places is free, and the unit is a PAD and not SILENT. -/
def State.PadRoom (s : State) (c : BusCmd) : Prop :=
  s.cmdQueue.length < 16 ∧ ∃ v, s.unit? c.addr = some v ∧ v.typ = .pad ∧ v.st ≠ .silent

/-- Between s and u the owner r of a pad command was told of it: its transfer changed by f, or its pad's clamp watch to w,
and no other transfer, pad or field of the pad changed. -/
def State.PadOwnerTold (s u : State) (r : Requester) (f : Transfer → Transfer) (w : Watch) : Prop :=
  (∀ t, r = .xfer t → u.pads = s.pads ∧
    ∀ v : TId, u.transfers[v] = if v = t then (s.transfers[v]).map f else s.transfers[v]) ∧
  (∀ n, r = .watch n → u.transfers = s.transfers ∧
    ∀ q, u.pad? q = if q = n then (s.pad? q).map fun p => { p with watch := w } else s.pad? q)

/-- Between s and u the pad command of r, which waits for room, was offered again (R162): it enters the queue, and is then
queued and waits no more, or it waits on. -/
def State.Reoffered (s u : State) (r : Requester) : Prop :=
  (∀ c, s.PadOffers r c → s.PadRoom c →
    u = { s with
      cmdQueue := s.cmdQueue ++ [c], padWaiters := s.padWaiters.filter fun w => decide (w ≠ r)
      transfers := u.transfers, pads := u.pads } ∧
    s.PadOwnerTold u r (fun x => { x with cmd := .queued }) .queued) ∧
  ((∀ c, s.PadOffers r c → ¬ s.PadRoom c) → u = s)

/-- Between s and u the pad commands of these owners were offered again, one after another. -/
def State.AllReoffered : List Requester → State → State → Prop
  | [], s, u => u = s
  | r :: rs, s, u => ∃ m, s.Reoffered m r ∧ State.AllReoffered rs m u

/-- Between s, from whose queue a command has just left, and u the exit had its effects (R162, R53): the pad commands that
wait for room are offered again, oldest first, and then a walk is due where the room-wait flag is set. -/
def State.Exited (s u : State) : Prop :=
  ∃ m, State.AllReoffered s.padWaiters s m ∧ u = { m with walkDue := s.walkDue || s.roomWait }

/-! ## Transfers that are aborted -/

/-- No entry of t's authority needs the deferred examination (R88). -/
abbrev State.nothingDeferred (s : State) (t : TId) : Prop := ∀ e ∈ s.grantedRun t, s.deferredAt t e = none

/-- Between s and w the pad command of t's transfer was withdrawn (R153 and R154, step 1): it waits for room no more, and
one that is queued leaves the queue, which is an exit (State.Exited: R162, R53). -/
def State.PadWithdrawn (s w : State) (t : TId) : Prop :=
  let z : State := { s with padWaiters := s.padWaiters.filter fun r => decide (r ≠ .xfer t) }
  ((∀ c ∈ s.cmdQueue, c.req ≠ .xfer t) → w = z) ∧
  ((∃ c ∈ s.cmdQueue, c.req = .xfer t) →
    ({ z with cmdQueue := s.cmdQueue.filter fun c => decide (c.req ≠ .xfer t) } : State).Exited w)

/-- Between s and w a clamp watch was opened on pad n (R141): its CLAMP is queued, or waits for room. -/
def State.WatchOpened (s w : State) (n : Nat) : Prop :=
  (s.pad? n = none → w = s) ∧ ∀ p, s.pad? n = some p →
    let c : BusCmd := ⟨.clamp, p.addr, n, .watch n⟩
    w = { s with
      pads := w.pads, cmdQueue := if s.offerOk [c] then s.cmdQueue ++ [c] else s.cmdQueue
      padWaiters := if s.offerOk [c] then s.padWaiters else s.padWaiters ++ [.watch n] } ∧
    ∀ m, w.pad? m = if m = n then some { p with watch := if s.offerOk [c] then .queued else .waiting } else s.pad? m

/-- Between s and m the transfer x of t ended, aborted with the cause c (steps 1 to 5 of R153 and R154): its pad command is
withdrawn, or, of a clean abort after the UNCLAMP was sent, a clamp watch opened, or CLAMP_FAILED told where the unit is
silent; then pad, register, record, XFER_END and notice follow. -/
def State.TransferEnded (s m : State) (t : TId) (x : Transfer) (c : AbortCause) : Prop :=
  ∃ w : State,
    (x.unclampSent = false ∨ x.loadMoving = true → s.PadWithdrawn w t) ∧
    (x.unclampSent = true → x.loadMoving = false →
      (c = .unitSilent → w = { s with opss := w.opss } ∧
        s.Told w [.clampFailed x.pad (((s.pad? x.pad).map (·.clamp)).getD .unknown) (s.telescopeOnPad x.pad)]) ∧
      (c ≠ .unitSilent → s.WatchOpened w x.pad)) ∧
    m = { w with
      pads := m.pads, telescopes := m.telescopes, transfers := w.transfers.set t none, tls := m.tls, opss := m.opss } ∧
    (∀ q, m.pad? q = if q = x.pad then
      (w.pad? q).map fun p => { p with st := if x.loadMoving then .blocked else .occupied x.tel } else w.pad? q) ∧
    (x.loadMoving = false → m.telescopes = s.telescopes) ∧
    (x.loadMoving = true → ∀ k, m.locOf k = if k = x.tel then some (.indeterminate x.pad t) else s.locOf k) ∧
    m.tl t = { s.tl t with
      xfer := some (.xend (if x.loadMoving then .abortedIndeterminate else .abortedClean) x.pad) } ∧
    (∀ v, v ≠ t → m.tl v = s.tl v) ∧
    w.Told m [.transferAborted t x.pad x.kind x.stage c
      (if x.loadMoving then .abortedIndeterminate else .abortedClean)]

/-- Between s and u the transfer x of t was aborted with a cause that is no trip (R151 to R154): the transfer ended
(TransferEnded), and then t is PARKED and the deferred examination is made (Examined), with AUTH unless that trips it, or,
the load having moved, t trips with TRANSFER (TripTaken). -/
structure State.Aborted (s u : State) (t : TId) (x : Transfer) (c : AbortCause) : Prop where
  gone : u.transfers[t] = none
  slot : u.tl t = { s.tl t with
    auth := (u.tl t).auth
    xfer := some (.xend (if x.loadMoving then .abortedIndeterminate else .abortedClean) x.pad) }
  clean : x.loadMoving = false → u.telescopes = s.telescopes ∧
    (u.pad? x.pad).map (·.st) = (s.pad? x.pad).map (fun _ => .occupied x.tel) ∧
    ((u.tr t).state = .parked ∨ (u.tr t).state = .tripped) ∧
    (s.nothingDeferred t → (u.tr t).state = .parked ∧ u.AuthCurrent t ∧
      s.Told u ((if x.unclampSent = true ∧ c = .unitSilent then
          [.clampFailed x.pad (((s.pad? x.pad).map (·.clamp)).getD .unknown) (s.telescopeOnPad x.pad)] else []) ++
        [.transferAborted t x.pad x.kind x.stage c .abortedClean]))
  indeterminate : x.loadMoving = true → u.locOf x.tel = some (.indeterminate x.pad t) ∧
    (∀ k, k ≠ x.tel → u.locOf k = s.locOf k) ∧
    (u.pad? x.pad).map (·.st) = (s.pad? x.pad).map (fun _ => .blocked) ∧
    (u.tr t).state = .tripped ∧ (u.tr t).trips = { (s.tr t).trips with transfer := true } ∧
    u.AuthCurrent t ∧ (u.route t).keep = false ∧
    s.Told u [.transferAborted t x.pad x.kind x.stage c .abortedIndeterminate,
      .tripped t { TripSet.empty with transfer := true } (u.tr t).trips ((s.tr t).last.map (·.sec))
        ((s.tr t).last.map (·.off))]
  ended : ∃ m, s.TransferEnded m t x c ∧
    (x.loadMoving = false → ∃ y,
      ({ m with trs := m.trs.set t { m.tr t with state := .parked } } : State).Examined y t ∧
      u = if (y.tr t).state = .tripped then y else y.formAuth t) ∧
    (x.loadMoving = true → m.TripTaken u t .transfer)
  withdrawn : x.unclampSent = false ∨ x.loadMoving = true → ∀ d ∈ u.cmdQueue, d.req ≠ .xfer t
  watched : x.unclampSent = true → x.loadMoving = false →
    (u.pad? x.pad).map (·.watch) = (s.pad? x.pad).map fun p =>
      if c = .unitSilent then p.watch
      else if s.offerOk [⟨.clamp, p.addr, x.pad, .watch x.pad⟩] then .queued else .waiting
  only : u = { s with
    sections := u.sections, pads := u.pads, telescopes := u.telescopes, transfers := u.transfers, trs := u.trs
    routes := u.routes, tls := u.tls, ceilings := u.ceilings, waiting := u.waiting, walkDue := u.walkDue
    cmdQueue := u.cmdQueue, padWaiters := u.padWaiters, opss := u.opss }
  others : ∀ v, v ≠ t → u.tr v = s.tr v ∧ u.route v = s.route v ∧ u.tl v = s.tl v ∧ u.ceilings[v] = s.ceilings[v]

/-! ## Reports -/

/-- A report as its bytes give it: the speed is held at 500 at most (R111 step 1). -/
def sentReport (echo sec oh ol d vh vl ld rear : Byte) : Report :=
  ⟨sec.toNat, num16 oh ol, if d = 0 then .up else .down, min (num16 vh vl) 500, decide (ld = 1), echo.toNat,
    if rear = 0xFF then none else some rear.toNat⟩

/-- s with r as t's last report and t's supervision reloaded (R109, R111 step 3). -/
def State.noted (s : State) (t : TId) (r : Report) : State :=
  { s with trs := s.trs.set t { s.tr t with superv := some (.load (s.tr t).supervision), last := some r } }

/-- Between s and m the front entry of t's record became f (R111 step 3): where it was another before, the rear entries
that pass the release test were released (R69). -/
def State.FrontTaken (s m : State) (t : TId) (f : Entry) : Prop :=
  ((s.route t).front = some f.index → m = s) ∧
  ((s.route t).front ≠ some f.index →
    ∃ es, State.Cascaded t es { s with routes := s.routes.set t { s.route t with front := some f.index } } m)

/-- The report r of t with its front in entry f trips nothing at steps 4 and 5 of R111: an AUTHORISED transporter moves in
the sense of its front entry, one that must stand does, and one in TRANSFER stands in its pad's section. -/
def State.Plausible (s : State) (t : TId) (f : Entry) (r : Report) : Prop :=
  ((s.tr t).state = .authorised → 0 < r.speed → r.dir = senseOf f.ent) ∧
  ((s.tr t).state = .parked ∨ (s.tr t).state = .transfer ∨ (s.tr t).state = .held ∧ (s.tr t).standSeen = true →
    r.speed ≤ s.params.overspeedTol) ∧
  ((s.tr t).state = .transfer → ∀ x p, s.transfers[t] = some x → s.pad? x.pad = some p → p.sec = r.sec)

/-- The report r of t is above the curve and its tolerance under the current number (R101). -/
def State.Overspeeds (s : State) (t : TId) (r : Report) : Prop :=
  (s.tr t).state = .authorised ∧ r.echo = (s.route t).authNum ∧ s.curve t + s.params.overspeedTol < r.speed

/-- s with t's stand-seen flag as the report r leaves it (R111 step 5). -/
def State.standSaw (s : State) (t : TId) (r : Report) : State :=
  { s with trs := s.trs.set t { s.tr t with
      standSeen := (s.tr t).standSeen || decide ((s.tr t).state = .held ∧ r.speed ≤ s.params.overspeedTol) } }

/-- Between s and u the report r of t was answered (R111 steps 8 and 9, R112): the park test parks an AUTHORISED
transporter, and AUTH is formed. -/
structure State.Answered (s u : State) (t : TId) (r : Report) : Prop where
  record :
    let parks := (s.tr t).state = .authorised ∧ r.speed = 0 ∧ s.tail t = [] ∧ s.settingRun t = [] ∧
      s.pendingRun t = [] ∧ s.distanceToGo t ≤ s.params.parkTol
    u.tr t = { s.tr t with state := if parks then .parked else (s.tr t).state }
  auth : u.AuthCurrent t
  port : s.OnlyAuth u t
  only : u = { s with trs := u.trs, tls := u.tls, ceilings := u.ceilings }
  others : ∀ v, v ≠ t → s.SameTransporter u v

/-- Between s and u the entries es of t's record were released one after another, with one cause (R70). -/
def State.ReleasedAll (t : TId) (cause : ReleaseCause) (kept : Bool) : List Entry → State → State → Prop
  | [], s, u => u = s
  | e :: es, s, u => ∃ m, s.Released m t e cause kept ∧ State.ReleasedAll t cause kept es m u

/-- Between s and u the RELEASE_PENDING run of t was released at an echo (R81): kept in the record as ungranted tail, t
waiting for it, where the keep mark is set, and otherwise cut from it, the route then ending where the authority ends.
The rear is not tested after it (log 39). -/
def State.EchoReleased (s u : State) (t : TId) : Prop :=
  ∃ m, State.ReleasedAll t .echo (s.route t).keep (s.pendingRun t) s m ∧
    u = { m with routes := u.routes, waiting := u.waiting } ∧ (∀ v, v ≠ t → u.route v = m.route v) ∧
    ((s.route t).keep = true → u.route t = { m.route t with keep := false } ∧
      u.waiting = if s.isWaiting t then s.waiting else s.waiting ++ [s.waitEntry t]) ∧
    ((s.route t).keep = false → u.waiting = s.waiting ∧ u.route t = { m.route t with
      keep := false, entries := (m.route t).entries.filter fun e => (m.holdBy t e.sec).isSome
      nextIdx := (u.route t).nextIdx, finalOff := ((m.route t).endPos.map (·.off)).getD 0 })

/-- Between s and u transporter t, in TRANSFER with the transfer x, tripped for the cause c, which aborts the transfer
with the cause a (R116, R151 to R154): clean before the load moves, indeterminate after. The transfer ends first
(TransferEnded), and the trip is taken then. -/
structure State.TransferTripped (s u : State) (t : TId) (x : Transfer) (c : TripCause) (a : AbortCause) : Prop where
  record : u.tr t = { s.tr t with
    state := .tripped, standSeen := false, stop := if s.settingRun t = [] then (s.tr t).stop else u.stopCauses t
    trips := if x.loadMoving then { (s.tr t).trips.insert c with transfer := true } else (s.tr t).trips.insert c }
  route : (u.route t).keep = false ∧ (u.route t).finalOff = ((s.route t).endPos.map (·.off)).getD 0 ∧
    (u.route t).entries = (s.route t).entries.filter fun e => decide (s.holdsFirm t e.sec)
  holds : ∀ n, u.sec? n = (s.sec? n).map fun y =>
    { y with hold := if s.holdBy t n = some .setting ∧ s.inRecord t n then none else y.hold }
  waiting : u.waiting = s.waiting.filter fun w => decide (w.t ≠ t)
  gone : u.transfers[t] = none
  slot : u.tl t = { s.tl t with
    auth := (u.tl t).auth
    xfer := some (.xend (if x.loadMoving then .abortedIndeterminate else .abortedClean) x.pad) }
  auth : u.AuthCurrent t
  clean : x.loadMoving = false → u.telescopes = s.telescopes ∧
    (u.pad? x.pad).map (·.st) = (s.pad? x.pad).map (fun _ => .occupied x.tel) ∧
    s.Told u [.transferAborted t x.pad x.kind x.stage a .abortedClean,
      .tripped t (TripSet.empty.insert c) (u.tr t).trips ((s.tr t).last.map (·.sec)) ((s.tr t).last.map (·.off))]
  indeterminate : x.loadMoving = true → u.locOf x.tel = some (.indeterminate x.pad t) ∧
    (∀ k, k ≠ x.tel → u.locOf k = s.locOf k) ∧
    (u.pad? x.pad).map (·.st) = (s.pad? x.pad).map (fun _ => .blocked) ∧
    s.Told u [.transferAborted t x.pad x.kind x.stage a .abortedIndeterminate,
      .tripped t { TripSet.empty.insert c with transfer := true } (u.tr t).trips ((s.tr t).last.map (·.sec))
        ((s.tr t).last.map (·.off))]
  ended : ∃ m, s.TransferEnded m t x a ∧ (x.loadMoving = false → m.TripTaken u t c) ∧
    (x.loadMoving = true → u = { m with
      sections := u.sections, trs := u.trs, routes := u.routes, tls := u.tls, ceilings := u.ceilings
      waiting := u.waiting, walkDue := u.walkDue, opss := u.opss })
  withdrawn : x.unclampSent = false ∨ x.loadMoving = true → ∀ d ∈ u.cmdQueue, d.req ≠ .xfer t
  watched : x.unclampSent = true → x.loadMoving = false →
    (u.pad? x.pad).map (·.watch) = (s.pad? x.pad).map fun p =>
      if s.offerOk [⟨.clamp, p.addr, x.pad, .watch x.pad⟩] then .queued else .waiting
  only : u = { s with
    sections := u.sections, pads := u.pads, telescopes := u.telescopes, transfers := u.transfers, trs := u.trs
    routes := u.routes, tls := u.tls, ceilings := u.ceilings, waiting := u.waiting, walkDue := u.walkDue
    cmdQueue := u.cmdQueue, padWaiters := u.padWaiters, opss := u.opss }
  others : ∀ v, v ≠ t → u.tr v = s.tr v ∧ u.route v = s.route v ∧ u.tl v = s.tl v ∧ u.ceilings[v] = s.ceilings[v]

/-- The trip that a live report brings: of a transporter in TRANSFER it is an abort of its transfer (R115, R116). -/
def State.ReportTrip (s u : State) (t : TId) (c : TripCause) (a : AbortCause) : Prop :=
  ((s.tr t).state ≠ .transfer → s.TripTaken u t c) ∧
  ((s.tr t).state = .transfer → ∀ x, s.transfers[t] = some x → s.TransferTripped u t x c a)

/-! ## Wind -/

/-- Between s and u the ceilings were recomputed (R98): an AUTHORISED transporter whose ceiling falls has a new AUTH, and
nothing else changed. -/
structure State.Recomputed (s u : State) : Prop where
  only : u = { s with tls := u.tls, ceilings := u.ceilings }
  port : ∀ t, s.OnlyAuth u t
  lowered : ∀ t, (s.tr t).state = .authorised → s.ceilingNow t < s.ceilings[t] → u.AuthCurrent t
  kept : ∀ t, (s.tr t).state ≠ .authorised ∨ s.ceilings[t] ≤ s.ceilingNow t →
    u.tl t = s.tl t ∧ u.ceilings[t] = s.ceilings[t]

/-- Between s and u the wind band became b, and its change was handed on (R134): told by WIND_BAND; entering or leaving
HOLD evaluates every transporter (logs 15 and 24); NORMAL to CAUTION recomputes the ceilings. -/
structure State.BandSet (s u : State) (b : Band) : Prop where
  same : s.band = b → u = s
  held : s.band ≠ b → s.band.isHold ≠ b.isHold →
    ({ s with band := b }.post (.windBand b s.band s.gust s.mean)).Evaluated u allT
  crawl : s.band = .normal → b = .caution →
    ({ s with band := b }.post (.windBand b s.band s.gust s.mean)).Recomputed u
  rest : s.band ≠ b → s.band.isHold = b.isHold → ¬ (s.band = .normal ∧ b = .caution) →
    u = { s with band := b }.post (.windBand b s.band s.gust s.mean)

/-! ## Links -/

/-- Between s and u only the common part of port l changed. -/
structure State.OnlyCore (s u : State) (l : PortId) : Prop where
  only : u = { s with tls := u.tls, opss := u.opss }
  cores : ∀ m, m ≠ l → u.core m = s.core m
  tls : ∀ t, u.tl t = { s.tl t with core := u.core (.tl t) }
  opss : ∀ k, u.opsPort k = { s.opsPort k with core := u.core (.ops k) }

/-- The common part of a port after a valid frame, `joined` telling whether the frame found room (R171, R172). -/
def PortCore.received (c : PortCore) (q : Params) (f : Frame) (joined : Bool) : PortCore :=
  let rx := if joined then c.rx ++ [f] else c.rx
  if c.rxFlow = .go then
    if joined = true ∧ q.linkHoldUpper ≤ rx.length then
      { c with receiver := .hunting, rx := rx, rxFlow := .hold, sinceHold := 0, flowByte := some .hold }
    else { c with receiver := .hunting, rx := rx }
  else if q.linkHoldRepeat ≤ c.sinceHold + 1 then
    { c with receiver := .hunting, rx := rx, sinceHold := 0, flowByte := some .hold }
  else { c with receiver := .hunting, rx := rx, sinceHold := c.sinceHold + 1 }

/-! ## The field bus -/

/-- The characters of a good reply of the unit at a, of type typ, with the readings rs (10.5.2, R182): address, type,
readings, and the check that makes the sum of all 0 modulo 256; `gap` microseconds before each. -/
def replyChars (a : Nat) (typ : UnitType) (rs : List Nat) (gap : Nat) : List BusChar :=
  ⟨gap, BitVec.ofNat 9 (256 + a), false⟩ ::
    ((typ.code :: rs) ++ [(256 - (a + typ.code + rs.sum) % 256) % 256]).map fun b => ⟨gap, BitVec.ofNat 9 b, false⟩

/-- A good reply of the unit at a can come now: the request to it is on the bus, its record is u, the readings are bytes
of its type's number, and the gaps keep to the request's window (R158). -/
def State.AwaitsReply (s : State) (a : Nat) (u : UnitRec) (rs : List Nat) (gap : Nat) : Prop :=
  s.resetHold = none ∧ s.unit? a = some u ∧ a ≤ 48 ∧ rs.length + 3 = u.typ.replyLength ∧ (∀ r ∈ rs, r < 256) ∧
  ∃ x, s.exchange = some x ∧ x.addr = a ∧ gap ≤ 1000 * x.window

/-- Between s and w a good reply of the PAD unit v at a, which serves pad n with record p, was taken in, up to what it
means for a transfer (R138, R160): the unit's record, and both readings, the unit-silent flag and a running clamp watch of
the pad. -/
structure State.PadRead (s w : State) (a n : Nat) (v : UnitRec) (p : Pad) (clamp load : Nat) : Prop where
  only : w = { s with
    units := w.units, pads := w.pads, opss := w.opss
    restoreList := if v.st = .restoring then s.restoreList.filter (fun b => decide (b ≠ a)) else s.restoreList }
  unit : w.unit? a = some ⟨.pad, if v.st = .restoring then .active else v.st, 0,
    if v.st = .restoring then false else v.restorePending, v.surveyed⟩
  units : ∀ b, b ≠ a → w.unit? b = s.unit? b
  pad : w.pad? n = some { p with
    clamp := if clamp = 1 then .opened else if clamp = 2 then .closed else .travel
    load := if load = 1 then .empty else if load = 2 then .loaded else if load = 3 then .unsure else .unknown
    silent := false
    watch :=
      match p.watch with
      | .running c => if clamp = 2 then .none else .running c
      | w => w }
  pads : ∀ m, m ≠ n → w.pad? m = s.pad? m
  told : s.Told w (if v.st = .restoring then [.unitBack a .pad] else [])

/-- Between s and w the unit v at a became SILENT on a request f (R161 steps 1 and 2): off the restore list, told by
UNIT_SILENT. -/
structure State.Silenced (s w : State) (a : Nat) (v : UnitRec) (f : BusFunc) : Prop where
  only : w = { s with
    units := w.units, restoreList := s.restoreList.filter (fun b => decide (b ≠ a)), opss := w.opss }
  unit : w.unit? a = some ⟨v.typ, .silent, 0, false, v.surveyed⟩
  units : ∀ b, b ≠ a → w.unit? b = s.unit? b
  told : s.Told w [.unitSilent a v.typ f]

/-- Between s and u point p was faulted by the silence of its unit (R32, R34): UNKNOWN, its throw ended, and where its latch
was clear, the latch set, told by POINT_FAULT, and the fault an obstruction. -/
def State.PointSilenced (s u : State) (p : Nat) : Prop :=
  (s.point? p = none → u = s) ∧
  ∀ x, s.point? p = some x → ∃ m : State, m = { s with points := m.points, opss := m.opss } ∧
    (∀ q, m.point? q = if q = p then some { x with
      pos := .unknown, throwCd := none, mover := none, latch := some (x.latch.getD .unitSilent) } else s.point? q) ∧
    s.Told m (if x.latch = none then [.pointFault p .unitSilent none] else []) ∧
    (x.latch = none → m.Obstructed u x.sec true) ∧ (x.latch ≠ none → u = m)

/-- Between s and u pad n, with record x, was told that its unit is silent (R138, R141, R151): its readings are UNKNOWN, its
clamp watch ends with CLAMP_FAILED, and its transfer is aborted. -/
def State.PadSilenced (s u : State) (n : Nat) (x : Pad) : Prop :=
  ∃ m : State, m = { s with pads := m.pads, padWaiters := m.padWaiters, opss := m.opss } ∧
    m.pad? n = some { x with silent := true, clamp := .unknown, load := .unknown, watch := .none } ∧
    (∀ q, q ≠ n → m.pad? q = s.pad? q) ∧
    m.padWaiters = (if x.watch = .none then s.padWaiters else s.padWaiters.filter fun w => decide (w ≠ .watch n)) ∧
    s.Told m (if x.watch = .none then [] else [.clampFailed n .unknown (s.telescopeOnPad n)]) ∧
    ((∀ t, x.st ≠ .transfer t) → u = m) ∧
    ∀ t, x.st = .transfer t →
      (s.transfers[t] = none → u = m) ∧ ∀ y, s.transfers[t] = some y → m.Aborted u t y .unitSilent

/-- Between s and u the silence of the unit at a was handed to the owner of what it serves (R161 step 3), by its type. -/
def State.SilenceHanded (s u : State) (a : Nat) : UnitType → Prop
  | .detector => ∃ m : State, m = { s with sections := m.sections } ∧
      (∀ n, m.sec? n = (s.sec? n).map fun x =>
        if x.defn.detAddr = a ∧ x.defn.detSlot ≤ 3 then
          { x with det := .unknown, capture := if x.det = .unknown then x.capture else s.clock }
        else x) ∧
      State.AllHandedOn ((s.sectionsOf a).filterMap fun p =>
        if s.detOf p.2 = .unknown then none else some (p.2, .unknown)) m u
  | .point => (s.pointAt a = none → u = s) ∧ ∀ p x, s.pointAt a = some (p, x) → s.PointSilenced u p
  | .pad => (s.padAt a = none → u = s) ∧ ∀ n x, s.padAt a = some (n, x) → s.PadSilenced u n x
  | .mast =>
    let counting := ∃ c : Countdown, s.mastHold = some c ∧ 0 < c.steps
    (counting ∨ s.band = .hold .mastLost → u = s) ∧
    (¬ counting → s.band ≠ .hold .mastLost →
      (s.params.mastHold = 0 → ({ s with mastHold := some (.load 0) } : State).BandSet u (.hold .mastLost)) ∧
      (s.params.mastHold ≠ 0 → u = { s with mastHold := some (.load (10 * s.params.mastHold)) }))

/-- Between s and u the commands cs for the silent unit at a, all that there are, were discarded, oldest first (R161 step
4): a throw faults its point (R32), and each is an exit from the queue (State.Exited: R162, R53). -/
def State.Discarded (a : Nat) : List BusCmd → State → State → Prop
  | [], s, u => u = s ∧ ∀ c ∈ s.cmdQueue, c.addr ≠ a
  | c :: cs, s, u =>
    s.cmdQueue.find? (fun d => decide (d.addr = a)) = some c ∧ ∃ m w : State,
      (c.func.blade = none → m = { s with cmdQueue := s.cmdQueue.erase c }) ∧
      (c.func.blade ≠ none → ({ s with cmdQueue := s.cmdQueue.erase c } : State).PointSilenced m c.entity) ∧
      m.Exited w ∧ State.Discarded a cs w u

/-- The poll that the state calls for (R164, R166): the oldest address of the restore list, or the pollable address
next at or after the poll position, wrapping to the lowest; none where no unit can be polled. -/
def State.PollChosen (s u : State) : Prop :=
  (∀ a r, s.restoreList = a :: r → u = { s with
    exchange := some (s.request a .poll), forced := 0 }) ∧
  (s.restoreList = [] → s.pollList = [] → u = { s with exchange := none }) ∧
  (s.restoreList = [] → s.pollList ≠ [] → ∃ a ∈ s.pollList,
    (s.pollPos.getD 0 ≤ a ∧ (∀ b ∈ s.pollList, s.pollPos.getD 0 ≤ b → a ≤ b) ∨
      (∀ b ∈ s.pollList, b < s.pollPos.getD 0) ∧ ∀ b ∈ s.pollList, a ≤ b) ∧
    u = { s with exchange := some (s.request a .poll), forced := 0
                 pollPos := u.pollPos } ∧
    ∃ c ∈ s.pollList, u.pollPos = some c ∧
      (a < c ∧ (∀ b ∈ s.pollList, a < b → c ≤ b) ∨ (∀ b ∈ s.pollList, b ≤ a) ∧ ∀ b ∈ s.pollList, c ≤ b))

/-- The send test of the throw c passes (R28): its point is unlocked and unlatched, and the point's section is CLEAR and
unheld, or held SETTING by the transporter that asked for the throw. -/
def State.MaySend (s : State) (c : BusCmd) : Prop :=
  ∃ y z, s.point? c.entity = some y ∧ s.sec? y.sec = some z ∧ y.lock = none ∧ y.latch = none ∧ z.det = .clear ∧
    (z.hold = none ∨ ∃ h, z.hold = some h ∧ h.kind = .setting ∧ c.req = .tr h.holder)

/-- Between s and u the command c was sent (R163): the forced-poll count is raised by 1, the request is on the bus, and the
owner is told. A throw moves its point and starts its countdown at THROW_TIME (R29); of a pad command the stage is SENT, its
countdown, or that of the clamp watch, starts at CLAMP_TIME, and a sent UNCLAMP is on record (R148, R141). -/
structure State.Sent (s u : State) (c : BusCmd) : Prop where
  only : u = { s with
    points := u.points, transfers := u.transfers, pads := u.pads
    forced := s.forced + 1, exchange := some (s.request c.addr c.func) }
  throw : ∀ b, c.func.blade = some b → c.req = .ops ∨ (∃ t, c.req = .tr t) →
    u.transfers = s.transfers ∧ u.pads = s.pads ∧
    ∀ p, u.point? p = if p = c.entity then (s.point? p).map fun y =>
      { y with cmd := some b, pos := .moving, throwCd := some (.load s.params.throwTime), mover := some c.req }
    else s.point? p
  pad : c.func = .clamp ∨ c.func = .unclamp → u.points = s.points ∧
    s.PadOwnerTold u c.req
      (fun x => { x with
        cmd := .sent, cd := some (.load (10 * s.params.clampTime))
        unclampSent := x.unclampSent || decide (c.func = .unclamp) })
      (.running (.load (10 * s.params.clampTime)))

/-! ## What the queries show (R181)

A structure `…Shown` says, place by place, what the data of a query's reply carry: the widths and codes are R181's, the
order of the fields the query's rule's, and what R181 leaves open is as log 9 has it. -/

/-- The byte at place i; 256, which is no byte, where there is none. -/
def byteAt (d : List Byte) (i : Nat) : Nat := (d[i]?.map BitVec.toNat).getD 256

/-- The two bytes at place i, high byte first. -/
def wordAt (d : List Byte) (i : Nat) : Nat := 256 * byteAt d i + byteAt d (i + 1)

/-- The code at place i is that of x: its place, from 0, in the order in which the spec lists the values. -/
def codedAt {α : Type} (d : List Byte) (i : Nat) (values : List α) (x : α) : Prop := values[byteAt d i]? = some x

/-- A flag, or a value of two: 1 for yes, and 0. -/
def flagAt (d : List Byte) (i : Nat) (b : Bool) : Prop := byteAt d i = if b then 1 else 0

/-- The code at place i, or 0xFF for an absent value. -/
def optCodedAt {α : Type} (d : List Byte) (i : Nat) (values : List α) : Option α → Prop
  | some x => codedAt d i values x
  | none => byteAt d i = 255

/-- An identifier or a count at place i, or 0xFF for an absent one. -/
def optByteAt (d : List Byte) (i : Nat) : Option Nat → Prop
  | some n => byteAt d i = n % 256
  | none => byteAt d i = 255

/-- A two-byte number at place i, or 0xFFFF for an absent one. -/
def optWordAt (d : List Byte) (i : Nat) : Option Nat → Prop
  | some n => wordAt d i = n % 65536
  | none => wordAt d i = 65535

/-- A clock time at place i. -/
def timeAt (d : List Byte) (i : Nat) (c : Clock) : Prop := 65536 * wordAt d i + wordAt d (i + 2) = c.toNat

/-- The link of an end at place i; an absent end is 0xFF, 0xFF, and BUFFER is 0xFE, 0xFE. -/
def linkAt (d : List Byte) (i : Nat) : Option TrackLink → Prop
  | some (.to n e) => byteAt d i = n % 256 ∧ codedAt d (i + 1) [.a, .b, .c] e
  | some .buffer => byteAt d i = 254 ∧ byteAt d (i + 1) = 254
  | none => byteAt d i = 255 ∧ byteAt d (i + 1) = 255

/-- A cause set at place i, one bit for each cause in its set's order. -/
def causesAt (d : List Byte) (i : Nat) (bs : List Bool) : Prop :=
  byteAt d i = (bs.mapIdx fun k b => if b then 2 ^ k else 0).sum

/-- The data of Q_SITE's reply (R183). -/
structure State.SiteShown (s : State) (d : List Byte) : Prop where
  size : d.length = 111 + if s.site = .survey then 1 else 0
  site : codedAt d 0 [.unconfigured, .survey, .running] s.site
  cause : codedAt d 1 [.powerOn, .supplyLow, .resetLine, .commanded] s.resetCause
  clock : timeAt d 2 s.clock
  allStop : flagAt d 6 s.allStop
  params : ∀ k v, [s.params.margin, s.params.creep, s.params.overspeedTol, s.params.parkTol, s.params.waitLimit,
    s.params.throwTime, s.params.clampTime, s.params.jackTime, s.params.confirmTime, s.params.windCaution,
    s.params.windResume, s.params.windHold, s.params.windCrawl, s.params.mastHold, s.params.replyWindow,
    s.params.driverLead, s.params.linkHoldUpper, s.params.linkHoldLower, s.params.linkHoldRepeat][k]? = some v →
    wordAt d (7 + 2 * k) = v % 65536
  modes : ∀ n : Fin 8, byteAt d (45 + 2 * n.val) = 0 ∧
    codedAt d (46 + 2 * n.val) [.off, .level, .latch, .latchLevel] s.lines[n].mode
  quotas : ∀ t : TId, byteAt d (61 + t.val) = (s.tr t).quota % 256
  lines : ∀ n : Fin 8, codedAt d (67 + 3 * n.val) [.off, .level, .latch, .latchLevel] s.lines[n].mode ∧
    flagAt d (68 + 3 * n.val) s.lines[n].asserted ∧ flagAt d (69 + 3 * n.val) s.lines[n].latch
  zones : ∀ n : Fin 8, flagAt d (91 + n.val) s.lines[n].stopped
  band : match s.band with
    | .normal => byteAt d 99 = 0 ∧ byteAt d 100 = 255
    | .caution => byteAt d 99 = 1 ∧ byteAt d 100 = 255
    | .hold c => byteAt d 99 = 2 ∧ codedAt d 100 [.gust, .mastPending, .mastLost] c
  wind : optWordAt d 101 s.gust ∧ optWordAt d 103 s.mean ∧ optWordAt d 105 (s.mastHold.map (·.steps))
  counts : byteAt d 107 = s.sections.length % 256 ∧ byteAt d 108 = s.points.length % 256 ∧
    byteAt d 109 = s.pads.length % 256 ∧ byteAt d 110 = s.units.length % 256
  unsurveyed : s.site = .survey → byteAt d 111 = (s.units.filter fun p => !p.2.surveyed).length % 256

/-- The data of Q_SECTION's reply for section n (R17, R1, R8). -/
structure Section.Shown (n : Nat) (x : Section) (d : List Byte) : Prop where
  size : d.length = 27
  id : byteAt d 0 = n % 256
  kind : flagAt d 1 x.defn.point.isSome
  lengths : wordAt d 2 = x.defn.len % 65536 ∧ optWordAt d 4 (x.defn.point.map (·.lenAC))
  grade : (byteAt d 6 : Int) = x.defn.grade % 256
  speed : wordAt d 7 = x.defn.lineSpeed % 65536
  links : linkAt d 9 (some x.defn.linkA) ∧ linkAt d 11 (some x.defn.linkB) ∧ linkAt d 13 (x.defn.point.map (·.linkC))
  zones : byteAt d 15 = x.defn.zones.toNat
  group : byteAt d 16 = x.defn.group % 256
  detector : byteAt d 17 = x.defn.detAddr % 256 ∧ byteAt d 18 = x.defn.detSlot % 256
  detection : codedAt d 19 [.clear, .occupied, .disturbed, .unknown] x.det
  capture : timeAt d 20 x.capture
  holder : optByteAt d 24 (x.hold.map (·.holder.val))
  holdKind : optCodedAt d 25 [.granted, .setting, .releasePending] (x.hold.map (·.kind))
  entered : flagAt d 26 ((x.hold.map (·.entered)).getD false)

/-- The data of Q_POINT's reply for point p (R17, R9). -/
structure Point.Shown (p : Nat) (x : Point) (d : List Byte) : Prop where
  size : d.length = 9
  defined : byteAt d 0 = p % 256 ∧ byteAt d 1 = x.sec % 256 ∧ byteAt d 2 = x.addr % 256
  position : codedAt d 3 [.unknown, .normal, .reverse, .moving] x.pos
  commanded : byteAt d 4 = match x.cmd with | some .normal => 1 | some .reverse => 2 | none => 255
  latch : optCodedAt d 5 [.throwTimeout, .lostPosition, .unitSilent] x.latch
  lock : optByteAt d 6 (x.lock.map (·.val))
  countdown : optWordAt d 7 (x.throwCd.map (·.steps))

/-- A pad state at place i, with the telescope or the transporter it names. -/
def padStateAt (d : List Byte) (i : Nat) : PadState → Prop
  | .vacant => byteAt d i = 0 ∧ byteAt d (i + 1) = 255
  | .occupied k => byteAt d i = 1 ∧ byteAt d (i + 1) = k % 256
  | .transfer t => byteAt d i = 2 ∧ byteAt d (i + 1) = t.val
  | .blocked => byteAt d i = 3 ∧ byteAt d (i + 1) = 255
  | .outOfService => byteAt d i = 4 ∧ byteAt d (i + 1) = 255

/-- The transfer record in Q_PAD's reply, from place i on (R147). -/
structure Transfer.Shown (t : TId) (x : Transfer) (d : List Byte) (i : Nat) : Prop where
  names : byteAt d i = t.val ∧ byteAt d (i + 1) = x.pad % 256 ∧ byteAt d (i + 3) = x.tel % 256
  kind : codedAt d (i + 2) [.lift, .place] x.kind
  prior : padStateAt d (i + 4) (if x.kind = .lift then .occupied x.tel else .vacant)
  stage : codedAt d (i + 6) [.unclamp, .raise, .confirm, .lower, .clamp] x.stage
  command : codedAt d (i + 7) [.none, .waiting, .queued, .sent] x.cmd
  flags : flagAt d (i + 8) x.unclampSent ∧ flagAt d (i + 11) x.loadMoving
  countdown : optWordAt d (i + 9) (x.cd.map (·.steps))

/-- The data of Q_PAD's reply for pad n (R17, R11, R145). -/
structure State.PadShown (s : State) (n : Nat) (x : Pad) (d : List Byte) : Prop where
  defined : byteAt d 0 = n % 256 ∧ byteAt d 1 = x.sec % 256 ∧ wordAt d 2 = x.stop % 65536 ∧
    wordAt d 4 = x.tol % 65536 ∧ byteAt d 6 = x.addr % 256
  state : padStateAt d 7 x.st
  reserved : byteAt d 9 = (x.reserv.getD 0) % 256
  clamp : codedAt d 10 [.opened, .closed, .travel, .unknown] x.clamp
  load : codedAt d 11 [.loaded, .empty, .unsure, .unknown] x.load
  silent : flagAt d 12 x.silent
  watch : match x.watch with
    | .none => byteAt d 13 = 0 ∧ wordAt d 14 = 65535
    | .waiting => byteAt d 13 = 1 ∧ wordAt d 14 = 65535
    | .queued => byteAt d 13 = 2 ∧ wordAt d 14 = 65535
    | .running c => byteAt d 13 = 3 ∧ wordAt d 14 = c.steps % 65536
  alone : (∀ t, x.st ≠ .transfer t) → d.length = 16
  record : ∀ t y, x.st = .transfer t → s.transfers[t] = some y → d.length = 28 ∧ y.Shown t d 16

/-- The data of Q_TRANSPORTER's reply (R124). -/
structure State.TransporterShown (s : State) (t : TId) (d : List Byte) : Prop where
  size : d.length = 30
  state : codedAt d 0 [.offline, .parked, .authorised, .held, .tripped, .transfer] (s.tr t).state
  stop : causesAt d 1 [(s.tr t).stop.allStop, (s.tr t).stop.zoneStop, (s.tr t).stop.wind]
  trips : causesAt d 2 [(s.tr t).trips.link, (s.tr t).trips.excursion, (s.tr t).trips.overspeed,
    (s.tr t).trips.wrongDirection, (s.tr t).trips.unauthorisedMotion, (s.tr t).trips.obstruction, (s.tr t).trips.transfer]
  supervision : optWordAt d 3 ((s.tr t).superv.map (·.steps))
  report : ∀ r, (s.tr t).last = some r → byteAt d 5 = r.sec % 256 ∧ wordAt d 6 = r.off % 65536 ∧
    codedAt d 8 [.up, .down] r.dir ∧ wordAt d 9 = r.speed % 65536 ∧ flagAt d 11 r.load ∧ byteAt d 12 = r.echo % 256 ∧
    optByteAt d 13 r.rear
  noReport : (s.tr t).last = none → ∀ i, 5 ≤ i → i ≤ 13 → byteAt d i = 255
  flags : flagAt d 14 (s.tr t).standSeen ∧ flagAt d 15 (s.tr t).awaitingFix
  load : let carries (k : Nat) := (k, .onTransporter t) ∈ s.telescopes ∨ ∃ p, (k, .indeterminate p t) ∈ s.telescopes
    let sensed := ((s.tr t).last.map (·.load)).getD false
    ((∃ k, carries k) ∨ sensed = true → byteAt d 16 = 1) ∧ (¬ ((∃ k, carries k) ∨ sensed = true) → byteAt d 16 = 0) ∧
    ((∃ k, carries k) → ∃ k, carries k ∧ byteAt d 17 = k % 256) ∧ ((¬ ∃ k, carries k) → byteAt d 17 = 0) ∧
    flagAt d 18 sensed
  params : ∀ k v, [(s.tr t).decelEmpty, (s.tr t).decelLoaded, (s.tr t).vmaxEmpty, (s.tr t).vmaxLoaded,
    (s.tr t).supervision][k]? = some v → wordAt d (19 + 2 * k) = v % 65536
  quota : byteAt d 29 = (s.tr t).quota % 256

/-- The data of Q_ROUTE's reply (R66); an absent front, end or end offset is 0 (log 9). -/
structure State.RouteShown (s : State) (t : TId) (d : List Byte) : Prop where
  size : d.length = 18 + 6 * (s.route t).entries.length
  state : codedAt d 0 [.offline, .parked, .authorised, .held, .tripped, .transfer] (s.tr t).state
  count : byteAt d 1 = (s.route t).entries.length % 256
  entries : ∀ k e, (s.route t).entries[k]? = some e → wordAt d (2 + 6 * k) = e.index % 65536 ∧
    byteAt d (4 + 6 * k) = e.sec % 256 ∧ codedAt d (5 + 6 * k) [.a, .b, .c] e.ent ∧
    codedAt d (6 + 6 * k) [.a, .b, .c] e.ext ∧
    codedAt d (7 + 6 * k) [some .granted, some .setting, some .releasePending, none] (s.holdBy t e.sec)
  rest : let i := 2 + 6 * (s.route t).entries.length
    wordAt d i = ((s.route t).front.getD 0) % 65536 ∧
    wordAt d (i + 2) = (((s.route t).endPos.map (·.idx)).getD 0) % 65536 ∧
    wordAt d (i + 4) = (((s.route t).endPos.map (·.off)).getD 0) % 65536 ∧
    wordAt d (i + 6) = (s.route t).finalOff % 65536 ∧ flagAt d (i + 8) (s.route t).keep ∧
    byteAt d (i + 9) = (s.route t).authNum % 256 ∧ wordAt d (i + 10) = s.ceilings[t] % 65536 ∧
    ((∀ w ∈ s.waiting, w.t ≠ t) → byteAt d (i + 12) = 255 ∧ wordAt d (i + 13) = 65535) ∧
    (∀ before w after, s.waiting = before ++ w :: after → w.t = t → (∀ v ∈ before, v.t ≠ t) →
      byteAt d (i + 12) = (before.length + 1) % 256 ∧ optWordAt d (i + 13) (w.wait.map (·.steps))) ∧
    flagAt d (i + 15) s.roomWait

/-- The data of Q_TELESCOPE's reply (R145). -/
structure State.TelescopeShown (s : State) (k : Nat) (d : List Byte) : Prop where
  size : d.length = 4
  location : match s.locOf k with
    | none => byteAt d 0 = 0 ∧ byteAt d 1 = 255 ∧ byteAt d 2 = 255
    | some (.onPad p) => byteAt d 0 = 1 ∧ byteAt d 1 = p % 256 ∧ byteAt d 2 = 255
    | some (.onTransporter t) => byteAt d 0 = 2 ∧ byteAt d 1 = 255 ∧ byteAt d 2 = t.val
    | some (.indeterminate p t) => byteAt d 0 = 3 ∧ byteAt d 1 = p % 256 ∧ byteAt d 2 = t.val
  reserved : ∀ n x, (n, x) ∈ s.pads → x.reserv = some k → (∀ q ∈ s.pads, q.2.reserv = some k → q.1 = n) →
    byteAt d 3 = n % 256
  unreserved : (∀ q ∈ s.pads, q.2.reserv ≠ some k) → byteAt d 3 = 255

/-- The entities a unit of a type serves (R155), each with the numbers its reply carries: a section with its slot, in slot
order, a point, a pad. -/
def State.served (s : State) (a : Nat) : UnitType → List (List Nat)
  | .detector => [0, 1, 2, 3].flatMap fun k =>
    (s.sections.filter fun p => decide (p.2.defn.detAddr = a ∧ p.2.defn.detSlot = k)).map fun p => [p.1, k]
  | .point => (s.points.filter fun p => decide (p.2.addr = a)).map fun p => [p.1]
  | .pad => (s.pads.filter fun p => decide (p.2.addr = a)).map fun p => [p.1]
  | .mast => []

/-- The data of Q_UNIT's reply for the unit at a (R168); its place on the restore list counts from 1 and is 0xFF off it
(log 9). -/
structure State.UnitShown (s : State) (a : Nat) (x : UnitRec) (d : List Byte) : Prop where
  typ : codedAt d 0 [none, some .detector, some .point, some .pad, some .mast] (some x.typ)
  served : byteAt d 1 = (s.served a x.typ).length % 256 ∧
    ∀ k v, (s.served a x.typ).flatten[k]? = some v → byteAt d (2 + k) = v % 256
  rest : let i := 2 + (s.served a x.typ).flatten.length
    let cs := s.cmdQueue.filter fun c => decide (c.addr = a)
    let j := i + 5 + 2 * cs.length
    d.length = j + 3 ∧ codedAt d i [.active, .silent, .restoring] x.st ∧ byteAt d (i + 1) = x.retries % 256 ∧
    flagAt d (i + 2) x.restorePending ∧ (a ∉ s.restoreList → byteAt d (i + 3) = 255) ∧
    (∀ before after, s.restoreList = before ++ a :: after → a ∉ before → byteAt d (i + 3) = (before.length + 1) % 256) ∧
    byteAt d (i + 4) = cs.length % 256 ∧
    (∀ k c, cs[k]? = some c → codedAt d (i + 5 + 2 * k) [.poll, .throwNormal, .throwReverse, .clamp, .unclamp] c.func ∧
      byteAt d (i + 6 + 2 * k) = c.entity % 256) ∧
    byteAt d j = s.cmdQueue.length % 256 ∧ optByteAt d (j + 1) s.pollPos ∧ byteAt d (j + 2) = s.forced % 256

end Sys2Proof.Machine
end

