-- ==== Sys2Proof/Certificates/Slice0/Obligations.lean ====
section
/-! DEFINITION. The statements about the GB644 that the provers are asked to prove, in the order of OBLIGATIONS.json.

A frame reads `t = { s with f := t.f, … }`: no field but those named has changed. -/

open Sys2Proof Sys2Proof.Machine

/-! ## Steps, time and resets -/

/-- A step runs the command at the front of the queue on the state with the queue's rest. -/
def Obligations.StepRunsFrontCommand : Prop :=
  ∀ (c : Instr) (rest : List Instr) (s : State), s.pending = c :: rest → step s = exec c { s with pending := rest }

/-- With no command waiting, a step takes the walk that is due, or lets one millisecond pass (the model's choice, logs 2
and 3), and in reset nothing, not even time (log 11). In that millisecond the clock counts, every countdown runs, a request
on the bus is sent and FDE released (log 12), and the waiting commands are exactly the expiries of this millisecond, once
each, in the model's order (log 2); nothing else changes. -/
def Obligations.EmptyQueueStep : Prop :=
  ∀ s : State, s.pending = [] →
    (s.resetHold ≠ none → step s = .next s) ∧
    (s.resetHold = none → s.walkDue = true → step s = exec .pendingQueueWalk s) ∧
    (s.resetHold = none → s.walkDue = false → ∃ t : State, step s = .next t ∧
      t = { s with
        clock := s.clock + 1, points := t.points, trs := t.trs, transfers := t.transfers, pads := t.pads
        waiting := s.waiting.map fun w => { w with wait := w.wait.map fun c => c.tick.1 }
        mastHold := s.mastHold.map fun c => c.tick.1
        exchange := s.exchange.map fun x => { x with fde := false }
        pending := s.expiries } ∧
      (∀ p, t.point? p = (s.point? p).map fun x => { x with throwCd := x.throwCd.map fun c => c.tick.1 }) ∧
      (∀ u, t.tr u = { s.tr u with superv := (s.tr u).superv.map fun c => c.tick.1 }) ∧
      (∀ u : TId, t.transfers[u] = (s.transfers[u]).map fun x => { x with cd := x.cd.map fun c => c.tick.1 }) ∧
      (∀ p, t.pad? p = (s.pad? p).map fun x => { x with watch :=
        match x.watch with
        | .running c => .running c.tick.1
        | w => w }) ∧
      (∀ c, c ∈ t.pending ↔
        (∃ p x d, c = .throwTimeout p ∧ (p, x) ∈ s.points ∧ x.throwCd = some d ∧ d.tick.2 = true) ∨
        (∃ u d, c = .supervisionExpiry u ∧ (s.tr u).superv = some d ∧ d.tick.2 = true) ∨
        (∃ u d, c = .waitExpired u ∧ ⟨u, some d⟩ ∈ s.waiting ∧ d.tick.2 = true) ∨
        (∃ u x d, c = .stageTimeout u ∧ s.transfers[u] = some x ∧ x.cd = some d ∧ d.tick.2 = true) ∨
        (∃ p x d, c = .clampFailed p ∧ (p, x) ∈ s.pads ∧ x.watch = .running d ∧ d.tick.2 = true) ∨
        (∃ d, c = .mastLost ∧ s.mastHold = some d ∧ d.tick.2 = true)) ∧
      (s.TablesWf → s.QueueOnce → t.pending.Nodup))

/-- A countdown loaded with n steps shows n steps less one for each 100 ms, and expires in its 100 n-th millisecond and
in none before; one loaded with 0 never expires (the exact millisecond is the choice of log 2). -/
def Obligations.CountdownExpiry : Prop :=
  (∀ n k : Nat, k < 100 * n →
    ((fun c : Countdown => c.tick.1)^[k] (.load n)).steps = n - k / 100 ∧
    (((fun c : Countdown => c.tick.1)^[k] (.load n)).tick.2 = true ↔ k + 1 = 100 * n)) ∧
  ∀ k : Nat, (fun c : Countdown => c.tick.1)^[k] (.load 0) = .load 0 ∧
    ((fun c : Countdown => c.tick.1)^[k] (.load 0)).tick.2 = false

/-- What a full reset leaves, as R178 and R190 list it: defaults, empty tables and queues, stopped countdowns, an
UNCONFIGURED site at clock 0, and one SITE_STATE notice for each operations link; and every invariant stated below. That
State.reset stands at the end of the start-up after POWER_ON is the model's choice (log 4). -/
def Obligations.ResetLeaves : Prop :=
  (State.reset.site = .unconfigured ∧ State.reset.clock = 0 ∧ State.reset.allStop = false ∧
   State.reset.resetHold = none ∧ State.reset.params = Params.default ∧ State.reset.params.Legal ∧
   State.reset.sections = [] ∧ State.reset.points = [] ∧ State.reset.pads = [] ∧ State.reset.units = [] ∧
   State.reset.telescopes = [] ∧ State.reset.waiting = [] ∧ State.reset.cmdQueue = [] ∧
   State.reset.restoreList = [] ∧ State.reset.exchange = none ∧ State.reset.band = .normal ∧
   State.reset.mastHold = none ∧
   (∀ t : TId, (State.reset.tr t).state = .offline ∧ (State.reset.tr t).superv = none ∧
     (State.reset.tr t).quota = 16 ∧ (State.reset.route t).entries = [] ∧ State.reset.transfers[t] = none ∧
     (State.reset.tl t).auth = none ∧ (State.reset.tl t).xfer = none ∧ (State.reset.tl t).refusals = []) ∧
   (∀ l : PortId, (State.reset.core l).receiver = .hunting ∧ (State.reset.core l).rx = [] ∧
     (State.reset.core l).rxFlow = .go ∧ (State.reset.core l).txFlow = .go ∧ (State.reset.core l).flowByte = none) ∧
   (∀ l : OpsId, (State.reset.opsPort l).replies = [] ∧
     (State.reset.opsPort l).notices = [⟨0, .siteReset .powerOn⟩] ∧ (State.reset.opsPort l).lost = 0) ∧
   ∀ n : Fin 8, State.reset.lines[n].mode = .level ∧ State.reset.lines[n].latch = false) ∧
  (State.reset.Bounded ∧ State.reset.TablesWf ∧ State.reset.IdleSite ∧ State.reset.StatesMatch ∧
   State.reset.StandsMatch ∧ State.reset.StopsCurrent ∧ State.reset.QueueOnce ∧ State.reset.RoutesRise ∧
   State.reset.params.Legal ∧ State.reset.BusCounts ∧ State.reset.IntakeDone)

/-- While the controller is held in reset it takes no command: only a further cause of reset and the end of the clock
start-up change anything. R190 says that it sends nothing, releases FDE and takes no input; that no expiry, no walk and no
start of a transmit line has an effect either is the model's reading (log 11, DEDUCED). -/
def Obligations.HeldInReset : Prop :=
  ∀ (c : Instr) (s : State), s.resetHold ≠ none →
    c ≠ .powerOn → c ≠ .supplyLow → c ≠ .resetLine → c ≠ .clockStartUpEnd → exec c s = .next s

/-- The four causes of a full reset (R190): each holds the controller and releases the bus, which is the exchange's end;
while it is held the cause that began it stands, and a further cause only adds its hold. RESET ALL is answered by no reply.
CLOCK_START_UP_END completes it: everything as at reset but the cause on record and in the notice, and the waiting commands
(log 31); out of reset it changes nothing (log 13). That this one command
stands for the end of every hold too, so that it completes the reset for every hold record, also one in which the supply or
the line still holds, and that the bus is released by ending the exchange, is the model's reading (log 11, DEDUCED). -/
def Obligations.FullResets : Prop :=
  (∀ s : State,
     (s.resetHold = none →
       exec .powerOn s = .next { s with resetHold := some ⟨.powerOn, true, false⟩, exchange := none } ∧
       exec .supplyLow s = .next { s with resetHold := some ⟨.supplyLow, true, false⟩, exchange := none } ∧
       exec .resetLine s = .next { s with resetHold := some ⟨.resetLine, false, true⟩, exchange := none }) ∧
     (∀ l tag, s.OpsReady l →
       exec (.resetAll l tag [2, 0]) s =
         .next { s with resetHold := some ⟨.commanded, false, false⟩, exchange := none }) ∧
     (∀ h, s.resetHold = some h →
       exec .powerOn s = .next { s with resetHold := some { h with supply := true } } ∧
       exec .supplyLow s = .next { s with resetHold := some { h with supply := true } } ∧
       exec .resetLine s = .next { s with resetHold := some { h with line := true } })) ∧
  (∀ s : State,
     (∀ h, s.resetHold = some h →
       exec .clockStartUpEnd s = .next { State.reset with
         pending := s.pending, resetCause := h.cause
         opss := Vector.replicate 2 { OpsPort.initial with notices := [⟨0, .siteReset h.cause⟩] } }) ∧
     (s.resetHold = none → exec .clockStartUpEnd s = .next s))

/-- RESET LINK n (R191, R178): the port of link n returns to its initial values, a GO byte waits if its receive flow
state was HOLD, what is on its line is completed, and then the reply is queued; no such link is UNKNOWN_ID. -/
def Obligations.ResetLinkResult : Prop :=
  ∀ (s : State) (l : OpsId) (tag n : Byte), s.OpsReady l →
    (∀ h : n.toNat < 6, ∃ u : State, exec (.resetLink l tag [0, n]) s = .next (u.reply l tag 0x69 .ok []) ∧
      u = { s with tls := u.tls } ∧ (∀ t : TId, t ≠ ⟨n.toNat, h⟩ → u.tl t = s.tl t) ∧
      u.tl ⟨n.toNat, h⟩ = { TlPort.initial with core := { PortCore.initial with
        flowByte := if (s.tl ⟨n.toNat, h⟩).core.rxFlow = .hold then some .go else none
        sent := (s.tl ⟨n.toNat, h⟩).core.sent } }) ∧
    (∀ k : OpsId, n.toNat = 6 + k.val → ∃ u : State, exec (.resetLink l tag [0, n]) s = .next (u.reply l tag 0x69 .ok []) ∧
      u = { s with opss := u.opss } ∧ (∀ j, j ≠ k → u.opsPort j = s.opsPort j) ∧
      u.opsPort k = { OpsPort.initial with core := { PortCore.initial with
        flowByte := if (s.opsPort k).core.rxFlow = .hold then some .go else none
        sent := (s.opsPort k).core.sent } }) ∧
    (8 ≤ n.toNat → exec (.resetLink l tag [0, n]) s = .next (s.reply l tag 0x69 .unknownId []))

/-- RESET FIELDBUS (R191, R167): refused with STATE in UNCONFIGURED, and while a transfer exists or a point is MOVING.
Otherwise every queued command is discarded, a CLAMP of a clamp watch ending that watch with CLAMP_FAILED; every SILENT unit
is RESTORING, and in SURVEY unsurveyed again (R166); the counts and the restore list are cleared; and polling resumes from
the lowest unsurveyed address in SURVEY and the lowest defined one otherwise (PollChosen; that the polls of a SURVEY take
only unsurveyed units, among which the position then moves, is log 19, DEDUCED). What pad commands that wait for room do is
log 18's; where none waits, exactly the watches whose CLAMP was queued end. A link number other than 0 here, and a scope
outside its set, are RANGE (log 10, DESIGN CHOICE). -/
def Obligations.ResetFieldbusResult : Prop :=
  ∀ (s : State) (l : OpsId) (tag : Byte), s.OpsReady l →
    (s.site = .unconfigured ∨ (∃ t : TId, s.transfers[t] ≠ none) ∨ (∃ p ∈ s.points, p.2.pos = .moving) →
      exec (.resetFieldbus l tag [1, 0]) s = .next (s.reply l tag 0x69 .state [])) ∧
    (∀ scope n : Byte, scope = 1 ∧ n ≠ 0 ∨ 2 < scope.toNat →
      exec (.resetFieldbus l tag [scope, n]) s = .next (s.reply l tag 0x69 .range [])) ∧
    (s.TablesWf → s.site ≠ .unconfigured → (∀ t : TId, s.transfers[t] = none) → (∀ p ∈ s.points, p.2.pos ≠ .moving) →
      ∃ u : State, exec (.resetFieldbus l tag [1, 0]) s = .next (u.reply l tag 0x69 .ok []) ∧
        u = { s with units := u.units, restoreList := [], cmdQueue := [], pollPos := u.pollPos, forced := 0
                     exchange := u.exchange, walkDue := u.walkDue, padWaiters := u.padWaiters, pads := u.pads
                     opss := u.opss } ∧
        (∀ a, u.unit? a = (s.unit? a).map fun x => ⟨x.typ, if x.st = .silent then .restoring else x.st, 0, false,
          if x.st = .silent ∧ s.site = .survey then false else x.surveyed⟩) ∧
        (s.site = .running → u.exchange = s.units.head?.map fun p => s.request p.1 .poll) ∧
        (∃ w : State, w = { u with exchange := none, pollPos := w.pollPos } ∧ w.PollChosen u ∧
          w.pollPos = if s.site = .survey then (w.units.find? fun p => !p.2.surveyed).map (·.1)
                      else s.units.head?.map (·.1)) ∧
        (∀ n, u.pad? n = s.pad? n ∨ ∃ x, s.pad? n = some x ∧ x.watch ≠ .none ∧
          ((∃ c ∈ s.cmdQueue, c.req = .watch n) ∨ .watch n ∈ s.padWaiters) ∧ u.pad? n = some { x with watch := .none }) ∧
        (s.padWaiters = [] →
          let ended := s.cmdQueue.filterMap fun c => match c.req with
            | .watch n => some n
            | _ => none
          ended.Nodup → (∀ n ∈ ended, ∃ x, s.pad? n = some x ∧ x.watch ≠ .none) → u.padWaiters = [] ∧
            (∀ n, u.pad? n = (s.pad? n).map fun x => { x with watch := if n ∈ ended then .none else x.watch }) ∧
            s.Told u (ended.map fun n =>
              .clampFailed n (((s.pad? n).map (·.clamp)).getD .unknown) (s.telescopeOnPad n)) ∧
            u.walkDue = (s.walkDue || (s.cmdQueue.any fun c => decide (c.req = .ops ∨ ∃ t, c.req = .tr t)) ||
              s.roomWait && !s.cmdQueue.isEmpty)))

/-! ## Invariants of every step -/

/-- Every step keeps every queue within its size (00_scope.md 3), at most four commands between two polls of the field bus
(R163), and at most two misses before silence (R159, R161); and after every step no frame waits that may be taken
(IntakeDone): none at a transporter's port, and at an operations port only while its reply queue is full (R176) or the
controller is held in reset. That the block takes a frame within the command that brings it or makes room for it is the
model's choice (log 1). -/
def Obligations.StepKeepsCapacities : Prop :=
  (∀ s t : State, s.Bounded → step s = .next t → t.Bounded) ∧
  (∀ s t : State, s.BusCounts → step s = .next t → t.BusCounts) ∧
  (∀ s t : State, s.IntakeDone → step s = .next t → t.IntakeDone)

/-- Every step keeps the tables in their canonical form, identifiers rising strictly, and the site parameters within their
ranges and in their orders (R188). -/
def Obligations.StepKeepsTablesAndParams : Prop :=
  (∀ s t : State, s.TablesWf → step s = .next t → t.TablesWf) ∧
  (∀ s t : State, s.params.Legal → step s = .next t → t.params.Legal)

/-- Every step keeps a site that is not RUNNING empty: every transporter OFFLINE, nothing held, no transfer, nothing
waiting (R183). -/
def Obligations.StepKeepsIdleSite : Prop :=
  ∀ s t : State, s.IdleSite → step s = .next t → t.IdleSite

/-- Every step keeps trip causes and transfer records to the states that have them (R103, R115, R147), AUTHORISED without
stop causes, and HELD with some (R122). -/
def Obligations.StepKeepsTransporterStates : Prop :=
  (∀ s t : State, s.StatesMatch → step s = .next t → t.StatesMatch) ∧
  (∀ s t : State, s.StandsMatch → step s = .next t → t.StandsMatch)

/-- Every step keeps the stop causes of every transporter current: they are exactly the causes present (R121). -/
def Obligations.StepKeepsStopsCurrent : Prop :=
  ∀ s t : State, s.IdleSite → s.StopsCurrent → step s = .next t → t.StopsCurrent

/-- Every step keeps a transporter from standing twice in the pending queue (R59), and every record's indices rising, with
no section in two entries (R38, R39). -/
def Obligations.StepKeepsRoutes : Prop :=
  (∀ s t : State, s.QueueOnce → step s = .next t → t.QueueOnce) ∧
  (∀ s t : State, s.RoutesRise → step s = .next t → t.RoutesRise)

/-! ## What the Route Interlock guarantees -/

/-- Between commands no transporter's frame waits (IntakeDone, kept by every step). Then no command but an accepted JOIN, an
accepted ROUTE, bytes that may complete one of these, and the walk of the pending queue makes a transporter the holder of
a section. By JOIN the section is one its detector sees taken; by the others it is CLEAR, in no stopped zone, and before
the command nobody held it but by a reservation that the same walk dropped (R49, R106). A section newly held GRANTED by
ROUTE or a walk was CLEAR, in no stopped zone and held SETTING at most; its entered flag is clear; every entry before its
own is GRANTED too, and so is the rest of its unit, the entries of the same passing group that follow it (R48, R51); and its
point is locked to the holder, with its latch clear, in the position that the entry requires, with no lock of another
before, and no throw outstanding but the holder's own toward that position (R49, R51). -/
def Obligations.GrantSafety : Prop :=
  (∀ (c : Instr) (s t : State) (u : TId) (n : Nat), s.IntakeDone → s.TablesWf → exec c s = .next t →
     s.holdBy u n = none → t.holdBy u n ≠ none →
     ((∃ p, c = .join u p) ∨ bytesAt (.tl u) c) ∧ (s.detOf n = .occupied ∨ s.detOf n = .disturbed) ∧
       (s.sec? n).bind (·.hold) = none ∨
     ((∃ p, c = .route u p) ∨ bytesAt (.tl u) c ∨ c = .pendingQueueWalk) ∧ s.detOf n = .clear ∧
       (∀ x, s.sec? n = some x → s.inStoppedZone x.defn.zones = false ∧ ∀ h, x.hold = some h → h.kind = .setting)) ∧
  (∀ (c : Instr) (s t : State) (u : TId) (n : Nat), s.IntakeDone → s.TablesWf →
     (∃ q, c = .route u q) ∨ c = .pendingQueueWalk → exec c s = .next t →
     s.holdBy u n ≠ some .granted → t.holdBy u n = some .granted →
     (t.sec? n).bind (·.hold) = some ⟨u, .granted, false⟩ ∧ s.detOf n = .clear ∧
     (∀ x, s.sec? n = some x → s.inStoppedZone x.defn.zones = false ∧ ∀ h, x.hold = some h → h.kind = .setting) ∧
     ∃ before e after, (t.route u).entries = before ++ e :: after ∧ e.sec = n ∧
       (∀ f ∈ before, t.holdBy u f.sec = some .granted) ∧
       (s.groupOf e ≠ 0 → ∀ f ∈ after.takeWhile (fun f => decide (s.groupOf f = s.groupOf e)),
         t.holdBy u f.sec = some .granted) ∧
       ∀ p x, t.pointOf n = some (p, x) →
         x.lock = some u ∧ x.latch = none ∧ x.pos = (requiredBlade e.ent e.ext).pos ∧
         (∀ y, s.point? p = some y → y.lock = none ∨ y.lock = some u) ∧
         ∀ r b, t.outstanding p = some (r, b) → r = .tr u ∧ b = requiredBlade e.ent e.ext)

/-- A GRANTED section keeps its holder until its detection is CLEAR, unless the command is a report (recovery, an
authority shortened), takes its transporter offline, or ends the configuration or the run (R68, R69, R73, R118); bytes at
its transporter's port or at an operations port may complete such a command, and a reply that leaves may let a waiting one
be taken (R171, R176). -/
def Obligations.ReleaseSafety : Prop :=
  ∀ (c : Instr) (s t : State) (u : TId) (n : Nat), s.IntakeDone → exec c s = .next t →
    (∀ p, c ≠ .report u p) → (∀ p, c ≠ .leave u p) → (∀ l g p, c ≠ .retire l g p) →
    (∀ l g p, c ≠ .defineSection l g p) → (∀ l g p, c ≠ .commit l g p) → (∀ l g p, c ≠ .configure l g p) →
    c ≠ .clockStartUpEnd → ¬ bytesAt (.tl u) c → (∀ l, ¬ bytesAt (.ops l) c) → (∀ l, c ≠ .opsTransmitStart l) →
    s.holdBy u n = some .granted → t.holdBy u n = none → t.detOf n = .clear

/-! ## Operations commands: queries, lengths, site states -/

/-- Each query is answered, in every site state, by REPLY OK with the data of its entity, or by UNKNOWN_ID where there is
none; nothing else changes (R17, R66, R124, R145, R168, R183). What the data carry is said place by place, with R181's
widths and codes (the structures `…Shown`); the places and codes that R181 leaves open are log 9's. -/
def Obligations.QueriesAnswered : Prop :=
  ∀ (s : State) (l : OpsId) (tag b : Byte), s.OpsReady l →
    exec (.qSite l tag []) s = .next (s.reply l tag 0x40 .ok s.siteData) ∧
    (∀ x, b.toNat < 96 → s.sec? b.toNat = some x →
      exec (.qSection l tag [b]) s = .next (s.reply l tag 0x41 .ok (Section.data b.toNat x))) ∧
    (96 ≤ b.toNat ∨ s.sec? b.toNat = none → exec (.qSection l tag [b]) s = .next (s.reply l tag 0x41 .unknownId [])) ∧
    (∀ x, b.toNat < 32 → s.point? b.toNat = some x →
      exec (.qPoint l tag [b]) s = .next (s.reply l tag 0x42 .ok (Point.data b.toNat x))) ∧
    (32 ≤ b.toNat ∨ s.point? b.toNat = none → exec (.qPoint l tag [b]) s = .next (s.reply l tag 0x42 .unknownId [])) ∧
    (∀ h : b.toNat < 6,
      exec (.qTransporter l tag [b]) s = .next (s.reply l tag 0x43 .ok (s.transporterData ⟨b.toNat, h⟩)) ∧
      exec (.qRoute l tag [b]) s = .next (s.reply l tag 0x44 .ok (s.routeData ⟨b.toNat, h⟩))) ∧
    (6 ≤ b.toNat → exec (.qTransporter l tag [b]) s = .next (s.reply l tag 0x43 .unknownId []) ∧
      exec (.qRoute l tag [b]) s = .next (s.reply l tag 0x44 .unknownId [])) ∧
    (∀ x, b.toNat < 80 → s.pad? b.toNat = some x →
      exec (.qPad l tag [b]) s = .next (s.reply l tag 0x45 .ok (s.padData b.toNat x))) ∧
    (80 ≤ b.toNat ∨ s.pad? b.toNat = none → exec (.qPad l tag [b]) s = .next (s.reply l tag 0x45 .unknownId [])) ∧
    (1 ≤ b.toNat ∧ b.toNat ≤ 16 →
      exec (.qTelescope l tag [b]) s = .next (s.reply l tag 0x46 .ok (s.telescopeData b.toNat))) ∧
    (b.toNat = 0 ∨ 17 ≤ b.toNat → exec (.qTelescope l tag [b]) s = .next (s.reply l tag 0x46 .unknownId [])) ∧
    (∀ x, 1 ≤ b.toNat → b.toNat ≤ 48 → s.unit? b.toNat = some x →
      exec (.qUnit l tag [b]) s = .next (s.reply l tag 0x47 .ok (s.unitData b.toNat x))) ∧
    (b.toNat = 0 ∨ 49 ≤ b.toNat ∨ s.unit? b.toNat = none →
      exec (.qUnit l tag [b]) s = .next (s.reply l tag 0x47 .unknownId [])) ∧
    s.SiteShown s.siteData ∧ (∀ n x, Section.Shown n x (Section.data n x)) ∧ (∀ n x, Point.Shown n x (Point.data n x)) ∧
    (∀ t, s.TransporterShown t (s.transporterData t) ∧ s.RouteShown t (s.routeData t)) ∧
    (∀ n x, s.PadShown n x (s.padData n x)) ∧ (∀ k, s.TelescopeShown k (s.telescopeData k)) ∧
    ∀ a x, s.UnitShown a x (s.unitData a x)

/-- A payload of the wrong length is answered FRAME before any other check, by REPLY or by REFUSE, and changes nothing
else but the supervision of the transporter that sent it (R180, R109). The lengths of field-less messages are log 7's, those
of the DEFINE payloads and of ALLOCATE log 8's. -/
def Obligations.LengthRefused : Prop :=
  (∀ (c : Instr) (s : State) (l : OpsId) (ty tag : Byte) (p : List Byte), s.OpsReady l →
    opsFrame c = some (l, ty, tag, p) → p.length ∉ opsLengths ty → exec c s = .next (s.reply l tag ty .frame [])) ∧
  (∀ (c : Instr) (s : State) (t : TId) (ty : Byte) (p : List Byte), s.Quiet (.tl t) →
    tlFrame c = some (t, ty, p) → ¬ tlLengthOk ty p →
    (s.reloadSupervision t = if (s.tr t).state = .offline then s
      else { s with trs := s.trs.set t { s.tr t with superv := some (.load (s.tr t).supervision) } }) ∧
    exec c s = .next ((s.reloadSupervision t).refuse t ty .frame))

/-- Outside RUNNING the fifteen control commands and CONFIGURE are answered STATE (R183), and so is every request of a
transporter, which is OFFLINE (R109); nothing else changes. -/
def Obligations.OutsideRunningRefused : Prop :=
  (∀ (c : Instr) (s : State) (l : OpsId) (ty tag : Byte) (p : List Byte), s.OpsReady l → s.site ≠ .running →
    opsFrame c = some (l, ty, tag, p) → (0x50 ≤ ty.toNat ∧ ty.toNat ≤ 0x5E ∨ ty = 0x68) → p.length ∈ opsLengths ty →
    (ty = 0x5C ∨ ty = 0x5D → p[1]? = some 0 ∨ p[1]? = some 1) → exec c s = .next (s.reply l tag ty .state [])) ∧
  (∀ (c : Instr) (s : State) (t : TId) (ty : Byte) (p : List Byte), s.Quiet (.tl t) → s.IdleSite →
    s.site ≠ .running → tlFrame c = some (t, ty, p) → tlLengthOk ty p → tlCoded ty p →
    exec c s = .next (s.refuse t ty .state))

/-! ## Control commands -/

/-- Evaluating every transporter acts on each as R122 says of its state. The order T0 to T5 of the notices is the model's
(log 15), and so are the details of RESUMED, the authority number and AUTHORISED (log 24). -/
def Obligations.EvaluationActsByState : Prop :=
  ∀ s : State, s.Evaluated s.evalAll allT

/-- ALL_STOP and ALL_RESUME (R189): refused outside RUNNING; without effect where the flag stands so already; otherwise
the flag is written, both links are told, and every transporter's stop causes are evaluated. ZONE_CLEAR (R128): the
checks in their order, then the latch is cleared, the zone is told free, all are evaluated and a walk is due (R131). The
order T0 to T5 of the notices of an evaluation and the details of RESUMED are the model's (logs 15 and 24). -/
def Obligations.StopCommandsResult : Prop :=
  (∀ (s : State) (l : OpsId) (tag : Byte) (b : Bool), s.OpsReady l →
     let c : Instr := if b then .allStop l tag [] else .allResume l tag []
     let ty : Byte := if b then 0x50 else 0x51
     (s.site ≠ .running → exec c s = .next (s.reply l tag ty .state [])) ∧
     (s.site = .running → s.allStop = b → exec c s = .next (s.reply l tag ty .ok [])) ∧
     (s.site = .running → s.allStop ≠ b → ∃ u : State, exec c s = .next (u.reply l tag ty .ok []) ∧
       ({ s with allStop := b }.post (.siteAllStop .running b)).Evaluated u allT)) ∧
  (∀ (s : State) (l : OpsId) (tag n : Byte), s.OpsReady l → s.site = .running →
     (8 ≤ n.toNat → exec (.zoneClear l tag [n]) s = .next (s.reply l tag 0x52 .unknownId [])) ∧
     ∀ h : n.toNat < 8,
       let x := s.lines[n.toNat]
       (x.mode = .off ∨ x.mode = .level ∨ x.latch = false ∨ x.mode = .latchLevel ∧ x.asserted = true →
         exec (.zoneClear l tag [n]) s = .next (s.reply l tag 0x52 .state [])) ∧
       (x.mode = .latch ∨ x.mode = .latchLevel ∧ x.asserted = false → x.latch = true →
         ∃ u : State, exec (.zoneClear l tag [n]) s = .next (u.reply l tag 0x52 .ok []) ∧
           ({ s with lines := s.lines.set n.toNat { x with latch := false }, walkDue := true }.post
             (.zoneCleared n.toNat x.mode .clear)).Evaluated u allT))

/-- CANCEL and GIVEBACK toward the position e (R73 to R79): the authority is shortened to the effective end, the first
candidate that passes the braking test, or stays at its end. CANCEL answers with that end, the number and whether it
moved; GIVEBACK parks an AUTHORISED transporter whose end is now its front, at any reported speed (log 37). A reservation
dropped on the way is answered by the evaluation of stop causes (RESUMED with its details as log 24 gives); nothing else
is told, and no AUTH is formed where the end stays (R78). In RUNNING they are refused, and nothing but supervision
changes, for a transporter number above 5 (UNKNOWN_ID), for a transporter that is none of PARKED, AUTHORISED and HELD
(STATE), and for an entry outside the span from front to end, an offset beyond its entry, or an end behind the front or
ahead of the current end (RANGE). -/
def Obligations.ShortenResult : Prop :=
  (∀ (s : State) (l : OpsId) (tag n ih il oh ol : Byte), s.OpsReady l → s.site = .running → 6 ≤ n.toNat →
    exec (.cancel l tag [n, ih, il, oh, ol]) s = .next (s.reply l tag 0x53 .unknownId [])) ∧
  (∀ (s : State) (t : TId) (l : OpsId) (tag n ih il oh ol : Byte), s.site = .running → n.toNat = t.val →
    let e : RoutePos := ⟨num16 ih il, num16 oh ol⟩
    let open_ := (s.tr t).state = .parked ∨ (s.tr t).state = .authorised ∨ (s.tr t).state = .held
    let refused (r : Reason) : Prop :=
      (s.OpsReady l → exec (.cancel l tag [n, ih, il, oh, ol]) s = .next (s.reply l tag 0x53 r [])) ∧
      (s.Quiet (.tl t) → exec (.giveback t [ih, il, oh, ol]) s = .next ((s.reloadSupervision t).refuse t 0x13 r))
    (¬ open_ → refused .state) ∧
    ∀ q p, open_ → s.frontPos t = some q → (s.route t).endPos = some p →
      (∀ x, s.entryAt t e.idx = some x → e.idx < q.idx ∨ p.idx < e.idx ∨ s.pathLen x < e.off ∨ q.ahead e = true ∨
        e.ahead p = true) → refused .range) ∧
  ∀ (s : State) (t : TId) (x : Entry) (q e p : RoutePos), s.site = .running → s.RoutesRise →
    ((s.tr t).state = .parked ∨ (s.tr t).state = .authorised ∨ (s.tr t).state = .held) →
    s.entryAt t e.idx = some x → s.frontPos t = some q → (s.route t).endPos = some p →
    q.idx ≤ e.idx → e.idx ≤ p.idx → e.off ≤ s.pathLen x → q.ahead e = false → e.ahead p = false →
    (∀ (l : OpsId) (tag n ih il oh ol : Byte), s.OpsReady l → n.toNat = t.val →
      e = ⟨num16 ih il, num16 oh ol⟩ → ∃ u c, s.Shortened u t e p c false ∧
        exec (.cancel l tag [n, ih, il, oh, ol]) s = .next (u.reply l tag 0x53 .ok
          ([n] ++ be16 c.idx ++ be16 c.off ++ [b8 (u.route t).authNum, if c = p then 0 else 1]))) ∧
    (∀ ih il oh ol : Byte, s.Quiet (.tl t) → e = ⟨num16 ih il, num16 oh ol⟩ → ∃ u c,
      exec (.giveback t [ih, il, oh, ol]) s = .next u ∧
      (s.reloadSupervision t).Shortened u t e p c true)

/-- RECOVER (R117): the checks in their order; accepted, it marks the transporter AWAITING_FIX, or leaves it so marked,
and nothing else. -/
def Obligations.RecoverResult : Prop :=
  (∀ (s : State) (l : OpsId) (tag : Byte) (p : List Byte), s.OpsReady l →
    (p.length ≠ 1 → exec (.recover l tag p) s = .next (s.reply l tag 0x54 .frame [])) ∧
    (p.length = 1 → s.site ≠ .running → exec (.recover l tag p) s = .next (s.reply l tag 0x54 .state []))) ∧
  ∀ (s : State) (l : OpsId) (tag n : Byte), s.OpsReady l → s.site = .running →
    (6 ≤ n.toNat → exec (.recover l tag [n]) s = .next (s.reply l tag 0x54 .unknownId [])) ∧
    ∀ h : n.toNat < 6, let t : TId := ⟨n.toNat, h⟩
      ((s.tr t).state ≠ .tripped → exec (.recover l tag [n]) s = .next (s.reply l tag 0x54 .state [])) ∧
      ((s.tr t).state = .tripped → (∃ k q, (k, .indeterminate q t) ∈ s.telescopes) →
        exec (.recover l tag [n]) s = .next (s.reply l tag 0x54 .indeterminate [])) ∧
      ((s.tr t).state = .tripped → (∀ k q, (k, .indeterminate q t) ∉ s.telescopes) →
        (∃ c : Countdown, (s.tr t).superv = some c ∧ c.steps = 0) →
        exec (.recover l tag [n]) s = .next (s.reply l tag 0x54 .state [])) ∧
      ((s.tr t).state = .tripped → (∀ k q, (k, .indeterminate q t) ∉ s.telescopes) →
        (∀ c : Countdown, (s.tr t).superv = some c → c.steps ≠ 0) →
        exec (.recover l tag [n]) s =
          .next ({ s with trs := s.trs.set t { s.tr t with awaitingFix := true } }.reply l tag 0x54 .ok []))

/-- RETIRE from PARKED or TRIPPED, unless a telescope is INDETERMINATE there, and LEAVE from PARKED take the transporter
OFFLINE (R119, R120); in every other state they are refused. The emptied route record has the final stop offset 0 by the
model's choice (log 5: R41 does not name it). -/
def Obligations.OfflineResult : Prop :=
  ∀ (s : State) (t : TId), s.site = .running → s.TablesWf →
    (∀ (l : OpsId) (tag n : Byte), s.OpsReady l → 6 ≤ n.toNat →
      exec (.retire l tag [n]) s = .next (s.reply l tag 0x55 .unknownId [])) ∧
    (∀ (l : OpsId) (tag n : Byte), s.OpsReady l → n.toNat = t.val →
      ((s.tr t).state ≠ .parked → (s.tr t).state ≠ .tripped →
        exec (.retire l tag [n]) s = .next (s.reply l tag 0x55 .state [])) ∧
      ((s.tr t).state = .parked ∨ (s.tr t).state = .tripped → (∃ k q, (k, .indeterminate q t) ∈ s.telescopes) →
        exec (.retire l tag [n]) s = .next (s.reply l tag 0x55 .indeterminate [])) ∧
      ((s.tr t).state = .parked ∨ (s.tr t).state = .tripped → (∀ k q, (k, .indeterminate q t) ∉ s.telescopes) →
        ∃ u : State, exec (.retire l tag [n]) s = .next (u.reply l tag 0x55 .ok []) ∧ s.WentOffline u t .retire)) ∧
    (∀ b : Byte, s.Quiet (.tl t) → (s.tr t).state = .parked →
      ∃ u : State, exec (.leave t [b]) s = .next u ∧ s.WentOffline u t .leave) ∧
    (∀ b : Byte, s.Quiet (.tl t) → (s.tr t).state ≠ .parked →
      exec (.leave t [b]) s = .next ((s.reloadSupervision t).refuse t 0x16 .state))

/-! ## Points, sections, units, pads, telescopes -/

/-- THROW (R35): the checks in their order; accepted, the request joins the tail of the field-bus command queue and nothing
else changes. CLEAR_POINT (R36): the checks in their order; accepted, the latch is cleared, the position is UNKNOWN until
the next reading, and a walk is due. -/
def Obligations.PointCommandsResult : Prop :=
  (∀ (s : State) (l : OpsId) (tag n pos : Byte), s.OpsReady l → s.site ≠ .running →
     exec (.throwPoint l tag [n, pos]) s = .next (s.reply l tag 0x56 .state []) ∧
     exec (.clearPoint l tag [n]) s = .next (s.reply l tag 0x57 .state [])) ∧
  (∀ (s : State) (l : OpsId) (tag n pos : Byte), s.OpsReady l → s.site = .running →
     (32 ≤ n.toNat ∨ s.point? n.toNat = none →
       exec (.throwPoint l tag [n, pos]) s = .next (s.reply l tag 0x56 .unknownId [])) ∧
     ∀ x, n.toNat < 32 → s.point? n.toNat = some x → exec (.throwPoint l tag [n, pos]) s = .next (
       if pos ≠ 1 ∧ pos ≠ 2 then s.reply l tag 0x56 .range []
       else if x.lock ≠ none then s.reply l tag 0x56 .locked []
       else if (s.sec? x.sec).bind (·.hold) ≠ none then s.reply l tag 0x56 .held []
       else if s.detOf x.sec ≠ .clear then s.reply l tag 0x56 .notClear []
       else if x.latch ≠ none then s.reply l tag 0x56 .pointFault []
       else if x.pos = .moving ∨ s.outstanding n.toNat ≠ none then s.reply l tag 0x56 .moving []
       else if 16 ≤ s.cmdQueue.length then s.reply l tag 0x56 .state []
       else ({ s with cmdQueue := s.cmdQueue ++
           [⟨if pos = 1 then .throwNormal else .throwReverse, x.addr, n.toNat, .ops⟩] } : State).reply l tag 0x56 .ok [])) ∧
  (∀ (s : State) (l : OpsId) (tag n : Byte), s.OpsReady l → s.site = .running →
     (32 ≤ n.toNat ∨ s.point? n.toNat = none →
       exec (.clearPoint l tag [n]) s = .next (s.reply l tag 0x57 .unknownId [])) ∧
     ∀ x, n.toNat < 32 → s.point? n.toNat = some x →
       let silent := (s.unit? x.addr).map (·.st) = some .silent ∨ (s.unit? x.addr).map (·.st) = some .restoring
       (x.latch = none → exec (.clearPoint l tag [n]) s = .next (s.reply l tag 0x57 .state [])) ∧
       (x.latch ≠ none → silent → exec (.clearPoint l tag [n]) s = .next (s.reply l tag 0x57 .unitSilent [])) ∧
       (x.latch ≠ none → ¬ silent → x.lock ≠ none →
         exec (.clearPoint l tag [n]) s = .next (s.reply l tag 0x57 .locked [])) ∧
       (x.latch ≠ none → ¬ silent → x.lock = none → ∃ u : State,
         exec (.clearPoint l tag [n]) s = .next (u.reply l tag 0x57 .ok []) ∧
         u = { s with points := u.points, walkDue := true } ∧
         u.point? n.toNat = some { x with latch := none, pos := .unknown } ∧
         ∀ p, p ≠ n.toNat → u.point? p = s.point? p))

/-- RESTORE_SECTION (R22): the checks in their order; accepted, the section is OCCUPIED from now, and the
change is handed on (HandedOn: R25): a GRANTED section is entered, a reservation makes a walk due, and then the holder's rear
sections that pass the release test are released in turn (R69, R71; a RESUMED on the way has its details by log 24). -/
def Obligations.RestoreSectionResult : Prop :=
  ∀ (s : State) (l : OpsId) (tag n : Byte), s.OpsReady l → s.site = .running →
    (96 ≤ n.toNat ∨ s.sec? n.toNat = none →
      exec (.restoreSection l tag [n]) s = .next (s.reply l tag 0x58 .unknownId [])) ∧
    ∀ x, n.toNat < 96 → s.sec? n.toNat = some x →
      (x.det = .clear ∨ x.det = .occupied →
        exec (.restoreSection l tag [n]) s = .next (s.reply l tag 0x58 .state [])) ∧
      (x.det = .disturbed ∨ x.det = .unknown → (s.unit? x.defn.detAddr).map (·.st) = some .silent →
        exec (.restoreSection l tag [n]) s = .next (s.reply l tag 0x58 .unitSilent [])) ∧
      (x.det = .disturbed ∨ x.det = .unknown → (s.unit? x.defn.detAddr).map (·.st) ≠ some .silent → ∃ u w : State,
        exec (.restoreSection l tag [n]) s = .next (u.reply l tag 0x58 .ok []) ∧
        w = { s with sections := w.sections } ∧
        (∀ m, w.sec? m = if m = n.toNat then some { x with det := .occupied, capture := s.clock } else s.sec? m) ∧
        (s.TablesWf → w.HandedOn u n.toNat .occupied) ∧
        u.sec? n.toNat = some { x with
          det := .occupied, capture := s.clock
          hold := x.hold.map fun h => if h.kind = .granted then { h with entered := true } else h } ∧
        (∀ m, m ≠ n.toNat → u.sec? m = s.sec? m ∨
          ∃ y h, s.sec? m = some y ∧ y.hold = some h ∧ y.det = .clear ∧ x.hold.map (·.holder) = some h.holder ∧
            u.sec? m = some { y with hold := none }) ∧
        (∀ h, x.hold = some h → h.kind = .setting → u.walkDue = true) ∧
        (x.hold = none → u = { s with sections := u.sections }) ∧
        u = { s with sections := u.sections, points := u.points, trs := u.trs, routes := u.routes, tls := u.tls
                     ceilings := u.ceilings, walkDue := u.walkDue, opss := u.opss })

/-- RESTORE_UNIT (R165): the checks in their order; a unit on the restore list stays as it is (log 28); any other joins
the list, RESTORING, its count cleared; and an idle bus leaves idle (R164). -/
def Obligations.RestoreUnitResult : Prop :=
  ∀ (s : State) (l : OpsId) (tag a : Byte), s.OpsReady l → s.site = .running →
    (a.toNat = 0 ∨ 49 ≤ a.toNat ∨ s.unit? a.toNat = none →
      exec (.restoreUnit l tag [a]) s = .next (s.reply l tag 0x59 .unknownId [])) ∧
    ∀ x, 1 ≤ a.toNat → a.toNat ≤ 48 → s.unit? a.toNat = some x →
      (x.st = .active → exec (.restoreUnit l tag [a]) s = .next (s.reply l tag 0x59 .state [])) ∧
      (x.st ≠ .active → x.restorePending = true →
        exec (.restoreUnit l tag [a]) s = .next (s.reply l tag 0x59 .ok [])) ∧
      (x.st ≠ .active → x.restorePending = false → ∃ u : State,
        exec (.restoreUnit l tag [a]) s = .next (u.reply l tag 0x59 .ok []) ∧
        u.unit? a.toNat = some { x with st := .restoring, retries := 0, restorePending := true } ∧
        (∀ b, b ≠ a.toNat → u.unit? b = s.unit? b) ∧
        u.restoreList = s.restoreList ++ [a.toNat] ∧ u.exchange ≠ none ∧
        (s.exchange ≠ none → u = { s with units := u.units, restoreList := u.restoreList }) ∧
        (s.exchange = none → s.cmdQueue = [] → s.restoreList = [] →
          u.exchange = some (s.request a.toNat .poll) ∧
          u = { s with units := u.units, restoreList := u.restoreList, exchange := u.exchange, forced := 0 }))

/-- PAD_RESERVE, PAD_FREE and PAD_SERVICE (R139, R140): the checks in their order, and the one record they write. -/
def Obligations.PadCommandsResult : Prop :=
  ∀ (s : State) (l : OpsId) (tag n k : Byte), s.OpsReady l → s.site = .running →
    (80 ≤ n.toNat ∨ s.pad? n.toNat = none →
      exec (.padReserve l tag [n, k]) s = .next (s.reply l tag 0x5A .unknownId []) ∧
      exec (.padFree l tag [n]) s = .next (s.reply l tag 0x5B .unknownId []) ∧
      (k = 0 ∨ k = 1 → exec (.padService l tag [n, k]) s = .next (s.reply l tag 0x5C .unknownId []))) ∧
    (k ≠ 0 → k ≠ 1 → exec (.padService l tag [n, k]) s = .next (s.reply l tag 0x5C .range [])) ∧
    ∀ x, n.toNat < 80 → s.pad? n.toNat = some x →
      let wrote (y : Pad) (u : State) : Prop :=
        u = { s with pads := u.pads } ∧ u.pad? n.toNat = some y ∧ ∀ p, p ≠ n.toNat → u.pad? p = s.pad? p
      (k.toNat = 0 ∨ 17 ≤ k.toNat → exec (.padReserve l tag [n, k]) s = .next (s.reply l tag 0x5A .range [])) ∧
      (1 ≤ k.toNat → k.toNat ≤ 16 →
        (x.st = .outOfService ∨ (∃ j, x.reserv = some j ∧ j ≠ k.toNat) ∨
          ∃ q ∈ s.pads, q.1 ≠ n.toNat ∧ q.2.reserv = some k.toNat) →
        exec (.padReserve l tag [n, k]) s = .next (s.reply l tag 0x5A .padState [])) ∧
      (1 ≤ k.toNat → k.toNat ≤ 16 → x.st ≠ .outOfService → (x.reserv = none ∨ x.reserv = some k.toNat) →
        (∀ q ∈ s.pads, q.1 ≠ n.toNat → q.2.reserv ≠ some k.toNat) → ∃ u : State,
        exec (.padReserve l tag [n, k]) s = .next (u.reply l tag 0x5A .ok []) ∧
        wrote { x with reserv := some k.toNat } u) ∧
      (∃ u : State, exec (.padFree l tag [n]) s = .next (u.reply l tag 0x5B .ok []) ∧
        wrote { x with reserv := none } u) ∧
      (x.st ≠ .vacant ∨ x.watch ≠ .none →
        exec (.padService l tag [n, 1]) s = .next (s.reply l tag 0x5C .padState [])) ∧
      (x.st = .vacant → x.watch = .none → ∃ u : State,
        exec (.padService l tag [n, 1]) s = .next (u.reply l tag 0x5C .ok []) ∧
        wrote { x with st := .outOfService, reserv := none } u) ∧
      (x.st ≠ .outOfService → exec (.padService l tag [n, 0]) s = .next (s.reply l tag 0x5C .padState [])) ∧
      (x.st = .outOfService → ∃ u : State,
        exec (.padService l tag [n, 0]) s = .next (u.reply l tag 0x5C .ok []) ∧ wrote { x with st := .vacant } u)

/-- DECLARE of an UNREGISTERED telescope (R143) puts it on a pad that is VACANT, free for it, unwatched and loaded, or on
a transporter that has none and is not in TRANSFER. DECLARE of an INDETERMINATE one (R144) settles it at the pad, where a
clamp watch opens (R141), or at the transporter that its location names, and at no other. One that is settled is STATE,
judged after the checks of identifiers (log 27). A transporter that carries a telescope is answered LOAD_MISMATCH in
TRANSFER too (the model's choice, log 38). -/
def Obligations.DeclareResult : Prop :=
  (∀ (s : State) (l : OpsId) (tag k n : Byte), s.OpsReady l → s.site = .running →
     (80 ≤ n.toNat ∨ s.pad? n.toNat = none →
       exec (.declare l tag [k, 0, n]) s = .next (s.reply l tag 0x5D .unknownId [])) ∧
     (6 ≤ n.toNat → exec (.declare l tag [k, 1, n]) s = .next (s.reply l tag 0x5D .unknownId [])) ∧
     (k.toNat = 0 ∨ 17 ≤ k.toNat → exec (.declare l tag [k, 0, n]) s = .next (s.reply l tag 0x5D .unknownId []) ∧
       exec (.declare l tag [k, 1, n]) s = .next (s.reply l tag 0x5D .unknownId [])) ∧
     (s.locOf k.toNat = none → 1 ≤ k.toNat → k.toNat ≤ 16 →
       (∀ x, n.toNat < 80 → s.pad? n.toNat = some x →
         let free := x.st = .vacant ∧ (x.reserv = none ∨ x.reserv = some k.toNat) ∧ x.watch = .none
         (¬ free → exec (.declare l tag [k, 0, n]) s = .next (s.reply l tag 0x5D .padState [])) ∧
         (free → x.load ≠ .loaded → exec (.declare l tag [k, 0, n]) s = .next (s.reply l tag 0x5D .loadMismatch [])) ∧
         (free → x.load = .loaded → ∃ u : State,
           exec (.declare l tag [k, 0, n]) s = .next (u.reply l tag 0x5D .ok []) ∧
           u = { s with telescopes := u.telescopes, pads := u.pads } ∧
           u.locOf k.toNat = some (.onPad n.toNat) ∧ (∀ j, j ≠ k.toNat → u.locOf j = s.locOf j) ∧
           u.pad? n.toNat = some { x with st := .occupied k.toNat } ∧ ∀ p, p ≠ n.toNat → u.pad? p = s.pad? p)) ∧
       (∀ h : n.toNat < 6, let t : TId := ⟨n.toNat, h⟩
         (s.telescopeAt t ≠ none → exec (.declare l tag [k, 1, n]) s = .next (s.reply l tag 0x5D .loadMismatch [])) ∧
         (s.telescopeAt t = none → (s.tr t).state = .transfer →
           exec (.declare l tag [k, 1, n]) s = .next (s.reply l tag 0x5D .state [])) ∧
         (s.telescopeAt t = none → (s.tr t).state ≠ .transfer → ∃ u : State,
           exec (.declare l tag [k, 1, n]) s = .next (u.reply l tag 0x5D .ok []) ∧
           u = { s with telescopes := u.telescopes, tls := u.tls, ceilings := u.ceilings } ∧
           u.locOf k.toNat = some (.onTransporter t) ∧ (∀ j, j ≠ k.toNat → u.locOf j = s.locOf j) ∧
           (if (s.tr t).state = .authorised ∧ u.ceilingNow t < s.ceilings[t] then u.AuthCurrent t
            else u.tl t = s.tl t ∧ u.ceilings[t] = s.ceilings[t]) ∧
           s.OnlyAuth u t ∧ ∀ v, v ≠ t → s.SameTransporter u v)))) ∧
  (∀ (s : State) (l : OpsId) (tag k n : Byte), s.OpsReady l → s.site = .running → 1 ≤ k.toNat → k.toNat ≤ 16 →
     (∀ x q t, n.toNat < 80 → s.pad? n.toNat = some x → s.locOf k.toNat = some (.indeterminate q t) →
       (q ≠ n.toNat → exec (.declare l tag [k, 0, n]) s = .next (s.reply l tag 0x5D .range [])) ∧
       (q = n.toNat → (s.unit? x.addr).map (·.st) = some .silent →
         exec (.declare l tag [k, 0, n]) s = .next (s.reply l tag 0x5D .unitSilent [])) ∧
       (q = n.toNat → (s.unit? x.addr).map (·.st) ≠ some .silent → ∃ u : State,
         exec (.declare l tag [k, 0, n]) s = .next (u.reply l tag 0x5D .ok []) ∧
         u = { s with telescopes := u.telescopes, pads := u.pads, cmdQueue := u.cmdQueue, padWaiters := u.padWaiters } ∧
         u.locOf k.toNat = some (.onPad n.toNat) ∧ (∀ j, j ≠ k.toNat → u.locOf j = s.locOf j) ∧
         (∀ p, p ≠ n.toNat → u.pad? p = s.pad? p) ∧
         let y := { x with st := .occupied k.toNat, reserv := if x.reserv = some k.toNat then none else x.reserv }
         let c : BusCmd := ⟨.clamp, x.addr, n.toNat, .watch n.toNat⟩
         if s.offerOk [c] then u.pad? n.toNat = some { y with watch := .queued } ∧
           u.cmdQueue = s.cmdQueue ++ [c] ∧ u.padWaiters = s.padWaiters
         else u.pad? n.toNat = some { y with watch := .waiting } ∧ u.cmdQueue = s.cmdQueue ∧
           u.padWaiters = s.padWaiters ++ [.watch n.toNat])) ∧
     (∀ (h : n.toNat < 6) q t, s.locOf k.toNat = some (.indeterminate q t) →
       (t ≠ ⟨n.toNat, h⟩ → exec (.declare l tag [k, 1, n]) s = .next (s.reply l tag 0x5D .range [])) ∧
       (t = ⟨n.toNat, h⟩ → ∃ u : State, exec (.declare l tag [k, 1, n]) s = .next (u.reply l tag 0x5D .ok []) ∧
         u = { s with telescopes := u.telescopes, pads := u.pads, tls := u.tls, ceilings := u.ceilings } ∧
         u.locOf k.toNat = some (.onTransporter t) ∧ (∀ j, j ≠ k.toNat → u.locOf j = s.locOf j) ∧
         u.pad? q = (s.pad? q).map (fun x => { x with st := .vacant }) ∧ (∀ p, p ≠ q → u.pad? p = s.pad? p) ∧
         (if (s.tr t).state = .authorised ∧ u.ceilingNow t < s.ceilings[t] then u.AuthCurrent t
          else u.tl t = s.tl t ∧ u.ceilings[t] = s.ceilings[t]) ∧
         s.OnlyAuth u t ∧ ∀ v, v ≠ t → s.SameTransporter u v)) ∧
     (∀ d, (s.locOf k.toNat = some (.onPad d) ∨ ∃ t, s.locOf k.toNat = some (.onTransporter t)) →
       (∀ x, n.toNat < 80 → s.pad? n.toNat = some x →
         exec (.declare l tag [k, 0, n]) s = .next (s.reply l tag 0x5D .state [])) ∧
       (n.toNat < 6 → exec (.declare l tag [k, 1, n]) s = .next (s.reply l tag 0x5D .state []))))

/-- XFER_ABORT, a stage that runs out of time and a STEP that reports FAILED abort the transfer (R149, R151 to R154):
clean before the load moves, indeterminate after (Aborted). XFER_ABORT answers with the outcome. A countdown that is stopped,
or no transfer, has no timeout: the command changes nothing (log 13). What a deferred examination tells by RESUMED has its
details by log 24. -/
def Obligations.AbortResult : Prop :=
  ∀ (s : State) (t : TId),
    (∀ x, s.transfers[t] = some x →
      (∀ (l : OpsId) (tag n : Byte), s.OpsReady l → s.site = .running → n.toNat = t.val →
        (s.tr t).state = .transfer → ∃ u, s.Aborted u t x .operations ∧
          exec (.xferAbort l tag [n]) s = .next (u.reply l tag 0x5E .ok [if x.loadMoving then 1 else 0])) ∧
      (∀ c, s.resetHold = none → x.cd = some c → 0 < c.steps →
        ∃ u, s.Aborted u t x .timeout ∧ exec (.stageTimeout t) s = .next u) ∧
      (s.resetHold = none → (x.cd = none ∨ ∃ c : Countdown, x.cd = some c ∧ c.steps = 0) →
        exec (.stageTimeout t) s = .next s) ∧
      (s.Quiet (.tl t) → x.stage = .raise ∨ x.stage = .lower →
        ∃ u, (s.reloadSupervision t).Aborted u t x .stepFailed ∧ exec (.stepResult t [1]) s = .next u)) ∧
    (s.resetHold = none → s.transfers[t] = none → exec (.stageTimeout t) s = .next s) ∧
    (∀ (l : OpsId) (tag n : Byte), s.OpsReady l → s.site = .running →
      (6 ≤ n.toNat → exec (.xferAbort l tag [n]) s = .next (s.reply l tag 0x5E .unknownId [])) ∧
      (n.toNat = t.val → (s.tr t).state ≠ .transfer →
        exec (.xferAbort l tag [n]) s = .next (s.reply l tag 0x5E .state [])))

/-! ## Configuration commands -/

/-- SET_PARAM (R188): the checks in their order; accepted, the one value is written. Every link port judges its count
against changed LINK_HOLD limits (R172); a changed WIND_CRAWL may lower ceilings while the band is CAUTION (R98).
STOP_MODE[n] writes the mode of line n, a value above 3 is RANGE; its latch and its zone follow (R129 to R131), the notices
of the evaluation in the order T0 to T5 and RESUMED with the details that logs 15 and 24 give. -/
def Obligations.SetParamResult : Prop :=
  (∀ (s : State) (l : OpsId) (tag code idx vh vl : Byte) (q : Params), s.OpsReady l → s.params.Legal →
     (code.toNat = 0 ∨ 21 ≤ code.toNat ∨ code.toNat ≠ 20 ∧ idx ≠ 0 ∨ code.toNat = 20 ∧ 8 ≤ idx.toNat →
       exec (.setParam l tag [code, idx, vh, vl]) s = .next (s.reply l tag 0x60 .unknownId [])) ∧
     (1 ≤ code.toNat → code.toNat ≤ 19 → idx = 0 →
       q.values = s.params.values.set (code.toNat - 1) (num16 vh vl) →
       let locked := s.site = .running ∧ ¬ (code.toNat = 5 ∨ 10 ≤ code.toNat ∧ code.toNat ≤ 14 ∨ 17 ≤ code.toNat)
       (s.site = .survey → exec (.setParam l tag [code, idx, vh, vl]) s = .next (s.reply l tag 0x60 .state [])) ∧
       (locked → exec (.setParam l tag [code, idx, vh, vl]) s = .next (s.reply l tag 0x60 .configLocked [])) ∧
       (s.site ≠ .survey → ¬ locked → ¬ q.Legal →
         exec (.setParam l tag [code, idx, vh, vl]) s = .next (s.reply l tag 0x60 .range [])) ∧
       (s.site ≠ .survey → ¬ locked → q.Legal → ∃ u : State,
         exec (.setParam l tag [code, idx, vh, vl]) s = .next (u.reply l tag 0x60 .ok []) ∧
         (code.toNat ≠ 13 → code.toNat ≠ 17 → code.toNat ≠ 18 → u = { s with params := q }) ∧
         (code.toNat = 13 → u = { s with params := q, tls := u.tls, ceilings := u.ceilings } ∧
           ∀ t, s.OnlyAuth u t ∧
             if s.band = .caution ∧ (s.tr t).state = .authorised ∧ u.ceilingNow t < s.ceilings[t] then u.AuthCurrent t
             else u.tl t = s.tl t ∧ u.ceilings[t] = s.ceilings[t]) ∧
         (code.toNat = 17 ∨ code.toNat = 18 → u = { s with params := q, tls := u.tls, opss := u.opss } ∧
           (∀ t, u.tl t = { s.tl t with core := u.core (.tl t) }) ∧
           (∀ k, u.opsPort k = { s.opsPort k with core := u.core (.ops k) }) ∧
           ∀ p, u.core p =
             let c := s.core p
             if c.rxFlow = .go ∧ q.linkHoldUpper ≤ c.rx.length then
               { c with rxFlow := .hold, sinceHold := 0, flowByte := some .hold }
             else if c.rxFlow = .hold ∧ c.rx.length ≤ q.linkHoldLower then
               { c with rxFlow := .go, flowByte := some .go }
             else c)))) ∧
  (∀ (s : State) (l : OpsId) (tag n vh vl : Byte) (m : StopMode), s.OpsReady l → s.params.Legal →
     num16 vh vl = m.code → ∀ h : n.toNat < 8,
       let x := s.lines[n.toNat]
       let latching (k : StopMode) : Prop := k = .latch ∨ k = .latchLevel
       (s.site = .survey → exec (.setParam l tag [20, n, vh, vl]) s = .next (s.reply l tag 0x60 .state [])) ∧
       (s.site ≠ .survey → ∃ u b, exec (.setParam l tag [20, n, vh, vl]) s = .next (u.reply l tag 0x60 .ok []) ∧
         s.LineChanged u ⟨n.toNat, h⟩ { x with mode := m, latch := b } .mode ∧
         (b = true ↔ latching m ∧ (latching x.mode ∧ x.latch = true ∨
           ¬ latching x.mode ∧ x.asserted = true ∧ s.site = .running)))) ∧
  (∀ (s : State) (l : OpsId) (tag n vh vl : Byte), s.OpsReady l → s.params.Legal → n.toNat < 8 → 3 < num16 vh vl →
     s.site ≠ .survey → exec (.setParam l tag [20, n, vh, vl]) s = .next (s.reply l tag 0x60 .range []))

/-- DEFINE_SECTION (R1, R2): a payload of another length than its kind has (log 8) is FRAME in every site state (R180); then
the site state refuses, STATE in SURVEY and CONFIG_LOCKED in RUNNING, before any of R2's checks; then the checks in their
order, the first that absent and present fields are as the kind asks. Accepted, the definition replaces the whole record,
detection UNKNOWN and nothing held (R8). Kind NONE removes the record. -/
def Obligations.DefineSectionResult : Prop :=
  ∀ (s : State) (l : OpsId) (tag : Byte), s.OpsReady l →
    (∀ p f, parseSection p = some (.full f) →
      (s.site = .survey → exec (.defineSection l tag p) s = .next (s.reply l tag 0x61 .state [])) ∧
      (s.site = .running → exec (.defineSection l tag p) s = .next (s.reply l tag 0x61 .configLocked [])) ∧
      (s.site = .unconfigured →
        let refused (r : Reason) : Prop := exec (.defineSection l tag p) s = .next (s.reply l tag 0x61 r [])
        let wellFormed := (f.kind = 0 → f.len2 = 65535 ∧ f.c = ⟨0xFF, 0xFF⟩) ∧
          (f.kind = 1 → f.len2 ≠ 65535 ∧ f.c ≠ ⟨0xFF, 0xFF⟩) ∧
          (f.kind = 0 ∨ f.kind = 1 → f.a ≠ ⟨0xFF, 0xFF⟩ ∧ f.b ≠ ⟨0xFF, 0xFF⟩)
        if ¬ wellFormed then refused .frame
        else if 96 ≤ f.id then refused .unknownId
        else if f.kind ≠ 0 ∧ f.kind ≠ 1 then refused .range
        else if f.len < 100 ∨ 65000 < f.len ∨ f.kind = 1 ∧ (f.len2 < 100 ∨ 65000 < f.len2) then refused .range
        else if f.grade < -60 ∨ 60 < f.grade then refused .range
        else if f.speed < 10 ∨ 300 < f.speed then refused .range
        else if ∃ k ∈ f.links, k.isBuffer = false ∧ 96 ≤ k.sec.toNat then refused .unknownId
        else if (∃ k ∈ f.links, k.isBuffer = false ∧ (3 ≤ k.e.toNat ∨ k.sec.toNat = f.id)) ∨
            ¬ (f.links.filter fun k => !k.isBuffer).Nodup then refused .range
        else if 16 < f.group then refused .range
        else if f.addr = 0 ∨ 48 < f.addr ∨ 3 < f.slot then refused .range
        else ∃ u : State, exec (.defineSection l tag p) s = .next (u.reply l tag 0x61 .ok []) ∧
          u = { s with sections := u.sections } ∧
          u.sec? f.id = some ⟨⟨f.len, if f.kind = 1 then some ⟨f.len2, f.c.link⟩ else none, f.grade, f.speed, f.a.link,
            f.b.link, f.zones, f.group, f.addr, f.slot⟩, .unknown, s.clock, none⟩ ∧
          ∀ m, m ≠ f.id → u.sec? m = s.sec? m)) ∧
    (∀ p, parseSection p = none → exec (.defineSection l tag p) s = .next (s.reply l tag 0x61 .frame [])) ∧
    (∀ n k : Byte, s.site = .unconfigured → 3 ≤ k.toNat → exec (.defineSection l tag [n, k]) s =
      .next (s.reply l tag 0x61 (if 96 ≤ n.toNat then .unknownId else .range) [])) ∧
    (∀ n k : Byte, 2 ≤ k.toNat →
      (s.site = .survey → exec (.defineSection l tag [n, k]) s = .next (s.reply l tag 0x61 .state [])) ∧
      (s.site = .running → exec (.defineSection l tag [n, k]) s = .next (s.reply l tag 0x61 .configLocked []))) ∧
    (∀ n : Byte, s.site = .unconfigured → s.TablesWf →
      (96 ≤ n.toNat → exec (.defineSection l tag [n, 2]) s = .next (s.reply l tag 0x61 .unknownId [])) ∧
      (n.toNat < 96 → ∃ u : State, exec (.defineSection l tag [n, 2]) s = .next (u.reply l tag 0x61 .ok []) ∧
        u = { s with sections := u.sections } ∧ u.sec? n.toNat = none ∧ ∀ m, m ≠ n.toNat → u.sec? m = s.sec? m))

/-- DEFINE_POINT, DEFINE_PAD, DEFINE_UNIT and DEFINE_TRANSPORTER (R9, R11, R104, R137, R155): refused by the site state
with STATE or CONFIG_LOCKED, then by the checks in their order; accepted, one record is written and nothing else but the
poll position, which a unit record moves to the lowest defined address (R156; absent without units, log 19). How the
payloads are laid out is log 8's. -/
def Obligations.DefineRecordsResult : Prop :=
  (∀ (s : State) (l : OpsId) (tag n x oh ol th tl a : Byte), s.OpsReady l →
     let point := Instr.definePoint l tag [n, x, a]
     let pad := Instr.definePad l tag [n, x, oh, ol, th, tl, a]
     let unit := Instr.defineUnit l tag [n, a]
     let refused (c : Instr) (ty : Byte) (r : Reason) : Prop := exec c s = .next (s.reply l tag ty r [])
     (x = 0xFF → refused point 0x62 .frame ∧ refused pad 0x63 .frame) ∧
     (s.site = .survey → (x ≠ 0xFF → refused point 0x62 .state ∧ refused pad 0x63 .state) ∧ refused unit 0x64 .state) ∧
     (s.site = .running → (x ≠ 0xFF → refused point 0x62 .configLocked ∧ refused pad 0x63 .configLocked) ∧
       refused unit 0x64 .configLocked) ∧
     (s.site = .unconfigured →
       (x ≠ 0xFF →
         (if 32 ≤ n.toNat ∨ 96 ≤ x.toNat then refused point 0x62 .unknownId
          else if a.toNat = 0 ∨ 48 < a.toNat then refused point 0x62 .range
          else ∃ u : State, exec point s = .next (u.reply l tag 0x62 .ok []) ∧ u = { s with points := u.points } ∧
           u.point? n.toNat = some ⟨x.toNat, a.toNat, .unknown, none, none, none, none, none⟩ ∧
           ∀ p, p ≠ n.toNat → u.point? p = s.point? p) ∧
         (if 80 ≤ n.toNat ∨ 96 ≤ x.toNat then refused pad 0x63 .unknownId
          else if 65000 < num16 oh ol then refused pad 0x63 .range
          else if num16 th tl = 0 ∨ 50 < num16 th tl then refused pad 0x63 .range
          else if a.toNat = 0 ∨ 48 < a.toNat then refused pad 0x63 .range
          else ∃ u : State, exec pad s = .next (u.reply l tag 0x63 .ok []) ∧ u = { s with pads := u.pads } ∧
           u.pad? n.toNat = some ⟨x.toNat, num16 oh ol, num16 th tl, a.toNat, .vacant, none, .unknown, .unknown, false,
             .none⟩ ∧
           ∀ p, p ≠ n.toNat → u.pad? p = s.pad? p)) ∧
       (if n.toNat = 0 ∨ 48 < n.toNat then refused unit 0x64 .unknownId
        else if 4 < a.toNat then refused unit 0x64 .range
        else ∃ u : State, exec unit s = .next (u.reply l tag 0x64 .ok []) ∧
         u = { s with units := u.units, pollPos := u.units.head?.map (·.1) } ∧
         (a.toNat = 0 → s.TablesWf → u.unit? n.toNat = none) ∧
         (∀ ty : UnitType, a.toNat = ty.code → u.unit? n.toNat = some ⟨ty, .active, 0, false, false⟩) ∧
         ∀ b, b ≠ n.toNat → u.unit? b = s.unit? b) ∧
       (s.TablesWf → n.toNat < 32 → ∃ u : State,
         exec (.definePoint l tag [n, 0xFF]) s = .next (u.reply l tag 0x62 .ok []) ∧ u = { s with points := u.points } ∧
         u.point? n.toNat = none ∧ ∀ p, p ≠ n.toNat → u.point? p = s.point? p) ∧
       (s.TablesWf → n.toNat < 80 → ∃ u : State,
         exec (.definePad l tag [n, 0xFF]) s = .next (u.reply l tag 0x63 .ok []) ∧ u = { s with pads := u.pads } ∧
         u.pad? n.toNat = none ∧ ∀ p, p ≠ n.toNat → u.pad? p = s.pad? p))) ∧
  (∀ (s : State) (l : OpsId) (tag n ah al bh bl ch cl dh dl eh el : Byte), s.OpsReady l →
     let c := Instr.defineTransporter l tag [n, ah, al, bh, bl, ch, cl, dh, dl, eh, el]
     let refused (r : Reason) : Prop := exec c s = .next (s.reply l tag 0x65 r [])
     let inside (low high v : Nat) : Prop := low ≤ v ∧ v ≤ high
     (s.site = .survey → refused .state) ∧ (s.site = .running → refused .configLocked) ∧
     (s.site = .unconfigured → 6 ≤ n.toNat → refused .unknownId) ∧
     ∀ h : n.toNat < 6, s.site = .unconfigured →
       let legal := inside 4 100 (num16 ah al) ∧ inside 4 100 (num16 bh bl) ∧ inside 10 300 (num16 ch cl) ∧
         inside 10 300 (num16 dh dl) ∧ inside 3 127 (num16 eh el)
       (¬ legal → refused .range) ∧
       (legal → ∃ u : State, exec c s = .next (u.reply l tag 0x65 .ok []) ∧ u = { s with trs := u.trs } ∧
         (∀ t, t ≠ ⟨n.toNat, h⟩ → u.tr t = s.tr t) ∧
         u.tr ⟨n.toNat, h⟩ = { s.tr ⟨n.toNat, h⟩ with
           decelEmpty := num16 ah al, decelLoaded := num16 bh bl, vmaxEmpty := num16 ch cl
           vmaxLoaded := num16 dh dl, supervision := num16 eh el }))

/-- ALLOCATE (R187): its payload is six one-byte quotas (the model's layout, log 8), each of 2 to 32, that fit the authority
pool; in RUNNING every transporter must be OFFLINE, or PARKED, not waiting and within its new quota. Accepted, the quotas
are written and nothing else changes. -/
def Obligations.AllocateResult : Prop :=
  ∀ (s : State) (l : OpsId) (tag : Byte) (q : Vector Byte 6), s.OpsReady l →
    let c := Instr.allocate l tag q.toList
    let refused (r : Reason) : Prop := exec c s = .next (s.reply l tag 0x66 r [])
    let legal := (∀ t : TId, 2 ≤ q[t].toNat ∧ q[t].toNat ≤ 32) ∧ (q.toList.map BitVec.toNat).sum ≤ 128
    let fits := s.site = .running → ∀ t : TId, (s.tr t).state = .offline ∨
      (s.tr t).state = .parked ∧ (∀ w ∈ s.waiting, w.t ≠ t) ∧ (s.route t).entries.length ≤ q[t].toNat
    (s.site = .survey → refused .state) ∧ (s.site ≠ .survey → ¬ legal → refused .range) ∧
    (s.site ≠ .survey → legal → ¬ fits → refused .state) ∧
    (s.site ≠ .survey → legal → fits → ∃ u : State, exec c s = .next (u.reply l tag 0x66 .ok []) ∧
      u = { s with trs := u.trs } ∧ ∀ t, u.tr t = { s.tr t with quota := q[t].toNat })

/-- COMMIT (R184, R185, R136, R166): refused outside UNCONFIGURED with STATE, and where the configuration is not sound
with the first of its nine steps that fails, the lowest subject that fails it, and the reason (FailsFirst; which reason,
where one identifier fails its step in two ways: log 36; the subjects of steps 1, 7 and 9: log 22); STATE carries no data
(log 29). Accepted, the site is in SURVEY, the runtime state is clear, both links are told, the band is HOLD while a MAST
is awaited, and the poll position is the lowest address, from which the survey's first poll is chosen at once: it goes to the
lowest unit, and the position moves on among the unsurveyed (R156, R166, PollChosen: log 19, DEDUCED). The empty route
records have the final stop offset 0 (log 5, the model's choice). -/
def Obligations.CommitResult : Prop :=
  ∀ (s : State) (l : OpsId) (tag : Byte), s.OpsReady l →
    (s.site ≠ .unconfigured → exec (.commit l tag []) s = .next (s.reply l tag 0x67 .state [])) ∧
    (s.site = .unconfigured → ¬ s.Sound → ∃ (r : Reason) (step n : Nat) (k : SubjectClass), 1 ≤ step ∧ step ≤ 9 ∧
      (r = .unknownId ∨ r = .range) ∧
      exec (.commit l tag []) s = .next (s.reply l tag 0x67 r [b8 step, k.code, b8 n]) ∧
      (s.TablesWf → s.FailsFirst step k n r)) ∧
    (s.site = .unconfigured → s.Sound → ∃ u, exec (.commit l tag []) s = .next (u.reply l tag 0x67 .ok []) ∧
      s.RunCleared u ∧ u.site = .survey ∧ u.telescopes = s.telescopes ∧
      (let mast := ∃ a x, (a, x) ∈ s.units ∧ x.typ = .mast
       (mast → u.band = .hold .mastPending ∧ s.Told u [.siteChanged .survey .unconfigured,
          .windBand (.hold .mastPending) s.band none none]) ∧
       (¬ mast → u.band = .normal ∧ s.Told u [.siteChanged .survey .unconfigured])) ∧
      (u.exchange = s.units.head?.map fun p => s.request p.1 .poll) ∧
      (s.TablesWf → ∃ w : State, w = { u with exchange := none, pollPos := w.pollPos } ∧
        w.pollPos = s.units.head?.map (·.1) ∧ w.PollChosen u))

/-- CONFIGURE (R186): refused with STATE while a transporter is not OFFLINE; accepted, the site is UNCONFIGURED, the
runtime state is clear, every telescope UNREGISTERED, the band NORMAL and the bus idle, with the poll position at the lowest
address (R156; absent where no unit is defined: log 19, DEDUCED). The empty route records have the final stop offset 0 (log
5, the model's choice). -/
def Obligations.ConfigureResult : Prop :=
  ∀ (s : State) (l : OpsId) (tag : Byte), s.OpsReady l → s.site = .running →
    ((∃ t : TId, (s.tr t).state ≠ .offline) → exec (.configure l tag []) s = .next (s.reply l tag 0x68 .state [])) ∧
    ((∀ t : TId, (s.tr t).state = .offline) → ∃ u, exec (.configure l tag []) s = .next (u.reply l tag 0x68 .ok []) ∧
      s.RunCleared u ∧ u.site = .unconfigured ∧ u.telescopes = [] ∧ u.band = .normal ∧ u.exchange = none ∧
      u.pollPos = s.units.head?.map (·.1) ∧
      s.Told u [.siteChanged .unconfigured .running])

/-! ## Transporter requests -/

/-- JOIN (R106 to R108): a bad code is RANGE, then the checks in their order; accepted, the transporter is PARKED on the
standing run that its front, direction and rear name, holds it entered and its points, and no other, locked, with authority
number 1. -/
def Obligations.JoinResult : Prop :=
  ∀ (s : State) (t : TId) (sec oh ol d ld rear : Byte), s.Quiet (.tl t) → s.TablesWf →
    let c := Instr.join t [sec, oh, ol, d, ld, rear]
    let dir : Dir := if d = 0 then .up else .down
    let named : Option Nat := if rear = 0xFF then none else some rear.toNat
    let secs := sec.toNat :: named.toList
    let refused (r : Reason) : Prop := exec c s = .next ((s.reloadSupervision t).refuse t 0x10 r)
    if 1 < d.toNat ∨ 1 < ld.toNat then refused .range
    else if s.site ≠ .running ∨ (s.tr t).state ≠ .offline then refused .state
    else if ∃ m ∈ secs, 96 ≤ m ∨ s.sec? m = none then refused .unknownId
    else if ∃ m ∈ secs, ((s.pointOf m).bind fun q => q.2.latch) ≠ none then refused .pointFault
    else if ∃ m ∈ secs, (s.pointOf m).map (·.2.pos) = some .moving ∨ (s.pointOf m).map (·.2.pos) = some .unknown then
      refused .moving
    else if rear = sec then refused .repeatedSection
    else if s.joinFront sec.toNat dir = none ∨ named ≠ none ∧
        (named.bind fun m => (s.joinFront sec.toNat dir).bind (s.joinRear m)) = none then refused .notContiguous
    else if ∃ m ∈ secs, (s.sec? m).bind (·.hold) ≠ none then refused .held
    else if ∃ m ∈ secs, s.detOf m ≠ .occupied ∧ s.detOf m ≠ .disturbed then refused .notClear
    else ∃ u es, exec c s = .next u ∧ s.Joined u t es sec.toNat (num16 oh ol) dir (decide (ld = 1)) named

/-- A REPORT that R111 finds plausible, standing, or moving onto no new entry, is answered by AUTH: the last report and
the front are replaced, trips stay, and a park test that passes parks an AUTHORISED transporter (R112). Sections leave
the holder only CLEAR, at the rear (R69). The second part holds in TRANSFER too, and for a front that passes into a new
entry: the front is taken and the rear released (FrontTaken: R111 step 3, R69 to R71), which may end or bring stop causes
(R70, RESUMED with its details as log 24 gives), and a report that trips nothing and releases no run is answered. -/
def Obligations.ReportAnswered : Prop :=
  (∀ (s : State) (t : TId) (echo sec oh ol d vh vl ld rear : Byte) (f : Entry), s.Quiet (.tl t) → s.RoutesRise →
    d.toNat ≤ 1 → ld.toNat ≤ 1 →
    let r := sentReport echo sec oh ol d vh vl ld rear
    let s1 : State := s.noted t { r with off := min r.off (s.pathLen f) }
    let state := (s.tr t).state
    let stays := (s.route t).front = some f.index
    (state = .parked ∨ state = .authorised ∨ state = .held) →
    s.holdsFirm t sec.toNat → s.entryOf t sec.toNat = some f →
    (∀ m, r.rear = some m → s.holdsFirm t m ∧ ∃ e, s.entryOf t m = some e ∧ e.index ≤ f.index) →
    (s.pendingRun t = [] ∨ r.echo ≠ (s.route t).authNum) →
    (r.speed = 0 ∨ stays ∧ s.entryAt t f.index = some f ∧
      (state = .parked ∧ r.speed ≤ s.params.overspeedTol ∨
       state = .held ∧ ((s.tr t).standSeen = false ∨ r.speed ≤ s.params.overspeedTol) ∨
       state = .authorised ∧ r.dir = senseOf f.ent ∧
         (r.echo ≠ (s.route t).authNum ∨ r.speed ≤ s1.curve t + s.params.overspeedTol))) →
    ∃ u : State, exec (.report t [echo, sec, oh, ol, d, vh, vl, ld, rear]) s = .next u ∧
      (u.tr t).last = some { r with off := min r.off (s.pathLen f) } ∧
      (u.tr t).superv = some (.load (s.tr t).supervision) ∧ (u.tr t).trips = (s.tr t).trips ∧
      (u.route t).front = some f.index ∧ (u.route t).endPos = (s.route t).endPos ∧
      (u.route t).authNum = (s.route t).authNum ∧ u.AuthCurrent t ∧
      ((u.tr t).state = .parked ∨ (u.tr t).state = .authorised ∨ (u.tr t).state = .held) ∧
      (state = .parked → (u.tr t).state = .parked) ∧
      (stays → u = { s with trs := u.trs, tls := u.tls, ceilings := u.ceilings } ∧
        (u.tr t).state = if state = .authorised ∧ r.speed = 0 ∧ s.tail t = [] ∧ s.settingRun t = [] ∧
          s.pendingRun t = [] ∧ u.distanceToGo t ≤ s.params.parkTol then .parked else state) ∧
      (∀ n, u.sec? n = s.sec? n ∨ ∃ x h, s.sec? n = some x ∧ x.hold = some h ∧ h.holder = t ∧ x.det = .clear ∧
        u.sec? n = some { x with hold := none }) ∧
      u = { s with sections := u.sections, points := u.points, trs := u.trs, routes := u.routes, tls := u.tls
                   ceilings := u.ceilings, walkDue := u.walkDue, opss := u.opss } ∧
      ∀ v, v ≠ t → s.SameTransporter u v) ∧
  ∀ (s : State) (t : TId) (echo sec oh ol d vh vl ld rear : Byte) (f : Entry), s.Quiet (.tl t) → s.RoutesRise →
    s.TablesWf → d.toNat ≤ 1 → ld.toNat ≤ 1 →
    let r := sentReport echo sec oh ol d vh vl ld rear
    (s.tr t).state ≠ .offline → (s.tr t).state ≠ .tripped → s.holdsFirm t sec.toNat → s.entryOf t sec.toNat = some f →
    (∀ m, r.rear = some m → s.holdsFirm t m ∧ ∃ e, s.entryOf t m = some e ∧ e.index ≤ f.index) →
    ∃ m, (s.noted t { r with off := min r.off (s.pathLen f) }).FrontTaken m t f ∧
      (m.Plausible t f r → (m.pendingRun t = [] ∨ r.echo ≠ (m.route t).authNum) → ¬ m.Overspeeds t r →
        ∃ u, exec (.report t [echo, sec, oh, ol, d, vh, vl, ld, rear]) s = .next u ∧ (m.standSaw t r).Answered u t r)

/-- A REPORT trips its transporter (R111, R101, R82): EXCURSION where its front is not held firmly or lies beyond the end
it echoes, WRONG_DIRECTION where an AUTHORISED transporter runs against its entry, UNAUTHORISED_MOTION where one that
must stand moves, OVERSPEED above the curve and its tolerance. The second part says so also of a front that passes into a
new entry, and of TRANSFER, where a front outside the pad's section is motion too, and the trip is an abort of the transfer
(R116, TransferTripped). A RESUMED that a release on the way brings has its details by log 24. -/
def Obligations.ReportTrips : Prop :=
  (∀ (s : State) (t : TId) (echo sec oh ol d vh vl ld rear : Byte) (f : Entry), s.Quiet (.tl t) →
    d.toNat ≤ 1 → ld.toNat ≤ 1 →
    let c := Instr.report t [echo, sec, oh, ol, d, vh, vl, ld, rear]
    let r := sentReport echo sec oh ol d vh vl ld rear
    let state := (s.tr t).state
    let s1 : State := s.noted t { r with off := min r.off (s.pathLen f) }
    (state = .parked ∨ state = .authorised ∨ state = .held) →
    ((¬ s.holdsFirm t sec.toNat ∨ (∃ m, r.rear = some m ∧ ¬ s.holdsFirm t m) ∨
        (∃ m e, r.rear = some m ∧ s.entryOf t sec.toNat = some f ∧ s.entryOf t m = some e ∧ f.index < e.index)) →
      ∃ u, exec c s = .next u ∧ (s.reloadSupervision t).TripTaken u t .excursion) ∧
    (s.holdsFirm t sec.toNat → s.entryOf t sec.toNat = some f → r.rear = none → (s.route t).front = some f.index →
      s.entryAt t f.index = some f →
      (state = .authorised → 0 < r.speed → r.dir ≠ senseOf f.ent →
        ∃ u, exec c s = .next u ∧ s1.TripTaken u t .wrongDirection) ∧
      ((state = .parked ∨ state = .held ∧ (s.tr t).standSeen = true) → s.params.overspeedTol < r.speed →
        ∃ u, exec c s = .next u ∧ s1.TripTaken u t .unauthorisedMotion) ∧
      (state = .authorised → r.dir = senseOf f.ent → s.pendingRun t ≠ [] → r.echo = (s.route t).authNum →
        (∀ p, (s.route t).endPos = some p → p.idx < f.index) → ∃ u, exec c s = .next u ∧ s1.TripTaken u t .excursion) ∧
      (state = .authorised → r.dir = senseOf f.ent → s.pendingRun t = [] → r.echo = (s.route t).authNum →
        s1.curve t + s.params.overspeedTol < r.speed → ∃ u, exec c s = .next u ∧ s1.TripTaken u t .overspeed))) ∧
  ∀ (s : State) (t : TId) (echo sec oh ol d vh vl ld rear : Byte), s.Quiet (.tl t) → s.RoutesRise →
    s.TablesWf → d.toNat ≤ 1 → ld.toNat ≤ 1 →
    let c := Instr.report t [echo, sec, oh, ol, d, vh, vl, ld, rear]
    let r := sentReport echo sec oh ol d vh vl ld rear
    (s.tr t).state ≠ .offline → (s.tr t).state ≠ .tripped → ((s.tr t).state = .transfer → s.transfers[t] ≠ none) →
    (¬ s.holdsFirm t sec.toNat ∨ (∃ m, r.rear = some m ∧ ¬ s.holdsFirm t m) ∨
        (∃ m e f, r.rear = some m ∧ s.entryOf t sec.toNat = some f ∧ s.entryOf t m = some e ∧ f.index < e.index) →
      ∃ u, exec c s = .next u ∧ (s.reloadSupervision t).ReportTrip u t .excursion .excursion) ∧
    ∀ f, s.holdsFirm t sec.toNat → s.entryOf t sec.toNat = some f →
      (∀ m, r.rear = some m → s.holdsFirm t m ∧ ∃ e, s.entryOf t m = some e ∧ e.index ≤ f.index) →
      ∃ m, (s.noted t { r with off := min r.off (s.pathLen f) }).FrontTaken m t f ∧
        ((m.tr t).state = .authorised → 0 < r.speed → r.dir ≠ senseOf f.ent →
          ∃ u, exec c s = .next u ∧ m.TripTaken u t .wrongDirection) ∧
        (((m.tr t).state = .parked ∨ (m.tr t).state = .transfer ∨ (m.tr t).state = .held ∧ (m.tr t).standSeen = true) ∧
            s.params.overspeedTol < r.speed ∨
          (m.tr t).state = .transfer ∧ (∃ x p, m.transfers[t] = some x ∧ m.pad? x.pad = some p ∧ p.sec ≠ r.sec) →
          ∃ u, exec c s = .next u ∧ m.ReportTrip u t .unauthorisedMotion .unauthorisedMotion) ∧
        (m.Plausible t f r → m.pendingRun t ≠ [] → r.echo = (m.route t).authNum →
          (∀ p, (m.route t).endPos = some p → p.idx < f.index) →
          ∃ u, exec c s = .next u ∧ (m.standSaw t r).ReportTrip u t .excursion .excursion) ∧
        (m.Plausible t f r → (m.pendingRun t = [] ∨ r.echo ≠ (m.route t).authNum) → m.Overspeeds t r →
          ∃ u, exec c s = .next u ∧ m.TripTaken u t .overspeed)

/-- A REPORT that echoes the current number from within the authority releases the RELEASE_PENDING run (R81, R83): kept
in the record as tail, with the transporter waiting again, where the keep mark is set; otherwise cut from the record. The
second part says so of any such report that trips nothing before, moving, in TRANSFER, or with its front in a new entry
(EchoReleased); then the overspeed check and the answer follow (R111 steps 7 to 9). A RESUMED that a release brings has its
details by log 24; that the rear is not tested after these releases is the model's choice (log 39). -/
def Obligations.EchoRelease : Prop :=
  (∀ (s : State) (t : TId) (sec oh ol d ld rear : Byte) (f : Entry) (p : RoutePos), s.Quiet (.tl t) → s.RoutesRise →
    d.toNat ≤ 1 → ld.toNat ≤ 1 → rear = 0xFF →
    ((s.tr t).state = .parked ∨ (s.tr t).state = .authorised ∨ (s.tr t).state = .held) →
    s.holdsFirm t sec.toNat → s.entryOf t sec.toNat = some f → (s.route t).front = some f.index →
    (s.route t).endPos = some p → f.index ≤ p.idx → s.pendingRun t ≠ [] → (s.route t).authNum < 256 →
    ∃ u : State, exec (.report t [b8 (s.route t).authNum, sec, oh, ol, d, 0, 0, ld, rear]) s = .next u ∧
      (∀ n, u.sec? n = (s.sec? n).map fun x =>
        { x with hold := if s.holdBy t n = some .releasePending ∧ s.inRecord t n then none else x.hold }) ∧
      ((s.route t).keep = true → (u.route t).entries = (s.route t).entries ∧ u.isWaiting t = true) ∧
      ((s.route t).keep = false → u.waiting = s.waiting ∧ (u.route t).finalOff = p.off ∧
        (u.route t).entries = (s.route t).entries.filter fun e =>
          decide (s.holdBy t e.sec = some .granted ∨ s.holdBy t e.sec = some .setting)) ∧
      (u.route t).keep = false ∧ (u.route t).endPos = some p ∧ u.walkDue = true ∧ u.AuthCurrent t ∧
      (∀ k : OpsId, ∀ e ∈ s.pendingRun t, (s.opsPort k).notices.length + 2 * (s.pendingRun t).length ≤ 32 →
        (⟨s.clock, .released t e.sec e.index .echo⟩ : Notice) ∈ (u.opsPort k).notices) ∧
      ∀ v, v ≠ t → s.SameTransporter u v) ∧
  ∀ (s : State) (t : TId) (echo sec oh ol d vh vl ld rear : Byte) (f : Entry), s.Quiet (.tl t) → s.RoutesRise →
    s.TablesWf → d.toNat ≤ 1 → ld.toNat ≤ 1 →
    let c := Instr.report t [echo, sec, oh, ol, d, vh, vl, ld, rear]
    let r := sentReport echo sec oh ol d vh vl ld rear
    (s.tr t).state ≠ .offline → (s.tr t).state ≠ .tripped → s.holdsFirm t sec.toNat → s.entryOf t sec.toNat = some f →
    (∀ m, r.rear = some m → s.holdsFirm t m ∧ ∃ e, s.entryOf t m = some e ∧ e.index ≤ f.index) →
    ∃ m, (s.noted t { r with off := min r.off (s.pathLen f) }).FrontTaken m t f ∧
      ∀ p, m.Plausible t f r → m.pendingRun t ≠ [] → r.echo = (m.route t).authNum → (m.route t).endPos = some p →
        f.index ≤ p.idx → ∃ u w, exec c s = .next u ∧ (m.standSaw t r).EchoReleased w t ∧
          (w.Overspeeds t r → w.TripTaken u t .overspeed) ∧ (¬ w.Overspeeds t r → w.Answered u t r)

/-- A REPORT in OFFLINE is refused with STATE; in TRIPPED, with no fix awaited, it is noted and answered, and the
transporter stays TRIPPED (R109, R113). A fix report held firmly and standing recovers the transporter onto the run
around its front, told by RELEASED and RESUMED (Recovered); any other is told RECOVER_FAILED, and no fix is awaited (R118).
That the release test of the new rear is made last is log 33, that one refused for its speed still moves the front log 21. -/
def Obligations.ReportWhileDown : Prop :=
  (∀ (s : State) (t : TId) (echo sec oh ol d vh vl ld rear : Byte), s.Quiet (.tl t) →
     let c := Instr.report t [echo, sec, oh, ol, d, vh, vl, ld, rear]
     let r := sentReport echo sec oh ol d vh vl ld rear
     (1 < d.toNat ∨ 1 < ld.toNat → exec c s = .next ((s.reloadSupervision t).refuse t 0x11 .range)) ∧
     (d.toNat ≤ 1 → ld.toNat ≤ 1 →
       ((s.tr t).state = .offline → exec c s = .next (s.refuse t 0x11 .state)) ∧
       ((s.tr t).state = .tripped → (s.tr t).awaitingFix = false → ∃ u : State, exec c s = .next u ∧
         (∀ f, s.holdsFirm t sec.toNat → s.entryOf t sec.toNat = some f →
           (u.tr t).last = some { r with off := min r.off (s.pathLen f) } ∧
           u.route t = { s.route t with front := some f.index }) ∧
         (¬ s.holdsFirm t sec.toNat → (u.tr t).last = some r ∧ u.route t = s.route t) ∧
         u.tr t = { s.tr t with superv := some (.load (s.tr t).supervision), last := (u.tr t).last } ∧
         u.AuthCurrent t ∧ s.OnlyAuth u t ∧
         u = { s with trs := u.trs, routes := u.routes, tls := u.tls, ceilings := u.ceilings } ∧
         ∀ v, v ≠ t → s.SameTransporter u v))) ∧
  (∀ (s : State) (t : TId) (echo sec oh ol d vh vl ld rear : Byte), s.Quiet (.tl t) → s.RoutesRise →
     d.toNat ≤ 1 → ld.toNat ≤ 1 → (s.tr t).state = .tripped → (s.tr t).awaitingFix = true →
     let c := Instr.report t [echo, sec, oh, ol, d, vh, vl, ld, rear]
     let r := sentReport echo sec oh ol d vh vl ld rear
     (∀ f, s.holdsFirm t sec.toNat → s.entryOf t sec.toNat = some f → r.speed ≤ s.params.overspeedTol →
       ∃ u, exec c s = .next u ∧ (s.reloadSupervision t).Recovered u t f r) ∧
     (¬ s.holdsFirm t sec.toNat ∨ s.params.overspeedTol < r.speed → ∃ u : State, exec c s = .next u ∧
       u.tr t = { s.tr t with
         superv := some (.load (s.tr t).supervision), last := (u.tr t).last, awaitingFix := false } ∧
       (∀ f, s.holdsFirm t sec.toNat → s.entryOf t sec.toNat = some f →
         (u.tr t).last = some { r with off := min r.off (s.pathLen f) } ∧
         u.route t = { s.route t with front := some f.index }) ∧
       (¬ s.holdsFirm t sec.toNat → (u.tr t).last = some r ∧ u.route t = s.route t) ∧
       (u.tr t).last.map (·.sec) = some sec.toNat ∧ u.AuthCurrent t ∧ s.OnlyAuth u t ∧
       s.Told u [.recoverFailed t sec.toNat r.speed] ∧
       u = { s with trs := u.trs, routes := u.routes, tls := u.tls, ceilings := u.ceilings, opss := u.opss } ∧
       ∀ v, v ≠ t → s.SameTransporter u v))

/-- ROUTE (R42 to R55): refused in the order of its checks, with nothing changed but supervision. Accepted, the record
carries the request, and its grant goes on unit by unit until the rules stop it (GrantStops): a next unit that is
available and in position is GRANTED; one out of position is SETTING, with exactly the throws it needs queued where they
fit, and otherwise nothing is reserved and the room-wait flag is set. The end is the end of what is granted, and the
transporter waits while its route is not fully granted, its countdown loaded when it joins and again when it is granted a
part (R47, R59, R60: QueueKept). A grant increments the number and is told by GRANTED with the sections newly granted
(R54, R46: grantTold); a PARKED transporter's number also increments where the rebuilt record ends elsewhere (R44 step 5),
and a grant brings it out of PARKED (R55). No section changes but in t's hold, its entered flag clear where it is new, and no
point but by t's lock where it is newly GRANTED (R51, R52: TrackGranted). What stop causes tell on the way has its details by log 24; that a request
which turns the held run round and adds nothing compares ends in the new sense is log 16. No other one is touched. -/
def Obligations.RouteResult : Prop :=
  ∀ (s : State) (t : TId) (p : List Byte) (final : Nat), s.Quiet (.tl t) → s.RoutesRise → s.TablesWf →
    let refused (r : Reason) : Prop := exec (.route t p) s = .next ((s.reloadSupervision t).refuse t 0x12 r)
    (parseRoute p = some (final, none) → refused .range) ∧
    ∀ ts, parseRoute p = some (final, some ts) →
      let after := s.routeAfter t ts
      let open_ := s.site = .running ∧ s.pendingRun t = [] ∧ ((s.tr t).state = .parked ∨
        ((s.tr t).state = .authorised ∨ (s.tr t).state = .held) ∧ s.settingRun t = [] ∧ s.tail t = [])
      if ¬ open_ then refused .state
      else if ∃ x ∈ ts, 96 ≤ x.sec ∨ s.sec? x.sec = none then refused .unknownId
      else if s.contiguous (ts.map Triple.entry) = false then refused .notContiguous
      else if s.startMatches t ts = false then refused .startMismatch
      else if ¬ (after.map (·.sec)).Nodup then refused .repeatedSection
      else if (s.tr t).quota < after.length ∨ ∃ e ∈ after, 65535 < e.index then refused .quota
      else if (∃ x, ts.getLast? = some x ∧ s.pathLen x.entry < final) ∨
          s.newEntries t ts = [] ∧ s.endBehind t ts final = true then refused .range
      else
        let parked := (s.tr t).state = .parked
        let new := s.newEntries t ts
        let ahead := new = [] ∧ s.endAhead t ts final = true
        let moved := parked ∧ s.rebuiltEnd t after final ≠ s.endTriple t
        ∃ u : State, exec (.route t p) s = .next u ∧
          (u.route t).entries = s.routeAfter t ts ∧ (u.route t).finalOff = final ∧
          let granted := ∃ e ∈ (u.route t).entries,
            u.holdBy t e.sec = some .granted ∧ s.holdBy t e.sec ≠ some .granted
          (granted → ((u.tr t).state = .authorised ∨ (u.tr t).state = .held) ∧ u.AuthCurrent t ∧
            (u.route t).endPos = u.grantedEnd t) ∧
          (parked → (u.route t).endPos = u.grantedEnd t ∧ (u.isWaiting t = true ↔ u.fullyGranted t = false) ∧
            (¬ granted → ¬ (new = [] ∧ s.endAhead t ts final = true) → (u.tr t).state = .parked)) ∧
          (parked → granted ∨ ahead →
            (u.tr t).state = if (u.tr t).stop = .empty then .authorised else .held) ∧
          (parked → (u.route t).authNum =
            let old := if moved then nextAuth (s.route t).authNum else (s.route t).authNum
            if ahead then nextAuth (s.route t).authNum else if granted then nextAuth old else old) ∧
          (moved → u.AuthCurrent t) ∧
          (ahead → s.Told u [u.grantNotice t []] ∧ u.waiting = s.waiting.filter fun w => decide (w.t ≠ t)) ∧
          (¬ ahead → s.Told u (s.grantTold u t) ∧
            (parked → ({ s with waiting := s.waiting.filter fun w => decide (w.t ≠ t) } : State).QueueKept u t) ∧
            (¬ parked → s.QueueKept u t)) ∧
          u.GrantStops t ∧ (u.settingRun t = [] ∨ u.settingRun t = u.nextUnit t) ∧
          u.cmdQueue = s.cmdQueue ++ (u.settingRun t).filterMap (s.throwFor t) ∧
          (¬ parked → granted ∨ ahead → (u.route t).authNum = nextAuth (s.route t).authNum) ∧
          (¬ parked → ¬ granted → new ≠ [] → (u.route t).endPos = (s.route t).endPos ∧
            (u.route t).authNum = (s.route t).authNum) ∧
          (¬ parked → new = [] → s.endAhead t ts final = false →
            u = { s.reloadSupervision t with routes := s.routes.set t { s.route t with finalOff := final } }) ∧
          (new = [] → s.endAhead t ts final = true → (u.route t).endPos = u.grantedEnd t ∧ u.AuthCurrent t) ∧
          (new ≠ [] → u.fullyGranted t = false → u.isWaiting t = true) ∧
          (∀ d ∈ (u.settingRun t).filterMap (s.throwFor t), d.req = .tr t ∧ d.func.blade ≠ none) ∧
          s.TrackGranted u (fun v => v = t) ∧ (∀ n v, v ≠ t → u.holdBy v n = s.holdBy v n) ∧
          s.OnlyAuth u t ∧ u.tr t = { (s.reloadSupervision t).tr t with
            state := (u.tr t).state, stop := (u.tr t).stop, standSeen := (u.tr t).standSeen } ∧
          u = { s with sections := u.sections, points := u.points, trs := u.trs, routes := u.routes, tls := u.tls
                       ceilings := u.ceilings, waiting := u.waiting, roomWait := u.roomWait, walkDue := u.walkDue
                       cmdQueue := u.cmdQueue, opss := u.opss } ∧
          ∀ v, v ≠ t → s.SameTransporter u v

/-- TRANSFER (R146, R147): the checks in their order; accepted, the pad and the transporter are in TRANSFER. A LIFT begins
with UNCLAMP, queued or waiting for room; a PLACE begins with LOWER, its countdown running and XFER_GO in the slot. A
pending entry, its reservation and its tail are withdrawn before (R62, R58): the sections held SETTING return to no
holder. -/
def Obligations.TransferResult : Prop :=
  ∀ (s : State) (t : TId) (n kind : Byte), s.Quiet (.tl t) →
    let refused (r : Reason) : Prop := exec (.transfer t [n, kind]) s = .next ((s.reloadSupervision t).refuse t 0x14 r)
    let open_ := s.site = .running ∧ (s.tr t).state = .parked ∧ s.pendingRun t = []
    (¬ open_ → refused .state) ∧
    (open_ → 80 ≤ n.toNat ∨ s.pad? n.toNat = none → refused .unknownId) ∧
    ∀ x, open_ → n.toNat < 80 → s.pad? n.toNat = some x →
      let lift := kind = 0
      if 1 < kind.toNat then refused .range
      else if s.speed t ≠ 0 then refused .moving
      else if (s.tr t).last.map (fun r => decide (r.sec = x.sec ∧ r.off ≤ x.stop + x.tol ∧ x.stop ≤ r.off + x.tol)) ≠
          some true then refused .alignment
      else if x.silent = true then refused .unitSilent
      else if lift ∧ (s.telescopeAt t ≠ none ∨ s.loadSensed t = true) ∨ ¬ lift ∧ s.carried t = none then
        refused .loadMismatch
      else if lift ∧ (match x.st with | .occupied _ => false | _ => true) = true ∨
          ¬ lift ∧ ¬ (x.st = .vacant ∧ (x.reserv = none ∨ x.reserv = s.carried t)) ∨ x.watch ≠ .none then
        refused .padState
      else if x.load ≠ (if lift then .loaded else .empty) then refused .loadMismatch
      else if lift ∧ 16 ≤ s.cmdQueue.length then refused .state
      else ∃ (u : State) (k : Nat), exec (.transfer t [n, kind]) s = .next u ∧
        (u.tr t).state = .transfer ∧ (u.tr t).last = (s.tr t).last ∧ u.AuthCurrent t ∧
        u.pad? n.toNat = some { x with st := .transfer t } ∧ (∀ p, p ≠ n.toNat → u.pad? p = s.pad? p) ∧
        (lift → x.st = .occupied k ∧ (u.tl t).xfer = (s.tl t).xfer ∧
          let c : BusCmd := ⟨.unclamp, x.addr, n.toNat, .xfer t⟩
          let y : Transfer := ⟨n.toNat, .lift, k, .unclamp, .queued, false, none, false⟩
          if s.offerOk [c] then u.transfers[t] = some y ∧ u.cmdQueue = s.cmdQueue ++ [c] ∧ u.padWaiters = s.padWaiters
          else u.transfers[t] = some { y with cmd := .waiting } ∧ u.cmdQueue = s.cmdQueue ∧
            u.padWaiters = s.padWaiters ++ [.xfer t]) ∧
        (¬ lift → s.carried t = some k ∧ (u.tl t).xfer = some (.xgo .lower n.toNat) ∧
          u.transfers[t] = some ⟨n.toNat, .place, k, .lower, .none, false, some (.load (10 * s.params.jackTime)), true⟩ ∧
          u.cmdQueue = s.cmdQueue ∧ u.padWaiters = s.padWaiters) ∧
        (u.route t).entries = s.grantedRun t ∧ (u.route t).finalOff = ((s.route t).endPos.map (·.off)).getD 0 ∧
        u.route t = { s.route t with
          entries := (u.route t).entries, finalOff := (u.route t).finalOff, nextIdx := (u.route t).nextIdx } ∧
        u.tr t = { (s.reloadSupervision t).tr t with
          state := .transfer, stop := if s.settingRun t = [] then (s.tr t).stop else u.stopCauses t } ∧
        u.tl t = { s.tl t with auth := (u.tl t).auth, xfer := (u.tl t).xfer } ∧
        (∀ m, u.sec? m = (s.sec? m).map fun y =>
          { y with hold := if s.holdBy t m = some .setting ∧ s.inRecord t m then none else y.hold }) ∧
        u.walkDue = (s.walkDue || !(s.settingRun t).isEmpty) ∧
        (∀ v, v ≠ t → u.transfers[v] = s.transfers[v]) ∧
        u.waiting = s.waiting.filter (fun w => decide (w.t ≠ t)) ∧
        u = { s with pads := u.pads, transfers := u.transfers, trs := u.trs, tls := u.tls, ceilings := u.ceilings
                     cmdQueue := u.cmdQueue, padWaiters := u.padWaiters, sections := u.sections, routes := u.routes
                     waiting := u.waiting, walkDue := u.walkDue } ∧
        ∀ v, v ≠ t → s.SameTransporter u v

/-- STEP (R149) DONE ends a RAISE or a LOWER, and CONFIRM begins with its countdown; otherwise it is refused. A reply of
the pad's unit ends the other stages (R148): UNCLAMP when sent and open, then RAISE moves the load; CONFIRM of a PLACE
when loaded, then CLAMP; and the third stage completes the transfer (R150): telescope, pad, slot and record follow, and
TRANSFER_DONE is told, and the deferred examination is made (R88). A load UNKNOWN aborts the transfer, also where the same
reply would end its stage (R151, log 17). Every good reply writes both readings, clears the unit-silent flag and ends a
running clamp watch on CLOSED (R138, R141: PadRead), and then the next exchange is chosen. An examination that drops a
reservation evaluates stop causes, RESUMED with its details as log 24 gives. -/
def Obligations.TransferStages : Prop :=
  (∀ (s : State) (t : TId) (b : Byte), s.Quiet (.tl t) →
    (1 < b.toNat → exec (.stepResult t [b]) s = .next ((s.reloadSupervision t).refuse t 0x15 .range)) ∧
    (b.toNat ≤ 1 → (∀ x, s.transfers[t] = some x → x.stage ≠ .raise ∧ x.stage ≠ .lower) →
      exec (.stepResult t [b]) s = .next ((s.reloadSupervision t).refuse t 0x15 .state)) ∧
    (∀ x, s.transfers[t] = some x → (x.kind = .lift ∧ x.stage = .raise ∨ x.kind = .place ∧ x.stage = .lower) →
      exec (.stepResult t [0]) s = .next { s.reloadSupervision t with
        transfers := s.transfers.set t (some { x with
          stage := .confirm, cmd := .none, cd := some (.load (10 * s.params.confirmTime)) }) })) ∧
  (∀ (s : State) (t : TId) (a gap clamp load n : Nat) (v : UnitRec) (p : Pad) (x : Transfer),
    s.AwaitsReply a v [clamp, load] gap → v.typ = .pad → s.padAt a = some (n, p) → p.st = .transfer t → x.pad = n →
    s.transfers[t] = some x → s.TablesWf → ∃ u w : State,
      exec (.fieldbusGoodReply (replyChars a .pad [clamp, load] gap)) s = .next u ∧ s.PadRead w a n v p clamp load ∧
      let unclamped := x.kind = .lift ∧ x.stage = .unclamp ∧ x.cmd = .sent ∧ clamp = 1
      let loaded := x.kind = .place ∧ x.stage = .confirm ∧ load = 2
      let done := x.kind = .lift ∧ x.stage = .confirm ∧ load = 1 ∨
        x.kind = .place ∧ x.stage = .clamp ∧ x.cmd = .sent ∧ clamp = 2
      let ends (m : State) : Prop := u = (m.markSurveyed a).chooseNext
      let raised : Transfer := { x with
        stage := .raise, cmd := .none, cd := some (.load (10 * s.params.jackTime)), loadMoving := true }
      let clamping : Transfer := { x with stage := .clamp, cmd := .queued, cd := none }
      let c : BusCmd := ⟨.clamp, a, n, .xfer t⟩
      (load = 0 ∨ 4 ≤ load → ∃ m, w.Aborted m t x .loadUnknown ∧ ends m) ∧
      (1 ≤ load → load ≤ 3 →
        (¬ unclamped → ¬ loaded → ¬ done → ends w) ∧
        (unclamped → ∃ m : State, m = { w with transfers := w.transfers.set t (some raised), tls := m.tls } ∧
          m.tl t = { w.tl t with xfer := some (.xgo .raise n) } ∧ (∀ o, o ≠ t → m.tl o = w.tl o) ∧ ends m) ∧
        (loaded → ends (
          if w.offerOk [c] then
            { w with transfers := w.transfers.set t (some clamping), cmdQueue := w.cmdQueue ++ [c] }
          else { w with
            transfers := w.transfers.set t (some { clamping with cmd := .waiting })
            padWaiters := w.padWaiters ++ [.xfer t] })) ∧
        (done → ∃ m y : State, m = { w with
            telescopes := m.telescopes, pads := m.pads, transfers := w.transfers.set t none
            trs := w.trs.set t { w.tr t with state := .parked }, tls := m.tls, opss := m.opss } ∧
          m.locOf x.tel = some (if x.kind = .lift then .onTransporter t else .onPad n) ∧
          (∀ k, k ≠ x.tel → m.locOf k = w.locOf k) ∧
          m.pad? n = (w.pad? n).map (fun q =>
            if x.kind = .lift then { q with st := .vacant } else { q with st := .occupied x.tel, reserv := none }) ∧
          (∀ q, q ≠ n → m.pad? q = w.pad? q) ∧
          m.tl t = { w.tl t with xfer := some (.xend .done n) } ∧ (∀ o, o ≠ t → m.tl o = w.tl o) ∧
          w.Told m [.transferDone t n x.kind x.tel] ∧ m.Examined y t ∧
          ends (if (y.tr t).state = .tripped then y else y.formAuth t))) ∧
      ((∀ d ∈ s.cmdQueue, d.req ≠ .xfer t) → .xfer t ∉ s.padWaiters → 1 ≤ load → load ≤ 3 →
        (unclamped → u.transfers[t] = some raised ∧ (u.tl t).xfer = some (.xgo .raise n)) ∧
        (loaded → u.transfers[t].map (·.stage) = some .clamp) ∧
        (done → u.transfers[t] = none ∧ (u.tl t).xfer = some (.xend .done n) ∧
          u.locOf x.tel = some (if x.kind = .lift then .onTransporter t else .onPad n) ∧
          (u.pad? n).map (·.st) = some (if x.kind = .lift then .vacant else .occupied x.tel) ∧
          (x.kind = .place → (u.pad? n).map (·.reserv) = some none) ∧
          (s.nothingDeferred t → (u.tr t).state = .parked ∧ u.AuthCurrent t)))) ∧
  ∀ (s : State) (a gap clamp load n : Nat) (v : UnitRec) (p : Pad),
    s.AwaitsReply a v [clamp, load] gap → v.typ = .pad → s.padAt a = some (n, p) → s.TablesWf →
    (∀ t, p.st ≠ .transfer t) → ∃ u w : State,
      exec (.fieldbusGoodReply (replyChars a .pad [clamp, load] gap)) s = .next u ∧ s.PadRead w a n v p clamp load ∧
      u = (w.markSurveyed a).chooseNext ∧
      ((∀ c ∈ s.cmdQueue, c.req ≠ .watch n) → .watch n ∉ s.padWaiters → u.pad? n = w.pad? n)

/-! ## Link ports -/

/-- The bytes of a link outside and inside a frame (R169, R174): while HUNTING, SYN begins a frame, HOLD and GO set the
transmit flow, any other byte is discarded; the first byte of a frame must be a LEN; further bytes are gathered; and a gap
abandons the frame, and while HUNTING changes nothing (log 13). The rows are read as bytes at the receiver (log 30). -/
def Obligations.LinkBytes : Prop :=
  ∀ (s : State) (l : PortId) (b : Byte), s.resetHold = none →
    let c := s.core l
    let leaves (i : Instr) (d : PortCore) : Prop := ∃ u, exec i s = .next u ∧ s.OnlyCore u l ∧ u.core l = d
    (c.receiver = .hunting →
      leaves (.synByte l) { c with receiver := .assembling [] } ∧
      leaves (.holdByte l) { c with txFlow := .hold } ∧ leaves (.goByte l) { c with txFlow := .go } ∧
      (b ≠ 0xA5 → b ≠ 0xC3 → b ≠ 0xC5 → leaves (.lenOutOfRange l b) c) ∧ leaves (.frameGapTimeout l) c) ∧
    (c.receiver = .assembling [] →
      leaves (.synByte l) { c with receiver := .hunting } ∧ leaves (.holdByte l) { c with receiver := .hunting } ∧
      leaves (.goByte l) { c with receiver := .hunting } ∧
      (b.toNat < 2 ∨ 125 < b.toNat → leaves (.lenOutOfRange l b) { c with receiver := .hunting }) ∧
      (2 ≤ b.toNat → b.toNat ≤ 125 → leaves (.lenOutOfRange l b) { c with receiver := .assembling [b] })) ∧
    (∀ len rest, c.receiver = .assembling (len :: rest) → rest.length + 2 ≠ len.toNat + 3 →
      leaves (.synByte l) { c with receiver := .assembling (len :: rest ++ [0xA5]) } ∧
      leaves (.holdByte l) { c with receiver := .assembling (len :: rest ++ [0xC3]) } ∧
      leaves (.goByte l) { c with receiver := .assembling (len :: rest ++ [0xC5]) } ∧
      leaves (.lenOutOfRange l b) { c with receiver := .assembling (len :: rest ++ [b]) }) ∧
    (∀ f, c.receiver = .assembling f → leaves (.frameGapTimeout l) { c with receiver := .hunting })

/-- A frame that is sent is received: at a port that has taken SYN, the bytes after it make exactly the command with that
frame, and do what the command does there (R169, R170). With the reply queue full, the frame joins the receive queue or
meets OVERRUN (R171, R172). With another CRC, or of a type the far end may not send, it is discarded, and the receiver
hunts. That a command is the arrival of its frame is log 1, that the rows are bytes at the receiver log 30. -/
def Obligations.FrameRoundTrip : Prop :=
  ∀ (s : State) (l : PortId) (ty h k : Byte) (payload : List Byte), s.resetHold = none →
    (s.core l).receiver = .assembling [] → 1 ≤ payload.length → payload.length ≤ 124 →
    let joined := decide ((s.core l).rx.length < 8)
    let body := b8 (payload.length + 1) :: ty :: payload
    (∀ c, (∃ o tag p, opsFrame c = some (o, ty, tag, p) ∧ l = .ops o ∧ payload = tag :: p) ∨
        (∃ t, tlFrame c = some (t, ty, payload) ∧ l = .tl t) →
      ∃ w, s.OnlyCore w l ∧ w.core l = { s.core l with receiver := .hunting } ∧
        exec (.frameComplete l ((frameBytes ty payload).drop 1)) s = exec c w) ∧
    (∀ o, l = .ops o → validType l ty = true → 8 ≤ (s.opsPort o).replies.length → ∃ w : State,
      exec (.frameComplete l ((frameBytes ty payload).drop 1)) s =
        .next (if joined then w else w.post (.overrun l ty)) ∧
      s.OnlyCore w l ∧ w.core l = (s.core l).received s.params ⟨ty, payload⟩ joined) ∧
    (validType l ty = false ∨ [h, k] ≠ crcBytes body → ∃ u, exec (.frameComplete l (body ++ [h, k])) s = .next u ∧
      s.OnlyCore u l ∧ u.core l = { s.core l with receiver := .hunting })

/-- The receive queue of an operations link (R171, R172, R176). While the reply queue is full a command joins the tail of
the receive queue, also one equal to a frame that waits, or meets OVERRUN. When a reply then leaves, the command that
waits alone is taken, as at a port where it arrives in that moment, and a port in HOLD orders GO. That a command is the
arrival of its frame, taken in the moment it may be, is the model's choice (log 1). -/
def Obligations.QueuedFrames : Prop :=
  ∀ (c : Instr) (s : State) (l : OpsId) (ty tag : Byte) (p : List Byte), s.resetHold = none →
    opsFrame c = some (l, ty, tag, p) → 8 ≤ (s.opsPort l).replies.length →
    let q := s.opsPort l
    let joined := decide (q.core.rx.length < 8)
    (∃ w : State, exec c s = .next (if joined then w else w.post (.overrun (.ops l) ty)) ∧ s.OnlyCore w (.ops l) ∧
      w.core (.ops l) = { q.core.received s.params ⟨ty, tag :: p⟩ joined with receiver := q.core.receiver }) ∧
    (∀ r rs d ds, 2 ≤ s.params.linkHoldUpper → q.core.txFlow = .go → q.core.flowByte = none → q.parts = [] →
      q.replies = r :: rs → r.payloads = d :: ds → rs.length = 7 → q.core.rx = [⟨ty, tag :: p⟩] →
      ∃ w : State, exec (.opsTransmitStart l) s = exec c w ∧
        w = { s with opss := w.opss } ∧ (∀ k, k ≠ l → w.opsPort k = s.opsPort k) ∧
        w.opsPort l = { q with replies := rs, parts := ds, core := { q.core with
          sent := frameBytes 0x70 d, rx := [], rxFlow := .go
          flowByte := if q.core.rxFlow = .hold then some .go else none } })

/-- What the transmit line carries next (R173 to R177): a waiting flow byte goes first and in either flow state; a frame
starts only in GO with none waiting; a transporter's AUTH before its XFER before its oldest refusal; the rest of a reply
before the oldest reply before the oldest notice; and the OVERFLOW notice takes the place a notice leaves. That the rest of
a reply goes first also after a HOLD is the model's reading (log 23). With nothing to send, or no flow
byte, or in HOLD, the command changes nothing (log 13), and the line is free when it comes (log 6). A reply that leaves a
command waiting lets it be taken (QueuedFrames). -/
def Obligations.TransmitOrder : Prop :=
  (∀ (s : State) (l : PortId), s.resetHold = none →
    ((s.core l).flowByte = none → exec (.flowByteSend l) s = .next s) ∧
    ∀ f, (s.core l).flowByte = some f → ∃ u, exec (.flowByteSend l) s = .next u ∧ s.OnlyCore u l ∧
      u.core l = { s.core l with flowByte := none, sent := [if f = .hold then 0xC3 else 0xC5] }) ∧
  (∀ (s : State) (t : TId), s.resetHold = none →
    let p := s.tl t
    let sends (q : TlPort) (ty : Byte) (payload : List Byte) : Prop := ∃ u : State,
      exec (.tlTransmitStart t) s = .next u ∧ u = { s with tls := u.tls } ∧ (∀ v, v ≠ t → u.tl v = s.tl v) ∧
      u.tl t = { q with core := { p.core with sent := frameBytes ty payload } }
    (p.core.txFlow = .hold ∨ p.core.flowByte ≠ none ∨ p.auth = none ∧ p.xfer = none ∧ p.refusals = [] →
      exec (.tlTransmitStart t) s = .next s) ∧
    (p.core.txFlow = .go → p.core.flowByte = none →
      (∀ a, p.auth = some a → sends { p with auth := none } 0x20 a.payload) ∧
      (∀ x, p.auth = none → p.xfer = some x → sends { p with xfer := none } x.frame.typ x.frame.payload) ∧
      (∀ r rs, p.auth = none → p.xfer = none → p.refusals = r :: rs → sends { p with refusals := rs } 0x23 r.payload))) ∧
  (∀ (s : State) (l : OpsId), s.resetHold = none →
    let p := s.opsPort l
    let sends (q : OpsPort) (ty : Byte) (payload : List Byte) : Prop := ∃ u : State,
      exec (.opsTransmitStart l) s = .next u ∧ u = { s with opss := u.opss } ∧ (∀ k, k ≠ l → u.opsPort k = s.opsPort k) ∧
      u.opsPort l = { q with core := { p.core with sent := frameBytes ty payload } }
    (p.core.txFlow = .hold ∨ p.core.flowByte ≠ none ∨ p.parts = [] ∧ p.replies = [] ∧ p.notices = [] →
      exec (.opsTransmitStart l) s = .next s) ∧
    (p.core.txFlow = .go → p.core.flowByte = none →
      (∀ d ds, p.parts = d :: ds → sends { p with parts := ds } 0x70 d) ∧
      (∀ r rs d ds, p.parts = [] → p.replies = r :: rs → r.payloads = d :: ds → p.core.rx = [] →
        sends { p with replies := rs, parts := ds } 0x70 d) ∧
      (∀ n ns, p.parts = [] → p.replies = [] → p.notices = n :: ns →
        (p.overflow = false → sends { p with notices := ns } 0x71 n.payload) ∧
        (p.overflow = true → sends { p with
          notices := ns ++ [⟨s.clock, .overflow (.ops l) p.lost⟩], overflow := false, lost := 0 } 0x71 n.payload))))

/-- A reply is cut into frames of 119 data bytes, the last with what is left, each with its tag, command, part number,
last mark and result, and no data is lost (R176, R181). A notice joins both notice queues stamped with the clock, or is
lost and counted where 32 wait (R177). -/
def Obligations.RepliesAndNotices : Prop :=
  (∀ r : Reply, r.payloads ≠ [] ∧ (r.payloads.map (·.drop 5)).flatten = r.data ∧
    ∀ i (h : i < r.payloads.length), r.payloads[i] =
      [r.tag, r.cmd, b8 i, if i + 1 = r.payloads.length then 1 else 0, r.result.code] ++ (r.data.drop (119 * i)).take 119 ∧
      (i + 1 < r.payloads.length → 119 * (i + 1) < r.data.length)) ∧
  ∀ (s : State) (b : NoticeBody), s.post b = { s with opss := (s.post b).opss } ∧ ∀ k : OpsId,
    ((s.opsPort k).notices.length < 32 → (s.post b).opsPort k =
      { s.opsPort k with notices := (s.opsPort k).notices ++ [⟨s.clock, b⟩] }) ∧
    (32 ≤ (s.opsPort k).notices.length → (s.post b).opsPort k =
      { s.opsPort k with overflow := true, lost := min ((s.opsPort k).lost + 1) 65535 })

/-! ## The field bus -/

/-- A good reply (R160) clears its unit's count, brings a RESTORING unit back, told by UNIT_BACK, and marks it surveyed in
SURVEY. A DETECTOR's readings (R18 to R20, R24) set every section it serves: CLEAR, OCCUPIED, DISTURBED for any other
code; DISTURBED stays until restored; the capture time is stamped at a change. Exactly a change to DISTURBED and, in
RUNNING, one to OCCUPIED of a section nobody holds are told, in slot order. When all are set and told, the changes are handed
on in slot order (AllHandedOn: R25, R63, R65, R67 to R71, R84 to R89), and then the next exchange is chosen. The
details of a RESUMED that a release or a dropped reservation brings are the model's (log 24), and so is it that an
obstruction is acted on before the release test of the same change (log 35). -/
def Obligations.DetectorReading : Prop :=
  ∀ (s : State) (a gap r0 r1 r2 r3 : Nat) (v : UnitRec),
    s.AwaitsReply a v [r0, r1, r2, r3] gap → v.typ = .detector → s.TablesWf → ∃ u : State,
    exec (.fieldbusGoodReply (replyChars a .detector [r0, r1, r2, r3] gap)) s = .next u ∧
    u.unit? a = some ⟨.detector, if v.st = .restoring then .active else v.st, 0,
      if v.st = .restoring then false else v.restorePending, v.surveyed || decide (s.site = .survey)⟩ ∧
    (v.st = .restoring → a ∉ u.restoreList) ∧
    (v.st = .restoring → ∀ k : OpsId, (s.opsPort k).notices.length < 32 →
      (⟨s.clock, .unitBack a .detector⟩ : Notice) ∈ (u.opsPort k).notices) ∧
    (∀ n x, s.sec? n = some x →
      (x.defn.detAddr ≠ a ∨ 4 ≤ x.defn.detSlot → ∃ y, u.sec? n = some { x with hold := y }) ∧
      ∀ i r, x.defn.detAddr = a → x.defn.detSlot = i → [r0, r1, r2, r3][i]? = some r →
        let det : Detection := if x.det = .disturbed then .disturbed
          else if r = 0 then .clear else if r = 1 then .occupied else .disturbed
        (∃ y, u.sec? n = some { x with det := det, capture := if det = x.det then x.capture else s.clock, hold := y }) ∧
        ∀ k : OpsId, (s.opsPort k).notices.length + (s.sectionsOf a).length < 32 →
          (x.det ≠ .disturbed → det = .disturbed →
            (⟨s.clock, .sectionDisturbed n x.det⟩ : Notice) ∈ (u.opsPort k).notices) ∧
          (x.det ≠ .occupied → det = .occupied → x.hold = none → s.site = .running →
            (⟨s.clock, .unexpectedOccupancy n x.det⟩ : Notice) ∈ (u.opsPort k).notices)) ∧
    ∃ w y : State,
      let changes := (s.sectionsOf a).filterMap fun p => if w.detOf p.2 = s.detOf p.2 then none else some (p.2, w.detOf p.2)
      w = { s with units := w.units, sections := w.sections, opss := w.opss
                   restoreList := if v.st = .restoring then s.restoreList.filter (fun b => decide (b ≠ a))
                                  else s.restoreList } ∧
      (∀ b, b ≠ a → w.unit? b = s.unit? b) ∧
      s.Told w ((if v.st = .restoring then [.unitBack a .detector] else []) ++ changes.flatMap fun c =>
        if c.2 = .disturbed then [.sectionDisturbed c.1 (s.detOf c.1)]
        else if c.2 = .occupied ∧ (s.sec? c.1).bind (·.hold) = none ∧ s.site = .running then
          [.unexpectedOccupancy c.1 (s.detOf c.1)]
        else []) ∧
      (∀ n, (w.sec? n).map (fun z => (z.defn, z.hold)) = (s.sec? n).map fun z => (z.defn, z.hold)) ∧
      (∀ n x, s.sec? n = some x → (x.defn.detAddr ≠ a ∨ 4 ≤ x.defn.detSlot → w.detOf n = x.det) ∧
        ∀ r, x.defn.detAddr = a → [r0, r1, r2, r3][x.defn.detSlot]? = some r → w.detOf n =
          if x.det = .disturbed then .disturbed else if r = 0 then .clear else if r = 1 then .occupied else .disturbed) ∧
      State.AllHandedOn changes w y ∧ u = (y.markSurveyed a).chooseNext

/-- A blade reading of a POINT's unit (R26, R29, R31, R33), a RESTORING unit first being back (R160): a throw that finds its
position is complete, told by POINT_SET, with a walk due; one that does not goes on; an UNKNOWN position is taken; a
position lost faults the point, told by POINT_FAULT, which obstructs a route over it (R34, R84), RESUMED with its details as
log 24 gives; with the latch set the position follows the reading. The state w is the one right after the point's own
record and notice, y the one the Route Interlock leaves, and then the next exchange is chosen (R163), where alone a throw
queued for the same point can change its record once more. -/
def Obligations.PointReading : Prop :=
  ∀ (s : State) (a gap b p : Nat) (v : UnitRec) (x : Point),
    s.AwaitsReply a v [b] gap → v.typ = .point → s.TablesWf → s.pointAt a = some (p, x) →
    let reading : Option Blade := if b = 1 then some .normal else if b = 2 then some .reverse else none
    let pos : PointPos := if b = 1 then .normal else if b = 2 then .reverse else .unknown
    let done : Bool := decide (x.latch = none ∧ x.pos = .moving ∧ reading ≠ none ∧ reading = x.cmd)
    let lost : Bool := decide (x.latch = none ∧ (x.pos = .normal ∨ x.pos = .reverse) ∧ pos ≠ x.pos)
    let record : Point :=
      if x.latch ≠ none then { x with pos := pos }
      else if x.pos = .moving then if done then { x with pos := pos, throwCd := none, mover := none } else x
      else if lost then { x with pos := pos, throwCd := none, mover := none, latch := some .lostPosition }
      else { x with pos := pos }
    ∃ u w y : State, exec (.fieldbusGoodReply (replyChars a .point [b] gap)) s = .next u ∧
      w = { s with
        units := w.units, points := w.points, walkDue := s.walkDue || done, opss := w.opss
        restoreList := if v.st = .restoring then s.restoreList.filter (fun b => decide (b ≠ a)) else s.restoreList } ∧
      w.unit? a = some ⟨.point, if v.st = .restoring then .active else v.st, 0,
        if v.st = .restoring then false else v.restorePending, v.surveyed⟩ ∧ (∀ b, b ≠ a → w.unit? b = s.unit? b) ∧
      (∀ q, w.point? q = if q = p then some record else s.point? q) ∧
      s.Told w ((if v.st = .restoring then [.unitBack a .point] else []) ++
        if done then [.pointSet p pos] else if lost then [.pointFault p .lostPosition (some pos)] else []) ∧
      (lost = true → w.Obstructed y x.sec true) ∧ (lost = false → y = w) ∧ u = (y.markSurveyed a).chooseNext ∧
      ((∀ c ∈ s.cmdQueue, c.func.blade = none ∨ c.entity ≠ p) → u.point? p = some record) ∧
      ∀ k : OpsId, (s.opsPort k).notices.length + 2 ≤ 32 →
        (done = true → (⟨s.clock, .pointSet p pos⟩ : Notice) ∈ (u.opsPort k).notices ∧ u.walkDue = true) ∧
        (lost = true → (⟨s.clock, .pointFault p .lostPosition (some pos)⟩ : Notice) ∈ (u.opsPort k).notices)

/-- A good reply of the MAST unit (R133): gust and mean are stored at 6000 at most, the mast-hold countdown is stopped, and
the band follows from the gust and the band before. Its change is told and handed on (R134, BandSet): entering or leaving
HOLD evaluates every transporter (T0 to T5 and the details of RESUMED: logs 15 and 24), and NORMAL to CAUTION recomputes the
ceilings, with an AUTH where one falls (R98). Nothing else changes but what every good reply does (NextExchange). -/
def Obligations.MastReading : Prop :=
  ∀ (s : State) (a gap mh ml gh gl : Nat) (v : UnitRec), s.AwaitsReply a v [mh, ml, gh, gl] gap → v.typ = .mast →
    let g := min (256 * gh + gl) 6000
    let band : Band :=
      if s.band.isHold = true then
        if s.params.windResume < g then .hold .gust else if s.params.windCaution ≤ g then .caution else .normal
      else if s.params.windHold ≤ g then .hold .gust else if s.params.windCaution ≤ g then .caution else .normal
    ∃ u : State, exec (.fieldbusGoodReply (replyChars a .mast [mh, ml, gh, gl] gap)) s = .next u ∧
      u.gust = some g ∧ u.mean = some (min (256 * mh + ml) 6000) ∧ u.mastHold = none ∧ u.band = band ∧
      (∀ t, s.site ≠ .survey → (s.tr t).state ≠ .offline → band.isHold ≠ s.band.isHold →
        (u.tr t).stop = u.stopCauses t) ∧
      (∀ k : OpsId, s.band ≠ band → (s.opsPort k).notices.length + 2 ≤ 32 →
        (⟨s.clock, .windBand band s.band (some g) u.mean⟩ : Notice) ∈ (u.opsPort k).notices) ∧
      ∃ w y : State, w = { s with units := w.units, restoreList := w.restoreList, opss := w.opss } ∧
        s.Told w (if v.st = .restoring then [.unitBack a .mast] else []) ∧
        ({ w with gust := some g, mean := some (min (256 * mh + ml) 6000), mastHold := none } : State).BandSet y band ∧
        u = (y.markSurveyed a).chooseNext

/-- A miss (R159, R161); without a request on the bus it changes nothing (log 13). The first two repeat the same request
as the next exchange; the third makes the unit SILENT, off the restore list, told by UNIT_SILENT (Silenced). The silence
is handed on by the unit's type (SilenceHanded): its sections become UNKNOWN (R21); its point is UNKNOWN and latched, its
throw ended, told by POINT_FAULT (R32); its pad reads UNKNOWN and silent, a clamp watch there ends with CLAMP_FAILED, and
a transfer there is aborted with UNIT_SILENT (R138, R141, R151); the mast-hold countdown runs, unless it runs already or
the band is HOLD with MAST_LOST (R135). Changes are handed on, an obstruction where they meet a route (R84), acted on
before the release test of the same change (log 35), RESUMED with its details as log 24 gives. Then the unit's queued
commands are discarded (Discarded), and the next exchange is chosen (R163). -/
def Obligations.MissResult : Prop :=
  ∀ s : State, s.resetHold = none →
    (s.exchange = none → exec .fieldbusMiss s = .next s) ∧
    ∀ x v, s.exchange = some x → s.unit? x.addr = some v →
      (v.retries < 2 → ∃ u : State, exec .fieldbusMiss s = .next u ∧
        u = { s with units := u.units, exchange := some (s.request x.addr x.func) } ∧
        u.unit? x.addr = some { v with retries := v.retries + 1 } ∧ ∀ a, a ≠ x.addr → u.unit? a = s.unit? a) ∧
      (2 ≤ v.retries → s.TablesWf → ∃ (u w h y : State) (cs : List BusCmd), exec .fieldbusMiss s = .next u ∧
        s.Silenced w x.addr v x.func ∧ w.SilenceHanded h x.addr v.typ ∧ State.Discarded x.addr cs h y ∧
        u = (y.markSurveyed x.addr).chooseNext ∧
        u.unit? x.addr = some ⟨v.typ, .silent, 0, false, v.surveyed || decide (s.site = .survey)⟩ ∧
        x.addr ∉ u.restoreList ∧ (∀ c ∈ u.cmdQueue, c.addr ≠ x.addr) ∧
        (∀ k : OpsId, (s.opsPort k).notices.length < 32 →
          (⟨s.clock, .unitSilent x.addr v.typ x.func⟩ : Notice) ∈ (u.opsPort k).notices) ∧
        (v.typ = .detector → ∀ n z, s.sec? n = some z → z.defn.detAddr = x.addr → z.defn.detSlot ≤ 3 →
          (u.sec? n).map (fun z => (z.det, z.capture)) =
            some (.unknown, if z.det = .unknown then z.capture else s.clock)) ∧
        (v.typ = .point → ∀ p z, s.pointAt x.addr = some (p, z) →
          u.point? p = some { z with
            pos := .unknown, throwCd := none, mover := none, latch := some (z.latch.getD .unitSilent) } ∧
          ∀ k : OpsId, z.latch = none → (s.opsPort k).notices.length + 2 ≤ 32 →
            (⟨s.clock, .pointFault p .unitSilent none⟩ : Notice) ∈ (u.opsPort k).notices) ∧
        (v.typ = .pad → ∀ n z, s.padAt x.addr = some (n, z) →
          (u.pad? n).map (fun z => (z.silent, z.clamp, z.load)) = some (true, .unknown, .unknown)) ∧
        (v.typ = .mast → s.band ≠ .hold .mastLost → s.mastHold = none →
          if s.params.mastHold = 0 then u.band = .hold .mastLost
          else u.band = s.band ∧ u.mastHold = some (.load (10 * s.params.mastHold))))

/-- The exchanges of the bus. A request is three characters, its check making their sum 0, sent under DRIVER_LEAD with FDE
asserted (R157, R182); characters that arrive then are ignored. A good reply clears the count, brings a RESTORING unit back
and delivers the readings (R160); then, in SURVEY, the unit is surveyed, and the last one takes the site to RUNNING: told,
latches of asserted latching lines set, stopped zones told (R127, R166, R185); then the next exchange is chosen (R163,
R164): after four commands, or with none queued, a poll, in SURVEY of an unsurveyed unit (log 19, DEDUCED), the poll
position then moving on among the units polled (log 34, DESIGN CHOICE); otherwise the oldest command leaves the queue, an
exit, at which the pad commands that wait for room are offered again and then a walk is due for the room-wait flag (Exited:
R162, R53). A pad command, and a throw whose send test passes (R28), is sent: counted, and its owner told (Sent: R29, R141,
R148). A throw that fails the test is discarded uncounted, a walk is due (R34), and the choice begins again. -/
def Obligations.NextExchange : Prop :=
  (∀ (s : State) (a : Nat) (f : BusFunc), 1 ≤ a → a ≤ 48 → ∃ k : Nat, k < 256 ∧ (a + f.code + k) % 256 = 0 ∧
    s.request a f = ⟨a, f, [BitVec.ofNat 9 (256 + a), BitVec.ofNat 9 f.code, BitVec.ofNat 9 k],
      s.params.replyWindow, s.params.driverLead, true⟩) ∧
  (∀ (s : State) (early late : List BusChar), s.resetHold = none → (∀ c ∈ early, c.driven = true) →
    (∀ c ∈ late, c.driven = false) → early ≠ [] →
    (late = [] → exec (.fieldbusGoodReply early) s = .next s) ∧
    (late ≠ [] → exec (.fieldbusGoodReply (early ++ late)) s = exec (.fieldbusGoodReply late) s)) ∧
  (∀ (s : State) (a gap : Nat) (v : UnitRec) (rs : List Nat), s.AwaitsReply a v rs gap → s.TablesWf → ∃ w : State,
    exec (.fieldbusGoodReply (replyChars a v.typ rs gap)) s = .next (((w.deliver a v.typ rs).markSurveyed a).chooseNext) ∧
    w = { s with units := w.units, restoreList := if v.st = .restoring then s.restoreList.filter (fun b => decide (b ≠ a))
                                                  else s.restoreList, opss := w.opss } ∧
    w.unit? a = some ⟨v.typ, if v.st = .restoring then .active else v.st, 0,
      if v.st = .restoring then false else v.restorePending, v.surveyed⟩ ∧ (∀ b, b ≠ a → w.unit? b = s.unit? b) ∧
    s.Told w (if v.st = .restoring then [.unitBack a v.typ] else [])) ∧
  (∀ (s : State) (a : Nat) (v : UnitRec), s.TablesWf → s.unit? a = some v →
    let u := s.markSurveyed a
    (s.site ≠ .survey → u = s) ∧
    (s.site = .survey → u.unit? a = some { v with surveyed := true } ∧ (∀ b, b ≠ a → u.unit? b = s.unit? b) ∧
      ((∃ b x, b ≠ a ∧ s.unit? b = some x ∧ x.surveyed = false) → u = { s with units := u.units }) ∧
      ((∀ b x, b ≠ a → s.unit? b = some x → x.surveyed = true) →
        u = { s with units := u.units, site := .running, pollPos := s.units.head?.map (·.1), lines := u.lines
                     opss := u.opss } ∧
        (∀ n : Fin 8, let x := s.lines[n]
          u.lines[n] = { x with latch := x.latch || decide ((x.mode = .latch ∨ x.mode = .latchLevel) ∧ x.asserted = true) }) ∧
        s.Told u (.siteChanged .running .survey :: ((List.finRange 8).filter fun n => u.lines[n].stopped).map fun n =>
          .zoneStop n.val u.lines[n].mode u.lines[n].asserted)))) ∧
  (∀ s : State, s.TablesWf → (4 ≤ s.forced ∨ s.cmdQueue = []) → s.PollChosen s.chooseNext) ∧
  (∀ (s : State) (c : BusCmd) (rest : List BusCmd), s.forced < 4 → s.cmdQueue = c :: rest →
    c.func = .clamp ∨ c.func = .unclamp →
    s.chooseNext.exchange = some (s.request c.addr c.func) ∧
    s.chooseNext.forced = s.forced + 1 ∧ ∃ more, s.chooseNext.cmdQueue = rest ++ more) ∧
  (∀ (s : State) (c : BusCmd) (rest : List BusCmd), s.forced < 4 → s.cmdQueue = c :: rest → ∃ m : State,
    ({ s with cmdQueue := rest } : State).Exited m ∧
    (c.func = .clamp ∨ c.func = .unclamp ∨ c.func.blade ≠ none ∧ s.MaySend c → m.Sent s.chooseNext c) ∧
    (c.func.blade ≠ none → ¬ s.MaySend c → s.chooseNext = ({ m with walkDue := true } : State).chooseNext)) ∧
  (∀ (s : State) (x : Exchange) (b : Blade), s.chooseNext.exchange = some x → x.func.blade = some b →
    ∃ c ∈ s.cmdQueue, c.addr = x.addr ∧ c.func = x.func ∧ s.MaySend c ∧
      (c.req = .ops ∨ (∃ t, c.req = .tr t) → s.chooseNext.point? c.entity = (s.point? c.entity).map fun y => { y with
        cmd := some b, pos := .moving, throwCd := some (.load s.params.throwTime), mover := some c.req }))

/-! ## Expiries and stop lines -/

/-- What the expiries do, each only while its countdown runs: a throw that times out faults its point (R30), which
obstructs a route over it (R34, R84 to R88); a wait that expires takes t from the queue, drops its reservation (Dropped:
R58, R121; the details of RESUMED: log 24) and discards its tail, told by REFUSE and WAIT_EXPIRED with the index of the
first entry that is discarded (R61; absent where none is, log 9); a clamp watch ends with CLAMP_FAILED (R141); the
mast-hold, which then shows 0 (log 26), leaves the band HOLD with MAST_LOST (R135), and where that enters HOLD every
transporter is evaluated (logs 15 and 24). A countdown that is stopped, absent or at 0 has no expiry: the command changes
nothing (log 13). -/
def Obligations.ExpiryResult : Prop :=
  ∀ s : State, s.resetHold = none →
    (∀ p x, s.point? p = some x →
      (∀ c, x.pos = .moving → x.throwCd = some c → 0 < c.steps → ∃ u : State, exec (.throwTimeout p) s = .next u ∧
        u.point? p = some { x with pos := .unknown, throwCd := none, mover := none
                                   latch := some (x.latch.getD .throwTimeout) } ∧
        (x.latch ≠ none → u = { s with points := u.points }) ∧
        (x.latch = none → (∀ k : OpsId, (s.opsPort k).notices.length < 32 →
            (⟨s.clock, .pointFault p .throwTimeout (x.cmd.map Blade.pos)⟩ : Notice) ∈ (u.opsPort k).notices) ∧
          ∃ w : State, w = { s with points := w.points, opss := w.opss } ∧
            (∀ q, w.point? q = if q = p then u.point? p else s.point? q) ∧
            s.Told w [.pointFault p .throwTimeout (x.cmd.map Blade.pos)] ∧ w.Obstructed u x.sec true)) ∧
      (x.pos ≠ .moving ∨ stopped x.throwCd → exec (.throwTimeout p) s = .next s)) ∧
    (∀ t c, (⟨t, some c⟩ : Waiting) ∈ s.waiting → 0 < c.steps → ∃ u d : State, exec (.waitExpired t) s = .next u ∧
      ({ s with waiting := s.waiting.filter fun w => decide (w.t ≠ t) } : State).Dropped d t ∧
      u = { d.refuse t 0x12 .waitExpired with routes := u.routes, opss := u.opss } ∧
      u.route t = { s.route t with
        entries := (u.route t).entries, finalOff := (u.route t).finalOff, nextIdx := (u.route t).nextIdx, keep := false } ∧
      d.Told u [.waitExpired t (((s.route t).entries.find? fun e => decide (¬ s.holdsFirm t e.sec)).map (·.index))] ∧
      u.waiting = s.waiting.filter (fun w => decide (w.t ≠ t)) ∧
      (u.route t).entries = (s.route t).entries.filter (fun e => decide (s.holdsFirm t e.sec)) ∧
      (u.route t).endPos = (s.route t).endPos ∧ (u.route t).keep = false ∧
      (u.route t).finalOff = ((s.route t).endPos.map (·.off)).getD 0 ∧
      (∀ n, u.sec? n = (s.sec? n).map fun x =>
        { x with hold := if s.holdBy t n = some .setting ∧ s.inRecord t n then none else x.hold }) ∧
      (u.tl t).refusals.getLast? = some ⟨0x12, .waitExpired⟩ ∧
      (∀ k : OpsId, (s.opsPort k).notices.length + 2 ≤ 32 →
        (⟨s.clock, .waitExpired t (((s.route t).entries.find? fun e => decide (¬ s.holdsFirm t e.sec)).map (·.index))⟩ :
          Notice) ∈ (u.opsPort k).notices) ∧ ∀ v, v ≠ t → s.SameTransporter u v) ∧
    (∀ t, (∀ w ∈ s.waiting, w.t = t → stopped w.wait) → exec (.waitExpired t) s = .next s) ∧
    (∀ n x, s.pad? n = some x →
      (∀ c, x.watch = .running c → 0 < c.steps → ∃ u : State, exec (.clampFailed n) s = .next u ∧
        u = { s with pads := u.pads, padWaiters := u.padWaiters, opss := u.opss } ∧
        u.pad? n = some { x with watch := .none } ∧ (∀ m, m ≠ n → u.pad? m = s.pad? m) ∧
        s.Told u [.clampFailed n x.clamp (s.telescopeOnPad n)]) ∧
      ((∀ c, x.watch = .running c → c.steps = 0) → exec (.clampFailed n) s = .next s)) ∧
    (∀ p, s.point? p = none → exec (.throwTimeout p) s = .next s) ∧
    (∀ n, s.pad? n = none → exec (.clampFailed n) s = .next s) ∧
    (∀ c, s.mastHold = some c → 0 < c.steps → ∃ u : State, exec .mastLost s = .next u ∧
      u.band = .hold .mastLost ∧ u.mastHold = some (.load 0) ∧
      (s.band = .hold .mastLost → u = { s with mastHold := some (.load 0) }) ∧
      ((∃ d, s.band = .hold d ∧ d ≠ .mastLost) →
        u = { s with mastHold := some (.load 0), band := .hold .mastLost, opss := u.opss } ∧
        s.Told u [.windBand (.hold .mastLost) s.band s.gust s.mean]) ∧
      ((∀ d, s.band ≠ .hold d) → ({ s with mastHold := some (.load 0), band := .hold .mastLost }.post
        (.windBand (.hold .mastLost) s.band s.gust s.mean)).Evaluated u allT)) ∧
    (stopped s.mastHold → exec .mastLost s = .next s)

/-- A supervision countdown that reaches 0 stays there, ends an awaited fix, and is a LINK trip (R110, R115): it trips a
transporter PARKED, AUTHORISED or HELD, joins the causes of one that is TRIPPED, told by TRIPPED, and in TRANSFER aborts the
transfer and then trips (R116, R153, R154: TransferTripped). In OFFLINE, or with the countdown
stopped or absent, the command changes nothing (log 13). -/
def Obligations.SupervisionExpiryResult : Prop :=
  ∀ (s : State) (t : TId), s.resetHold = none →
    let run := (s.tr t).state ≠ .offline ∧ ∃ c, (s.tr t).superv = some c ∧ 0 < c.steps
    let s1 : State := { s with trs := s.trs.set t { s.tr t with superv := some (.load 0), awaitingFix := false } }
    (¬ run → exec (.supervisionExpiry t) s = .next s) ∧
    (run → (s.tr t).state = .parked ∨ (s.tr t).state = .authorised ∨ (s.tr t).state = .held →
      ∃ u, exec (.supervisionExpiry t) s = .next u ∧ s1.TripTaken u t .link) ∧
    (run → (s.tr t).state = .tripped → ∃ u : State, exec (.supervisionExpiry t) s = .next u ∧
      u.tr t = { s1.tr t with trips := { (s.tr t).trips with link := true } } ∧ u.AuthCurrent t ∧ s.OnlyAuth u t ∧
      s.Told u [.tripped t { TripSet.empty with link := true } (u.tr t).trips ((s.tr t).last.map (·.sec))
        ((s.tr t).last.map (·.off))] ∧
      u = { s with trs := u.trs, tls := u.tls, ceilings := u.ceilings, opss := u.opss } ∧
      ∀ v, v ≠ t → s.SameTransporter u v) ∧
    (∀ x, run → (s.tr t).state = .transfer → s.transfers[t] = some x →
      ∃ u, exec (.supervisionExpiry t) s = .next u ∧ s1.TransferTripped u t x .link .link)

/-- An edge of a stop line (R125, R126): it sets the level, and an asserting edge in RUNNING sets the latch of a latching
line; where that changes the zone's flag in RUNNING, the zone is stopped or freed (R130, R131), and every transporter is
evaluated, its notices in the order T0 to T5 and RESUMED with its details as logs 15 and 24 give. The level the line has
already is no edge (log 13). -/
def Obligations.StopLineEdgeResult : Prop :=
  ∀ (s : State) (n : Fin 8) (b : Bool), s.resetHold = none →
    let x := s.lines[n]
    (x.asserted = b → exec (.stopLineEdge n b) s = .next s) ∧
    (x.asserted ≠ b → ∃ u y, exec (.stopLineEdge n b) s = .next u ∧ s.LineChanged u n y .line ∧
      y.asserted = b ∧ y.mode = x.mode ∧
      (y.latch = true ↔ x.latch = true ∨ b = true ∧ (x.mode = .latch ∨ x.mode = .latchLevel) ∧ s.site = .running))

/-! ## The walk of the pending queue -/

/-- The walk (R63, R64, R54): not due, it does nothing (log 3). Due, it evaluates each waiting transporter without a
RELEASE_PENDING run, oldest first, and touches no other; and the further walk that its own drops cause follows at once. One
that is granted a section has its number incremented, its end at the end of what is granted, a new AUTH, leaves PARKED, and
leaves the queue once its route is fully granted; one that is not keeps its authority and waits. The first served is
GRANTED its next unit if that is available and in position (R48 to R51), and reserves it, its throws queued, if it is out
of position and they fit (R52); and when no walk is due any more, every waiting transporter has got all that the rules give
it (GrantStops: R50 to R53). Of sections and points only the holds of the transporters it evaluates change, the entered flag
clear where one is new, and the locks of the points of newly GRANTED sections (TrackGranted). A grant loads the wait countdown again (R60) and is told by GRANTED, with the sections newly
granted, those of its last grant where the further walk grants it more (R54 step 5); where none holds a reservation before,
the notices are exactly these and what stop causes tell, oldest entry first (grantTold; RESUMED with its details as log 24
gives). -/
def Obligations.WalkResult : Prop :=
  ∀ s : State, s.resetHold = none → s.QueueOnce → s.RoutesRise → s.TablesWf →
    (s.walkDue = false → exec .pendingQueueWalk s = .next s) ∧
    (s.walkDue = true → s.waiting = [] → exec .pendingQueueWalk s = .next { s with walkDue := false }) ∧
    (s.walkDue = true → ∃ u : State, exec .pendingQueueWalk s = .next u ∧
      (u.waiting.map (·.t)).Sublist (s.waiting.map (·.t)) ∧
      (∀ t, (s.isWaiting t = false ∨ s.pendingRun t ≠ []) → s.SameTransporter u t) ∧
      (∀ t, (u.route t).entries = (s.route t).entries ∧ (u.route t).finalOff = (s.route t).finalOff ∧
        let granted := ∃ e ∈ (s.route t).entries,
          u.holdBy t e.sec = some .granted ∧ s.holdBy t e.sec ≠ some .granted
        (granted → s.isWaiting t = true ∧ (u.route t).authNum ≠ (s.route t).authNum ∧
          (u.route t).endPos = u.grantedEnd t ∧ u.AuthCurrent t ∧ (u.tr t).state ≠ .parked ∧
          (u.isWaiting t = true ↔ u.fullyGranted t = false) ∧
          ((s.tr t).state = .parked → (u.tr t).state = if (u.tr t).stop = .empty then .authorised else .held) ∧
          (∀ k : OpsId, (u.opsPort k).overflow = false → ∃ secs, secs ≠ [] ∧
            secs <:+ (s.newlyGranted u t).map (·.sec) ∧
            (⟨s.clock, u.grantNotice t secs⟩ : Notice) ∈ (u.opsPort k).notices) ∧
          ((∀ w ∈ s.waiting, s.settingRun w.t = []) → (u.route t).authNum = nextAuth (s.route t).authNum)) ∧
        (¬ granted → (u.route t).authNum = (s.route t).authNum ∧ (u.route t).endPos = (s.route t).endPos ∧
          (u.isWaiting t = s.isWaiting t))) ∧
      (∀ t, s.firstServed t → s.nextUnit t ≠ [] → (∀ e ∈ s.nextUnit t, s.available t e = true) →
        ((∀ e ∈ s.nextUnit t, s.inPosition e = true) → ∀ e ∈ s.nextUnit t, u.holdBy t e.sec = some .granted) ∧
        ((∃ e ∈ s.nextUnit t, s.inPosition e = false) → s.offerOk ((s.nextUnit t).filterMap (s.throwFor t)) = true →
          (∀ e ∈ s.nextUnit t, u.holdBy t e.sec = some .setting) ∧
          ∃ more, u.cmdQueue = s.cmdQueue ++ (s.nextUnit t).filterMap (s.throwFor t) ++ more)) ∧
      u.waiting = ((s.waiting.filter fun w => decide (s.newlyGranted u w.t = [] ∨ u.fullyGranted w.t = false)).map
        fun w => if s.newlyGranted u w.t = [] then w else s.waitEntry w.t) ∧
      ((∀ w ∈ s.waiting, s.settingRun w.t = []) → u.walkDue = false ∧
        s.Told u (s.waiting.flatMap fun w => s.grantTold u w.t)) ∧
      (u.walkDue = false → ∀ t, u.isWaiting t = true → u.pendingRun t = [] → u.GrantStops t) ∧
      (∃ cs, u.cmdQueue = s.cmdQueue ++ cs ∧ ∀ d ∈ cs, d.func.blade ≠ none ∧ ∃ w ∈ s.waiting, d.req = .tr w.t) ∧
      s.TrackGranted u (fun t => s.isWaiting t = true ∧ s.pendingRun t = []) ∧
      u = { s with sections := u.sections, points := u.points, trs := u.trs, routes := u.routes, tls := u.tls
                   ceilings := u.ceilings, waiting := u.waiting, roomWait := u.roomWait, walkDue := u.walkDue
                   cmdQueue := u.cmdQueue, opss := u.opss })

/-! ## The braking curve -/

/-- The ceiling an AUTH carries (R97), and the ceiling last sent (R91): 0 unless AUTHORISED; in AUTHORISED at most the
curve speed, the line speed of the front section, that of the next one inside the authority, the load maximum, and
WIND_CRAWL in CAUTION; and it is one of them. -/
def Obligations.CeilingIsTheLeast : Prop :=
  ∀ (s : State) (t : TId),
    (((s.formAuth t).tl t).auth.map (·.ceiling) = some (s.ceilingNow t) ∧ (s.formAuth t).ceilings[t] = s.ceilingNow t) ∧
    ((s.tr t).state ≠ .authorised → s.ceilingNow t = 0) ∧
    ∀ f p, (s.tr t).state = .authorised → s.frontEntry t = some f → (s.route t).endPos = some p →
      s.ceilingNow t ≤ s.curve t ∧ s.ceilingNow t ≤ s.lineSpeed f ∧ s.ceilingNow t ≤ s.vmax t ∧
      (s.band = .caution → s.ceilingNow t ≤ s.params.windCrawl) ∧
      (∀ e, f.index < p.idx → s.entryAt t (f.index + 1) = some e → s.ceilingNow t ≤ s.lineSpeed e) ∧
      (s.ceilingNow t = s.curve t ∨ s.ceilingNow t = s.lineSpeed f ∨ s.ceilingNow t = s.vmax t ∨
        s.band = .caution ∧ s.ceilingNow t = s.params.windCrawl ∨
        ∃ e, f.index < p.idx ∧ s.entryAt t (f.index + 1) = some e ∧ s.ceilingNow t = s.lineSpeed e)

/-- The arithmetic of the curve (R95, R96, R99, R100): the grade term and the stop distance are exact quotients rounded up,
the curve speed is the exact floor square root or CREEP, no stage divides by zero, and for a distance beyond the margin a
speed is within the root exactly when its stop distance is within the distance less the margin. The inputs: distances along
a record are differences of lengths summed from its rear (R93), the worst grade is the largest downhill grade of the span or
0 (R94), load decides the deceleration (R92); the curve of a transporter is taken over them, and the braking test of a
candidate asks that the square of the speed fit its distance less the margin (R76, R99). -/
def Obligations.CurveAndStopDistanceAgree : Prop :=
  (∀ g, g ≤ 60 → 981 * g ≤ 1000 * gradeTerm g ∧ 1000 * gradeTerm g < 981 * g + 1000 ∧ gradeTerm g ≤ 59) ∧
  (∀ a g, 2 ≤ effDecel a g ∧ (effDecel a g : Int) = max 2 ((a : Int) - gradeTerm g)) ∧
  (∀ d a m creep, d ≤ m → curveSpeed d a m creep = 0) ∧
  (∀ d a m creep, m < d → d ≤ 2000000 → a ≤ 100 →
    curveSpeed d a m creep = max (Nat.sqrt (2 * a * (d - m))) creep) ∧
  (∀ v a, 0 < a → v * v ≤ 2 * a * stopDistance v a ∧ (0 < v → 2 * a * (stopDistance v a - 1) < v * v)) ∧
  (∀ d m a v, m < d → d ≤ 2000000 → 2 ≤ a → a ≤ 100 → (v ≤ isqrt (2 * a * (d - m)) ↔ stopDistance v a ≤ d - m)) ∧
  (∀ (s : State) (t : TId) (q p : RoutePos) (e f : Entry), s.RoutesRise → s.entryAt t q.idx = some e →
    s.entryAt t p.idx = some f → q.off ≤ s.pathLen e → p.off ≤ s.pathLen f →
    let along (x : RoutePos) : Nat :=
      (((s.route t).entries.filter fun g => decide (g.index < x.idx)).map s.pathLen).sum + x.off
    s.distance t q p = min (along p - along q) 2000000) ∧
  (∀ (s : State) (es : List Entry),
    let down (e : Entry) (x : Section) : Int := if e.ent = .a then -x.defn.grade else x.defn.grade
    (∀ e ∈ es, ∀ x, s.sec? e.sec = some x → down e x ≤ s.worstGrade es) ∧
    (s.worstGrade es = 0 ∨ ∃ e ∈ es, ∃ x, s.sec? e.sec = some x ∧ down e x = s.worstGrade es)) ∧
  (∀ (s : State) (t : TId),
    let carries := (∃ k l, (k, l) ∈ s.telescopes ∧ (l = .onTransporter t ∨ ∃ p, l = .indeterminate p t)) ∨
      ∃ r, (s.tr t).last = some r ∧ r.load = true
    (carries → s.decel t = (s.tr t).decelLoaded ∧ s.vmax t = (s.tr t).vmaxLoaded) ∧
    (¬ carries → s.decel t = (s.tr t).decelEmpty ∧ s.vmax t = (s.tr t).vmaxEmpty) ∧
    ∀ q, s.frontPos t = some q →
      let span (j : Nat) := (s.route t).entries.filter fun e => decide (e.index = q.idx ∨ q.idx ≤ e.index ∧ e.index ≤ j)
      let a (j : Nat) := effDecel (s.decel t) (s.worstGrade (span j))
      (∀ p, (s.route t).endPos = some p → s.curve t = curveSpeed (s.distance t q p) (a p.idx) s.params.margin s.params.creep) ∧
      ∀ c, s.brakingOk t c = true ↔ c = q ∧ s.speed t = 0 ∨
        s.params.margin ≤ s.distance t q c ∧ s.speed t ^ 2 ≤ 2 * a c.idx * (s.distance t q c - s.params.margin))
end

