-- ==== Sys2Proof/Laws/State.lean ====
section
/-! SUPPORT. One lemma for each field of State under each of its updates, true by rfl, so that no later proof unfolds a
record update; and what the fixed vectors and the canned lookups read after an update. -/

namespace Sys2Proof.Machine

variable (s : State)

/-! ## `State.modSec` -/

@[simp] theorem State.modSec_pending (n : Nat) (f : Section → Section) : (s.modSec n f).pending = s.pending := rfl
@[simp] theorem State.modSec_site (n : Nat) (f : Section → Section) : (s.modSec n f).site = s.site := rfl
@[simp] theorem State.modSec_resetCause (n : Nat) (f : Section → Section) : (s.modSec n f).resetCause = s.resetCause := rfl
@[simp] theorem State.modSec_resetHold (n : Nat) (f : Section → Section) : (s.modSec n f).resetHold = s.resetHold := rfl
@[simp] theorem State.modSec_clock (n : Nat) (f : Section → Section) : (s.modSec n f).clock = s.clock := rfl
@[simp] theorem State.modSec_allStop (n : Nat) (f : Section → Section) : (s.modSec n f).allStop = s.allStop := rfl
@[simp] theorem State.modSec_params (n : Nat) (f : Section → Section) : (s.modSec n f).params = s.params := rfl
@[simp] theorem State.modSec_sections (n : Nat) (f : Section → Section) : (s.modSec n f).sections = Table.adjust s.sections n f := rfl
@[simp] theorem State.modSec_points (n : Nat) (f : Section → Section) : (s.modSec n f).points = s.points := rfl
@[simp] theorem State.modSec_pads (n : Nat) (f : Section → Section) : (s.modSec n f).pads = s.pads := rfl
@[simp] theorem State.modSec_telescopes (n : Nat) (f : Section → Section) : (s.modSec n f).telescopes = s.telescopes := rfl
@[simp] theorem State.modSec_transfers (n : Nat) (f : Section → Section) : (s.modSec n f).transfers = s.transfers := rfl
@[simp] theorem State.modSec_trs (n : Nat) (f : Section → Section) : (s.modSec n f).trs = s.trs := rfl
@[simp] theorem State.modSec_routes (n : Nat) (f : Section → Section) : (s.modSec n f).routes = s.routes := rfl
@[simp] theorem State.modSec_ceilings (n : Nat) (f : Section → Section) : (s.modSec n f).ceilings = s.ceilings := rfl
@[simp] theorem State.modSec_waiting (n : Nat) (f : Section → Section) : (s.modSec n f).waiting = s.waiting := rfl
@[simp] theorem State.modSec_roomWait (n : Nat) (f : Section → Section) : (s.modSec n f).roomWait = s.roomWait := rfl
@[simp] theorem State.modSec_walkDue (n : Nat) (f : Section → Section) : (s.modSec n f).walkDue = s.walkDue := rfl
@[simp] theorem State.modSec_units (n : Nat) (f : Section → Section) : (s.modSec n f).units = s.units := rfl
@[simp] theorem State.modSec_restoreList (n : Nat) (f : Section → Section) : (s.modSec n f).restoreList = s.restoreList := rfl
@[simp] theorem State.modSec_cmdQueue (n : Nat) (f : Section → Section) : (s.modSec n f).cmdQueue = s.cmdQueue := rfl
@[simp] theorem State.modSec_pollPos (n : Nat) (f : Section → Section) : (s.modSec n f).pollPos = s.pollPos := rfl
@[simp] theorem State.modSec_forced (n : Nat) (f : Section → Section) : (s.modSec n f).forced = s.forced := rfl
@[simp] theorem State.modSec_exchange (n : Nat) (f : Section → Section) : (s.modSec n f).exchange = s.exchange := rfl
@[simp] theorem State.modSec_padWaiters (n : Nat) (f : Section → Section) : (s.modSec n f).padWaiters = s.padWaiters := rfl
@[simp] theorem State.modSec_lines (n : Nat) (f : Section → Section) : (s.modSec n f).lines = s.lines := rfl
@[simp] theorem State.modSec_band (n : Nat) (f : Section → Section) : (s.modSec n f).band = s.band := rfl
@[simp] theorem State.modSec_gust (n : Nat) (f : Section → Section) : (s.modSec n f).gust = s.gust := rfl
@[simp] theorem State.modSec_mean (n : Nat) (f : Section → Section) : (s.modSec n f).mean = s.mean := rfl
@[simp] theorem State.modSec_mastHold (n : Nat) (f : Section → Section) : (s.modSec n f).mastHold = s.mastHold := rfl
@[simp] theorem State.modSec_tls (n : Nat) (f : Section → Section) : (s.modSec n f).tls = s.tls := rfl
@[simp] theorem State.modSec_opss (n : Nat) (f : Section → Section) : (s.modSec n f).opss = s.opss := rfl

/-! ## `State.modPoint` -/

@[simp] theorem State.modPoint_pending (p : Nat) (f : Point → Point) : (s.modPoint p f).pending = s.pending := rfl
@[simp] theorem State.modPoint_site (p : Nat) (f : Point → Point) : (s.modPoint p f).site = s.site := rfl
@[simp] theorem State.modPoint_resetCause (p : Nat) (f : Point → Point) : (s.modPoint p f).resetCause = s.resetCause := rfl
@[simp] theorem State.modPoint_resetHold (p : Nat) (f : Point → Point) : (s.modPoint p f).resetHold = s.resetHold := rfl
@[simp] theorem State.modPoint_clock (p : Nat) (f : Point → Point) : (s.modPoint p f).clock = s.clock := rfl
@[simp] theorem State.modPoint_allStop (p : Nat) (f : Point → Point) : (s.modPoint p f).allStop = s.allStop := rfl
@[simp] theorem State.modPoint_params (p : Nat) (f : Point → Point) : (s.modPoint p f).params = s.params := rfl
@[simp] theorem State.modPoint_sections (p : Nat) (f : Point → Point) : (s.modPoint p f).sections = s.sections := rfl
@[simp] theorem State.modPoint_points (p : Nat) (f : Point → Point) : (s.modPoint p f).points = Table.adjust s.points p f := rfl
@[simp] theorem State.modPoint_pads (p : Nat) (f : Point → Point) : (s.modPoint p f).pads = s.pads := rfl
@[simp] theorem State.modPoint_telescopes (p : Nat) (f : Point → Point) : (s.modPoint p f).telescopes = s.telescopes := rfl
@[simp] theorem State.modPoint_transfers (p : Nat) (f : Point → Point) : (s.modPoint p f).transfers = s.transfers := rfl
@[simp] theorem State.modPoint_trs (p : Nat) (f : Point → Point) : (s.modPoint p f).trs = s.trs := rfl
@[simp] theorem State.modPoint_routes (p : Nat) (f : Point → Point) : (s.modPoint p f).routes = s.routes := rfl
@[simp] theorem State.modPoint_ceilings (p : Nat) (f : Point → Point) : (s.modPoint p f).ceilings = s.ceilings := rfl
@[simp] theorem State.modPoint_waiting (p : Nat) (f : Point → Point) : (s.modPoint p f).waiting = s.waiting := rfl
@[simp] theorem State.modPoint_roomWait (p : Nat) (f : Point → Point) : (s.modPoint p f).roomWait = s.roomWait := rfl
@[simp] theorem State.modPoint_walkDue (p : Nat) (f : Point → Point) : (s.modPoint p f).walkDue = s.walkDue := rfl
@[simp] theorem State.modPoint_units (p : Nat) (f : Point → Point) : (s.modPoint p f).units = s.units := rfl
@[simp] theorem State.modPoint_restoreList (p : Nat) (f : Point → Point) : (s.modPoint p f).restoreList = s.restoreList := rfl
@[simp] theorem State.modPoint_cmdQueue (p : Nat) (f : Point → Point) : (s.modPoint p f).cmdQueue = s.cmdQueue := rfl
@[simp] theorem State.modPoint_pollPos (p : Nat) (f : Point → Point) : (s.modPoint p f).pollPos = s.pollPos := rfl
@[simp] theorem State.modPoint_forced (p : Nat) (f : Point → Point) : (s.modPoint p f).forced = s.forced := rfl
@[simp] theorem State.modPoint_exchange (p : Nat) (f : Point → Point) : (s.modPoint p f).exchange = s.exchange := rfl
@[simp] theorem State.modPoint_padWaiters (p : Nat) (f : Point → Point) : (s.modPoint p f).padWaiters = s.padWaiters := rfl
@[simp] theorem State.modPoint_lines (p : Nat) (f : Point → Point) : (s.modPoint p f).lines = s.lines := rfl
@[simp] theorem State.modPoint_band (p : Nat) (f : Point → Point) : (s.modPoint p f).band = s.band := rfl
@[simp] theorem State.modPoint_gust (p : Nat) (f : Point → Point) : (s.modPoint p f).gust = s.gust := rfl
@[simp] theorem State.modPoint_mean (p : Nat) (f : Point → Point) : (s.modPoint p f).mean = s.mean := rfl
@[simp] theorem State.modPoint_mastHold (p : Nat) (f : Point → Point) : (s.modPoint p f).mastHold = s.mastHold := rfl
@[simp] theorem State.modPoint_tls (p : Nat) (f : Point → Point) : (s.modPoint p f).tls = s.tls := rfl
@[simp] theorem State.modPoint_opss (p : Nat) (f : Point → Point) : (s.modPoint p f).opss = s.opss := rfl

/-! ## `State.modPad` -/

@[simp] theorem State.modPad_pending (p : Nat) (f : Pad → Pad) : (s.modPad p f).pending = s.pending := rfl
@[simp] theorem State.modPad_site (p : Nat) (f : Pad → Pad) : (s.modPad p f).site = s.site := rfl
@[simp] theorem State.modPad_resetCause (p : Nat) (f : Pad → Pad) : (s.modPad p f).resetCause = s.resetCause := rfl
@[simp] theorem State.modPad_resetHold (p : Nat) (f : Pad → Pad) : (s.modPad p f).resetHold = s.resetHold := rfl
@[simp] theorem State.modPad_clock (p : Nat) (f : Pad → Pad) : (s.modPad p f).clock = s.clock := rfl
@[simp] theorem State.modPad_allStop (p : Nat) (f : Pad → Pad) : (s.modPad p f).allStop = s.allStop := rfl
@[simp] theorem State.modPad_params (p : Nat) (f : Pad → Pad) : (s.modPad p f).params = s.params := rfl
@[simp] theorem State.modPad_sections (p : Nat) (f : Pad → Pad) : (s.modPad p f).sections = s.sections := rfl
@[simp] theorem State.modPad_points (p : Nat) (f : Pad → Pad) : (s.modPad p f).points = s.points := rfl
@[simp] theorem State.modPad_pads (p : Nat) (f : Pad → Pad) : (s.modPad p f).pads = Table.adjust s.pads p f := rfl
@[simp] theorem State.modPad_telescopes (p : Nat) (f : Pad → Pad) : (s.modPad p f).telescopes = s.telescopes := rfl
@[simp] theorem State.modPad_transfers (p : Nat) (f : Pad → Pad) : (s.modPad p f).transfers = s.transfers := rfl
@[simp] theorem State.modPad_trs (p : Nat) (f : Pad → Pad) : (s.modPad p f).trs = s.trs := rfl
@[simp] theorem State.modPad_routes (p : Nat) (f : Pad → Pad) : (s.modPad p f).routes = s.routes := rfl
@[simp] theorem State.modPad_ceilings (p : Nat) (f : Pad → Pad) : (s.modPad p f).ceilings = s.ceilings := rfl
@[simp] theorem State.modPad_waiting (p : Nat) (f : Pad → Pad) : (s.modPad p f).waiting = s.waiting := rfl
@[simp] theorem State.modPad_roomWait (p : Nat) (f : Pad → Pad) : (s.modPad p f).roomWait = s.roomWait := rfl
@[simp] theorem State.modPad_walkDue (p : Nat) (f : Pad → Pad) : (s.modPad p f).walkDue = s.walkDue := rfl
@[simp] theorem State.modPad_units (p : Nat) (f : Pad → Pad) : (s.modPad p f).units = s.units := rfl
@[simp] theorem State.modPad_restoreList (p : Nat) (f : Pad → Pad) : (s.modPad p f).restoreList = s.restoreList := rfl
@[simp] theorem State.modPad_cmdQueue (p : Nat) (f : Pad → Pad) : (s.modPad p f).cmdQueue = s.cmdQueue := rfl
@[simp] theorem State.modPad_pollPos (p : Nat) (f : Pad → Pad) : (s.modPad p f).pollPos = s.pollPos := rfl
@[simp] theorem State.modPad_forced (p : Nat) (f : Pad → Pad) : (s.modPad p f).forced = s.forced := rfl
@[simp] theorem State.modPad_exchange (p : Nat) (f : Pad → Pad) : (s.modPad p f).exchange = s.exchange := rfl
@[simp] theorem State.modPad_padWaiters (p : Nat) (f : Pad → Pad) : (s.modPad p f).padWaiters = s.padWaiters := rfl
@[simp] theorem State.modPad_lines (p : Nat) (f : Pad → Pad) : (s.modPad p f).lines = s.lines := rfl
@[simp] theorem State.modPad_band (p : Nat) (f : Pad → Pad) : (s.modPad p f).band = s.band := rfl
@[simp] theorem State.modPad_gust (p : Nat) (f : Pad → Pad) : (s.modPad p f).gust = s.gust := rfl
@[simp] theorem State.modPad_mean (p : Nat) (f : Pad → Pad) : (s.modPad p f).mean = s.mean := rfl
@[simp] theorem State.modPad_mastHold (p : Nat) (f : Pad → Pad) : (s.modPad p f).mastHold = s.mastHold := rfl
@[simp] theorem State.modPad_tls (p : Nat) (f : Pad → Pad) : (s.modPad p f).tls = s.tls := rfl
@[simp] theorem State.modPad_opss (p : Nat) (f : Pad → Pad) : (s.modPad p f).opss = s.opss := rfl

/-! ## `State.modUnit` -/

@[simp] theorem State.modUnit_pending (a : Nat) (f : UnitRec → UnitRec) : (s.modUnit a f).pending = s.pending := rfl
@[simp] theorem State.modUnit_site (a : Nat) (f : UnitRec → UnitRec) : (s.modUnit a f).site = s.site := rfl
@[simp] theorem State.modUnit_resetCause (a : Nat) (f : UnitRec → UnitRec) : (s.modUnit a f).resetCause = s.resetCause := rfl
@[simp] theorem State.modUnit_resetHold (a : Nat) (f : UnitRec → UnitRec) : (s.modUnit a f).resetHold = s.resetHold := rfl
@[simp] theorem State.modUnit_clock (a : Nat) (f : UnitRec → UnitRec) : (s.modUnit a f).clock = s.clock := rfl
@[simp] theorem State.modUnit_allStop (a : Nat) (f : UnitRec → UnitRec) : (s.modUnit a f).allStop = s.allStop := rfl
@[simp] theorem State.modUnit_params (a : Nat) (f : UnitRec → UnitRec) : (s.modUnit a f).params = s.params := rfl
@[simp] theorem State.modUnit_sections (a : Nat) (f : UnitRec → UnitRec) : (s.modUnit a f).sections = s.sections := rfl
@[simp] theorem State.modUnit_points (a : Nat) (f : UnitRec → UnitRec) : (s.modUnit a f).points = s.points := rfl
@[simp] theorem State.modUnit_pads (a : Nat) (f : UnitRec → UnitRec) : (s.modUnit a f).pads = s.pads := rfl
@[simp] theorem State.modUnit_telescopes (a : Nat) (f : UnitRec → UnitRec) : (s.modUnit a f).telescopes = s.telescopes := rfl
@[simp] theorem State.modUnit_transfers (a : Nat) (f : UnitRec → UnitRec) : (s.modUnit a f).transfers = s.transfers := rfl
@[simp] theorem State.modUnit_trs (a : Nat) (f : UnitRec → UnitRec) : (s.modUnit a f).trs = s.trs := rfl
@[simp] theorem State.modUnit_routes (a : Nat) (f : UnitRec → UnitRec) : (s.modUnit a f).routes = s.routes := rfl
@[simp] theorem State.modUnit_ceilings (a : Nat) (f : UnitRec → UnitRec) : (s.modUnit a f).ceilings = s.ceilings := rfl
@[simp] theorem State.modUnit_waiting (a : Nat) (f : UnitRec → UnitRec) : (s.modUnit a f).waiting = s.waiting := rfl
@[simp] theorem State.modUnit_roomWait (a : Nat) (f : UnitRec → UnitRec) : (s.modUnit a f).roomWait = s.roomWait := rfl
@[simp] theorem State.modUnit_walkDue (a : Nat) (f : UnitRec → UnitRec) : (s.modUnit a f).walkDue = s.walkDue := rfl
@[simp] theorem State.modUnit_units (a : Nat) (f : UnitRec → UnitRec) : (s.modUnit a f).units = Table.adjust s.units a f := rfl
@[simp] theorem State.modUnit_restoreList (a : Nat) (f : UnitRec → UnitRec) : (s.modUnit a f).restoreList = s.restoreList := rfl
@[simp] theorem State.modUnit_cmdQueue (a : Nat) (f : UnitRec → UnitRec) : (s.modUnit a f).cmdQueue = s.cmdQueue := rfl
@[simp] theorem State.modUnit_pollPos (a : Nat) (f : UnitRec → UnitRec) : (s.modUnit a f).pollPos = s.pollPos := rfl
@[simp] theorem State.modUnit_forced (a : Nat) (f : UnitRec → UnitRec) : (s.modUnit a f).forced = s.forced := rfl
@[simp] theorem State.modUnit_exchange (a : Nat) (f : UnitRec → UnitRec) : (s.modUnit a f).exchange = s.exchange := rfl
@[simp] theorem State.modUnit_padWaiters (a : Nat) (f : UnitRec → UnitRec) : (s.modUnit a f).padWaiters = s.padWaiters := rfl
@[simp] theorem State.modUnit_lines (a : Nat) (f : UnitRec → UnitRec) : (s.modUnit a f).lines = s.lines := rfl
@[simp] theorem State.modUnit_band (a : Nat) (f : UnitRec → UnitRec) : (s.modUnit a f).band = s.band := rfl
@[simp] theorem State.modUnit_gust (a : Nat) (f : UnitRec → UnitRec) : (s.modUnit a f).gust = s.gust := rfl
@[simp] theorem State.modUnit_mean (a : Nat) (f : UnitRec → UnitRec) : (s.modUnit a f).mean = s.mean := rfl
@[simp] theorem State.modUnit_mastHold (a : Nat) (f : UnitRec → UnitRec) : (s.modUnit a f).mastHold = s.mastHold := rfl
@[simp] theorem State.modUnit_tls (a : Nat) (f : UnitRec → UnitRec) : (s.modUnit a f).tls = s.tls := rfl
@[simp] theorem State.modUnit_opss (a : Nat) (f : UnitRec → UnitRec) : (s.modUnit a f).opss = s.opss := rfl

/-! ## `State.modTr` -/

@[simp] theorem State.modTr_pending (t : TId) (f : Transporter → Transporter) : (s.modTr t f).pending = s.pending := rfl
@[simp] theorem State.modTr_site (t : TId) (f : Transporter → Transporter) : (s.modTr t f).site = s.site := rfl
@[simp] theorem State.modTr_resetCause (t : TId) (f : Transporter → Transporter) : (s.modTr t f).resetCause = s.resetCause := rfl
@[simp] theorem State.modTr_resetHold (t : TId) (f : Transporter → Transporter) : (s.modTr t f).resetHold = s.resetHold := rfl
@[simp] theorem State.modTr_clock (t : TId) (f : Transporter → Transporter) : (s.modTr t f).clock = s.clock := rfl
@[simp] theorem State.modTr_allStop (t : TId) (f : Transporter → Transporter) : (s.modTr t f).allStop = s.allStop := rfl
@[simp] theorem State.modTr_params (t : TId) (f : Transporter → Transporter) : (s.modTr t f).params = s.params := rfl
@[simp] theorem State.modTr_sections (t : TId) (f : Transporter → Transporter) : (s.modTr t f).sections = s.sections := rfl
@[simp] theorem State.modTr_points (t : TId) (f : Transporter → Transporter) : (s.modTr t f).points = s.points := rfl
@[simp] theorem State.modTr_pads (t : TId) (f : Transporter → Transporter) : (s.modTr t f).pads = s.pads := rfl
@[simp] theorem State.modTr_telescopes (t : TId) (f : Transporter → Transporter) : (s.modTr t f).telescopes = s.telescopes := rfl
@[simp] theorem State.modTr_transfers (t : TId) (f : Transporter → Transporter) : (s.modTr t f).transfers = s.transfers := rfl
@[simp] theorem State.modTr_trs (t : TId) (f : Transporter → Transporter) : (s.modTr t f).trs = upd s.trs t f := rfl
@[simp] theorem State.modTr_routes (t : TId) (f : Transporter → Transporter) : (s.modTr t f).routes = s.routes := rfl
@[simp] theorem State.modTr_ceilings (t : TId) (f : Transporter → Transporter) : (s.modTr t f).ceilings = s.ceilings := rfl
@[simp] theorem State.modTr_waiting (t : TId) (f : Transporter → Transporter) : (s.modTr t f).waiting = s.waiting := rfl
@[simp] theorem State.modTr_roomWait (t : TId) (f : Transporter → Transporter) : (s.modTr t f).roomWait = s.roomWait := rfl
@[simp] theorem State.modTr_walkDue (t : TId) (f : Transporter → Transporter) : (s.modTr t f).walkDue = s.walkDue := rfl
@[simp] theorem State.modTr_units (t : TId) (f : Transporter → Transporter) : (s.modTr t f).units = s.units := rfl
@[simp] theorem State.modTr_restoreList (t : TId) (f : Transporter → Transporter) : (s.modTr t f).restoreList = s.restoreList := rfl
@[simp] theorem State.modTr_cmdQueue (t : TId) (f : Transporter → Transporter) : (s.modTr t f).cmdQueue = s.cmdQueue := rfl
@[simp] theorem State.modTr_pollPos (t : TId) (f : Transporter → Transporter) : (s.modTr t f).pollPos = s.pollPos := rfl
@[simp] theorem State.modTr_forced (t : TId) (f : Transporter → Transporter) : (s.modTr t f).forced = s.forced := rfl
@[simp] theorem State.modTr_exchange (t : TId) (f : Transporter → Transporter) : (s.modTr t f).exchange = s.exchange := rfl
@[simp] theorem State.modTr_padWaiters (t : TId) (f : Transporter → Transporter) : (s.modTr t f).padWaiters = s.padWaiters := rfl
@[simp] theorem State.modTr_lines (t : TId) (f : Transporter → Transporter) : (s.modTr t f).lines = s.lines := rfl
@[simp] theorem State.modTr_band (t : TId) (f : Transporter → Transporter) : (s.modTr t f).band = s.band := rfl
@[simp] theorem State.modTr_gust (t : TId) (f : Transporter → Transporter) : (s.modTr t f).gust = s.gust := rfl
@[simp] theorem State.modTr_mean (t : TId) (f : Transporter → Transporter) : (s.modTr t f).mean = s.mean := rfl
@[simp] theorem State.modTr_mastHold (t : TId) (f : Transporter → Transporter) : (s.modTr t f).mastHold = s.mastHold := rfl
@[simp] theorem State.modTr_tls (t : TId) (f : Transporter → Transporter) : (s.modTr t f).tls = s.tls := rfl
@[simp] theorem State.modTr_opss (t : TId) (f : Transporter → Transporter) : (s.modTr t f).opss = s.opss := rfl

/-! ## `State.modRoute` -/

@[simp] theorem State.modRoute_pending (t : TId) (f : RouteRecord → RouteRecord) : (s.modRoute t f).pending = s.pending := rfl
@[simp] theorem State.modRoute_site (t : TId) (f : RouteRecord → RouteRecord) : (s.modRoute t f).site = s.site := rfl
@[simp] theorem State.modRoute_resetCause (t : TId) (f : RouteRecord → RouteRecord) : (s.modRoute t f).resetCause = s.resetCause := rfl
@[simp] theorem State.modRoute_resetHold (t : TId) (f : RouteRecord → RouteRecord) : (s.modRoute t f).resetHold = s.resetHold := rfl
@[simp] theorem State.modRoute_clock (t : TId) (f : RouteRecord → RouteRecord) : (s.modRoute t f).clock = s.clock := rfl
@[simp] theorem State.modRoute_allStop (t : TId) (f : RouteRecord → RouteRecord) : (s.modRoute t f).allStop = s.allStop := rfl
@[simp] theorem State.modRoute_params (t : TId) (f : RouteRecord → RouteRecord) : (s.modRoute t f).params = s.params := rfl
@[simp] theorem State.modRoute_sections (t : TId) (f : RouteRecord → RouteRecord) : (s.modRoute t f).sections = s.sections := rfl
@[simp] theorem State.modRoute_points (t : TId) (f : RouteRecord → RouteRecord) : (s.modRoute t f).points = s.points := rfl
@[simp] theorem State.modRoute_pads (t : TId) (f : RouteRecord → RouteRecord) : (s.modRoute t f).pads = s.pads := rfl
@[simp] theorem State.modRoute_telescopes (t : TId) (f : RouteRecord → RouteRecord) : (s.modRoute t f).telescopes = s.telescopes := rfl
@[simp] theorem State.modRoute_transfers (t : TId) (f : RouteRecord → RouteRecord) : (s.modRoute t f).transfers = s.transfers := rfl
@[simp] theorem State.modRoute_trs (t : TId) (f : RouteRecord → RouteRecord) : (s.modRoute t f).trs = s.trs := rfl
@[simp] theorem State.modRoute_routes (t : TId) (f : RouteRecord → RouteRecord) : (s.modRoute t f).routes = upd s.routes t f := rfl
@[simp] theorem State.modRoute_ceilings (t : TId) (f : RouteRecord → RouteRecord) : (s.modRoute t f).ceilings = s.ceilings := rfl
@[simp] theorem State.modRoute_waiting (t : TId) (f : RouteRecord → RouteRecord) : (s.modRoute t f).waiting = s.waiting := rfl
@[simp] theorem State.modRoute_roomWait (t : TId) (f : RouteRecord → RouteRecord) : (s.modRoute t f).roomWait = s.roomWait := rfl
@[simp] theorem State.modRoute_walkDue (t : TId) (f : RouteRecord → RouteRecord) : (s.modRoute t f).walkDue = s.walkDue := rfl
@[simp] theorem State.modRoute_units (t : TId) (f : RouteRecord → RouteRecord) : (s.modRoute t f).units = s.units := rfl
@[simp] theorem State.modRoute_restoreList (t : TId) (f : RouteRecord → RouteRecord) : (s.modRoute t f).restoreList = s.restoreList := rfl
@[simp] theorem State.modRoute_cmdQueue (t : TId) (f : RouteRecord → RouteRecord) : (s.modRoute t f).cmdQueue = s.cmdQueue := rfl
@[simp] theorem State.modRoute_pollPos (t : TId) (f : RouteRecord → RouteRecord) : (s.modRoute t f).pollPos = s.pollPos := rfl
@[simp] theorem State.modRoute_forced (t : TId) (f : RouteRecord → RouteRecord) : (s.modRoute t f).forced = s.forced := rfl
@[simp] theorem State.modRoute_exchange (t : TId) (f : RouteRecord → RouteRecord) : (s.modRoute t f).exchange = s.exchange := rfl
@[simp] theorem State.modRoute_padWaiters (t : TId) (f : RouteRecord → RouteRecord) : (s.modRoute t f).padWaiters = s.padWaiters := rfl
@[simp] theorem State.modRoute_lines (t : TId) (f : RouteRecord → RouteRecord) : (s.modRoute t f).lines = s.lines := rfl
@[simp] theorem State.modRoute_band (t : TId) (f : RouteRecord → RouteRecord) : (s.modRoute t f).band = s.band := rfl
@[simp] theorem State.modRoute_gust (t : TId) (f : RouteRecord → RouteRecord) : (s.modRoute t f).gust = s.gust := rfl
@[simp] theorem State.modRoute_mean (t : TId) (f : RouteRecord → RouteRecord) : (s.modRoute t f).mean = s.mean := rfl
@[simp] theorem State.modRoute_mastHold (t : TId) (f : RouteRecord → RouteRecord) : (s.modRoute t f).mastHold = s.mastHold := rfl
@[simp] theorem State.modRoute_tls (t : TId) (f : RouteRecord → RouteRecord) : (s.modRoute t f).tls = s.tls := rfl
@[simp] theorem State.modRoute_opss (t : TId) (f : RouteRecord → RouteRecord) : (s.modRoute t f).opss = s.opss := rfl

/-! ## `State.modTl` -/

@[simp] theorem State.modTl_pending (t : TId) (f : TlPort → TlPort) : (s.modTl t f).pending = s.pending := rfl
@[simp] theorem State.modTl_site (t : TId) (f : TlPort → TlPort) : (s.modTl t f).site = s.site := rfl
@[simp] theorem State.modTl_resetCause (t : TId) (f : TlPort → TlPort) : (s.modTl t f).resetCause = s.resetCause := rfl
@[simp] theorem State.modTl_resetHold (t : TId) (f : TlPort → TlPort) : (s.modTl t f).resetHold = s.resetHold := rfl
@[simp] theorem State.modTl_clock (t : TId) (f : TlPort → TlPort) : (s.modTl t f).clock = s.clock := rfl
@[simp] theorem State.modTl_allStop (t : TId) (f : TlPort → TlPort) : (s.modTl t f).allStop = s.allStop := rfl
@[simp] theorem State.modTl_params (t : TId) (f : TlPort → TlPort) : (s.modTl t f).params = s.params := rfl
@[simp] theorem State.modTl_sections (t : TId) (f : TlPort → TlPort) : (s.modTl t f).sections = s.sections := rfl
@[simp] theorem State.modTl_points (t : TId) (f : TlPort → TlPort) : (s.modTl t f).points = s.points := rfl
@[simp] theorem State.modTl_pads (t : TId) (f : TlPort → TlPort) : (s.modTl t f).pads = s.pads := rfl
@[simp] theorem State.modTl_telescopes (t : TId) (f : TlPort → TlPort) : (s.modTl t f).telescopes = s.telescopes := rfl
@[simp] theorem State.modTl_transfers (t : TId) (f : TlPort → TlPort) : (s.modTl t f).transfers = s.transfers := rfl
@[simp] theorem State.modTl_trs (t : TId) (f : TlPort → TlPort) : (s.modTl t f).trs = s.trs := rfl
@[simp] theorem State.modTl_routes (t : TId) (f : TlPort → TlPort) : (s.modTl t f).routes = s.routes := rfl
@[simp] theorem State.modTl_ceilings (t : TId) (f : TlPort → TlPort) : (s.modTl t f).ceilings = s.ceilings := rfl
@[simp] theorem State.modTl_waiting (t : TId) (f : TlPort → TlPort) : (s.modTl t f).waiting = s.waiting := rfl
@[simp] theorem State.modTl_roomWait (t : TId) (f : TlPort → TlPort) : (s.modTl t f).roomWait = s.roomWait := rfl
@[simp] theorem State.modTl_walkDue (t : TId) (f : TlPort → TlPort) : (s.modTl t f).walkDue = s.walkDue := rfl
@[simp] theorem State.modTl_units (t : TId) (f : TlPort → TlPort) : (s.modTl t f).units = s.units := rfl
@[simp] theorem State.modTl_restoreList (t : TId) (f : TlPort → TlPort) : (s.modTl t f).restoreList = s.restoreList := rfl
@[simp] theorem State.modTl_cmdQueue (t : TId) (f : TlPort → TlPort) : (s.modTl t f).cmdQueue = s.cmdQueue := rfl
@[simp] theorem State.modTl_pollPos (t : TId) (f : TlPort → TlPort) : (s.modTl t f).pollPos = s.pollPos := rfl
@[simp] theorem State.modTl_forced (t : TId) (f : TlPort → TlPort) : (s.modTl t f).forced = s.forced := rfl
@[simp] theorem State.modTl_exchange (t : TId) (f : TlPort → TlPort) : (s.modTl t f).exchange = s.exchange := rfl
@[simp] theorem State.modTl_padWaiters (t : TId) (f : TlPort → TlPort) : (s.modTl t f).padWaiters = s.padWaiters := rfl
@[simp] theorem State.modTl_lines (t : TId) (f : TlPort → TlPort) : (s.modTl t f).lines = s.lines := rfl
@[simp] theorem State.modTl_band (t : TId) (f : TlPort → TlPort) : (s.modTl t f).band = s.band := rfl
@[simp] theorem State.modTl_gust (t : TId) (f : TlPort → TlPort) : (s.modTl t f).gust = s.gust := rfl
@[simp] theorem State.modTl_mean (t : TId) (f : TlPort → TlPort) : (s.modTl t f).mean = s.mean := rfl
@[simp] theorem State.modTl_mastHold (t : TId) (f : TlPort → TlPort) : (s.modTl t f).mastHold = s.mastHold := rfl
@[simp] theorem State.modTl_tls (t : TId) (f : TlPort → TlPort) : (s.modTl t f).tls = upd s.tls t f := rfl
@[simp] theorem State.modTl_opss (t : TId) (f : TlPort → TlPort) : (s.modTl t f).opss = s.opss := rfl

/-! ## `State.modOps` -/

@[simp] theorem State.modOps_pending (l : OpsId) (f : OpsPort → OpsPort) : (s.modOps l f).pending = s.pending := rfl
@[simp] theorem State.modOps_site (l : OpsId) (f : OpsPort → OpsPort) : (s.modOps l f).site = s.site := rfl
@[simp] theorem State.modOps_resetCause (l : OpsId) (f : OpsPort → OpsPort) : (s.modOps l f).resetCause = s.resetCause := rfl
@[simp] theorem State.modOps_resetHold (l : OpsId) (f : OpsPort → OpsPort) : (s.modOps l f).resetHold = s.resetHold := rfl
@[simp] theorem State.modOps_clock (l : OpsId) (f : OpsPort → OpsPort) : (s.modOps l f).clock = s.clock := rfl
@[simp] theorem State.modOps_allStop (l : OpsId) (f : OpsPort → OpsPort) : (s.modOps l f).allStop = s.allStop := rfl
@[simp] theorem State.modOps_params (l : OpsId) (f : OpsPort → OpsPort) : (s.modOps l f).params = s.params := rfl
@[simp] theorem State.modOps_sections (l : OpsId) (f : OpsPort → OpsPort) : (s.modOps l f).sections = s.sections := rfl
@[simp] theorem State.modOps_points (l : OpsId) (f : OpsPort → OpsPort) : (s.modOps l f).points = s.points := rfl
@[simp] theorem State.modOps_pads (l : OpsId) (f : OpsPort → OpsPort) : (s.modOps l f).pads = s.pads := rfl
@[simp] theorem State.modOps_telescopes (l : OpsId) (f : OpsPort → OpsPort) : (s.modOps l f).telescopes = s.telescopes := rfl
@[simp] theorem State.modOps_transfers (l : OpsId) (f : OpsPort → OpsPort) : (s.modOps l f).transfers = s.transfers := rfl
@[simp] theorem State.modOps_trs (l : OpsId) (f : OpsPort → OpsPort) : (s.modOps l f).trs = s.trs := rfl
@[simp] theorem State.modOps_routes (l : OpsId) (f : OpsPort → OpsPort) : (s.modOps l f).routes = s.routes := rfl
@[simp] theorem State.modOps_ceilings (l : OpsId) (f : OpsPort → OpsPort) : (s.modOps l f).ceilings = s.ceilings := rfl
@[simp] theorem State.modOps_waiting (l : OpsId) (f : OpsPort → OpsPort) : (s.modOps l f).waiting = s.waiting := rfl
@[simp] theorem State.modOps_roomWait (l : OpsId) (f : OpsPort → OpsPort) : (s.modOps l f).roomWait = s.roomWait := rfl
@[simp] theorem State.modOps_walkDue (l : OpsId) (f : OpsPort → OpsPort) : (s.modOps l f).walkDue = s.walkDue := rfl
@[simp] theorem State.modOps_units (l : OpsId) (f : OpsPort → OpsPort) : (s.modOps l f).units = s.units := rfl
@[simp] theorem State.modOps_restoreList (l : OpsId) (f : OpsPort → OpsPort) : (s.modOps l f).restoreList = s.restoreList := rfl
@[simp] theorem State.modOps_cmdQueue (l : OpsId) (f : OpsPort → OpsPort) : (s.modOps l f).cmdQueue = s.cmdQueue := rfl
@[simp] theorem State.modOps_pollPos (l : OpsId) (f : OpsPort → OpsPort) : (s.modOps l f).pollPos = s.pollPos := rfl
@[simp] theorem State.modOps_forced (l : OpsId) (f : OpsPort → OpsPort) : (s.modOps l f).forced = s.forced := rfl
@[simp] theorem State.modOps_exchange (l : OpsId) (f : OpsPort → OpsPort) : (s.modOps l f).exchange = s.exchange := rfl
@[simp] theorem State.modOps_padWaiters (l : OpsId) (f : OpsPort → OpsPort) : (s.modOps l f).padWaiters = s.padWaiters := rfl
@[simp] theorem State.modOps_lines (l : OpsId) (f : OpsPort → OpsPort) : (s.modOps l f).lines = s.lines := rfl
@[simp] theorem State.modOps_band (l : OpsId) (f : OpsPort → OpsPort) : (s.modOps l f).band = s.band := rfl
@[simp] theorem State.modOps_gust (l : OpsId) (f : OpsPort → OpsPort) : (s.modOps l f).gust = s.gust := rfl
@[simp] theorem State.modOps_mean (l : OpsId) (f : OpsPort → OpsPort) : (s.modOps l f).mean = s.mean := rfl
@[simp] theorem State.modOps_mastHold (l : OpsId) (f : OpsPort → OpsPort) : (s.modOps l f).mastHold = s.mastHold := rfl
@[simp] theorem State.modOps_tls (l : OpsId) (f : OpsPort → OpsPort) : (s.modOps l f).tls = s.tls := rfl
@[simp] theorem State.modOps_opss (l : OpsId) (f : OpsPort → OpsPort) : (s.modOps l f).opss = upd s.opss l f := rfl

/-! ## `State.setCeiling` -/

@[simp] theorem State.setCeiling_pending (t : TId) (c : Nat) : (s.setCeiling t c).pending = s.pending := rfl
@[simp] theorem State.setCeiling_site (t : TId) (c : Nat) : (s.setCeiling t c).site = s.site := rfl
@[simp] theorem State.setCeiling_resetCause (t : TId) (c : Nat) : (s.setCeiling t c).resetCause = s.resetCause := rfl
@[simp] theorem State.setCeiling_resetHold (t : TId) (c : Nat) : (s.setCeiling t c).resetHold = s.resetHold := rfl
@[simp] theorem State.setCeiling_clock (t : TId) (c : Nat) : (s.setCeiling t c).clock = s.clock := rfl
@[simp] theorem State.setCeiling_allStop (t : TId) (c : Nat) : (s.setCeiling t c).allStop = s.allStop := rfl
@[simp] theorem State.setCeiling_params (t : TId) (c : Nat) : (s.setCeiling t c).params = s.params := rfl
@[simp] theorem State.setCeiling_sections (t : TId) (c : Nat) : (s.setCeiling t c).sections = s.sections := rfl
@[simp] theorem State.setCeiling_points (t : TId) (c : Nat) : (s.setCeiling t c).points = s.points := rfl
@[simp] theorem State.setCeiling_pads (t : TId) (c : Nat) : (s.setCeiling t c).pads = s.pads := rfl
@[simp] theorem State.setCeiling_telescopes (t : TId) (c : Nat) : (s.setCeiling t c).telescopes = s.telescopes := rfl
@[simp] theorem State.setCeiling_transfers (t : TId) (c : Nat) : (s.setCeiling t c).transfers = s.transfers := rfl
@[simp] theorem State.setCeiling_trs (t : TId) (c : Nat) : (s.setCeiling t c).trs = s.trs := rfl
@[simp] theorem State.setCeiling_routes (t : TId) (c : Nat) : (s.setCeiling t c).routes = s.routes := rfl
@[simp] theorem State.setCeiling_ceilings (t : TId) (c : Nat) : (s.setCeiling t c).ceilings = upd s.ceilings t fun _ => c := rfl
@[simp] theorem State.setCeiling_waiting (t : TId) (c : Nat) : (s.setCeiling t c).waiting = s.waiting := rfl
@[simp] theorem State.setCeiling_roomWait (t : TId) (c : Nat) : (s.setCeiling t c).roomWait = s.roomWait := rfl
@[simp] theorem State.setCeiling_walkDue (t : TId) (c : Nat) : (s.setCeiling t c).walkDue = s.walkDue := rfl
@[simp] theorem State.setCeiling_units (t : TId) (c : Nat) : (s.setCeiling t c).units = s.units := rfl
@[simp] theorem State.setCeiling_restoreList (t : TId) (c : Nat) : (s.setCeiling t c).restoreList = s.restoreList := rfl
@[simp] theorem State.setCeiling_cmdQueue (t : TId) (c : Nat) : (s.setCeiling t c).cmdQueue = s.cmdQueue := rfl
@[simp] theorem State.setCeiling_pollPos (t : TId) (c : Nat) : (s.setCeiling t c).pollPos = s.pollPos := rfl
@[simp] theorem State.setCeiling_forced (t : TId) (c : Nat) : (s.setCeiling t c).forced = s.forced := rfl
@[simp] theorem State.setCeiling_exchange (t : TId) (c : Nat) : (s.setCeiling t c).exchange = s.exchange := rfl
@[simp] theorem State.setCeiling_padWaiters (t : TId) (c : Nat) : (s.setCeiling t c).padWaiters = s.padWaiters := rfl
@[simp] theorem State.setCeiling_lines (t : TId) (c : Nat) : (s.setCeiling t c).lines = s.lines := rfl
@[simp] theorem State.setCeiling_band (t : TId) (c : Nat) : (s.setCeiling t c).band = s.band := rfl
@[simp] theorem State.setCeiling_gust (t : TId) (c : Nat) : (s.setCeiling t c).gust = s.gust := rfl
@[simp] theorem State.setCeiling_mean (t : TId) (c : Nat) : (s.setCeiling t c).mean = s.mean := rfl
@[simp] theorem State.setCeiling_mastHold (t : TId) (c : Nat) : (s.setCeiling t c).mastHold = s.mastHold := rfl
@[simp] theorem State.setCeiling_tls (t : TId) (c : Nat) : (s.setCeiling t c).tls = s.tls := rfl
@[simp] theorem State.setCeiling_opss (t : TId) (c : Nat) : (s.setCeiling t c).opss = s.opss := rfl

/-! ## `State.setTransfer` -/

@[simp] theorem State.setTransfer_pending (t : TId) (x : Option Transfer) : (s.setTransfer t x).pending = s.pending := rfl
@[simp] theorem State.setTransfer_site (t : TId) (x : Option Transfer) : (s.setTransfer t x).site = s.site := rfl
@[simp] theorem State.setTransfer_resetCause (t : TId) (x : Option Transfer) : (s.setTransfer t x).resetCause = s.resetCause := rfl
@[simp] theorem State.setTransfer_resetHold (t : TId) (x : Option Transfer) : (s.setTransfer t x).resetHold = s.resetHold := rfl
@[simp] theorem State.setTransfer_clock (t : TId) (x : Option Transfer) : (s.setTransfer t x).clock = s.clock := rfl
@[simp] theorem State.setTransfer_allStop (t : TId) (x : Option Transfer) : (s.setTransfer t x).allStop = s.allStop := rfl
@[simp] theorem State.setTransfer_params (t : TId) (x : Option Transfer) : (s.setTransfer t x).params = s.params := rfl
@[simp] theorem State.setTransfer_sections (t : TId) (x : Option Transfer) : (s.setTransfer t x).sections = s.sections := rfl
@[simp] theorem State.setTransfer_points (t : TId) (x : Option Transfer) : (s.setTransfer t x).points = s.points := rfl
@[simp] theorem State.setTransfer_pads (t : TId) (x : Option Transfer) : (s.setTransfer t x).pads = s.pads := rfl
@[simp] theorem State.setTransfer_telescopes (t : TId) (x : Option Transfer) : (s.setTransfer t x).telescopes = s.telescopes := rfl
@[simp] theorem State.setTransfer_transfers (t : TId) (x : Option Transfer) : (s.setTransfer t x).transfers = upd s.transfers t fun _ => x := rfl
@[simp] theorem State.setTransfer_trs (t : TId) (x : Option Transfer) : (s.setTransfer t x).trs = s.trs := rfl
@[simp] theorem State.setTransfer_routes (t : TId) (x : Option Transfer) : (s.setTransfer t x).routes = s.routes := rfl
@[simp] theorem State.setTransfer_ceilings (t : TId) (x : Option Transfer) : (s.setTransfer t x).ceilings = s.ceilings := rfl
@[simp] theorem State.setTransfer_waiting (t : TId) (x : Option Transfer) : (s.setTransfer t x).waiting = s.waiting := rfl
@[simp] theorem State.setTransfer_roomWait (t : TId) (x : Option Transfer) : (s.setTransfer t x).roomWait = s.roomWait := rfl
@[simp] theorem State.setTransfer_walkDue (t : TId) (x : Option Transfer) : (s.setTransfer t x).walkDue = s.walkDue := rfl
@[simp] theorem State.setTransfer_units (t : TId) (x : Option Transfer) : (s.setTransfer t x).units = s.units := rfl
@[simp] theorem State.setTransfer_restoreList (t : TId) (x : Option Transfer) : (s.setTransfer t x).restoreList = s.restoreList := rfl
@[simp] theorem State.setTransfer_cmdQueue (t : TId) (x : Option Transfer) : (s.setTransfer t x).cmdQueue = s.cmdQueue := rfl
@[simp] theorem State.setTransfer_pollPos (t : TId) (x : Option Transfer) : (s.setTransfer t x).pollPos = s.pollPos := rfl
@[simp] theorem State.setTransfer_forced (t : TId) (x : Option Transfer) : (s.setTransfer t x).forced = s.forced := rfl
@[simp] theorem State.setTransfer_exchange (t : TId) (x : Option Transfer) : (s.setTransfer t x).exchange = s.exchange := rfl
@[simp] theorem State.setTransfer_padWaiters (t : TId) (x : Option Transfer) : (s.setTransfer t x).padWaiters = s.padWaiters := rfl
@[simp] theorem State.setTransfer_lines (t : TId) (x : Option Transfer) : (s.setTransfer t x).lines = s.lines := rfl
@[simp] theorem State.setTransfer_band (t : TId) (x : Option Transfer) : (s.setTransfer t x).band = s.band := rfl
@[simp] theorem State.setTransfer_gust (t : TId) (x : Option Transfer) : (s.setTransfer t x).gust = s.gust := rfl
@[simp] theorem State.setTransfer_mean (t : TId) (x : Option Transfer) : (s.setTransfer t x).mean = s.mean := rfl
@[simp] theorem State.setTransfer_mastHold (t : TId) (x : Option Transfer) : (s.setTransfer t x).mastHold = s.mastHold := rfl
@[simp] theorem State.setTransfer_tls (t : TId) (x : Option Transfer) : (s.setTransfer t x).tls = s.tls := rfl
@[simp] theorem State.setTransfer_opss (t : TId) (x : Option Transfer) : (s.setTransfer t x).opss = s.opss := rfl

/-! ## `State.modLine` -/

@[simp] theorem State.modLine_pending (n : Fin 8) (f : StopLine → StopLine) : (s.modLine n f).pending = s.pending := rfl
@[simp] theorem State.modLine_site (n : Fin 8) (f : StopLine → StopLine) : (s.modLine n f).site = s.site := rfl
@[simp] theorem State.modLine_resetCause (n : Fin 8) (f : StopLine → StopLine) : (s.modLine n f).resetCause = s.resetCause := rfl
@[simp] theorem State.modLine_resetHold (n : Fin 8) (f : StopLine → StopLine) : (s.modLine n f).resetHold = s.resetHold := rfl
@[simp] theorem State.modLine_clock (n : Fin 8) (f : StopLine → StopLine) : (s.modLine n f).clock = s.clock := rfl
@[simp] theorem State.modLine_allStop (n : Fin 8) (f : StopLine → StopLine) : (s.modLine n f).allStop = s.allStop := rfl
@[simp] theorem State.modLine_params (n : Fin 8) (f : StopLine → StopLine) : (s.modLine n f).params = s.params := rfl
@[simp] theorem State.modLine_sections (n : Fin 8) (f : StopLine → StopLine) : (s.modLine n f).sections = s.sections := rfl
@[simp] theorem State.modLine_points (n : Fin 8) (f : StopLine → StopLine) : (s.modLine n f).points = s.points := rfl
@[simp] theorem State.modLine_pads (n : Fin 8) (f : StopLine → StopLine) : (s.modLine n f).pads = s.pads := rfl
@[simp] theorem State.modLine_telescopes (n : Fin 8) (f : StopLine → StopLine) : (s.modLine n f).telescopes = s.telescopes := rfl
@[simp] theorem State.modLine_transfers (n : Fin 8) (f : StopLine → StopLine) : (s.modLine n f).transfers = s.transfers := rfl
@[simp] theorem State.modLine_trs (n : Fin 8) (f : StopLine → StopLine) : (s.modLine n f).trs = s.trs := rfl
@[simp] theorem State.modLine_routes (n : Fin 8) (f : StopLine → StopLine) : (s.modLine n f).routes = s.routes := rfl
@[simp] theorem State.modLine_ceilings (n : Fin 8) (f : StopLine → StopLine) : (s.modLine n f).ceilings = s.ceilings := rfl
@[simp] theorem State.modLine_waiting (n : Fin 8) (f : StopLine → StopLine) : (s.modLine n f).waiting = s.waiting := rfl
@[simp] theorem State.modLine_roomWait (n : Fin 8) (f : StopLine → StopLine) : (s.modLine n f).roomWait = s.roomWait := rfl
@[simp] theorem State.modLine_walkDue (n : Fin 8) (f : StopLine → StopLine) : (s.modLine n f).walkDue = s.walkDue := rfl
@[simp] theorem State.modLine_units (n : Fin 8) (f : StopLine → StopLine) : (s.modLine n f).units = s.units := rfl
@[simp] theorem State.modLine_restoreList (n : Fin 8) (f : StopLine → StopLine) : (s.modLine n f).restoreList = s.restoreList := rfl
@[simp] theorem State.modLine_cmdQueue (n : Fin 8) (f : StopLine → StopLine) : (s.modLine n f).cmdQueue = s.cmdQueue := rfl
@[simp] theorem State.modLine_pollPos (n : Fin 8) (f : StopLine → StopLine) : (s.modLine n f).pollPos = s.pollPos := rfl
@[simp] theorem State.modLine_forced (n : Fin 8) (f : StopLine → StopLine) : (s.modLine n f).forced = s.forced := rfl
@[simp] theorem State.modLine_exchange (n : Fin 8) (f : StopLine → StopLine) : (s.modLine n f).exchange = s.exchange := rfl
@[simp] theorem State.modLine_padWaiters (n : Fin 8) (f : StopLine → StopLine) : (s.modLine n f).padWaiters = s.padWaiters := rfl
@[simp] theorem State.modLine_lines (n : Fin 8) (f : StopLine → StopLine) : (s.modLine n f).lines = upd s.lines n f := rfl
@[simp] theorem State.modLine_band (n : Fin 8) (f : StopLine → StopLine) : (s.modLine n f).band = s.band := rfl
@[simp] theorem State.modLine_gust (n : Fin 8) (f : StopLine → StopLine) : (s.modLine n f).gust = s.gust := rfl
@[simp] theorem State.modLine_mean (n : Fin 8) (f : StopLine → StopLine) : (s.modLine n f).mean = s.mean := rfl
@[simp] theorem State.modLine_mastHold (n : Fin 8) (f : StopLine → StopLine) : (s.modLine n f).mastHold = s.mastHold := rfl
@[simp] theorem State.modLine_tls (n : Fin 8) (f : StopLine → StopLine) : (s.modLine n f).tls = s.tls := rfl
@[simp] theorem State.modLine_opss (n : Fin 8) (f : StopLine → StopLine) : (s.modLine n f).opss = s.opss := rfl

/-! ## `State.setLoc` -/

@[simp] theorem State.setLoc_pending (k : Nat) (l : Location) : (s.setLoc k l).pending = s.pending := rfl
@[simp] theorem State.setLoc_site (k : Nat) (l : Location) : (s.setLoc k l).site = s.site := rfl
@[simp] theorem State.setLoc_resetCause (k : Nat) (l : Location) : (s.setLoc k l).resetCause = s.resetCause := rfl
@[simp] theorem State.setLoc_resetHold (k : Nat) (l : Location) : (s.setLoc k l).resetHold = s.resetHold := rfl
@[simp] theorem State.setLoc_clock (k : Nat) (l : Location) : (s.setLoc k l).clock = s.clock := rfl
@[simp] theorem State.setLoc_allStop (k : Nat) (l : Location) : (s.setLoc k l).allStop = s.allStop := rfl
@[simp] theorem State.setLoc_params (k : Nat) (l : Location) : (s.setLoc k l).params = s.params := rfl
@[simp] theorem State.setLoc_sections (k : Nat) (l : Location) : (s.setLoc k l).sections = s.sections := rfl
@[simp] theorem State.setLoc_points (k : Nat) (l : Location) : (s.setLoc k l).points = s.points := rfl
@[simp] theorem State.setLoc_pads (k : Nat) (l : Location) : (s.setLoc k l).pads = s.pads := rfl
@[simp] theorem State.setLoc_telescopes (k : Nat) (l : Location) : (s.setLoc k l).telescopes = Table.put s.telescopes k l := rfl
@[simp] theorem State.setLoc_transfers (k : Nat) (l : Location) : (s.setLoc k l).transfers = s.transfers := rfl
@[simp] theorem State.setLoc_trs (k : Nat) (l : Location) : (s.setLoc k l).trs = s.trs := rfl
@[simp] theorem State.setLoc_routes (k : Nat) (l : Location) : (s.setLoc k l).routes = s.routes := rfl
@[simp] theorem State.setLoc_ceilings (k : Nat) (l : Location) : (s.setLoc k l).ceilings = s.ceilings := rfl
@[simp] theorem State.setLoc_waiting (k : Nat) (l : Location) : (s.setLoc k l).waiting = s.waiting := rfl
@[simp] theorem State.setLoc_roomWait (k : Nat) (l : Location) : (s.setLoc k l).roomWait = s.roomWait := rfl
@[simp] theorem State.setLoc_walkDue (k : Nat) (l : Location) : (s.setLoc k l).walkDue = s.walkDue := rfl
@[simp] theorem State.setLoc_units (k : Nat) (l : Location) : (s.setLoc k l).units = s.units := rfl
@[simp] theorem State.setLoc_restoreList (k : Nat) (l : Location) : (s.setLoc k l).restoreList = s.restoreList := rfl
@[simp] theorem State.setLoc_cmdQueue (k : Nat) (l : Location) : (s.setLoc k l).cmdQueue = s.cmdQueue := rfl
@[simp] theorem State.setLoc_pollPos (k : Nat) (l : Location) : (s.setLoc k l).pollPos = s.pollPos := rfl
@[simp] theorem State.setLoc_forced (k : Nat) (l : Location) : (s.setLoc k l).forced = s.forced := rfl
@[simp] theorem State.setLoc_exchange (k : Nat) (l : Location) : (s.setLoc k l).exchange = s.exchange := rfl
@[simp] theorem State.setLoc_padWaiters (k : Nat) (l : Location) : (s.setLoc k l).padWaiters = s.padWaiters := rfl
@[simp] theorem State.setLoc_lines (k : Nat) (l : Location) : (s.setLoc k l).lines = s.lines := rfl
@[simp] theorem State.setLoc_band (k : Nat) (l : Location) : (s.setLoc k l).band = s.band := rfl
@[simp] theorem State.setLoc_gust (k : Nat) (l : Location) : (s.setLoc k l).gust = s.gust := rfl
@[simp] theorem State.setLoc_mean (k : Nat) (l : Location) : (s.setLoc k l).mean = s.mean := rfl
@[simp] theorem State.setLoc_mastHold (k : Nat) (l : Location) : (s.setLoc k l).mastHold = s.mastHold := rfl
@[simp] theorem State.setLoc_tls (k : Nat) (l : Location) : (s.setLoc k l).tls = s.tls := rfl
@[simp] theorem State.setLoc_opss (k : Nat) (l : Location) : (s.setLoc k l).opss = s.opss := rfl

/-! ## `State.trigger` -/

@[simp] theorem State.trigger_pending : (s.trigger).pending = s.pending := rfl
@[simp] theorem State.trigger_site : (s.trigger).site = s.site := rfl
@[simp] theorem State.trigger_resetCause : (s.trigger).resetCause = s.resetCause := rfl
@[simp] theorem State.trigger_resetHold : (s.trigger).resetHold = s.resetHold := rfl
@[simp] theorem State.trigger_clock : (s.trigger).clock = s.clock := rfl
@[simp] theorem State.trigger_allStop : (s.trigger).allStop = s.allStop := rfl
@[simp] theorem State.trigger_params : (s.trigger).params = s.params := rfl
@[simp] theorem State.trigger_sections : (s.trigger).sections = s.sections := rfl
@[simp] theorem State.trigger_points : (s.trigger).points = s.points := rfl
@[simp] theorem State.trigger_pads : (s.trigger).pads = s.pads := rfl
@[simp] theorem State.trigger_telescopes : (s.trigger).telescopes = s.telescopes := rfl
@[simp] theorem State.trigger_transfers : (s.trigger).transfers = s.transfers := rfl
@[simp] theorem State.trigger_trs : (s.trigger).trs = s.trs := rfl
@[simp] theorem State.trigger_routes : (s.trigger).routes = s.routes := rfl
@[simp] theorem State.trigger_ceilings : (s.trigger).ceilings = s.ceilings := rfl
@[simp] theorem State.trigger_waiting : (s.trigger).waiting = s.waiting := rfl
@[simp] theorem State.trigger_roomWait : (s.trigger).roomWait = s.roomWait := rfl
@[simp] theorem State.trigger_walkDue : (s.trigger).walkDue = true := rfl
@[simp] theorem State.trigger_units : (s.trigger).units = s.units := rfl
@[simp] theorem State.trigger_restoreList : (s.trigger).restoreList = s.restoreList := rfl
@[simp] theorem State.trigger_cmdQueue : (s.trigger).cmdQueue = s.cmdQueue := rfl
@[simp] theorem State.trigger_pollPos : (s.trigger).pollPos = s.pollPos := rfl
@[simp] theorem State.trigger_forced : (s.trigger).forced = s.forced := rfl
@[simp] theorem State.trigger_exchange : (s.trigger).exchange = s.exchange := rfl
@[simp] theorem State.trigger_padWaiters : (s.trigger).padWaiters = s.padWaiters := rfl
@[simp] theorem State.trigger_lines : (s.trigger).lines = s.lines := rfl
@[simp] theorem State.trigger_band : (s.trigger).band = s.band := rfl
@[simp] theorem State.trigger_gust : (s.trigger).gust = s.gust := rfl
@[simp] theorem State.trigger_mean : (s.trigger).mean = s.mean := rfl
@[simp] theorem State.trigger_mastHold : (s.trigger).mastHold = s.mastHold := rfl
@[simp] theorem State.trigger_tls : (s.trigger).tls = s.tls := rfl
@[simp] theorem State.trigger_opss : (s.trigger).opss = s.opss := rfl

/-! ## `State.enqueue` -/

@[simp] theorem State.enqueue_pending (cs : List BusCmd) : (s.enqueue cs).pending = s.pending := rfl
@[simp] theorem State.enqueue_site (cs : List BusCmd) : (s.enqueue cs).site = s.site := rfl
@[simp] theorem State.enqueue_resetCause (cs : List BusCmd) : (s.enqueue cs).resetCause = s.resetCause := rfl
@[simp] theorem State.enqueue_resetHold (cs : List BusCmd) : (s.enqueue cs).resetHold = s.resetHold := rfl
@[simp] theorem State.enqueue_clock (cs : List BusCmd) : (s.enqueue cs).clock = s.clock := rfl
@[simp] theorem State.enqueue_allStop (cs : List BusCmd) : (s.enqueue cs).allStop = s.allStop := rfl
@[simp] theorem State.enqueue_params (cs : List BusCmd) : (s.enqueue cs).params = s.params := rfl
@[simp] theorem State.enqueue_sections (cs : List BusCmd) : (s.enqueue cs).sections = s.sections := rfl
@[simp] theorem State.enqueue_points (cs : List BusCmd) : (s.enqueue cs).points = s.points := rfl
@[simp] theorem State.enqueue_pads (cs : List BusCmd) : (s.enqueue cs).pads = s.pads := rfl
@[simp] theorem State.enqueue_telescopes (cs : List BusCmd) : (s.enqueue cs).telescopes = s.telescopes := rfl
@[simp] theorem State.enqueue_transfers (cs : List BusCmd) : (s.enqueue cs).transfers = s.transfers := rfl
@[simp] theorem State.enqueue_trs (cs : List BusCmd) : (s.enqueue cs).trs = s.trs := rfl
@[simp] theorem State.enqueue_routes (cs : List BusCmd) : (s.enqueue cs).routes = s.routes := rfl
@[simp] theorem State.enqueue_ceilings (cs : List BusCmd) : (s.enqueue cs).ceilings = s.ceilings := rfl
@[simp] theorem State.enqueue_waiting (cs : List BusCmd) : (s.enqueue cs).waiting = s.waiting := rfl
@[simp] theorem State.enqueue_roomWait (cs : List BusCmd) : (s.enqueue cs).roomWait = s.roomWait := rfl
@[simp] theorem State.enqueue_walkDue (cs : List BusCmd) : (s.enqueue cs).walkDue = s.walkDue := rfl
@[simp] theorem State.enqueue_units (cs : List BusCmd) : (s.enqueue cs).units = s.units := rfl
@[simp] theorem State.enqueue_restoreList (cs : List BusCmd) : (s.enqueue cs).restoreList = s.restoreList := rfl
@[simp] theorem State.enqueue_cmdQueue (cs : List BusCmd) : (s.enqueue cs).cmdQueue = s.cmdQueue ++ cs := rfl
@[simp] theorem State.enqueue_pollPos (cs : List BusCmd) : (s.enqueue cs).pollPos = s.pollPos := rfl
@[simp] theorem State.enqueue_forced (cs : List BusCmd) : (s.enqueue cs).forced = s.forced := rfl
@[simp] theorem State.enqueue_exchange (cs : List BusCmd) : (s.enqueue cs).exchange = s.exchange := rfl
@[simp] theorem State.enqueue_padWaiters (cs : List BusCmd) : (s.enqueue cs).padWaiters = s.padWaiters := rfl
@[simp] theorem State.enqueue_lines (cs : List BusCmd) : (s.enqueue cs).lines = s.lines := rfl
@[simp] theorem State.enqueue_band (cs : List BusCmd) : (s.enqueue cs).band = s.band := rfl
@[simp] theorem State.enqueue_gust (cs : List BusCmd) : (s.enqueue cs).gust = s.gust := rfl
@[simp] theorem State.enqueue_mean (cs : List BusCmd) : (s.enqueue cs).mean = s.mean := rfl
@[simp] theorem State.enqueue_mastHold (cs : List BusCmd) : (s.enqueue cs).mastHold = s.mastHold := rfl
@[simp] theorem State.enqueue_tls (cs : List BusCmd) : (s.enqueue cs).tls = s.tls := rfl
@[simp] theorem State.enqueue_opss (cs : List BusCmd) : (s.enqueue cs).opss = s.opss := rfl

/-! ## `State.post` -/

@[simp] theorem State.post_pending (b : NoticeBody) : (s.post b).pending = s.pending := rfl
@[simp] theorem State.post_site (b : NoticeBody) : (s.post b).site = s.site := rfl
@[simp] theorem State.post_resetCause (b : NoticeBody) : (s.post b).resetCause = s.resetCause := rfl
@[simp] theorem State.post_resetHold (b : NoticeBody) : (s.post b).resetHold = s.resetHold := rfl
@[simp] theorem State.post_clock (b : NoticeBody) : (s.post b).clock = s.clock := rfl
@[simp] theorem State.post_allStop (b : NoticeBody) : (s.post b).allStop = s.allStop := rfl
@[simp] theorem State.post_params (b : NoticeBody) : (s.post b).params = s.params := rfl
@[simp] theorem State.post_sections (b : NoticeBody) : (s.post b).sections = s.sections := rfl
@[simp] theorem State.post_points (b : NoticeBody) : (s.post b).points = s.points := rfl
@[simp] theorem State.post_pads (b : NoticeBody) : (s.post b).pads = s.pads := rfl
@[simp] theorem State.post_telescopes (b : NoticeBody) : (s.post b).telescopes = s.telescopes := rfl
@[simp] theorem State.post_transfers (b : NoticeBody) : (s.post b).transfers = s.transfers := rfl
@[simp] theorem State.post_trs (b : NoticeBody) : (s.post b).trs = s.trs := rfl
@[simp] theorem State.post_routes (b : NoticeBody) : (s.post b).routes = s.routes := rfl
@[simp] theorem State.post_ceilings (b : NoticeBody) : (s.post b).ceilings = s.ceilings := rfl
@[simp] theorem State.post_waiting (b : NoticeBody) : (s.post b).waiting = s.waiting := rfl
@[simp] theorem State.post_roomWait (b : NoticeBody) : (s.post b).roomWait = s.roomWait := rfl
@[simp] theorem State.post_walkDue (b : NoticeBody) : (s.post b).walkDue = s.walkDue := rfl
@[simp] theorem State.post_units (b : NoticeBody) : (s.post b).units = s.units := rfl
@[simp] theorem State.post_restoreList (b : NoticeBody) : (s.post b).restoreList = s.restoreList := rfl
@[simp] theorem State.post_cmdQueue (b : NoticeBody) : (s.post b).cmdQueue = s.cmdQueue := rfl
@[simp] theorem State.post_pollPos (b : NoticeBody) : (s.post b).pollPos = s.pollPos := rfl
@[simp] theorem State.post_forced (b : NoticeBody) : (s.post b).forced = s.forced := rfl
@[simp] theorem State.post_exchange (b : NoticeBody) : (s.post b).exchange = s.exchange := rfl
@[simp] theorem State.post_padWaiters (b : NoticeBody) : (s.post b).padWaiters = s.padWaiters := rfl
@[simp] theorem State.post_lines (b : NoticeBody) : (s.post b).lines = s.lines := rfl
@[simp] theorem State.post_band (b : NoticeBody) : (s.post b).band = s.band := rfl
@[simp] theorem State.post_gust (b : NoticeBody) : (s.post b).gust = s.gust := rfl
@[simp] theorem State.post_mean (b : NoticeBody) : (s.post b).mean = s.mean := rfl
@[simp] theorem State.post_mastHold (b : NoticeBody) : (s.post b).mastHold = s.mastHold := rfl
@[simp] theorem State.post_tls (b : NoticeBody) : (s.post b).tls = s.tls := rfl
@[simp] theorem State.post_opss (b : NoticeBody) : (s.post b).opss = s.opss.map (OpsPort.addNotice ⟨s.clock, b⟩) := rfl

/-! ## Fixed vectors -/

theorem upd_get_self {α : Type} {n : Nat} (v : Vector α n) (i : Fin n) (f : α → α) : (upd v i f)[i] = f v[i] := by
  simp [upd]

theorem upd_get_ne {α : Type} {n : Nat} (v : Vector α n) (i j : Fin n) (f : α → α) (h : i ≠ j) :
    (upd v i f)[j] = v[j] := by
  have h' : (i : Nat) ≠ (j : Nat) := fun e => h (Fin.ext e)
  simp [upd, h']

theorem upd_get {α : Type} {n : Nat} (v : Vector α n) (i j : Fin n) (f : α → α) :
    (upd v i f)[j] = if i = j then f v[j] else v[j] := by
  by_cases h : i = j
  · subst h; rw [if_pos rfl]; exact upd_get_self v i f
  · rw [if_neg h]; exact upd_get_ne v i j f h

/-- A change that changes nothing. -/
theorem upd_id {α : Type} {n : Nat} (v : Vector α n) (i : Fin n) (f : α → α) (h : f v[i] = v[i]) : upd v i f = v := by
  apply Vector.ext
  intro k hk
  have := upd_get v i ⟨k, hk⟩ f
  by_cases e : i = ⟨k, hk⟩
  · subst e; rw [if_pos rfl] at this; exact this.trans h
  · rw [if_neg e] at this; exact this

/-- Two changes of one place are one change. -/
theorem upd_upd {α : Type} {n : Nat} (v : Vector α n) (i : Fin n) (f g : α → α) :
    upd (upd v i f) i g = upd v i fun x => g (f x) := by
  simp [upd]

/-! ## Transporters, routes, ports after an update -/

@[simp] theorem State.tr_modTr_self (t : TId) (f : Transporter → Transporter) : (s.modTr t f).tr t = f (s.tr t) :=
  upd_get_self ..

theorem State.tr_modTr (t u : TId) (f : Transporter → Transporter) :
    (s.modTr t f).tr u = if t = u then f (s.tr u) else s.tr u := upd_get ..

@[simp] theorem State.route_modRoute_self (t : TId) (f : RouteRecord → RouteRecord) :
    (s.modRoute t f).route t = f (s.route t) := upd_get_self ..

theorem State.route_modRoute (t u : TId) (f : RouteRecord → RouteRecord) :
    (s.modRoute t f).route u = if t = u then f (s.route u) else s.route u := upd_get ..

@[simp] theorem State.tl_modTl_self (t : TId) (f : TlPort → TlPort) : (s.modTl t f).tl t = f (s.tl t) :=
  upd_get_self ..

theorem State.tl_modTl (t u : TId) (f : TlPort → TlPort) :
    (s.modTl t f).tl u = if t = u then f (s.tl u) else s.tl u := upd_get ..

@[simp] theorem State.opsPort_modOps_self (l : OpsId) (f : OpsPort → OpsPort) :
    (s.modOps l f).opsPort l = f (s.opsPort l) := upd_get_self ..

theorem State.opsPort_modOps (l m : OpsId) (f : OpsPort → OpsPort) :
    (s.modOps l f).opsPort m = if l = m then f (s.opsPort m) else s.opsPort m := upd_get ..

@[simp] theorem State.opsPort_post (l : OpsId) (b : NoticeBody) :
    (s.post b).opsPort l = (s.opsPort l).addNotice ⟨s.clock, b⟩ := by
  simp [State.opsPort, State.post]

/-! ## Lookups that an update does not touch -/

@[simp] theorem State.modSec_at_tr (n : Nat) (f : Section → Section) (v : TId) : (s.modSec n f).tr v = s.tr v := rfl
@[simp] theorem State.modSec_at_route (n : Nat) (f : Section → Section) (v : TId) : (s.modSec n f).route v = s.route v := rfl
@[simp] theorem State.modSec_at_tl (n : Nat) (f : Section → Section) (v : TId) : (s.modSec n f).tl v = s.tl v := rfl
@[simp] theorem State.modSec_at_opsPort (n : Nat) (f : Section → Section) (v : OpsId) : (s.modSec n f).opsPort v = s.opsPort v := rfl
@[simp] theorem State.modSec_at_point_ (n : Nat) (f : Section → Section) (v : Nat) : (s.modSec n f).point? v = s.point? v := rfl
@[simp] theorem State.modSec_at_pad_ (n : Nat) (f : Section → Section) (v : Nat) : (s.modSec n f).pad? v = s.pad? v := rfl
@[simp] theorem State.modSec_at_unit_ (n : Nat) (f : Section → Section) (v : Nat) : (s.modSec n f).unit? v = s.unit? v := rfl
@[simp] theorem State.modSec_at_locOf (n : Nat) (f : Section → Section) (v : Nat) : (s.modSec n f).locOf v = s.locOf v := rfl

@[simp] theorem State.modPoint_at_tr (p : Nat) (f : Point → Point) (v : TId) : (s.modPoint p f).tr v = s.tr v := rfl
@[simp] theorem State.modPoint_at_route (p : Nat) (f : Point → Point) (v : TId) : (s.modPoint p f).route v = s.route v := rfl
@[simp] theorem State.modPoint_at_tl (p : Nat) (f : Point → Point) (v : TId) : (s.modPoint p f).tl v = s.tl v := rfl
@[simp] theorem State.modPoint_at_opsPort (p : Nat) (f : Point → Point) (v : OpsId) : (s.modPoint p f).opsPort v = s.opsPort v := rfl
@[simp] theorem State.modPoint_at_sec_ (p : Nat) (f : Point → Point) (v : Nat) : (s.modPoint p f).sec? v = s.sec? v := rfl
@[simp] theorem State.modPoint_at_pad_ (p : Nat) (f : Point → Point) (v : Nat) : (s.modPoint p f).pad? v = s.pad? v := rfl
@[simp] theorem State.modPoint_at_unit_ (p : Nat) (f : Point → Point) (v : Nat) : (s.modPoint p f).unit? v = s.unit? v := rfl
@[simp] theorem State.modPoint_at_locOf (p : Nat) (f : Point → Point) (v : Nat) : (s.modPoint p f).locOf v = s.locOf v := rfl

@[simp] theorem State.modPad_at_tr (p : Nat) (f : Pad → Pad) (v : TId) : (s.modPad p f).tr v = s.tr v := rfl
@[simp] theorem State.modPad_at_route (p : Nat) (f : Pad → Pad) (v : TId) : (s.modPad p f).route v = s.route v := rfl
@[simp] theorem State.modPad_at_tl (p : Nat) (f : Pad → Pad) (v : TId) : (s.modPad p f).tl v = s.tl v := rfl
@[simp] theorem State.modPad_at_opsPort (p : Nat) (f : Pad → Pad) (v : OpsId) : (s.modPad p f).opsPort v = s.opsPort v := rfl
@[simp] theorem State.modPad_at_sec_ (p : Nat) (f : Pad → Pad) (v : Nat) : (s.modPad p f).sec? v = s.sec? v := rfl
@[simp] theorem State.modPad_at_point_ (p : Nat) (f : Pad → Pad) (v : Nat) : (s.modPad p f).point? v = s.point? v := rfl
@[simp] theorem State.modPad_at_unit_ (p : Nat) (f : Pad → Pad) (v : Nat) : (s.modPad p f).unit? v = s.unit? v := rfl
@[simp] theorem State.modPad_at_locOf (p : Nat) (f : Pad → Pad) (v : Nat) : (s.modPad p f).locOf v = s.locOf v := rfl

@[simp] theorem State.modUnit_at_tr (a : Nat) (f : UnitRec → UnitRec) (v : TId) : (s.modUnit a f).tr v = s.tr v := rfl
@[simp] theorem State.modUnit_at_route (a : Nat) (f : UnitRec → UnitRec) (v : TId) : (s.modUnit a f).route v = s.route v := rfl
@[simp] theorem State.modUnit_at_tl (a : Nat) (f : UnitRec → UnitRec) (v : TId) : (s.modUnit a f).tl v = s.tl v := rfl
@[simp] theorem State.modUnit_at_opsPort (a : Nat) (f : UnitRec → UnitRec) (v : OpsId) : (s.modUnit a f).opsPort v = s.opsPort v := rfl
@[simp] theorem State.modUnit_at_sec_ (a : Nat) (f : UnitRec → UnitRec) (v : Nat) : (s.modUnit a f).sec? v = s.sec? v := rfl
@[simp] theorem State.modUnit_at_point_ (a : Nat) (f : UnitRec → UnitRec) (v : Nat) : (s.modUnit a f).point? v = s.point? v := rfl
@[simp] theorem State.modUnit_at_pad_ (a : Nat) (f : UnitRec → UnitRec) (v : Nat) : (s.modUnit a f).pad? v = s.pad? v := rfl
@[simp] theorem State.modUnit_at_locOf (a : Nat) (f : UnitRec → UnitRec) (v : Nat) : (s.modUnit a f).locOf v = s.locOf v := rfl

@[simp] theorem State.modTr_at_route (t : TId) (f : Transporter → Transporter) (v : TId) : (s.modTr t f).route v = s.route v := rfl
@[simp] theorem State.modTr_at_tl (t : TId) (f : Transporter → Transporter) (v : TId) : (s.modTr t f).tl v = s.tl v := rfl
@[simp] theorem State.modTr_at_opsPort (t : TId) (f : Transporter → Transporter) (v : OpsId) : (s.modTr t f).opsPort v = s.opsPort v := rfl
@[simp] theorem State.modTr_at_sec_ (t : TId) (f : Transporter → Transporter) (v : Nat) : (s.modTr t f).sec? v = s.sec? v := rfl
@[simp] theorem State.modTr_at_point_ (t : TId) (f : Transporter → Transporter) (v : Nat) : (s.modTr t f).point? v = s.point? v := rfl
@[simp] theorem State.modTr_at_pad_ (t : TId) (f : Transporter → Transporter) (v : Nat) : (s.modTr t f).pad? v = s.pad? v := rfl
@[simp] theorem State.modTr_at_unit_ (t : TId) (f : Transporter → Transporter) (v : Nat) : (s.modTr t f).unit? v = s.unit? v := rfl
@[simp] theorem State.modTr_at_locOf (t : TId) (f : Transporter → Transporter) (v : Nat) : (s.modTr t f).locOf v = s.locOf v := rfl

@[simp] theorem State.modRoute_at_tr (t : TId) (f : RouteRecord → RouteRecord) (v : TId) : (s.modRoute t f).tr v = s.tr v := rfl
@[simp] theorem State.modRoute_at_tl (t : TId) (f : RouteRecord → RouteRecord) (v : TId) : (s.modRoute t f).tl v = s.tl v := rfl
@[simp] theorem State.modRoute_at_opsPort (t : TId) (f : RouteRecord → RouteRecord) (v : OpsId) : (s.modRoute t f).opsPort v = s.opsPort v := rfl
@[simp] theorem State.modRoute_at_sec_ (t : TId) (f : RouteRecord → RouteRecord) (v : Nat) : (s.modRoute t f).sec? v = s.sec? v := rfl
@[simp] theorem State.modRoute_at_point_ (t : TId) (f : RouteRecord → RouteRecord) (v : Nat) : (s.modRoute t f).point? v = s.point? v := rfl
@[simp] theorem State.modRoute_at_pad_ (t : TId) (f : RouteRecord → RouteRecord) (v : Nat) : (s.modRoute t f).pad? v = s.pad? v := rfl
@[simp] theorem State.modRoute_at_unit_ (t : TId) (f : RouteRecord → RouteRecord) (v : Nat) : (s.modRoute t f).unit? v = s.unit? v := rfl
@[simp] theorem State.modRoute_at_locOf (t : TId) (f : RouteRecord → RouteRecord) (v : Nat) : (s.modRoute t f).locOf v = s.locOf v := rfl

@[simp] theorem State.modTl_at_tr (t : TId) (f : TlPort → TlPort) (v : TId) : (s.modTl t f).tr v = s.tr v := rfl
@[simp] theorem State.modTl_at_route (t : TId) (f : TlPort → TlPort) (v : TId) : (s.modTl t f).route v = s.route v := rfl
@[simp] theorem State.modTl_at_opsPort (t : TId) (f : TlPort → TlPort) (v : OpsId) : (s.modTl t f).opsPort v = s.opsPort v := rfl
@[simp] theorem State.modTl_at_sec_ (t : TId) (f : TlPort → TlPort) (v : Nat) : (s.modTl t f).sec? v = s.sec? v := rfl
@[simp] theorem State.modTl_at_point_ (t : TId) (f : TlPort → TlPort) (v : Nat) : (s.modTl t f).point? v = s.point? v := rfl
@[simp] theorem State.modTl_at_pad_ (t : TId) (f : TlPort → TlPort) (v : Nat) : (s.modTl t f).pad? v = s.pad? v := rfl
@[simp] theorem State.modTl_at_unit_ (t : TId) (f : TlPort → TlPort) (v : Nat) : (s.modTl t f).unit? v = s.unit? v := rfl
@[simp] theorem State.modTl_at_locOf (t : TId) (f : TlPort → TlPort) (v : Nat) : (s.modTl t f).locOf v = s.locOf v := rfl

@[simp] theorem State.modOps_at_tr (l : OpsId) (f : OpsPort → OpsPort) (v : TId) : (s.modOps l f).tr v = s.tr v := rfl
@[simp] theorem State.modOps_at_route (l : OpsId) (f : OpsPort → OpsPort) (v : TId) : (s.modOps l f).route v = s.route v := rfl
@[simp] theorem State.modOps_at_tl (l : OpsId) (f : OpsPort → OpsPort) (v : TId) : (s.modOps l f).tl v = s.tl v := rfl
@[simp] theorem State.modOps_at_sec_ (l : OpsId) (f : OpsPort → OpsPort) (v : Nat) : (s.modOps l f).sec? v = s.sec? v := rfl
@[simp] theorem State.modOps_at_point_ (l : OpsId) (f : OpsPort → OpsPort) (v : Nat) : (s.modOps l f).point? v = s.point? v := rfl
@[simp] theorem State.modOps_at_pad_ (l : OpsId) (f : OpsPort → OpsPort) (v : Nat) : (s.modOps l f).pad? v = s.pad? v := rfl
@[simp] theorem State.modOps_at_unit_ (l : OpsId) (f : OpsPort → OpsPort) (v : Nat) : (s.modOps l f).unit? v = s.unit? v := rfl
@[simp] theorem State.modOps_at_locOf (l : OpsId) (f : OpsPort → OpsPort) (v : Nat) : (s.modOps l f).locOf v = s.locOf v := rfl

@[simp] theorem State.setCeiling_at_tr (t : TId) (c : Nat) (v : TId) : (s.setCeiling t c).tr v = s.tr v := rfl
@[simp] theorem State.setCeiling_at_route (t : TId) (c : Nat) (v : TId) : (s.setCeiling t c).route v = s.route v := rfl
@[simp] theorem State.setCeiling_at_tl (t : TId) (c : Nat) (v : TId) : (s.setCeiling t c).tl v = s.tl v := rfl
@[simp] theorem State.setCeiling_at_opsPort (t : TId) (c : Nat) (v : OpsId) : (s.setCeiling t c).opsPort v = s.opsPort v := rfl
@[simp] theorem State.setCeiling_at_sec_ (t : TId) (c : Nat) (v : Nat) : (s.setCeiling t c).sec? v = s.sec? v := rfl
@[simp] theorem State.setCeiling_at_point_ (t : TId) (c : Nat) (v : Nat) : (s.setCeiling t c).point? v = s.point? v := rfl
@[simp] theorem State.setCeiling_at_pad_ (t : TId) (c : Nat) (v : Nat) : (s.setCeiling t c).pad? v = s.pad? v := rfl
@[simp] theorem State.setCeiling_at_unit_ (t : TId) (c : Nat) (v : Nat) : (s.setCeiling t c).unit? v = s.unit? v := rfl
@[simp] theorem State.setCeiling_at_locOf (t : TId) (c : Nat) (v : Nat) : (s.setCeiling t c).locOf v = s.locOf v := rfl

@[simp] theorem State.setTransfer_at_tr (t : TId) (x : Option Transfer) (v : TId) : (s.setTransfer t x).tr v = s.tr v := rfl
@[simp] theorem State.setTransfer_at_route (t : TId) (x : Option Transfer) (v : TId) : (s.setTransfer t x).route v = s.route v := rfl
@[simp] theorem State.setTransfer_at_tl (t : TId) (x : Option Transfer) (v : TId) : (s.setTransfer t x).tl v = s.tl v := rfl
@[simp] theorem State.setTransfer_at_opsPort (t : TId) (x : Option Transfer) (v : OpsId) : (s.setTransfer t x).opsPort v = s.opsPort v := rfl
@[simp] theorem State.setTransfer_at_sec_ (t : TId) (x : Option Transfer) (v : Nat) : (s.setTransfer t x).sec? v = s.sec? v := rfl
@[simp] theorem State.setTransfer_at_point_ (t : TId) (x : Option Transfer) (v : Nat) : (s.setTransfer t x).point? v = s.point? v := rfl
@[simp] theorem State.setTransfer_at_pad_ (t : TId) (x : Option Transfer) (v : Nat) : (s.setTransfer t x).pad? v = s.pad? v := rfl
@[simp] theorem State.setTransfer_at_unit_ (t : TId) (x : Option Transfer) (v : Nat) : (s.setTransfer t x).unit? v = s.unit? v := rfl
@[simp] theorem State.setTransfer_at_locOf (t : TId) (x : Option Transfer) (v : Nat) : (s.setTransfer t x).locOf v = s.locOf v := rfl

@[simp] theorem State.modLine_at_tr (n : Fin 8) (f : StopLine → StopLine) (v : TId) : (s.modLine n f).tr v = s.tr v := rfl
@[simp] theorem State.modLine_at_route (n : Fin 8) (f : StopLine → StopLine) (v : TId) : (s.modLine n f).route v = s.route v := rfl
@[simp] theorem State.modLine_at_tl (n : Fin 8) (f : StopLine → StopLine) (v : TId) : (s.modLine n f).tl v = s.tl v := rfl
@[simp] theorem State.modLine_at_opsPort (n : Fin 8) (f : StopLine → StopLine) (v : OpsId) : (s.modLine n f).opsPort v = s.opsPort v := rfl
@[simp] theorem State.modLine_at_sec_ (n : Fin 8) (f : StopLine → StopLine) (v : Nat) : (s.modLine n f).sec? v = s.sec? v := rfl
@[simp] theorem State.modLine_at_point_ (n : Fin 8) (f : StopLine → StopLine) (v : Nat) : (s.modLine n f).point? v = s.point? v := rfl
@[simp] theorem State.modLine_at_pad_ (n : Fin 8) (f : StopLine → StopLine) (v : Nat) : (s.modLine n f).pad? v = s.pad? v := rfl
@[simp] theorem State.modLine_at_unit_ (n : Fin 8) (f : StopLine → StopLine) (v : Nat) : (s.modLine n f).unit? v = s.unit? v := rfl
@[simp] theorem State.modLine_at_locOf (n : Fin 8) (f : StopLine → StopLine) (v : Nat) : (s.modLine n f).locOf v = s.locOf v := rfl

@[simp] theorem State.setLoc_at_tr (k : Nat) (l : Location) (v : TId) : (s.setLoc k l).tr v = s.tr v := rfl
@[simp] theorem State.setLoc_at_route (k : Nat) (l : Location) (v : TId) : (s.setLoc k l).route v = s.route v := rfl
@[simp] theorem State.setLoc_at_tl (k : Nat) (l : Location) (v : TId) : (s.setLoc k l).tl v = s.tl v := rfl
@[simp] theorem State.setLoc_at_opsPort (k : Nat) (l : Location) (v : OpsId) : (s.setLoc k l).opsPort v = s.opsPort v := rfl
@[simp] theorem State.setLoc_at_sec_ (k : Nat) (l : Location) (v : Nat) : (s.setLoc k l).sec? v = s.sec? v := rfl
@[simp] theorem State.setLoc_at_point_ (k : Nat) (l : Location) (v : Nat) : (s.setLoc k l).point? v = s.point? v := rfl
@[simp] theorem State.setLoc_at_pad_ (k : Nat) (l : Location) (v : Nat) : (s.setLoc k l).pad? v = s.pad? v := rfl
@[simp] theorem State.setLoc_at_unit_ (k : Nat) (l : Location) (v : Nat) : (s.setLoc k l).unit? v = s.unit? v := rfl

@[simp] theorem State.trigger_at_tr (v : TId) : (s.trigger).tr v = s.tr v := rfl
@[simp] theorem State.trigger_at_route (v : TId) : (s.trigger).route v = s.route v := rfl
@[simp] theorem State.trigger_at_tl (v : TId) : (s.trigger).tl v = s.tl v := rfl
@[simp] theorem State.trigger_at_opsPort (v : OpsId) : (s.trigger).opsPort v = s.opsPort v := rfl
@[simp] theorem State.trigger_at_sec_ (v : Nat) : (s.trigger).sec? v = s.sec? v := rfl
@[simp] theorem State.trigger_at_point_ (v : Nat) : (s.trigger).point? v = s.point? v := rfl
@[simp] theorem State.trigger_at_pad_ (v : Nat) : (s.trigger).pad? v = s.pad? v := rfl
@[simp] theorem State.trigger_at_unit_ (v : Nat) : (s.trigger).unit? v = s.unit? v := rfl
@[simp] theorem State.trigger_at_locOf (v : Nat) : (s.trigger).locOf v = s.locOf v := rfl

@[simp] theorem State.enqueue_at_tr (cs : List BusCmd) (v : TId) : (s.enqueue cs).tr v = s.tr v := rfl
@[simp] theorem State.enqueue_at_route (cs : List BusCmd) (v : TId) : (s.enqueue cs).route v = s.route v := rfl
@[simp] theorem State.enqueue_at_tl (cs : List BusCmd) (v : TId) : (s.enqueue cs).tl v = s.tl v := rfl
@[simp] theorem State.enqueue_at_opsPort (cs : List BusCmd) (v : OpsId) : (s.enqueue cs).opsPort v = s.opsPort v := rfl
@[simp] theorem State.enqueue_at_sec_ (cs : List BusCmd) (v : Nat) : (s.enqueue cs).sec? v = s.sec? v := rfl
@[simp] theorem State.enqueue_at_point_ (cs : List BusCmd) (v : Nat) : (s.enqueue cs).point? v = s.point? v := rfl
@[simp] theorem State.enqueue_at_pad_ (cs : List BusCmd) (v : Nat) : (s.enqueue cs).pad? v = s.pad? v := rfl
@[simp] theorem State.enqueue_at_unit_ (cs : List BusCmd) (v : Nat) : (s.enqueue cs).unit? v = s.unit? v := rfl
@[simp] theorem State.enqueue_at_locOf (cs : List BusCmd) (v : Nat) : (s.enqueue cs).locOf v = s.locOf v := rfl

@[simp] theorem State.post_at_tr (b : NoticeBody) (v : TId) : (s.post b).tr v = s.tr v := rfl
@[simp] theorem State.post_at_route (b : NoticeBody) (v : TId) : (s.post b).route v = s.route v := rfl
@[simp] theorem State.post_at_tl (b : NoticeBody) (v : TId) : (s.post b).tl v = s.tl v := rfl
@[simp] theorem State.post_at_sec_ (b : NoticeBody) (v : Nat) : (s.post b).sec? v = s.sec? v := rfl
@[simp] theorem State.post_at_point_ (b : NoticeBody) (v : Nat) : (s.post b).point? v = s.point? v := rfl
@[simp] theorem State.post_at_pad_ (b : NoticeBody) (v : Nat) : (s.post b).pad? v = s.pad? v := rfl
@[simp] theorem State.post_at_unit_ (b : NoticeBody) (v : Nat) : (s.post b).unit? v = s.unit? v := rfl
@[simp] theorem State.post_at_locOf (b : NoticeBody) (v : Nat) : (s.post b).locOf v = s.locOf v := rfl

end Sys2Proof.Machine
end

