-- ==== Sys2Proof/Laws/Tables.lean ====
section
/-! SUPPORT. What the keyed tables do: a lookup after each update, the keys an update leaves, and that every update
keeps the one canonical form. -/

namespace Sys2Proof.Machine

variable {α : Type}

/-- The keys of a table, in order. -/
def Table.keys (t : Table α) : List Nat := t.map (·.1)

/-! ## Lookups -/

@[simp] theorem Table.find_put_self (t : Table α) (k : Nat) (v : α) : Table.find (Table.put t k v) k = some v := by
  induction t with
  | nil => simp [Table.put, Table.find]
  | cons p r ih =>
    obtain ⟨j, w⟩ := p
    unfold Table.put
    split
    · simp [Table.find]
    · split
      · simp [Table.find]
      · rename_i _ h
        have : ¬ j = k := fun e => h e.symm
        simp [Table.find, this, ih]

theorem Table.find_put_ne (t : Table α) {k m : Nat} (v : α) (h : m ≠ k) :
    Table.find (Table.put t k v) m = Table.find t m := by
  have h' : ¬ k = m := fun e => h e.symm
  induction t with
  | nil => simp [Table.put, Table.find, h']
  | cons p r ih =>
    obtain ⟨j, w⟩ := p
    unfold Table.put
    split
    · simp [Table.find, h']
    · split
      · rename_i hj
        subst hj
        simp [Table.find, h']
      · simp only [Table.find, ih]

@[simp] theorem Table.find_adjust_self (t : Table α) (k : Nat) (f : α → α) :
    Table.find (Table.adjust t k f) k = (Table.find t k).map f := by
  induction t with
  | nil => rfl
  | cons p r ih =>
    obtain ⟨j, w⟩ := p
    by_cases h : j = k <;> simp [Table.adjust, Table.find, h, ih]

theorem Table.find_adjust_ne (t : Table α) {k m : Nat} (f : α → α) (h : m ≠ k) :
    Table.find (Table.adjust t k f) m = Table.find t m := by
  induction t with
  | nil => rfl
  | cons p r ih =>
    obtain ⟨j, w⟩ := p
    by_cases hj : j = k
    · subst hj
      have : ¬ j = m := fun e => h e.symm
      simp [Table.adjust, Table.find, this]
    · simp [Table.adjust, Table.find, hj, ih]

theorem Table.find_drop_ne (t : Table α) {k m : Nat} (h : m ≠ k) :
    Table.find (Table.drop t k) m = Table.find t m := by
  induction t with
  | nil => rfl
  | cons p r ih =>
    obtain ⟨j, w⟩ := p
    by_cases hj : j = k
    · subst hj
      have : ¬ j = m := fun e => h e.symm
      simp [Table.drop, Table.find, this]
    · simp [Table.drop, Table.find, hj, ih]

@[simp] theorem Table.find_mapAll (t : Table α) (f : α → α) (k : Nat) :
    Table.find (Table.mapAll t f) k = (Table.find t k).map f := by
  induction t with
  | nil => rfl
  | cons p r ih =>
    obtain ⟨j, w⟩ := p
    have ih' : Table.find (List.map (fun p => (p.1, f p.2)) r) k = (Table.find r k).map f := ih
    by_cases h : j = k <;> simp [Table.mapAll, Table.find, h, ih']

/-- A record found stands in the table. -/
theorem Table.mem_of_find {t : Table α} {k : Nat} {v : α} (h : Table.find t k = some v) : (k, v) ∈ t := by
  induction t with
  | nil => simp [Table.find] at h
  | cons p r ih =>
    obtain ⟨j, w⟩ := p
    by_cases hj : j = k
    · simp only [Table.find, hj, if_true, Option.some.injEq] at h
      simp [hj, h]
    · simp only [Table.find, hj, if_false] at h
      exact List.mem_cons_of_mem _ (ih h)

/-! ## Keys -/

@[simp] theorem Table.keys_adjust (t : Table α) (k : Nat) (f : α → α) :
    Table.keys (Table.adjust t k f) = Table.keys t := by
  induction t with
  | nil => rfl
  | cons p r ih =>
    obtain ⟨j, w⟩ := p
    have ih' : List.map (fun p : Nat × α => p.1) (Table.adjust r k f) = List.map (fun p => p.1) r := ih
    by_cases h : j = k <;> simp [Table.adjust, Table.keys, h, ih']

@[simp] theorem Table.keys_mapAll (t : Table α) (f : α → α) : Table.keys (Table.mapAll t f) = Table.keys t := by
  simp [Table.keys, Table.mapAll, Function.comp_def]

/-! ## The canonical form -/

/-- The form says that the keys rise strictly. -/
theorem Table.wf_iff (t : Table α) : Table.wf t = true ↔ (Table.keys t).Pairwise (· < ·) := by
  induction t with
  | nil => simp [Table.wf, Table.keys]
  | cons p r ih =>
    cases r with
    | nil => simp [Table.wf, Table.keys]
    | cons q r =>
      have h : Table.wf (p :: q :: r) = (decide (p.1 < q.1) && Table.wf (q :: r)) := rfl
      have e : Table.keys (p :: q :: r) = p.1 :: Table.keys (q :: r) := rfl
      rw [h, e, List.pairwise_cons, Bool.and_eq_true, decide_eq_true_eq, ih]
      constructor
      · rintro ⟨hlt, hp⟩
        refine ⟨?_, hp⟩
        intro a ha
        have e' : Table.keys (q :: r) = q.1 :: Table.keys r := rfl
        rw [e'] at ha hp
        rcases List.mem_cons.mp ha with rfl | ha
        · exact hlt
        · exact lt_trans hlt ((List.pairwise_cons.mp hp).1 a ha)
      · rintro ⟨ha, hp⟩
        exact ⟨ha q.1 (by simp [Table.keys]), hp⟩

theorem Table.wf_adjust (t : Table α) (k : Nat) (f : α → α) :
    Table.wf (Table.adjust t k f) = Table.wf t := by
  rw [Bool.eq_iff_iff, Table.wf_iff, Table.wf_iff, Table.keys_adjust]

theorem Table.wf_mapAll (t : Table α) (f : α → α) : Table.wf (Table.mapAll t f) = Table.wf t := by
  rw [Bool.eq_iff_iff, Table.wf_iff, Table.wf_iff, Table.keys_mapAll]

/-- The keys after a write are the keys before and the key written. -/
theorem Table.mem_keys_put (t : Table α) (k : Nat) (v : α) (a : Nat) (h : a ∈ Table.keys (Table.put t k v)) :
    a = k ∨ a ∈ Table.keys t := by
  induction t with
  | nil => simpa [Table.put, Table.keys] using h
  | cons p r ih =>
    obtain ⟨j, w⟩ := p
    unfold Table.put at h
    split at h
    · simpa [Table.keys] using h
    · split at h
      · simp only [Table.keys, List.map_cons, List.mem_cons] at h ⊢
        tauto
      · simp only [Table.keys, List.map_cons, List.mem_cons] at h ⊢
        rcases h with h | h
        · exact .inr (.inl h)
        · rcases ih h with h | h
          · exact .inl h
          · exact .inr (.inr h)

theorem Table.wf_put {t : Table α} (h : Table.wf t = true) (k : Nat) (v : α) : Table.wf (Table.put t k v) = true := by
  rw [Table.wf_iff] at h ⊢
  induction t with
  | nil => simp [Table.put, Table.keys]
  | cons p r ih =>
    obtain ⟨j, w⟩ := p
    have hp : (∀ a ∈ Table.keys r, j < a) ∧ (Table.keys r).Pairwise (· < ·) := List.pairwise_cons.mp h
    have hc : ∀ (i : Nat) (x : α) (l : Table α), Table.keys ((i, x) :: l) = i :: Table.keys l := fun _ _ _ => rfl
    unfold Table.put
    split
    · rename_i hk
      rw [hc, hc, List.pairwise_cons]
      refine ⟨?_, h⟩
      intro a ha
      rcases List.mem_cons.mp ha with rfl | ha
      · exact hk
      · exact lt_trans hk (hp.1 a ha)
    · split
      · rename_i _ hk
        subst hk
        exact List.pairwise_cons.mpr hp
      · rename_i h1 h2
        rw [hc, List.pairwise_cons]
        refine ⟨?_, ih hp.2⟩
        intro a ha
        rcases Table.mem_keys_put r k v a ha with rfl | ha
        · omega
        · exact hp.1 a ha

theorem Table.keys_drop_sublist (t : Table α) (k : Nat) : (Table.keys (Table.drop t k)).Sublist (Table.keys t) := by
  induction t with
  | nil => exact List.Sublist.refl _
  | cons p r ih =>
    obtain ⟨j, w⟩ := p
    by_cases h : j = k
    · simp only [Table.drop, h, if_true]
      exact List.sublist_cons_self _ _
    · simp only [Table.drop, h, if_false]
      exact ih.cons_cons _

theorem Table.wf_drop {t : Table α} (h : Table.wf t = true) (k : Nat) : Table.wf (Table.drop t k) = true := by
  rw [Table.wf_iff] at h ⊢
  exact h.sublist (Table.keys_drop_sublist t k)

end Sys2Proof.Machine
end

