-- ==== Sys2Proof/Laws/Frames.lean ====
section
/-! SUPPORT. What the block's reactions leave alone. `State.ground` blanks the parts of the state that holdings, transfers,
queues and messages live in, and keeps the rest: definitions, detection, point positions, parameters, units, stop
lines, wind, the clock and the site. One lemma per shared operation says that it keeps the ground; the operations that
change detection or point positions keep `State.settings`, which blanks those too. -/

namespace Sys2Proof.Machine

/-- The state with holdings, locks, pads' and telescopes' runtime state, transporters, routes, queues and link ports
blanked. -/
def State.ground (s : State) : State :=
  { s with
    sections := Table.mapAll s.sections fun x => { x with hold := none }
    points := Table.mapAll s.points fun x => { x with lock := none }
    pads := Table.mapAll s.pads fun x => ⟨x.sec, x.stop, x.tol, x.addr, .vacant, none, .unknown, .unknown, false, .none⟩
    telescopes := []
    transfers := Vector.replicate 6 none
    trs := Vector.replicate 6 .initial
    routes := Vector.replicate 6 .empty
    ceilings := Vector.replicate 6 0
    waiting := []
    roomWait := false
    walkDue := false
    cmdQueue := []
    padWaiters := []
    tls := Vector.replicate 6 .initial
    opss := Vector.replicate 2 .initial }

/-- The ground with detection and the points' runtime fields blanked too. -/
def State.settings (s : State) : State :=
  { s.ground with
    sections := Table.mapAll s.sections fun x => ⟨x.defn, .unknown, 0, none⟩
    points := Table.mapAll s.points fun x => ⟨x.sec, x.addr, .unknown, none, none, none, none, none⟩ }

/-- A table keeps its masked form through a change that the mask does not see. -/
theorem Table.mapAll_adjust {α β : Type} (t : Table α) (k : Nat) (f : α → α) (g : α → β) (h : ∀ x, g (f x) = g x) :
    (Table.adjust t k f).map (fun p => (p.1, g p.2)) = t.map (fun p => (p.1, g p.2)) := by
  induction t with
  | nil => rfl
  | cons p r ih =>
    obtain ⟨j, w⟩ := p
    by_cases hj : j = k
    · simp [Table.adjust, hj, h]
    · simp [Table.adjust, hj, ih]

/-- Equal grounds have equal settings. -/
theorem State.settings_of_ground {s t : State} (h : s.ground = t.ground) : s.settings = t.settings := by
  have e : ∀ u : State, u.settings = u.ground.settings := by
    intro u
    simp [State.settings, State.ground, Table.mapAll, Function.comp_def]
  rw [e s, e t, h]

/-- A fold keeps what each of its steps keeps. -/
theorem foldl_keeps {α β : Type} (g : State → β) (f : State → α → State) (h : ∀ s a, g (f s a) = g s) (l : List α)
    (s : State) : g (l.foldl f s) = g s := by
  induction l generalizing s with
  | nil => rfl
  | cons a l ih => rw [List.foldl_cons, ih, h]

/-! ## Reading a field through a kept ground -/

variable {s t : State}

theorem State.ground_pending (h : t.ground = s.ground) : t.pending = s.pending :=
  (congrArg State.pending h :)
theorem State.ground_site (h : t.ground = s.ground) : t.site = s.site :=
  (congrArg State.site h :)
theorem State.ground_resetCause (h : t.ground = s.ground) : t.resetCause = s.resetCause :=
  (congrArg State.resetCause h :)
theorem State.ground_resetHold (h : t.ground = s.ground) : t.resetHold = s.resetHold :=
  (congrArg State.resetHold h :)
theorem State.ground_clock (h : t.ground = s.ground) : t.clock = s.clock :=
  (congrArg State.clock h :)
theorem State.ground_allStop (h : t.ground = s.ground) : t.allStop = s.allStop :=
  (congrArg State.allStop h :)
theorem State.ground_params (h : t.ground = s.ground) : t.params = s.params :=
  (congrArg State.params h :)
theorem State.ground_units (h : t.ground = s.ground) : t.units = s.units :=
  (congrArg State.units h :)
theorem State.ground_restoreList (h : t.ground = s.ground) : t.restoreList = s.restoreList :=
  (congrArg State.restoreList h :)
theorem State.ground_pollPos (h : t.ground = s.ground) : t.pollPos = s.pollPos :=
  (congrArg State.pollPos h :)
theorem State.ground_forced (h : t.ground = s.ground) : t.forced = s.forced :=
  (congrArg State.forced h :)
theorem State.ground_exchange (h : t.ground = s.ground) : t.exchange = s.exchange :=
  (congrArg State.exchange h :)
theorem State.ground_lines (h : t.ground = s.ground) : t.lines = s.lines :=
  (congrArg State.lines h :)
theorem State.ground_band (h : t.ground = s.ground) : t.band = s.band :=
  (congrArg State.band h :)
theorem State.ground_gust (h : t.ground = s.ground) : t.gust = s.gust :=
  (congrArg State.gust h :)
theorem State.ground_mean (h : t.ground = s.ground) : t.mean = s.mean :=
  (congrArg State.mean h :)
theorem State.ground_mastHold (h : t.ground = s.ground) : t.mastHold = s.mastHold :=
  (congrArg State.mastHold h :)
theorem State.settings_pending (h : t.settings = s.settings) : t.pending = s.pending :=
  (congrArg State.pending h :)
theorem State.settings_site (h : t.settings = s.settings) : t.site = s.site :=
  (congrArg State.site h :)
theorem State.settings_resetCause (h : t.settings = s.settings) : t.resetCause = s.resetCause :=
  (congrArg State.resetCause h :)
theorem State.settings_resetHold (h : t.settings = s.settings) : t.resetHold = s.resetHold :=
  (congrArg State.resetHold h :)
theorem State.settings_clock (h : t.settings = s.settings) : t.clock = s.clock :=
  (congrArg State.clock h :)
theorem State.settings_allStop (h : t.settings = s.settings) : t.allStop = s.allStop :=
  (congrArg State.allStop h :)
theorem State.settings_params (h : t.settings = s.settings) : t.params = s.params :=
  (congrArg State.params h :)
theorem State.settings_units (h : t.settings = s.settings) : t.units = s.units :=
  (congrArg State.units h :)
theorem State.settings_restoreList (h : t.settings = s.settings) : t.restoreList = s.restoreList :=
  (congrArg State.restoreList h :)
theorem State.settings_pollPos (h : t.settings = s.settings) : t.pollPos = s.pollPos :=
  (congrArg State.pollPos h :)
theorem State.settings_forced (h : t.settings = s.settings) : t.forced = s.forced :=
  (congrArg State.forced h :)
theorem State.settings_exchange (h : t.settings = s.settings) : t.exchange = s.exchange :=
  (congrArg State.exchange h :)
theorem State.settings_lines (h : t.settings = s.settings) : t.lines = s.lines :=
  (congrArg State.lines h :)
theorem State.settings_band (h : t.settings = s.settings) : t.band = s.band :=
  (congrArg State.band h :)
theorem State.settings_gust (h : t.settings = s.settings) : t.gust = s.gust :=
  (congrArg State.gust h :)
theorem State.settings_mean (h : t.settings = s.settings) : t.mean = s.mean :=
  (congrArg State.mean h :)
theorem State.settings_mastHold (h : t.settings = s.settings) : t.mastHold = s.mastHold :=
  (congrArg State.mastHold h :)

/-- Detection and definitions through a kept ground. -/
theorem State.ground_sec (h : t.ground = s.ground) (n : Nat) :
    (t.sec? n).map (fun x => (x.defn, x.det, x.capture)) = (s.sec? n).map fun x => (x.defn, x.det, x.capture) := by
  have e : t.ground.sections = s.ground.sections := congrArg State.sections h
  have e' := congrArg (fun l => (Table.find l n).map fun x : Section => (x.defn, x.det, x.capture)) e
  simpa [State.ground, State.sec?, Table.find_mapAll, Option.map_map, Function.comp_def] using e'

/-- A point's fields but its lock through a kept ground. -/
theorem State.ground_point (h : t.ground = s.ground) (p : Nat) :
    (t.point? p).map (fun x => { x with lock := none }) = (s.point? p).map fun x => { x with lock := none } := by
  have e : t.ground.points = s.ground.points := congrArg State.points h
  have e' := congrArg (fun l => Table.find l p) e
  simpa [State.ground, State.point?, Table.find_mapAll] using e'

/-- The keys of the definition tables through kept settings. -/
theorem State.settings_keys (h : t.settings = s.settings) :
    Table.keys t.sections = Table.keys s.sections ∧ Table.keys t.points = Table.keys s.points ∧
    Table.keys t.pads = Table.keys s.pads := by
  have a := congrArg (fun u : State => Table.keys u.sections) h
  have b := congrArg (fun u : State => Table.keys u.points) h
  have c := congrArg (fun u : State => Table.keys u.pads) h
  refine ⟨?_, ?_, ?_⟩
  · simpa [State.settings] using a
  · simpa [State.settings] using b
  · simpa [State.settings, State.ground] using c

/-! ## The plain updates -/

theorem State.modSec_ground (s : State) (n : Nat) (f : Section → Section)
    (h : ∀ x, { f x with hold := none } = { x with hold := none }) : (s.modSec n f).ground = s.ground := by
  simp [State.modSec, State.ground, Table.mapAll, Table.mapAll_adjust _ _ _ (fun x : Section => { x with hold := none }) h]

theorem State.modPoint_ground (s : State) (p : Nat) (f : Point → Point)
    (h : ∀ x, { f x with lock := none } = { x with lock := none }) : (s.modPoint p f).ground = s.ground := by
  simp [State.modPoint, State.ground, Table.mapAll, Table.mapAll_adjust _ _ _ (fun x : Point => { x with lock := none }) h]

theorem State.modPad_ground (s : State) (p : Nat) (f : Pad → Pad)
    (h : ∀ x, ((f x).sec, (f x).stop, (f x).tol, (f x).addr) = (x.sec, x.stop, x.tol, x.addr)) :
    (s.modPad p f).ground = s.ground := by
  have e := Table.mapAll_adjust s.pads p f
    (fun x => (⟨x.sec, x.stop, x.tol, x.addr, .vacant, none, .unknown, .unknown, false, .none⟩ : Pad)) (by
      intro x
      have := h x
      simp only [Prod.mk.injEq] at this
      simp [this.1, this.2.1, this.2.2.1, this.2.2.2])
  simp [State.modPad, State.ground, Table.mapAll, e]

theorem State.modSec_settings (s : State) (n : Nat) (f : Section → Section) (h : ∀ x, (f x).defn = x.defn) :
    (s.modSec n f).settings = s.settings := by
  have e := Table.mapAll_adjust s.sections n f (fun x => (⟨x.defn, .unknown, 0, none⟩ : Section)) (by intro x; simp [h])
  simp only [State.modSec, State.settings, State.ground, Table.mapAll, e]

theorem State.modPoint_settings (s : State) (p : Nat) (f : Point → Point)
    (h : ∀ x, ((f x).sec, (f x).addr) = (x.sec, x.addr)) : (s.modPoint p f).settings = s.settings := by
  have e := Table.mapAll_adjust s.points p f
    (fun x => (⟨x.sec, x.addr, .unknown, none, none, none, none, none⟩ : Point)) (by
      intro x
      have := h x
      simp only [Prod.mk.injEq] at this
      simp [this.1, this.2])
  simp [State.modPoint, State.settings, State.ground, Table.mapAll, e]

@[simp] theorem State.setHold_ground (s : State) (n : Nat) (h : Option Hold) : (s.setHold n h).ground = s.ground :=
  State.modSec_ground s n _ fun _ => rfl

@[simp] theorem State.modTr_ground (s : State) (u : TId) (f : Transporter → Transporter) : (s.modTr u f).ground = s.ground := rfl
@[simp] theorem State.modRoute_ground (s : State) (u : TId) (f : RouteRecord → RouteRecord) : (s.modRoute u f).ground = s.ground := rfl
@[simp] theorem State.modTl_ground (s : State) (u : TId) (f : TlPort → TlPort) : (s.modTl u f).ground = s.ground := rfl
@[simp] theorem State.modOps_ground (s : State) (l : OpsId) (f : OpsPort → OpsPort) : (s.modOps l f).ground = s.ground := rfl
@[simp] theorem State.setCeiling_ground (s : State) (u : TId) (c : Nat) : (s.setCeiling u c).ground = s.ground := rfl
@[simp] theorem State.setTransfer_ground (s : State) (u : TId) (x : Option Transfer) : (s.setTransfer u x).ground = s.ground := rfl
@[simp] theorem State.setLoc_ground (s : State) (k : Nat) (l : Location) : (s.setLoc k l).ground = s.ground := rfl
@[simp] theorem State.enqueue_ground (s : State) (cs : List BusCmd) : (s.enqueue cs).ground = s.ground := rfl
@[simp] theorem State.trigger_ground (s : State) : (s.trigger).ground = s.ground := rfl
@[simp] theorem State.post_ground (s : State) (b : NoticeBody) : (s.post b).ground = s.ground := rfl
@[simp] theorem State.reply_ground (s : State) (l : OpsId) (tag cmd : Byte) (r : Reason) (d : List Byte) : (s.reply l tag cmd r d).ground = s.ground := rfl
@[simp] theorem State.refuse_ground (s : State) (u : TId) (ty : Byte) (r : Reason) : (s.refuse u ty r).ground = s.ground := rfl
@[simp] theorem State.placeXfer_ground (s : State) (u : TId) (m : XferMsg) : (s.placeXfer u m).ground = s.ground := rfl
@[simp] theorem State.formAuth_ground (s : State) (u : TId) : (s.formAuth u).ground = s.ground := rfl
@[simp] theorem State.bumpAuth_ground (s : State) (u : TId) : (s.bumpAuth u).ground = s.ground := rfl
@[simp] theorem State.leaveQueue_ground (s : State) (u : TId) : (s.leaveQueue u).ground = s.ground := rfl
@[simp] theorem State.reloadWait_ground (s : State) (u : TId) : (s.reloadWait u).ground = s.ground := rfl
@[simp] theorem State.dropTail_ground (s : State) (u : TId) : (s.dropTail u).ground = s.ground := rfl
@[simp] theorem State.finalToEnd_ground (s : State) (u : TId) : (s.finalToEnd u).ground = s.ground := rfl
@[simp] theorem State.clearKeep_ground (s : State) (u : TId) : (s.clearKeep u).ground = s.ground := rfl
@[simp] theorem State.addTrips_ground (s : State) (u : TId) (cs : List TripCause) : (s.addTrips u cs).ground = s.ground := rfl
@[simp] theorem State.postTripped_ground (s : State) (u : TId) (cs : List TripCause) : (s.postTripped u cs).ground = s.ground := rfl
@[simp] theorem State.postClampFailed_ground (s : State) (n : Nat) : (s.postClampFailed n).ground = s.ground := rfl
@[simp] theorem State.postGranted_ground (s : State) (u : TId) (l : List Nat) : (s.postGranted u l).ground = s.ground := rfl
@[simp] theorem State.modCore_ground (s : State) (l : PortId) (f : PortCore → PortCore) :
    (s.modCore l f).ground = s.ground := by cases l <;> rfl

/-! ## The shared operations -/

@[simp] theorem State.recompute_ground (s : State) (u : TId) :
    (s.recompute u).ground = s.ground := by
  unfold State.recompute
  repeat' split
  all_goals simp

@[simp] theorem State.evalStop_ground (s : State) (u : TId) :
    (s.evalStop u).ground = s.ground := by
  unfold State.evalStop
  dsimp only
  repeat' split
  all_goals simp

theorem State.forT_ground (s : State) (f : TId → State → State) (h : ∀ u s, (f u s).ground = s.ground) :
    (s.forT f).ground = s.ground := foldl_keeps _ _ (fun s u => h u s) _ _

@[simp] theorem State.evalAll_ground (s : State) : s.evalAll.ground = s.ground :=
  State.forT_ground _ _ fun u s => State.evalStop_ground s u

@[simp] theorem State.markQueued_ground (s : State) (r : Requester) :
    (s.markQueued r).ground = s.ground := by
  unfold State.markQueued
  split
  · simp
  · exact State.modPad_ground _ _ _ fun _ => rfl
  · rfl
  · rfl

@[simp] theorem State.setPadWaiters_ground (s : State) (l : List Requester) :
    (({ s with padWaiters := l } : State)).ground = s.ground := by
  rfl

@[simp] theorem State.setCmdQueue_ground (s : State) (l : List BusCmd) :
    (({ s with cmdQueue := l } : State)).ground = s.ground := by
  rfl

@[simp] theorem State.setRoomWait_ground (s : State) (b : Bool) :
    (({ s with roomWait := b } : State)).ground = s.ground := by
  rfl

@[simp] theorem State.setWaiting_ground (s : State) (l : List Waiting) :
    (({ s with waiting := l } : State)).ground = s.ground := by
  rfl

@[simp] theorem State.reofferOne_ground (s : State) (r : Requester) :
    (s.reofferOne r).ground = s.ground := by
  unfold State.reofferOne
  repeat' split
  all_goals simp

@[simp] theorem State.commandExit_ground (s : State) :
    (s.commandExit).ground = s.ground := by
  unfold State.commandExit
  have h : ∀ l (s : State), (List.foldl (fun s r => s.reofferOne r) s l).ground = s.ground :=
    fun l s => foldl_keeps _ _ (fun s r => State.reofferOne_ground s r) l s
  dsimp only
  split <;> simp [h]

@[simp] theorem State.offerPad_ground (s : State) (r : Requester) :
    (s.offerPad r).ground = s.ground := by
  unfold State.offerPad
  dsimp only
  repeat' split
  all_goals first | simp | exact State.modPad_ground _ _ _ fun _ => rfl

@[simp] theorem State.withdrawPad_ground (s : State) (r : Requester) :
    (s.withdrawPad r).ground = s.ground := by
  unfold State.withdrawPad
  dsimp only
  split
  · rw [State.commandExit_ground]
    rfl
  · rfl

@[simp] theorem State.openWatch_ground (s : State) (n : Nat) :
    (s.openWatch n).ground = s.ground := by
  simp [State.openWatch]

@[simp] theorem State.failWatch_ground (s : State) (n : Nat) :
    (s.failWatch n).ground = s.ground := by
  unfold State.failWatch
  repeat' split
  · rfl
  · rw [State.postClampFailed_ground, State.modPad_ground]
    · rfl
    · exact fun _ => rfl
  · rfl

@[simp] theorem State.joinQueue_ground (s : State) (u : TId) :
    (s.joinQueue u).ground = s.ground := by
  unfold State.joinQueue
  split <;> simp

@[simp] theorem State.dropSettingRaw_ground (s : State) (u : TId) :
    (s.dropSettingRaw u).ground = s.ground := by
  unfold State.dropSettingRaw
  split
  · rfl
  · rw [State.trigger_ground, foldl_keeps State.ground _ (fun s e => State.setHold_ground s _ _)]

@[simp] theorem State.dropSetting_ground (s : State) (u : TId) :
    (s.dropSetting u).ground = s.ground := by
  unfold State.dropSetting
  split <;> simp

@[simp] theorem State.withdrawRoute_ground (s : State) (u : TId) :
    (s.withdrawRoute u).ground = s.ground := by
  simp [State.withdrawRoute]

@[simp] theorem State.unlockPoint_ground (s : State) (u : TId) (n : Nat) :
    (s.unlockPoint u n).ground = s.ground := by
  unfold State.unlockPoint
  split
  · split
    · exact State.modPoint_ground _ _ _ fun _ => rfl
    · rfl
  · rfl

@[simp] theorem State.lockPoint_ground (s : State) (u : TId) (n : Nat) :
    (s.lockPoint u n).ground = s.ground := by
  unfold State.lockPoint
  split
  · exact State.modPoint_ground _ _ _ fun _ => rfl
  · rfl

@[simp] theorem State.release_ground (s : State) (u : TId) (e : Entry) (c : ReleaseCause) (k : Bool) :
    (s.release u e c k).ground = s.ground := by
  unfold State.release
  dsimp only
  split <;> simp

@[simp] theorem State.releaseAll_ground (s : State) (u : TId) (es : List Entry) (c : ReleaseCause) (k : Bool) :
    (s.releaseAll u es c k).ground = s.ground := by
  exact foldl_keeps State.ground _ (fun s e => State.release_ground s u e c k) es s

@[simp] theorem cascadeFrom_ground (u : TId) (n : Nat) (s : State) : (cascadeFrom u n s).ground = s.ground := by
  induction n generalizing s with
  | zero => rfl
  | succ n ih =>
    unfold cascadeFrom
    split
    · rw [ih, State.release_ground]
    · rfl

@[simp] theorem State.cascade_ground (s : State) (u : TId) : (s.cascade u).ground = s.ground := cascadeFrom_ground _ _ _

@[simp] theorem State.moveEnd_ground (s : State) (u : TId) (c : RoutePos) :
    (s.moveEnd u c).ground = s.ground := by
  unfold State.moveEnd
  dsimp only
  rw [foldl_keeps State.ground]
  · simp
  · intro s e
    exact State.modSec_ground _ _ _ fun _ => rfl

@[simp] theorem State.enterTripped_ground (s : State) (u : TId) (cs : List TripCause) :
    (s.enterTripped u cs).ground = s.ground := by
  simp [State.enterTripped]

@[simp] theorem State.trip_ground (s : State) (u : TId) (c : TripCause) :
    (s.trip u c).ground = s.ground := by
  unfold State.trip
  split <;> simp

@[simp] theorem State.obstructAhead_ground (s : State) (u : TId) (k : Nat) :
    (s.obstructAhead u k).ground = s.ground := by
  unfold State.obstructAhead
  dsimp only
  repeat' split
  all_goals simp

@[simp] theorem State.obstruct_ground (s : State) (n : Nat) (b : Bool) :
    (s.obstruct n b).ground = s.ground := by
  unfold State.obstruct
  dsimp only
  repeat' split
  all_goals simp

@[simp] theorem State.examine_ground (s : State) (u : TId) :
    (s.examine u).ground = s.ground := by
  unfold State.examine
  repeat' split
  all_goals simp

@[simp] theorem State.beginStage_ground (s : State) (u : TId) (x : Transfer) (g : Stage) :
    (s.beginStage u x g).ground = s.ground := by
  unfold State.beginStage
  split <;> simp

@[simp] theorem State.parkFromTransfer_ground (s : State) (u : TId) :
    (s.parkFromTransfer u).ground = s.ground := by
  unfold State.parkFromTransfer
  dsimp only
  split <;> simp

@[simp] theorem State.completeTransfer_ground (s : State) (u : TId) (x : Transfer) :
    (s.completeTransfer u x).ground = s.ground := by
  unfold State.completeTransfer
  dsimp only
  split
  · simp [State.modPad_ground]
  · simp [State.modPad_ground]

@[simp] theorem State.endStage_ground (s : State) (u : TId) (x : Transfer) :
    (s.endStage u x).ground = s.ground := by
  unfold State.endStage
  split <;> simp

@[simp] theorem State.abortClean_ground (s : State) (u : TId) (x : Transfer) (c : AbortCause) :
    (s.abortClean u x c).ground = s.ground := by
  unfold State.abortClean
  dsimp only
  repeat' split
  all_goals simp [State.modPad_ground]

@[simp] theorem State.abortIndeterminate_ground (s : State) (u : TId) (x : Transfer) (c : AbortCause) :
    (s.abortIndeterminate u x c).ground = s.ground := by
  simp [State.abortIndeterminate, State.modPad_ground]

@[simp] theorem State.abort_ground (s : State) (u : TId) (c : AbortCause) :
    (s.abort u c).ground = s.ground := by
  unfold State.abort
  repeat' split
  all_goals simp

@[simp] theorem State.tripAny_ground (s : State) (u : TId) (c : TripCause) :
    (s.tripAny u c).ground = s.ground := by
  unfold State.tripAny
  repeat' split
  all_goals simp

@[simp] theorem State.transferReply_ground (s : State) (u : TId) (c : Clamp) (l : Load) :
    (s.transferReply u c l).ground = s.ground := by
  unfold State.transferReply
  dsimp only
  repeat' split
  all_goals simp

@[simp] theorem State.postDetection_ground (s : State) (c : DetChange) :
    (s.postDetection c).ground = s.ground := by
  unfold State.postDetection
  repeat' split
  all_goals simp

@[simp] theorem State.handDetection_ground (s : State) (c : DetChange) :
    (s.handDetection c).ground = s.ground := by
  unfold State.handDetection
  dsimp only
  repeat' split
  all_goals simp

@[simp] theorem State.grantUnit_ground (s : State) (u : TId) (es : List Entry) :
    (s.grantUnit u es).ground = s.ground := by
  unfold State.grantUnit
  rw [State.evalStop_ground, foldl_keeps State.ground _ (fun s e => by simp)]

@[simp] theorem State.reserveUnit_ground (s : State) (u : TId) (es : List Entry) :
    (s.reserveUnit u es).ground = s.ground := by
  unfold State.reserveUnit
  rw [State.evalStop_ground, foldl_keeps State.ground _ (fun s e => by split <;> simp)]

@[simp] theorem prefixGrant_ground (u : TId) (n : Nat) (s : State) : (prefixGrant u n s).1.ground = s.ground := by
  induction n generalizing s with
  | zero => rfl
  | succ n ih =>
    unfold prefixGrant
    dsimp only
    repeat' split
    all_goals simp [ih]

@[simp] theorem State.leaveParked_ground (s : State) (u : TId) :
    (s.leaveParked u).ground = s.ground := by
  unfold State.leaveParked
  repeat' split
  all_goals simp

@[simp] theorem State.completeGrant_ground (s : State) (u : TId) (l : List Nat) :
    (s.completeGrant u l).ground = s.ground := by
  unfold State.completeGrant
  dsimp only
  split <;> simp

@[simp] theorem State.evaluate_ground (s : State) (u : TId) :
    (s.evaluate u).ground = s.ground := by
  unfold State.evaluate
  dsimp only
  split <;> simp

@[simp] theorem State.walkOne_ground (s : State) (u : TId) :
    (s.walkOne u).ground = s.ground := by
  unfold State.walkOne
  split <;> simp

@[simp] theorem State.walkOnce_ground (s : State) :
    (s.walkOnce).ground = s.ground := by
  unfold State.walkOnce
  split
  · rfl
  · rw [foldl_keeps State.ground _ (fun s u => State.walkOne_ground s u)]
    rfl

/-- A walk with its further walks is a number of walks in a row: all but the last raised a trigger, and the last raised
none unless the fuel was used up (R63). -/
theorem walkFrom_eq (n : Nat) (s : State) : ∃ k ≤ n, walkFrom n s = State.walkOnce^[k + 1] s ∧
    (∀ j < k, (State.walkOnce^[j + 1] s).walkDue = true) ∧ (k < n → (walkFrom n s).walkDue = false) := by
  induction n generalizing s with
  | zero => exact ⟨0, Nat.le_refl _, rfl, fun _ h => absurd h (Nat.not_lt_zero _), fun h => absurd h (Nat.not_lt_zero _)⟩
  | succ n ih =>
    unfold walkFrom
    split
    · obtain ⟨k, hk, he, hd, hl⟩ := ih s.walkOnce
      refine ⟨k + 1, by omega, he, fun j hj => ?_, fun h => hl (by omega)⟩
      cases j with
      | zero => assumption
      | succ j => exact hd j (by omega)
    · next h => exact ⟨0, by omega, rfl, fun _ h => absurd h (Nat.not_lt_zero _), fun _ => by simpa using h⟩

@[simp] theorem walkFrom_ground (n : Nat) (s : State) : (walkFrom n s).ground = s.ground := by
  induction n generalizing s with
  | zero => simp [walkFrom]
  | succ n ih => unfold walkFrom; split <;> simp [ih]

@[simp] theorem State.walk_ground (s : State) :
    (s.walk).ground = s.ground := walkFrom_ground _ s

@[simp] theorem State.zoneStop_ground (s : State) (n : Fin 8) :
    (s.zoneStop n).ground = s.ground := by
  unfold State.zoneStop
  dsimp only
  rw [State.evalAll_ground, State.forT_ground]
  · simp
  · intro u s
    split <;> simp

@[simp] theorem State.zoneFree_ground (s : State) (n : Fin 8) (c : ClearCause) :
    (s.zoneFree n c).ground = s.ground := by
  simp [State.zoneFree]

/-! ## Detection, points and the bus -/

theorem State.settings_congr {u : State} (h : t.ground = u.ground) (h' : u.settings = s.settings) :
    t.settings = s.settings := (State.settings_of_ground h).trans h'

theorem State.setDet_settings (s : State) (n : Nat) (d : Detection) : (s.setDet n d).1.settings = s.settings := by
  unfold State.setDet
  repeat' split
  · rfl
  · exact State.modSec_settings _ _ _ fun _ => rfl
  · rfl

theorem State.applyDets_settings (l : List (Nat × Detection)) (s : State) : (s.applyDets l).1.settings = s.settings := by
  induction l generalizing s with
  | nil => rfl
  | cons p r ih =>
    obtain ⟨n, d⟩ := p
    simp only [State.applyDets]
    rw [ih, State.setDet_settings]

theorem State.handAll_ground (l : List DetChange) (s : State) : (l.foldl State.handDetection s).ground = s.ground :=
  foldl_keeps _ _ State.handDetection_ground _ _

theorem State.detectorReply_settings (s : State) (a : Nat) (rs : List Detection) :
    (s.detectorReply a rs).settings = s.settings := by
  unfold State.detectorReply
  dsimp only
  refine State.settings_congr (State.handAll_ground _ _) ?_
  exact State.settings_congr (foldl_keeps _ _ State.postDetection_ground _ _) (State.applyDets_settings _ s)

theorem State.detectorSilent_settings (s : State) (a : Nat) : (s.detectorSilent a).settings = s.settings :=
  State.settings_congr (State.handAll_ground _ _) (State.applyDets_settings _ s)

theorem State.faultPoint_settings (s : State) (p : Nat) (c : FaultCause) (q : PointPos) (d : Option PointPos) :
    (s.faultPoint p c q d).settings = s.settings := by
  unfold State.faultPoint
  dsimp only
  repeat' split
  · rfl
  · exact State.modPoint_settings _ _ _ fun _ => rfl
  · rw [State.settings_of_ground (State.obstruct_ground _ _ _), State.settings_of_ground (State.post_ground _ _)]
    exact State.modPoint_settings _ _ _ fun _ => rfl

theorem State.pointReading_settings (s : State) (p : Nat) (r : Option Blade) :
    (s.pointReading p r).settings = s.settings := by
  unfold State.pointReading
  repeat' split
  all_goals first
    | rfl
    | exact State.modPoint_settings _ _ _ fun _ => rfl
    | exact State.faultPoint_settings _ _ _ _ _
    | (rw [State.settings_of_ground (State.trigger_ground _), State.settings_of_ground (State.post_ground _ _)]
       exact State.modPoint_settings _ _ _ fun _ => rfl)

theorem State.throwSent_settings (s : State) (c : BusCmd) : (s.throwSent c).settings = s.settings := by
  unfold State.throwSent
  split
  · exact State.modPoint_settings _ _ _ fun _ => rfl
  · rfl

theorem State.tellSent_settings (s : State) (c : BusCmd) : (s.tellSent c).settings = s.settings := by
  unfold State.tellSent
  split
  · exact State.throwSent_settings s c
  · exact State.throwSent_settings s c
  · exact State.settings_of_ground (by simp)
  · exact State.settings_of_ground (State.modPad_ground _ _ _ fun _ => rfl)

end Sys2Proof.Machine
end

