-- ==== Sys2Proof/Laws/Intake.lean ====
section
/-! SUPPORT. What taking a frame command does: at a quiet port the owner sees the state as it was (R171, R172, R176). -/

namespace Sys2Proof.Machine

theorem State.live_eq {s : State} (h : s.resetHold = none) (f : State → State) : s.live f = f s := by
  simp [State.live, h]

/-- The two halves of a port change join. -/
theorem State.modCore_modCore (s : State) (l : PortId) (f g : PortCore → PortCore) :
    (s.modCore l f).modCore l g = s.modCore l fun c => g (f c) := by
  cases l <;> simp [State.modCore, State.modTl, State.modOps, upd_upd]

/-- A port change that changes nothing. -/
theorem State.modCore_id (s : State) (l : PortId) (f : PortCore → PortCore) (h : f (s.core l) = s.core l) :
    s.modCore l f = s := by
  cases l with
  | tl t =>
    simp only [State.core, State.tl] at h
    simp only [State.modCore, State.modTl]
    rw [upd_id]
    show ({ s.tls[t] with core := f s.tls[t].core } : TlPort) = s.tls[t]
    rw [h]
  | ops o =>
    simp only [State.core, State.opsPort] at h
    simp only [State.modCore, State.modOps]
    rw [upd_id]
    show ({ s.opss[o] with core := f s.opss[o].core } : OpsPort) = s.opss[o]
    rw [h]

@[simp] theorem State.modCore_params (s : State) (l : PortId) (f : PortCore → PortCore) :
    (s.modCore l f).params = s.params := by cases l <;> rfl

@[simp] theorem State.modCore_resetHold (s : State) (l : PortId) (f : PortCore → PortCore) :
    (s.modCore l f).resetHold = s.resetHold := by cases l <;> rfl

/-- A frame that joins an empty queue in GO and is taken leaves the port as it was. -/
theorem State.receive_take {s : State} {l : PortId} (f : Frame) (h : s.Quiet l) :
    (s.receiveFrame l f).takeFrame l = s := by
  obtain ⟨-, hrx, hgo, hup⟩ := h
  have hlt : (s.core l).rx.length < Config.rxCapacity := by simp [hrx, Config.rxCapacity]
  unfold State.receiveFrame State.takeFrame
  rw [if_pos hlt, State.modCore_params, State.modCore_modCore]
  apply State.modCore_id
  have e : ¬ s.params.linkHoldUpper ≤ 1 := by omega
  generalize s.core l = c at hrx hgo
  cases c
  simp only at hrx hgo
  subst hrx hgo
  simp [PortCore.flowAfterFrame, PortCore.flowDown, e]

@[simp] theorem State.core_modCore (s : State) (l : PortId) (f : PortCore → PortCore) :
    (s.modCore l f).core l = f (s.core l) := by
  cases l <;> simp [State.modCore, State.core]

/-- A frame that arrives at an empty queue waits there alone. -/
theorem State.receiveFrame_rx {s : State} {l : PortId} (f : Frame) (h : (s.core l).rx = []) :
    ((s.receiveFrame l f).core l).rx = [f] := by
  have hlt : (s.core l).rx.length < Config.rxCapacity := by simp [h, Config.rxCapacity]
  unfold State.receiveFrame
  rw [if_pos hlt, State.core_modCore]
  unfold PortCore.flowAfterFrame PortCore.orderFlow
  repeat' split
  all_goals simp [h]

/-- Receiving a frame at an empty queue changes the common part of that port alone. -/
theorem State.receiveFrame_room {s : State} {l : PortId} (f : Frame) (h : (s.core l).rx = []) :
    s.receiveFrame l f = s.modCore l fun c => { c with rx := c.rx ++ [f] }.flowAfterFrame s.params true := by
  simp [State.receiveFrame, h, Config.rxCapacity]

@[simp] theorem State.replies_modCore (s : State) (l : PortId) (f : PortCore → PortCore) (o : OpsId) :
    ((s.modCore l f).opsPort o).replies = (s.opsPort o).replies := by
  cases l with
  | tl t => rfl
  | ops k =>
    simp only [State.modCore, State.opsPort_modOps]
    split <;> rfl

@[simp] theorem State.mayTake_modCore (s : State) (l m : PortId) (f : PortCore → PortCore) :
    (s.modCore l f).mayTake m = s.mayTake m := by
  cases m <;> simp [State.mayTake, State.replyRoom]

/-- A frame that arrives at a quiet port which may take it goes to its owner, in the state as it stands (R171, R180). -/
theorem State.frameArrives_quiet {s : State} {l : PortId} (f : Frame) (h : s.Quiet l) (hm : s.mayTake l = true) :
    s.frameArrives l f = s.own l f := by
  have hrx := State.receiveFrame_rx f h.2.1
  have hmt : (s.receiveFrame l f).mayTake l = true := by
    rw [State.receiveFrame_room f h.2.1, State.mayTake_modCore, hm]
  simp only [State.frameArrives, State.takeIn, hrx, List.length_singleton]
  rw [intake, if_pos hmt, intake, State.takeHead, hrx]
  simp only [State.receive_take f h]

/-- An operations command at a ready link is taken by its owner, in the state as it stands. -/
theorem State.frameArrives_ops {s : State} {l : OpsId} {ty : Byte} {act : State → OpsId → Byte → List Byte → State}
    (tag : Byte) (p : List Byte) (h : s.OpsReady l) (ho : ownerOf opsOwners ty = some act) :
    s.frameArrives (.ops l) ⟨ty, tag :: p⟩ = act s l tag p := by
  have hm : s.mayTake (.ops l) = true := by simp [State.mayTake, State.replyRoom, h.1.1, h.2]
  rw [State.frameArrives_quiet _ h.1 hm]
  simp [State.own, ho]

/-- A transporter request at a quiet link is taken by its owner after supervision is reloaded (R109, R180). -/
theorem State.frameArrives_tl {s : State} {t : TId} {ty : Byte} {act : State → TId → List Byte → State}
    (p : List Byte) (h : s.Quiet (.tl t)) (ho : ownerOf tlOwners ty = some act) :
    s.frameArrives (.tl t) ⟨ty, p⟩ = act (s.reloadSupervision t) t p := by
  have hm : s.mayTake (.tl t) = true := by simp [State.mayTake, h.1]
  rw [State.frameArrives_quiet _ h hm]
  simp [State.own, ho]

/-- Taking what may be taken is taking heads one after another, and where frames are left over none may be taken. -/
theorem intake_eq (l : PortId) (n : Nat) (s : State) : ∃ k ≤ n, intake l n s = (fun s => s.takeHead l)^[k] s ∧
    (k < n → (intake l n s).mayTake l = false) := by
  induction n generalizing s with
  | zero => exact ⟨0, Nat.le_refl _, rfl, fun h => absurd h (Nat.not_lt_zero _)⟩
  | succ n ih =>
    unfold intake
    split
    · obtain ⟨k, hk, he, hl⟩ := ih (s.takeHead l)
      exact ⟨k + 1, by omega, he, fun h => hl (by omega)⟩
    · next h => exact ⟨0, by omega, rfl, fun _ => by simpa using h⟩

/-- Where the block may not take it, a frame only joins the queue, or meets OVERRUN. -/
theorem State.frameArrives_waits {s : State} {l : PortId} (f : Frame) (h : (s.receiveFrame l f).mayTake l = false) :
    s.frameArrives l f = s.receiveFrame l f := by
  unfold State.frameArrives State.takeIn
  generalize ((s.receiveFrame l f).core l).rx.length = n
  cases n <;> simp [intake, h]

/-- Nothing is taken while the controller is held in reset (R190). -/
theorem State.live_held {s : State} {h : ResetHold} (hh : s.resetHold = some h) (f : State → State) : s.live f = s := by
  simp [State.live, hh]

end Sys2Proof.Machine
end

