-- ==== Sys2Proof/Laws/Holdings.lean ====
section
/-! SUPPORT. What an AUTH reads, and what the shared operations on holdings do: one lemma for each, which says once
everything that its operation can do. -/

namespace Sys2Proof.Machine

/-! ## What the ceiling and the AUTH read -/

/-- Everything that the ceiling and the AUTH of u read is the same in s and t (R57, R92, R97). -/
structure State.SameForAuth (s t : State) (u : TId) : Prop where
  tr : t.tr u = s.tr u
  route : t.route u = s.route u
  defns : ∀ n, (t.sec? n).map (·.defn) = (s.sec? n).map (·.defn)
  telescopes : t.telescopes = s.telescopes
  band : t.band = s.band
  params : t.params = s.params

/-- Path lengths, grades and line speeds depend on the definitions alone. -/
theorem State.SameForAuth.sec {s t : State} {u : TId} (h : s.SameForAuth t u) (n : Nat) :
    (∃ x y, s.sec? n = some x ∧ t.sec? n = some y ∧ y.defn = x.defn) ∨ (s.sec? n = none ∧ t.sec? n = none) := by
  have := h.defns n
  cases hs : s.sec? n <;> cases ht : t.sec? n <;> simp_all

theorem State.SameForAuth.pathLen {s t : State} {u : TId} (h : s.SameForAuth t u) : t.pathLen = s.pathLen := by
  funext e
  unfold State.pathLen
  rcases h.sec e.sec with ⟨x, y, hx, hy, e⟩ | ⟨hx, hy⟩ <;> simp [*]

theorem State.SameForAuth.lineSpeed {s t : State} {u : TId} (h : s.SameForAuth t u) : t.lineSpeed = s.lineSpeed := by
  funext e
  unfold State.lineSpeed
  rcases h.sec e.sec with ⟨x, y, hx, hy, e⟩ | ⟨hx, hy⟩ <;> simp [*]

theorem State.SameForAuth.worstGrade {s t : State} {u : TId} (h : s.SameForAuth t u) :
    t.worstGrade = s.worstGrade := by
  funext es
  unfold State.worstGrade
  congr 1
  funext g e
  rcases h.sec e.sec with ⟨x, y, hx, hy, e⟩ | ⟨hx, hy⟩ <;> simp [*]

theorem State.SameForAuth.entryAt {s t : State} {u : TId} (h : s.SameForAuth t u) (i : Nat) :
    t.entryAt u i = s.entryAt u i := by
  simp [State.entryAt, h.route]

theorem State.SameForAuth.frontEntry {s t : State} {u : TId} (h : s.SameForAuth t u) :
    t.frontEntry u = s.frontEntry u := by
  simp [State.frontEntry, h.route, h.entryAt]

theorem State.SameForAuth.frontPos {s t : State} {u : TId} (h : s.SameForAuth t u) : t.frontPos u = s.frontPos u := by
  simp [State.frontPos, h.frontEntry, h.tr, State.travelled, h.pathLen]

theorem State.SameForAuth.loaded {s t : State} {u : TId} (h : s.SameForAuth t u) : t.loaded u = s.loaded u := by
  simp [State.loaded, State.telescopeAt, State.loadSensed, h.telescopes, h.tr]

theorem State.SameForAuth.distance {s t : State} {u : TId} (h : s.SameForAuth t u) (p q : RoutePos) :
    t.distance u p q = s.distance u p q := by
  simp [State.distance, h.route, h.entryAt, h.pathLen]

theorem State.SameForAuth.effDecelTo {s t : State} {u : TId} (h : s.SameForAuth t u) (i j : Nat) :
    t.effDecelTo u i j = s.effDecelTo u i j := by
  simp [State.effDecelTo, State.decel, h.loaded, h.tr, h.worstGrade, State.span, h.route]

theorem State.SameForAuth.curve {s t : State} {u : TId} (h : s.SameForAuth t u) : t.curve u = s.curve u := by
  simp [State.curve, h.frontPos, h.route, h.distance, h.effDecelTo, h.params]

theorem State.SameForAuth.brakingOk {s t : State} {u : TId} (h : s.SameForAuth t u) (c : RoutePos) :
    t.brakingOk u c = s.brakingOk u c := by
  simp only [State.brakingOk, h.frontPos, State.speed, h.tr, h.distance, h.effDecelTo, h.params]
  cases s.frontPos u <;> rfl

theorem State.SameForAuth.ceilingNow {s t : State} {u : TId} (h : s.SameForAuth t u) :
    t.ceilingNow u = s.ceilingNow u := by
  simp [State.ceilingNow, h.tr, State.caps, h.frontEntry, h.route, h.lineSpeed, h.entryAt, State.vmax, h.loaded, h.band,
    h.params, h.curve]

theorem State.SameForAuth.authNow {s t : State} {u : TId} (h : s.SameForAuth t u) (c : Nat) :
    t.authNow u c = s.authNow u c := by
  simp [State.authNow, h.route, h.entryAt, h.tr]

/-- An AUTH that is current stays so while what it reads, its slot and the ceiling last sent stay. -/
theorem State.SameForAuth.authCurrent {s t : State} {u : TId} (h : s.SameForAuth t u) (ha : s.AuthCurrent u)
    (hp : (t.tl u).auth = (s.tl u).auth) (hc : t.ceilings[u] = s.ceilings[u]) : t.AuthCurrent u := by
  refine ⟨?_, ?_⟩
  · rw [hp, ha.1, h.ceilingNow, h.authNow]
  · rw [hc, ha.2, h.ceilingNow]

/-! ## Forming an AUTH -/

/-- What formAuth does: the AUTH of t is current, and only t's slot and ceiling are written (R57). -/
theorem State.formAuth_spec (s : State) (t : TId) :
    (s.formAuth t).AuthCurrent t ∧ s.formAuth t = { s with tls := (s.formAuth t).tls, ceilings := (s.formAuth t).ceilings } ∧
    s.OnlyAuth (s.formAuth t) t ∧ ∀ u, u ≠ t → s.SameTransporter (s.formAuth t) u := by
  have hs : s.SameForAuth (s.formAuth t) t := ⟨rfl, rfl, fun _ => rfl, rfl, rfl, rfl⟩
  refine ⟨⟨?_, ?_⟩, rfl, ?_, ?_⟩
  · rw [hs.ceilingNow, hs.authNow]
    exact congrArg TlPort.auth (State.tl_modTl_self s t _)
  · rw [hs.ceilingNow]; exact upd_get_self ..
  · simp [State.formAuth, State.OnlyAuth]
  · intro u h
    refine ⟨rfl, rfl, ?_, upd_get_ne _ _ _ _ h.symm, rfl⟩
    simp [State.formAuth, State.tl_modTl, h.symm]

/-! ## Evaluating stop causes -/

/-- Stop causes depend on the flag, the sections, the lines, the site and the band alone (R121). -/
theorem State.stopCauses_eq {s t : State} (h1 : t.allStop = s.allStop) (h2 : t.sections = s.sections)
    (h3 : t.lines = s.lines) (h4 : t.site = s.site) (h5 : t.band = s.band) : t.stopCauses = s.stopCauses := by
  funext u
  simp [State.stopCauses, State.holdsStopped, State.inStoppedZone, State.zoneStopped, *]

theorem StopSet.isEmpty_iff (c : StopSet) : c.isEmpty = true ↔ c = .empty := by simp [StopSet.isEmpty]

/-- A state that differs from s in t's record, in t's AUTH if `a`, and in the notices bs. -/
theorem State.evaluated_of (s : State) (t : TId) (f : Transporter → Transporter) (a : Bool) (bs : List NoticeBody)
    (hx : f (s.tr t) = (s.tr t).evaluated (s.stopCauses t) (decide (s.speed t ≤ s.params.overspeedTol)))
    (ha : a = true ↔ s.evaluationAuth t) (hb : bs = s.evaluationNotice t) :
    s.Evaluated (bs.foldl State.post (if a then (s.modTr t f).formAuth t else s.modTr t f)) [t] := by
  subst hb
  have hc : ∀ (l : List NoticeBody) (r : State), (l.foldl State.post r) = { r with opss := (l.foldl State.post r).opss } ∧
      r.Told (l.foldl State.post r) l := by
    intro l
    induction l with
    | nil => intro r; exact ⟨rfl, fun _ => rfl⟩
    | cons b l ih =>
      intro r
      refine ⟨?_, fun k => ?_⟩
      · simp only [List.foldl_cons]; rw [(ih _).1]; rfl
      · simp only [List.foldl_cons]; rw [(ih _).2 k]; simp
  generalize hr : (if a then (s.modTr t f).formAuth t else s.modTr t f) = r
  have hF := State.formAuth_spec (s.modTr t f) t
  have r1 : r = { s with trs := r.trs, tls := r.tls, ceilings := r.ceilings } := by
    subst hr; cases a
    · rfl
    · rfl
  have r2 : r.tr t = f (s.tr t) := by subst hr; cases a <;> exact State.tr_modTr_self s t f
  have r3 : ∀ u, u ≠ t → s.SameTransporter r u := by
    intro u hu; subst hr; cases a
    · exact ⟨by simp [State.tr_modTr, hu.symm], rfl, rfl, rfl, rfl⟩
    · obtain ⟨q1, q2, q3, q4, q5⟩ := hF.2.2.2 u hu
      exact ⟨q1.trans (by simp [State.tr_modTr, hu.symm]), q2, q3, q4, q5⟩
  have r4 : s.OnlyAuth r t := by subst hr; cases a <;> [rfl; exact hF.2.2.1]
  obtain ⟨p1, p2⟩ := hc (s.evaluationNotice t) r
  generalize (s.evaluationNotice t).foldl State.post r = u at p1 p2
  have ht : ∀ v, u.tr v = r.tr v := by rw [p1]; intro; rfl
  have hl : ∀ v, u.tl v = r.tl v := by rw [p1]; intro; rfl
  have hce : u.ceilings = r.ceilings := by rw [p1]
  refine ⟨?_, ?_, ?_, ?_, ?_, ?_, ?_⟩
  · rw [p1, r1]
  · intro v hv
    obtain ⟨q1, q2, q3, q4, q5⟩ := r3 v (by simpa using hv)
    rw [p1]; exact ⟨q1, q2, q3, q4, q5⟩
  · simp only [List.mem_singleton, forall_eq]; rw [ht, r2, hx]
  · intro v
    by_cases hv : v = t
    · subst hv; show u.tl v = _; rw [hl]; exact r4
    · show u.tl v = _; rw [hl, (r3 v hv).2.2.1]
  · simp only [List.mem_singleton, forall_eq]
    intro h
    have ha' := ha.mpr h
    subst ha'
    simp only [if_true] at hr
    subst hr
    refine State.SameForAuth.authCurrent (s := (s.modTr t f).formAuth t) ?_ hF.1 (by rw [hl]) (by rw [hce])
    rw [p1]; exact ⟨rfl, rfl, fun _ => rfl, rfl, rfl, rfl⟩
  · simp only [List.mem_singleton, forall_eq]
    intro h
    have ha' : a = false := by rw [← Bool.not_eq_true, ha]; exact h
    subst ha'
    simp only [Bool.false_eq_true, if_false] at hr
    subst hr
    exact ⟨by rw [hl]; rfl, by rw [hce]; rfl⟩
  · intro k
    rw [p2 k, List.flatMap_singleton]
    have e1 : r.opsPort k = s.opsPort k := by rw [r1]; rfl
    have e2 : r.clock = s.clock := by rw [r1]
    rw [e1, e2]

/-- What evaluating one transporter does (R121, R122). -/
theorem State.evalStop_evaluated (s : State) (t : TId) : s.Evaluated (s.evalStop t) [t] := by
  unfold State.evalStop
  by_cases h0 : (s.tr t).state = .offline ∨ s.stopCauses t = (s.tr t).stop
  · rw [if_pos h0]
    have hn : s.evaluationNotice t = [] := by
      unfold State.evaluationNotice
      rcases h0 with h | h <;> simp [h]
    refine ⟨rfl, fun _ _ => ⟨rfl, rfl, rfl, rfl, rfl⟩, ?_, fun _ => rfl, ?_, fun _ _ _ => ⟨rfl, rfl⟩, ?_⟩
    · simp only [List.mem_singleton, forall_eq]
      rw [Transporter.evaluated, if_pos (h0.imp_right Eq.symm)]
    · simp only [List.mem_singleton, forall_eq]
      rintro ⟨h1, h2⟩
      rcases h0 with h | h
      · simp [h] at h2
      · exact absurd h.symm h1
    · simp [State.Told, hn]
  · rw [if_neg h0]
    have h1 : ¬ (s.tr t).state = .offline := fun h => h0 (.inl h)
    have h2 : ¬ (s.tr t).stop = s.stopCauses t := fun h => h0 (.inr h.symm)
    have h3 : s.stopCauses t ≠ (s.tr t).stop := fun h => h2 h.symm
    cases hst : (s.tr t).state with
    | offline => exact absurd hst h1
    | parked =>
      exact s.evaluated_of t (fun x => { x with stop := s.stopCauses t }) true []
        (by simp [Transporter.evaluated, hst, h2]) (by simp [State.evaluationAuth, hst, h2])
        (by simp [State.evaluationNotice, hst, h2])
    | tripped =>
      exact s.evaluated_of t (fun x => { x with stop := s.stopCauses t }) false []
        (by simp [Transporter.evaluated, hst, h2]) (by simp [State.evaluationAuth, hst, h2])
        (by simp [State.evaluationNotice, hst, h2])
    | transfer =>
      exact s.evaluated_of t (fun x => { x with stop := s.stopCauses t }) false []
        (by simp [Transporter.evaluated, hst, h2]) (by simp [State.evaluationAuth, hst, h2])
        (by simp [State.evaluationNotice, hst, h2])
    | authorised =>
      by_cases hn : s.stopCauses t = .empty
      · have h4 : ¬ (s.tr t).stop = .empty := hn ▸ h2
        simp only [(StopSet.isEmpty_iff _).mpr hn, if_true]
        exact s.evaluated_of t (fun x => { x with stop := s.stopCauses t }) false []
          (by simp [Transporter.evaluated, hst, h4, hn]) (by simp [State.evaluationAuth, hst, hn])
          (by simp [State.evaluationNotice, hst, hn])
      · simp only [show (s.stopCauses t).isEmpty = false by simpa [StopSet.isEmpty] using hn]
        have := s.evaluated_of t (fun x => { x with stop := s.stopCauses t, state := .held
                                                    standSeen := s.standSeenOnEntry t }) true
          [.held t (s.stopCauses t)] (by simp [Transporter.evaluated, hst, h2, hn, State.standSeenOnEntry])
          (by simp [State.evaluationAuth, hst, h2, hn]) (by simp [State.evaluationNotice, hst, h2, hn])
        simpa [State.modTr, upd_upd] using this
    | held =>
      by_cases hn : s.stopCauses t = .empty
      · have h4 : ¬ (s.tr t).stop = .empty := hn ▸ h2
        simp only [(StopSet.isEmpty_iff _).mpr hn, if_true]
        have := s.evaluated_of t (fun x => { x with stop := s.stopCauses t, state := .authorised, standSeen := false })
          true [.resumed t (s.route t).authNum .authorised] (by simp [Transporter.evaluated, hst, h4, hn])
          (by simp [State.evaluationAuth, hst, h2]) (by simp [State.evaluationNotice, hst, h4, hn])
        simpa [State.modTr, upd_upd] using this
      · simp only [show (s.stopCauses t).isEmpty = false by simpa [StopSet.isEmpty] using hn]
        exact s.evaluated_of t (fun x => { x with stop := s.stopCauses t }) true []
          (by simp [Transporter.evaluated, hst, h2, hn]) (by simp [State.evaluationAuth, hst, h2])
          (by simp [State.evaluationNotice, hst, h2, hn])

/-! ## Holds -/

/-- A section after a hold is written. -/
theorem State.sec_setHold (s : State) (n m : Nat) (h : Option Hold) :
    (s.setHold n h).sec? m = (s.sec? m).map fun x => { x with hold := if m = n then h else x.hold } := by
  by_cases e : m = n
  · subst e; simp [State.setHold, State.modSec, State.sec?]
  · simp only [State.setHold, State.modSec, State.sec?, Table.find_adjust_ne _ _ e, if_neg e]
    exact (Option.map_id' ..).symm

/-- Writing one hold into several sections. -/
theorem State.setHold_foldl (s : State) (es : List Entry) (h : Option Hold) :
    (∀ m, (es.foldl (fun s e => s.setHold e.sec h) s).sec? m =
      (s.sec? m).map fun x => { x with hold := if m ∈ es.map (·.sec) then h else x.hold }) ∧
    es.foldl (fun s e => s.setHold e.sec h) s =
      { s with sections := (es.foldl (fun s e => s.setHold e.sec h) s).sections } := by
  induction es generalizing s with
  | nil => exact ⟨fun m => by simp, rfl⟩
  | cons e es ih =>
    simp only [List.foldl_cons]
    refine ⟨fun m => ?_, ?_⟩
    · rw [(ih _).1 m, State.sec_setHold, Option.map_map]
      congr 1
      funext x
      by_cases h1 : m ∈ es.map (·.sec) <;> by_cases h2 : m = e.sec <;> simp [h1, h2]
    · rw [(ih _).2]; rfl

/-- How a section is held, read from its record. -/
theorem State.holdBy_eq (s : State) (t : TId) (n : Nat) :
    s.holdBy t n = ((s.sec? n).bind (·.hold)).bind fun h => if h.holder = t then some h.kind else none := by
  unfold State.holdBy
  cases s.sec? n with
  | none => rfl
  | some x => cases h : x.hold <;> simp [h]

/-- Holds depend on the sections alone. -/
theorem State.holdBy_congr {s t : State} (h : t.sections = s.sections) : t.holdBy = s.holdBy := by
  funext u n; simp [State.holdBy, State.sec?, h]

theorem State.mem_settingRun {s : State} {t : TId} {e : Entry} :
    e ∈ s.settingRun t ↔ e ∈ (s.route t).entries ∧ s.holdBy t e.sec = some .setting := by
  simp [State.settingRun, State.run]

/-- A section n stands in t's SETTING run exactly when t holds it SETTING and it stands in t's record. -/
theorem State.mem_settingRun_sec {s : State} {t : TId} {n : Nat} :
    n ∈ (s.settingRun t).map (·.sec) ↔ s.holdBy t n = some .setting ∧ s.inRecord t n := by
  simp only [List.mem_map, State.mem_settingRun, State.inRecord]
  constructor
  · rintro ⟨e, ⟨h1, h2⟩, rfl⟩; exact ⟨h2, e, h1, rfl⟩
  · rintro ⟨h1, e, h2, rfl⟩; exact ⟨e, ⟨h2, h1⟩, rfl⟩

/-! ## Dropping a reservation -/

/-- The SETTING run of t is dropped: what the sections become (R58). -/
theorem State.dropSettingRaw_spec (s : State) (t : TId) :
    (∀ n, (s.dropSettingRaw t).sec? n = (s.sec? n).map fun x =>
      { x with hold := if s.holdBy t n = some .setting ∧ s.inRecord t n then none else x.hold }) ∧
    s.dropSettingRaw t = { s with sections := (s.dropSettingRaw t).sections
                                  walkDue := s.walkDue || !(s.settingRun t).isEmpty } := by
  unfold State.dropSettingRaw
  have h0 := s.setHold_foldl (s.settingRun t) none
  have h1 : ∀ n, n ∈ (s.settingRun t).map (·.sec) ↔ s.holdBy t n = some .setting ∧ s.inRecord t n :=
    fun n => State.mem_settingRun_sec
  cases h : s.settingRun t with
  | nil =>
    rw [h] at h1
    refine ⟨fun n => ?_, by simp⟩
    have := (h1 n).not.mp (by simp)
    simp [this]
  | cons e es =>
    rw [h] at h0 h1
    refine ⟨fun n => ?_, ?_⟩
    · refine (h0.1 n).trans ?_
      simp only [h1]
    · exact (congrArg State.trigger h0.2).trans (by simp [State.trigger])

/-- The SETTING run of t is dropped and its stop causes are evaluated (R58, R121). -/
theorem State.dropSetting_spec (s : State) (t : TId) :
    (s.settingRun t = [] ∧ s.dropSetting t = s) ∨
    (s.settingRun t ≠ [] ∧ (s.dropSettingRaw t).Evaluated (s.dropSetting t) [t]) := by
  unfold State.dropSetting
  cases h : s.settingRun t with
  | nil => exact .inl ⟨rfl, rfl⟩
  | cons e es => exact .inr ⟨by simp, State.evalStop_evaluated _ _⟩

/-- What dropping a reservation leaves of the sections and of everything else (R58). -/
theorem State.dropSetting_frame (s : State) (t : TId) :
    (∀ n, (s.dropSetting t).sec? n = (s.sec? n).map fun x =>
      { x with hold := if s.holdBy t n = some .setting ∧ s.inRecord t n then none else x.hold }) ∧
    s.dropSetting t = { s with
      sections := (s.dropSetting t).sections, trs := (s.dropSetting t).trs, tls := (s.dropSetting t).tls
      ceilings := (s.dropSetting t).ceilings, opss := (s.dropSetting t).opss
      walkDue := s.walkDue || !(s.settingRun t).isEmpty } ∧
    (∀ u, s.OnlyAuth (s.dropSetting t) u) ∧ (∀ u, u ≠ t → s.SameTransporter (s.dropSetting t) u) ∧
    (s.dropSetting t).tr t = (if s.settingRun t = [] then s.tr t
      else (s.tr t).evaluated ((s.dropSetting t).stopCauses t) (decide (s.speed t ≤ s.params.overspeedTol))) := by
  obtain ⟨r1, r2⟩ := s.dropSettingRaw_spec t
  rcases s.dropSetting_spec t with ⟨h1, h2⟩ | ⟨h1, h2⟩
  · rw [h2]
    refine ⟨fun n => ?_, by simp [h1], fun _ => rfl, fun _ _ => ⟨rfl, rfl, rfl, rfl, rfl⟩, by simp [h1]⟩
    have h3 : ¬ (s.holdBy t n = some .setting ∧ s.inRecord t n) := by
      rw [← State.mem_settingRun_sec, h1]; simp
    simp [h3]
  · have o := h2.only
    refine ⟨fun n => ?_, ?_, fun u => ?_, fun u hu => ?_, ?_⟩
    · rw [← r1 n, o]; rfl
    · rw [o, r2]
    · have := h2.port u
      rw [r2] at this; exact this
    · obtain ⟨q1, q2, q3, q4, q5⟩ := h2.others u (by simpa using hu)
      rw [r2] at q1 q2 q3 q4 q5
      exact ⟨q1, q2, q3, q4, q5⟩
    · rw [if_neg h1, h2.record t (by simp)]
      have e1 : (s.dropSettingRaw t).stopCauses = (s.dropSetting t).stopCauses :=
        (State.stopCauses_eq (by rw [o]) (by rw [o]) (by rw [o]) (by rw [o]) (by rw [o])).symm
      rw [e1, r2]; rfl

/-- The stop causes of every transporter that is not OFFLINE are the causes present (R121). -/
theorem State.stopsCurrent_iff (s : State) :
    s.StopsCurrent ↔ ∀ t : TId, (s.tr t).state ≠ .offline → (s.tr t).stop = s.stopCauses t := by
  have hz : ∀ t : TId, (s.holdsStopped t = true ↔
      ∃ p ∈ s.sections, (∃ h, p.2.hold = some h ∧ h.holder = t) ∧ s.inStoppedZone p.2.defn.zones = true) := by
    intro t
    simp only [State.holdsStopped, List.any_eq_true, Bool.and_eq_true]
    refine exists_congr fun p => and_congr_right fun _ => and_congr_left fun _ => ?_
    cases p.2.hold <;> simp
  have hw : ∀ t : TId, (s.stopCauses t).wind = true ↔ ∃ c, s.band = .hold c := by
    intro t
    unfold State.stopCauses
    cases s.band <;> simp
  refine forall_congr' fun t => imp_congr_right fun _ => ?_
  constructor
  · rintro ⟨h1, h2, h3⟩
    have e1 : (s.tr t).stop.allStop = s.allStop := Bool.eq_iff_iff.mpr h1
    have e2 : (s.tr t).stop.zoneStop = s.holdsStopped t := Bool.eq_iff_iff.mpr (h2.trans (hz t).symm)
    have e3 := Bool.eq_iff_iff.mpr (h3.trans (hw t).symm)
    cases h : (s.tr t).stop
    rw [h] at e1 e2 e3
    show _ = (⟨s.allStop, s.holdsStopped t, (s.stopCauses t).wind⟩ : StopSet)
    rw [← e1, ← e2, ← e3]
  · intro h
    rw [h]
    exact ⟨Iff.rfl, hz t, hw t⟩

end Sys2Proof.Machine
end

