-- ==== Sys2Proof/Laws/Exits.lean ====
section
/-! SUPPORT. What an exit from the command queue does: one lemma for each of its operations, which says once everything that
the operation can do. -/

namespace Sys2Proof.Machine

/-- The pad command that the model offers again is the one that R141, R148 and R162 give. -/
theorem State.padOffers_iff (s : State) (r : Requester) (c : BusCmd) :
    s.PadOffers r c ↔ s.padCommand r = some c := by
  cases r with
  | tr t => simp [State.PadOffers, State.padCommand]
  | ops => simp [State.PadOffers, State.padCommand]
  | watch n => cases h : s.pad? n <;> simp [State.PadOffers, State.padCommand, h, eq_comm]
  | xfer t =>
    cases hx : s.transfers[t] with
    | none => simp [State.PadOffers, State.padCommand, hx]
    | some x =>
      cases hp : s.pad? x.pad with
      | none => simp [State.PadOffers, State.padCommand, hx, hp]
      | some p => cases hk : x.kind <;> simp [State.PadOffers, State.padCommand, hx, hp, hk, eq_comm]

/-- A pad command is a CLAMP or an UNCLAMP. -/
theorem State.PadOffers.func {s : State} {r : Requester} {c : BusCmd} (h : s.PadOffers r c) :
    c.func = .clamp ∨ c.func = .unclamp := by
  cases r with
  | tr t => exact h.elim
  | ops => exact h.elim
  | watch n => obtain ⟨p, -, rfl⟩ := h; exact .inl rfl
  | xfer t => obtain ⟨x, p, -, -, rfl⟩ := h; cases x.kind <;> simp

/-- The queue takes one pad command exactly where R162 does not refuse it. -/
theorem State.padRoom_iff {s : State} {c : BusCmd} (h : c.func = .clamp ∨ c.func = .unclamp) :
    s.PadRoom c ↔ s.offerOk [c] = true := by
  unfold State.PadRoom State.offerOk
  cases hu : s.unit? c.addr with
  | none => simp [hu]
  | some v =>
    obtain h | h := h <;> cases ht : v.typ <;>
      simp [hu, h, ht, Config.cmdCapacity, UnitType.accepts, BusFunc.blade]

/-- Marking the owner of a pad command changes its transfer's stage command or its watch alone. -/
theorem State.markQueued_spec (s : State) (r : Requester) :
    s.markQueued r = { s with transfers := (s.markQueued r).transfers, pads := (s.markQueued r).pads } ∧
    s.PadOwnerTold (s.markQueued r) r (fun x => { x with cmd := .queued }) .queued := by
  cases r with
  | tr t => exact ⟨rfl, nofun, nofun⟩
  | ops => exact ⟨rfl, nofun, nofun⟩
  | watch n =>
    refine ⟨rfl, nofun, ?_⟩
    rintro _ ⟨⟩
    refine ⟨rfl, fun q => ?_⟩
    by_cases hq : q = n
    · subst hq; simp [State.markQueued, State.pad?]
    · simp [State.markQueued, State.pad?, hq, Table.find_adjust_ne _ _ hq]
  | xfer t =>
    refine ⟨rfl, ?_, nofun⟩
    rintro _ ⟨⟩
    refine ⟨rfl, fun v => ?_⟩
    by_cases hv : v = t
    · subst hv
      rw [if_pos rfl]
      exact upd_get_self ..
    · rw [if_neg hv]
      exact upd_get_ne _ _ _ _ (Ne.symm hv)

/-- A pad command that waits for room is offered again as R162 says. -/
theorem State.reofferOne_spec (s : State) (r : Requester) : s.Reoffered (s.reofferOne r) r := by
  refine ⟨fun c hc hr => ?_, fun h => ?_⟩
  · have hp := (s.padOffers_iff r c).1 hc
    have ho := (State.padRoom_iff hc.func).1 hr
    have := State.markQueued_spec
      ({ s with padWaiters := s.padWaiters.filter fun w => decide (w ≠ r) }.enqueue [c]) r
    simp only [State.reofferOne, hp, ho, if_true]
    exact this
  · unfold State.reofferOne
    cases hp : s.padCommand r with
    | none => rfl
    | some c =>
      have hc := (s.padOffers_iff r c).2 hp
      have : ¬ s.offerOk [c] = true := fun ho => h c hc ((State.padRoom_iff hc.func).2 ho)
      simp [this]

/-- An offer made again leaves the room-wait flag and the walk flag. -/
theorem State.Reoffered.flags {s u : State} {r : Requester} (h : s.Reoffered u r) :
    u.roomWait = s.roomWait ∧ u.walkDue = s.walkDue := by
  by_cases hc : ∃ c, s.PadOffers r c ∧ s.PadRoom c
  · obtain ⟨c, hc, hr⟩ := hc
    rw [(h.1 c hc hr).1]
    exact ⟨rfl, rfl⟩
  · rw [h.2 fun c ho hr => hc ⟨c, ho, hr⟩]
    exact ⟨rfl, rfl⟩

/-- The pad commands that wait for room are offered again one after another. -/
theorem State.reofferAll_spec : ∀ (rs : List Requester) (s : State),
    let u := rs.foldl (fun s r => s.reofferOne r) s
    State.AllReoffered rs s u ∧ u.roomWait = s.roomWait ∧ u.walkDue = s.walkDue
  | [], _ => ⟨rfl, rfl, rfl⟩
  | r :: rs, s => by
    obtain ⟨h, h1, h2⟩ := State.reofferAll_spec rs (s.reofferOne r)
    have f := (s.reofferOne_spec r).flags
    exact ⟨⟨_, s.reofferOne_spec r, h⟩, h1.trans f.1, h2.trans f.2⟩

/-- An exit from the queue (R162, R53): the waiting pad commands are offered again, oldest first, and then a walk is due
where the room-wait flag is set. -/
theorem State.commandExit_spec (s : State) : s.Exited s.commandExit := by
  unfold State.Exited State.commandExit
  obtain ⟨h, hr, hw⟩ := State.reofferAll_spec s.padWaiters s
  dsimp only at h hr hw ⊢
  generalize s.padWaiters.foldl (fun s r => s.reofferOne r) s = m at h hr hw ⊢
  refine ⟨m, h, ?_⟩
  rw [← hr, ← hw]
  by_cases hm : m.roomWait = true
  · rw [if_pos hm, State.trigger, show (m.walkDue || m.roomWait) = true by rw [hm, Bool.or_true]]
  · rw [if_neg hm, show (m.walkDue || m.roomWait) = m.walkDue by rw [Bool.not_eq_true] at hm; rw [hm, Bool.or_false]]

end Sys2Proof.Machine
end

