-- ==== Sys2Proof/WellFormed.lean ====
section
/-! DEFINITION. What the links and the bus can carry: the lengths LEN allows (10 R169), the scope byte of the three
RESET rows (10.5, RESET scope), the length byte of LEN_OUT_OF_RANGE, the identifiers of points and pads. -/

namespace Sys2Proof

/-- An operations payload after its tag: LEN counts TYPE, the tag and `p`, and is at most 125. -/
def opsPayloadOk (p : List Byte) : Bool := decide (p.length ≤ 123)

/-- A transporter payload: LEN counts TYPE and `p`, and is 2 to 125. -/
def tlPayloadOk (p : List Byte) : Bool := decide (1 ≤ p.length ∧ p.length ≤ 124)

/-- The RESET row a payload belongs to: scope FIELDBUS = 1, ALL = 2, and every other payload is RESET_LINK's. -/
def resetScopeOk (scope : Nat) (p : List Byte) : Bool :=
  match p with
  | b :: _ => if scope = 0 then decide (b ≠ 1 ∧ b ≠ 2) else decide (b.toNat = scope)
  | [] => decide (scope = 0)

/-- A command the far ends of the spec can send. -/
def WellFormed : Instr → Bool
  | .qSite _ _ p => opsPayloadOk p
  | .qSection _ _ p => opsPayloadOk p
  | .qPoint _ _ p => opsPayloadOk p
  | .qTransporter _ _ p => opsPayloadOk p
  | .qRoute _ _ p => opsPayloadOk p
  | .qPad _ _ p => opsPayloadOk p
  | .qTelescope _ _ p => opsPayloadOk p
  | .qUnit _ _ p => opsPayloadOk p
  | .allStop _ _ p => opsPayloadOk p
  | .allResume _ _ p => opsPayloadOk p
  | .zoneClear _ _ p => opsPayloadOk p
  | .cancel _ _ p => opsPayloadOk p
  | .recover _ _ p => opsPayloadOk p
  | .retire _ _ p => opsPayloadOk p
  | .throwPoint _ _ p => opsPayloadOk p
  | .clearPoint _ _ p => opsPayloadOk p
  | .restoreSection _ _ p => opsPayloadOk p
  | .restoreUnit _ _ p => opsPayloadOk p
  | .padReserve _ _ p => opsPayloadOk p
  | .padFree _ _ p => opsPayloadOk p
  | .padService _ _ p => opsPayloadOk p
  | .declare _ _ p => opsPayloadOk p
  | .xferAbort _ _ p => opsPayloadOk p
  | .setParam _ _ p => opsPayloadOk p
  | .defineSection _ _ p => opsPayloadOk p
  | .definePoint _ _ p => opsPayloadOk p
  | .definePad _ _ p => opsPayloadOk p
  | .defineUnit _ _ p => opsPayloadOk p
  | .defineTransporter _ _ p => opsPayloadOk p
  | .allocate _ _ p => opsPayloadOk p
  | .commit _ _ p => opsPayloadOk p
  | .configure _ _ p => opsPayloadOk p
  | .resetLink _ _ p => opsPayloadOk p && resetScopeOk 0 p
  | .resetFieldbus _ _ p => opsPayloadOk p && resetScopeOk 1 p
  | .resetAll _ _ p => opsPayloadOk p && resetScopeOk 2 p
  | .join _ p => tlPayloadOk p
  | .report _ p => tlPayloadOk p
  | .route _ p => tlPayloadOk p
  | .giveback _ p => tlPayloadOk p
  | .transfer _ p => tlPayloadOk p
  | .stepResult _ p => tlPayloadOk p
  | .leave _ p => tlPayloadOk p
  | .holdByte _ => true
  | .goByte _ => true
  | .frameComplete _ bytes => decide (1 ≤ bytes.length ∧ bytes.length ≤ 128)
  | .frameGapTimeout _ => true
  | .flowByteSend _ => true
  | .tlTransmitStart _ => true
  | .opsTransmitStart _ => true
  | .fieldbusGoodReply chars => decide (1 ≤ chars.length)
  | .fieldbusMiss => true
  | .throwTimeout p => decide (p < Config.numPoints)
  | .waitExpired _ => true
  | .supervisionExpiry _ => true
  | .stageTimeout _ => true
  | .clampFailed p => decide (p < Config.numPads)
  | .mastLost => true
  | .stopLineEdge _ _ => true
  | .powerOn => true
  | .supplyLow => true
  | .resetLine => true
  | .clockStartUpEnd => true
  | .pendingQueueWalk => true
  | .synByte _ => true
  | .lenOutOfRange _ b => decide (b.toNat < 2 ∨ 125 < b.toNat)

end Sys2Proof
end

