-- ==== Sys2Proof/Tests/Slice0.lean ====
section
/-! SUPPORT. Tests: the well-formedness checks refuse what they should, the spec's worked cases come out, each command does
on one small state what its rule says, and every statement's hypotheses are met by a concrete state (`test_witness_…`).

The layout is that of spec/01 1.7: S12, the point section S13, S14 on its normal path, the spur S20 with pad 31 on its
reverse path; S11 lies before S12. The transporter is T3, with the parameters of spec/05 5.9 and spec/04 4.6. -/

open Sys2Proof Sys2Proof.Machine

namespace Sys2Proof.Tests

set_option Elab.async false

/-! ## Helpers -/

/-- The state after a command. -/
def run (c : Instr) (s : State) : State :=
  match exec c s with
  | .next u => u
  | .fault _ => s
  | .refused _ => s

/-- The replies waiting on OPS-A: command, result, data. -/
def replies (s : State) : List (Byte × Reason × List Byte) := (s.opsPort 0).replies.map fun r => (r.cmd, r.result, r.data)

/-- What the notices waiting on OPS-A say. -/
def notices (s : State) : List NoticeBody := (s.opsPort 0).notices.map (·.body)

/-- What T3's refusals say. -/
def refusals (s : State) : List Reason := (s.tl 3).refusals.map (·.reason)

/-- A poll of the unit at an address, FDE released. -/
def onBus (a : Nat) : Exchange := ⟨a, .poll, requestChars a .poll, 8, 50, false⟩

/-- A section record, CLEAR and held by nobody. -/
def sec (len : Nat) (grade : Int) (v : Nat) (a b : TrackLink) (z : BitVec 8) (addr slot : Nat) : Section :=
  ⟨⟨len, none, grade, v, a, b, z, 0, addr, slot⟩, .clear, 0, none⟩

/-- The site of 1.7, RUNNING, every transporter OFFLINE, the bus polling detector 5. -/
def site : State := { State.reset with
  site := .running
  params := { Params.default with margin := 350 }
  sections :=
    [(11, sec 5000 0 250 .buffer (.to 12 .a) 0 5 3), (12, sec 8000 5 250 (.to 11 .b) (.to 13 .a) 4 5 0),
     (13, ⟨⟨2500, some ⟨2600, .to 20 .b⟩, -12, 180, .to 12 .b, .to 14 .a, 12, 0, 5, 1⟩, .clear, 0, none⟩),
     (14, sec 4000 (-2) 250 (.to 13 .b) .buffer 4 5 2), (20, sec 3000 (-4) 120 .buffer (.to 13 .c) 8 6 0)]
  points := [(4, ⟨13, 9, .reverse, none, none, none, none, none⟩)]
  pads := [(31, ⟨20, 750, 20, 22, .vacant, none, .opened, .empty, false, .none⟩)]
  units := [(5, .fresh .detector), (6, .fresh .detector), (9, .fresh .point), (22, .fresh .pad), (47, .fresh .mast)]
  exchange := some (onBus 5)
  opss := Vector.replicate 2 .initial }

/-- T3 as 5.9 gives it, in a state, with a last report. -/
def t3 (st : TState) (r : Report) (s : State) : State :=
  s.modTr 3 fun x => { x with state := st, superv := some (.load 30), last := some r, decelLoaded := 30, vmaxLoaded := 150 }

/-- The three entries of 1.7's route to the pad. -/
def toPad : List Entry := [⟨12, .a, .b, 1⟩, ⟨13, .a, .c, 2⟩, ⟨20, .b, .a, 3⟩]

/-- T3 holds a section. -/
def held (n : Nat) (k : HoldKind) (e : Bool) (s : State) : State := s.setHold n (some ⟨3, k, e⟩)

/-- A section is occupied. -/
def occupied (n : Nat) (s : State) : State := s.modSec n fun x => { x with det := .occupied }

/-- 4.6's starting record: T3 AUTHORISED and loaded, S12, S13 and S20 GRANTED, end at the pad, number 14, front in S12
at an offset with a speed. -/
def going (off v : Nat) : State :=
  t3 .authorised ⟨12, off, .up, v, false, 14, none⟩
    ((held 12 .granted true (held 13 .granted false (held 20 .granted false (occupied 12
      { site with telescopes := [(2, .onTransporter 3)] })))).modRoute 3
      fun _ => ⟨toPad, some 1, some ⟨3, 2250⟩, 2250, 14, 4, false⟩)
  |>.modPoint 4 fun x => { x with lock := some 3 }

/-- T3 PARKED in S12 at offset 6000, its end at its front, nothing else held. -/
def standing : State :=
  t3 .parked ⟨12, 6000, .up, 0, false, 1, none⟩
    ((held 12 .granted true (occupied 12 site)).modRoute 3
      fun _ => ⟨[⟨12, .a, .b, 1⟩], some 1, some ⟨1, 6000⟩, 6000, 1, 2, false⟩)

/-- T3 PARKED in S20 at offset 760, at pad 31. -/
def atPad : State :=
  t3 .parked ⟨20, 760, .down, 0, false, 1, none⟩
    ((held 20 .granted true (occupied 20 site)).modRoute 3
      fun _ => ⟨[⟨20, .b, .a, 1⟩], some 1, some ⟨1, 2250⟩, 2250, 1, 2, false⟩)

/-- T3 TRIPPED where it stood. -/
def tripped : State := standing.modTr 3 fun x => { x with state := .tripped, trips := { TripSet.empty with overspeed := true } }

/-- 4.6.1 after the CANCEL: S13 and S20 RELEASE_PENDING, end at the exit of S12, number 15. -/
def shortened : State :=
  (held 13 .releasePending false (held 20 .releasePending false (going 2000 0))).modRoute 3
    fun r => { r with endPos := some ⟨1, 8000⟩, authNum := 15 }

/-- T3 AUTHORISED to the exit of S12, with the rest of the route waiting. -/
def waiting : State :=
  { ((going 2000 100).setHold 13 none).setHold 20 none with waiting := [⟨3, some (.load 3000)⟩] }.modRoute 3
    fun r => { r with endPos := some ⟨1, 8000⟩ }

/-- T3 in a transfer at pad 31. -/
def inTransfer (x : Transfer) : State :=
  ((atPad.setTransfer 3 (some x)).modTr 3 fun y => { y with state := .transfer }).modPad 31
    fun p => { p with st := .transfer 3 }

/-- A good reply of the unit at an address. -/
def goodReply (a : Nat) (typ : UnitType) (rs : List Nat) : Instr := .fieldbusGoodReply (replyChars a typ rs 100)

/-- The site with the bus awaiting a reply of one unit. -/
def polling (a : Nat) (s : State) : State := { s with exchange := some (onBus a) }

/-! ## Well-formedness: what each check refuses -/

theorem test_wf_ops_payload : WellFormed (.qSite 0 0 (List.replicate 124 0)) = false ∧
    WellFormed (.qSite 0 0 (List.replicate 123 0)) = true := by decide +kernel
theorem test_wf_tl_payload : WellFormed (.join 0 []) = false ∧ WellFormed (.join 0 (List.replicate 125 0)) = false ∧
    WellFormed (.join 0 (List.replicate 124 0)) = true := by decide +kernel
theorem test_wf_reset_scope : WellFormed (.resetLink 0 0 [1, 0]) = false ∧ WellFormed (.resetFieldbus 0 0 [0, 0]) = false ∧
    WellFormed (.resetAll 0 0 [1, 0]) = false ∧ WellFormed (.resetAll 0 0 []) = false ∧
    WellFormed (.resetLink 0 0 [0, 7]) = true ∧ WellFormed (.resetFieldbus 0 0 [1, 0]) = true ∧
    WellFormed (.resetAll 0 0 [2, 0]) = true := by decide +kernel
theorem test_wf_frame_bytes : WellFormed (.frameComplete (.tl 0) []) = false ∧
    WellFormed (.frameComplete (.tl 0) (List.replicate 129 0)) = false := by decide +kernel
theorem test_wf_reply_chars : WellFormed (.fieldbusGoodReply []) = false := by decide
theorem test_wf_point_number : WellFormed (.throwTimeout 32) = false ∧ WellFormed (.throwTimeout 31) = true := by decide
theorem test_wf_pad_number : WellFormed (.clampFailed 80) = false ∧ WellFormed (.clampFailed 79) = true := by decide
theorem test_wf_len : WellFormed (.lenOutOfRange (.tl 0) 2) = false ∧ WellFormed (.lenOutOfRange (.tl 0) 125) = false ∧
    WellFormed (.lenOutOfRange (.tl 0) 126) = true := by decide

/-! ## The spec's worked numbers -/

/-- 10 R169: the CRC of "123456789" is 0x29B1. -/
theorem test_crc_check_value : crcBytes [0x31, 0x32, 0x33, 0x34, 0x35, 0x36, 0x37, 0x38, 0x39] = [0x29, 0xB1] := by
  decide +kernel
/-- 05 R95 and 5.9.4: the grade terms of 12 and 60, and the floor of the deceleration. -/
theorem test_grade_terms : gradeTerm 12 = 12 ∧ gradeTerm 60 = 59 ∧ effDecel 30 12 = 18 ∧ effDecel 20 60 = 2 := by
  decide +kernel
/-- 5.9.1 to 5.9.4: curve speeds, and the creep row of 5.9.3. -/
theorem test_curve_cases : curveSpeed 6850 18 350 8 = 483 ∧ curveSpeed 600 30 350 8 = 122 ∧
    curveSpeed 352 30 350 8 = 10 ∧ curveSpeed 351 30 350 8 = 8 ∧ curveSpeed 350 30 350 8 = 0 ∧
    curveSpeed 1350 2 350 8 = 63 := by decide +kernel
/-- 5.9.4 and 5.9.5: stop distances. -/
theorem test_stop_distances : stopDistance 63 2 = 993 ∧ stopDistance 64 2 = 1024 ∧ stopDistance 150 30 = 375 ∧
    stopDistance 150 18 = 625 := by decide +kernel
/-- 5.9.1: distance, curve and ceiling with the front at S12 offset 6000. -/
theorem test_case_1 : (going 6000 140).distanceToGo 3 = 6850 ∧ (going 6000 140).curve 3 = 483 ∧
    (going 6000 140).ceilingNow 3 = 150 := by decide +kernel
/-- 4.6.2: the requested end fails, the exit of S13 passes. -/
theorem test_case_cancel_late : (going 7700 150).brakingOk 3 ⟨1, 8000⟩ = false ∧
    (going 7700 150).brakingOk 3 ⟨2, 2600⟩ = true ∧ (going 7700 150).effectiveEnd 3 ⟨1, 8000⟩ = ⟨2, 2600⟩ := by
  decide +kernel

/-! ## Operations queries and control commands -/

theorem test_qSite : ((replies (run (.qSite 0 1 []) site)).map fun r => (r.1, r.2.1)) = [(0x40, .ok)] := by decide +kernel
theorem test_qSection_unknown : replies (run (.qSection 0 1 [15]) site) = [(0x41, .unknownId, [])] := by decide +kernel
theorem test_qPoint : ((replies (run (.qPoint 0 1 [4]) site)).map fun r => (r.1, r.2.1)) = [(0x42, .ok)] := by
  decide +kernel
theorem test_qTransporter_unknown : replies (run (.qTransporter 0 1 [6]) site) = [(0x43, .unknownId, [])] := by
  decide +kernel
theorem test_qRoute : ((replies (run (.qRoute 0 1 [3]) (going 2000 0))).map fun r => (r.1, r.2.1)) = [(0x44, .ok)] := by
  decide +kernel
theorem test_qPad_unknown : replies (run (.qPad 0 1 [32]) site) = [(0x45, .unknownId, [])] := by decide +kernel
theorem test_qTelescope_unknown : replies (run (.qTelescope 0 1 [17]) site) = [(0x46, .unknownId, [])] := by
  decide +kernel
theorem test_qUnit_unknown : replies (run (.qUnit 0 1 [48]) site) = [(0x47, .unknownId, [])] := by decide +kernel
theorem test_allStop_holds : ((run (.allStop 0 1 []) (going 2000 0)).tr 3).state = .held ∧
    ((run (.allStop 0 1 []) (going 2000 0)).tl 3).auth.map (·.order) = some .stand := by decide +kernel
theorem test_allResume_resumes :
    ((run (.allResume 0 1 []) (run (.allStop 1 1 []) (going 2000 0))).tr 3).state = .authorised := by decide +kernel
theorem test_zoneClear_unknown : replies (run (.zoneClear 0 1 [8]) site) = [(0x52, .unknownId, [])] := by decide +kernel
/-- 4.6.1: REPLY OK with end 1 at 8000, number 15, moved; S13 becomes RELEASE_PENDING. -/
theorem test_cancel_case :
    replies (run (.cancel 0 1 [3, 0, 1, 0x1F, 0x40]) (going 2000 150)) = [(0x53, .ok, [3, 0, 1, 0x1F, 0x40, 15, 1])] ∧
    (run (.cancel 0 1 [3, 0, 1, 0x1F, 0x40]) (going 2000 150)).holdBy 3 13 = some .releasePending := by decide +kernel
theorem test_recover : ((run (.recover 0 1 [3]) tripped).tr 3).awaitingFix = true := by decide +kernel
theorem test_retire_frees : (run (.retire 0 1 [3]) standing).holdBy 3 12 = none ∧
    ((run (.retire 0 1 [3]) standing).tr 3).state = .offline := by decide +kernel
theorem test_throw_queued : (run (.throwPoint 0 1 [4, 1]) site).cmdQueue = [⟨.throwNormal, 9, 4, .ops⟩] := by decide +kernel
theorem test_clearPoint : ((run (.clearPoint 0 1 [4])
    (site.modPoint 4 fun x => { x with latch := some .unitSilent })).point? 4).map (fun x => (x.latch, x.pos)) =
    some (none, .unknown) := by decide +kernel
theorem test_restoreSection : ((run (.restoreSection 0 1 [12]) (site.modSec 12 fun x => { x with det := .disturbed })).detOf 12) =
    .occupied := by decide +kernel
theorem test_restoreUnit : (run (.restoreUnit 0 1 [9]) (site.modUnit 9 fun x => { x with st := .silent })).restoreList =
    [9] := by decide +kernel
theorem test_padReserve : ((run (.padReserve 0 1 [31, 16]) site).pad? 31).map (·.reserv) = some (some 16) := by decide +kernel
theorem test_padFree : ((run (.padFree 0 1 [31]) (site.modPad 31 fun x => { x with reserv := some 2 })).pad? 31).map (·.reserv) =
    some none := by decide +kernel
theorem test_padService_out : ((run (.padService 0 1 [31, 1]) site).pad? 31).map (·.st) = some .outOfService := by
  decide +kernel
theorem test_declare_needs_load : replies (run (.declare 0 1 [2, 0, 31]) site) = [(0x5D, .loadMismatch, [])] := by
  decide +kernel
theorem test_xferAbort_indeterminate :
    (run (.xferAbort 0 1 [3]) (inTransfer ⟨31, .lift, 2, .raise, .none, true, some (.load 600), true⟩)).locOf 2 =
      some (.indeterminate 31 3) := by decide +kernel

/-! ## Configuration commands -/

/-- The site of 1.7 before COMMIT. -/
def unconfigured : State := { site with site := .unconfigured, exchange := none }

theorem test_setParam_locked : replies (run (.setParam 0 1 [1, 0, 1, 0]) site) = [(0x60, .configLocked, [])] := by
  decide +kernel
theorem test_defineSection : ((run (.defineSection 0 1
      [20, 0, 0x0B, 0xB8, 0xFF, 0xFF, 0xFC, 0, 120, 0xFE, 0xFE, 13, 2, 0xFF, 0xFF, 8, 0, 6, 0]) unconfigured).sec? 20).map
      (fun x => (x.defn, x.det)) = some ((sec 3000 (-4) 120 .buffer (.to 13 .c) 8 6 0).defn, .unknown) := by decide +kernel
theorem test_definePoint_range : replies (run (.definePoint 0 1 [4, 13, 49]) unconfigured) = [(0x62, .range, [])] := by
  decide +kernel
/-- 1.8: a stop offset of 3200 passes DEFINE_PAD, and COMMIT's pad check (step 7) then fails. -/
theorem test_definePad_commit_refusal :
    replies (run (.commit 0 2 []) (run (.definePad 0 1 [31, 20, 0x0C, 0x80, 0, 20, 22]) unconfigured)) =
      [(0x63, .ok, []), (0x67, .range, [6, 4, 31])] := by decide +kernel
theorem test_defineUnit : ((run (.defineUnit 0 1 [7, 1]) unconfigured).unit? 7).map (·.typ) = some .detector := by
  decide +kernel
theorem test_defineTransporter_range :
    replies (run (.defineTransporter 0 1 [3, 0, 3, 0, 20, 0, 200, 0, 100, 0, 30]) unconfigured) = [(0x65, .range, [])] := by
  decide +kernel
theorem test_allocate_pool : replies (run (.allocate 0 1 [32, 32, 32, 16, 16, 2]) unconfigured) = [(0x66, .range, [])] := by
  decide +kernel
theorem test_commit : (run (.commit 0 1 []) unconfigured).site = .survey ∧
    (run (.commit 0 1 []) unconfigured).band = .hold .mastPending := by decide +kernel
theorem test_configure_needs_offline : replies (run (.configure 0 1 []) standing) = [(0x68, .state, [])] := by
  decide +kernel
theorem test_resetLink : ((run (.resetLink 0 1 [0, 3]) (standing.refuse 3 0x12 .range)).tl 3).refusals = [] := by
  decide +kernel
theorem test_resetFieldbus_busy :
    replies (run (.resetFieldbus 0 1 [1, 0]) (site.modPoint 4 fun x => { x with pos := .moving })) = [(0x69, .state, [])] := by
  decide +kernel
theorem test_resetAll_no_reply : replies (run (.resetAll 0 1 [2, 0]) site) = [] ∧
    (run (.resetAll 0 1 [2, 0]) site).resetHold.map (·.cause) = some .commanded := by decide +kernel

/-! ## Transporter requests -/

theorem test_join : ((run (.join 3 [12, 0x17, 0x70, 0, 0, 0xFF]) (occupied 12 site)).route 3).endPos = some ⟨1, 6000⟩ ∧
    ((run (.join 3 [12, 0x17, 0x70, 0, 0, 0xFF]) (occupied 12 site)).tr 3).state = .parked := by decide +kernel
/-- 5.9.1: the AUTH that answers carries number 14 and ceiling 150. -/
theorem test_report_case_1 :
    ((run (.report 3 [14, 12, 0x17, 0x70, 0, 0, 140, 0, 0xFF]) (going 5900 140)).tl 3).auth.map (fun a => (a.number, a.ceiling)) =
      some (14, 150) := by decide +kernel
/-- 4.6.1: the report that echoes 15 releases S13 and S20, and P4 is unlocked. -/
theorem test_report_echo :
    ((run (.report 3 [15, 12, 0x0C, 0x1C, 0, 0, 150, 0, 0xFF]) shortened).route 3).entries = [⟨12, .a, .b, 1⟩] ∧
    ((run (.report 3 [15, 12, 0x0C, 0x1C, 0, 0, 150, 0, 0xFF]) shortened).point? 4).map (·.lock) = some none := by
  decide +kernel
theorem test_route_granted :
    ((run (.route 3 [3, 8, 0xCA, 12, 0, 1, 13, 0, 2, 20, 1, 0]) standing).tr 3).state = .authorised ∧
    (run (.route 3 [3, 8, 0xCA, 12, 0, 1, 13, 0, 2, 20, 1, 0]) standing).holdBy 3 20 = some .granted := by decide +kernel
/-- 1.7: S13 end B is not linked to S20. -/
theorem test_route_not_contiguous :
    refusals (run (.route 3 [3, 8, 0xCA, 12, 0, 1, 13, 0, 1, 20, 1, 0]) standing) = [.notContiguous] := by decide +kernel
theorem test_giveback_parks : ((run (.giveback 3 [0, 1, 0x07, 0xD0]) (going 2000 0)).tr 3).state = .parked := by decide +kernel
theorem test_transfer_place :
    ((run (.transfer 3 [31, 1]) { atPad with telescopes := [(2, .onTransporter 3)] }).transfers[(3 : TId)]).map (·.stage) =
      some .lower := by decide +kernel
theorem test_step_confirm :
    ((run (.stepResult 3 [0]) (inTransfer ⟨31, .place, 2, .lower, .none, false, some (.load 600), true⟩)).transfers[(3 : TId)]).map
      (·.stage) = some .confirm := by decide +kernel
theorem test_leave_needs_parked : refusals (run (.leave 3 [0]) (going 2000 0)) = [.state] := by decide +kernel

/-! ## Link ports -/

theorem test_holdByte : ((run (.holdByte (.tl 3)) site).core (.tl 3)).txFlow = .hold := by decide +kernel
theorem test_goByte : ((run (.goByte (.tl 3)) (run (.holdByte (.tl 3)) site)).core (.tl 3)).txFlow = .go := by decide +kernel
/-- R171: the frame joins the queue, and the block takes it at once; a LEAVE of a transporter OFFLINE is STATE (R109). -/
theorem test_frameComplete_taken :
    refusals (run (.frameComplete (.tl 3) ((frameBytes 0x16 [0]).drop 1)) (run (.synByte (.tl 3)) site)) = [.state] ∧
    ((run (.frameComplete (.tl 3) ((frameBytes 0x16 [0]).drop 1)) (run (.synByte (.tl 3)) site)).core (.tl 3)).rx = [] := by
  decide +kernel
/-- The site with eight replies waiting on OPS-A. -/
def repliesFull : State := (List.replicate 8 ()).foldl (fun s _ => s.reply 0 1 0x40 .ok []) site
/-- R171, R176: with no room for a reply a command joins the tail, also one equal to a frame that waits. -/
theorem test_equal_frames_wait : ((run (.qSection 0 1 [15]) (run (.qSection 0 1 [15]) repliesFull)).core (.ops 0)).rx =
    [⟨0x41, [1, 15]⟩, ⟨0x41, [1, 15]⟩] := by decide +kernel
/-- R176: intake resumes when a reply leaves. -/
theorem test_opsTransmitStart_resumes :
    let s := run (.opsTransmitStart 0) (run (.qSection 0 1 [15]) repliesFull)
    (s.core (.ops 0)).rx = [] ∧ (replies s).getLast? = some (0x41, .unknownId, []) ∧ (replies s).length = 8 := by
  decide +kernel
theorem test_frameComplete_bad_crc : ((run (.frameComplete (.tl 3) [2, 0x16, 0, 0, 0]) (run (.synByte (.tl 3)) site)).core
    (.tl 3)).rx = [] := by decide +kernel
theorem test_frameGapTimeout : ((run (.frameGapTimeout (.ops 1)) (run (.synByte (.ops 1)) site)).core (.ops 1)).receiver =
    .hunting := by decide +kernel
theorem test_flowByteSend : ((run (.flowByteSend (.tl 0)) (site.modCore (.tl 0) fun c => { c with flowByte := some .hold })).core
    (.tl 0)).sent = [0xC3] := by decide +kernel
theorem test_tlTransmitStart_auth_first : ((run (.tlTransmitStart 3) ((standing.formAuth 3).refuse 3 0x12 .range)).core
    (.tl 3)).sent[2]? = some 0x20 := by decide +kernel
theorem test_opsTransmitStart_reply_first :
    ((run (.opsTransmitStart 0) (run (.qSection 0 1 [15]) (site.post (.overrun (.tl 0) 0x10)))).core (.ops 0)).sent[2]? = some 0x70 := by
  decide +kernel
theorem test_synByte : ((run (.synByte (.tl 3)) site).core (.tl 3)).receiver = .assembling [] := by decide +kernel
theorem test_lenOutOfRange : ((run (.lenOutOfRange (.tl 3) 126) (run (.synByte (.tl 3)) site)).core (.tl 3)).receiver =
    .hunting := by decide +kernel

/-! ## The field bus, expiries, lines, resets, the walk -/

theorem test_goodReply_detector : (run (goodReply 5 .detector [1, 0, 2, 0]) site).detOf 12 = .occupied ∧
    (run (goodReply 5 .detector [1, 0, 2, 0]) site).detOf 14 = .disturbed := by decide +kernel
/-- R157: characters that arrive while FDE is asserted are ignored. -/
theorem test_goodReply_driven : run (.fieldbusGoodReply [⟨0, 0x105, true⟩]) site = site := by decide +kernel
/-- R181's last row and 2.2.1: the blade reading REVERSE is 1. -/
theorem test_lost_position_reading :
    (Notice.payload ⟨0, .pointFault 4 .lostPosition (some .reverse)⟩).getLast? = some 1 := by decide +kernel
theorem test_miss_silences : ((run .fieldbusMiss (run .fieldbusMiss (run .fieldbusMiss site))).unit? 5).map (·.st) = some .silent ∧
    (run .fieldbusMiss (run .fieldbusMiss (run .fieldbusMiss site))).detOf 12 = .unknown := by decide +kernel
theorem test_throwTimeout : ((run (.throwTimeout 4)
    (site.modPoint 4 fun x => { x with pos := .moving, throwCd := some (.load 80) })).point? 4).map (·.latch) =
    some (some .throwTimeout) := by decide +kernel
theorem test_waitExpired : refusals (run (.waitExpired 3) waiting) = [.waitExpired] := by decide +kernel
theorem test_supervisionExpiry : ((run (.supervisionExpiry 3) standing).tr 3).trips = { TripSet.empty with link := true } := by
  decide +kernel
theorem test_stageTimeout_clean :
    ((run (.stageTimeout 3) (inTransfer ⟨31, .lift, 2, .unclamp, .sent, true, some (.load 300), false⟩)).tl 3).xfer =
      some (.xend .abortedClean 31) := by decide +kernel
theorem test_clampFailed : notices (run (.clampFailed 31) (site.modPad 31 fun x => { x with watch := .running (.load 300) })) =
    [.clampFailed 31 .opened none] := by decide +kernel
theorem test_mastLost : (run .mastLost { site with mastHold := some (.load 200) }).band = .hold .mastLost := by decide +kernel
theorem test_stopLine_stops : (run (.stopLineEdge 2 true) (going 2000 0)).tr 3 = { (going 2000 0).tr 3 with
    state := .held, standSeen := true, stop := { StopSet.empty with zoneStop := true } } := by decide +kernel
theorem test_powerOn : (run .powerOn site).resetHold = some ⟨.powerOn, true, false⟩ := by decide +kernel
theorem test_supplyLow : (run .supplyLow site).resetHold = some ⟨.supplyLow, true, false⟩ := by decide +kernel
theorem test_resetLine : (run .resetLine site).resetHold = some ⟨.resetLine, false, true⟩ := by decide +kernel
theorem test_clockStartUpEnd : notices (run .clockStartUpEnd (run .resetLine site)) = [.siteReset .resetLine] ∧
    (run .clockStartUpEnd (run .resetLine site)).site = .unconfigured := by decide +kernel
theorem test_walk_grants : ((run .pendingQueueWalk { waiting with walkDue := true }).route 3).endPos = some ⟨3, 2250⟩ ∧
    (run .pendingQueueWalk { waiting with walkDue := true }).waiting = [] := by decide +kernel

/-- T3 waits for S13 on its reverse path; behind it T4 holds S13 SETTING for the normal path, and P4's unit is SILENT. -/
def contended : State :=
  { ((t3 .parked ⟨11, 100, .up, 0, false, 1, none⟩ { waiting with trs := waiting.trs.set 4 (waiting.tr 3) }).modRoute 4
      fun _ => ⟨[⟨11, .a, .b, 1⟩, ⟨13, .a, .b, 2⟩], some 1, some ⟨1, 5000⟩, 0, 1, 3, false⟩)
      |>.setHold 11 (some ⟨4, .granted, true⟩) |>.setHold 13 (some ⟨4, .setting, false⟩)
      |>.modUnit 9 (fun u => { u with st := .silent }) |>.modPoint 4 (fun x => { x with lock := none })
    with walkDue := true, waiting := [⟨3, none⟩, ⟨4, none⟩] }
/-- R63: T4's offer fails and drops its reservation, and the further walk that this causes gives S13 to T3. -/
theorem test_walk_further : (run .pendingQueueWalk contended).holdBy 3 13 = some .granted ∧
    (run .pendingQueueWalk contended).walkDue = false := by decide +kernel

/-! ## Witnesses: what meets each statement's hypotheses

Each theorem takes the hypotheses of one statement, clause by clause, at a concrete state with concrete operands, at the
bounds of their ranges where they have some. -/

/-- Records at the lowest and the highest identifiers. -/
def edges : State := { site with
  sections := [(0, sec 100 0 10 .buffer .buffer 0 1 0), (95, sec 65000 0 300 .buffer .buffer 0 1 1)]
  points := [(0, ⟨0, 2, .normal, none, none, none, none, none⟩), (31, ⟨95, 2, .normal, none, none, none, none, none⟩)]
  pads := [(0, ⟨0, 0, 1, 3, .vacant, none, .opened, .empty, false, .none⟩),
    (79, ⟨0, 0, 1, 3, .vacant, none, .opened, .empty, false, .none⟩)]
  units := [(1, .fresh .detector), (48, .fresh .mast)] }

/-- Every countdown in its last millisecond, no command waiting. -/
def expiring : State :=
  ({ (inTransfer ⟨31, .lift, 2, .raise, .none, true, some ⟨1, 99⟩, true⟩) with
      mastHold := some ⟨1, 99⟩, waiting := [⟨3, some ⟨1, 99⟩⟩], exchange := some { onBus 5 with fde := true } }.modTr 3 fun x => { x with superv := some ⟨1, 99⟩ })
    |>.modPoint 4 (fun x => { x with pos := .moving, throwCd := some ⟨1, 99⟩ })
    |>.modPad 31 fun x => { x with watch := .running ⟨1, 99⟩ }

theorem test_witness_StepRunsFrontCommand : { site with pending := [.mastLost] }.pending = .mastLost :: [] := rfl

theorem test_witness_EmptyQueueStep :
    (expiring.pending = [] ∧ expiring.resetHold = none ∧ expiring.walkDue = false) ∧
    (expiring.TablesWf ∧ expiring.QueueOnce ∧ expiring.exchange.map (·.fde) = some true) ∧
    ((expiring.point? 4).bind (·.throwCd) = some ⟨1, 99⟩ ∧ (expiring.tr 3).superv = some ⟨1, 99⟩ ∧
      ⟨3, some ⟨1, 99⟩⟩ ∈ expiring.waiting ∧ (expiring.transfers[(3 : TId)]).map (·.cd) = some (some ⟨1, 99⟩) ∧
      (expiring.pad? 31).map (·.watch) = some (.running ⟨1, 99⟩) ∧ expiring.mastHold = some ⟨1, 99⟩ ∧
      (Countdown.mk 1 99).tick.2 = true) ∧
    ({ site with walkDue := true }.pending = [] ∧ { site with walkDue := true }.walkDue = true) ∧
    ((run .powerOn site).pending = [] ∧ (run .powerOn site).resetHold ≠ none) := by decide +kernel

theorem test_witness_CountdownExpiry : 0 < 100 * 1 ∧ 99 < 100 * 1 ∧ 12699 < 100 * 127 := by decide

theorem test_witness_HeldInReset : (run .powerOn site).resetHold ≠ none ∧ Instr.mastLost ≠ .powerOn ∧
    Instr.mastLost ≠ .supplyLow ∧ Instr.mastLost ≠ .resetLine ∧ Instr.mastLost ≠ .clockStartUpEnd := by decide +kernel

theorem test_witness_FullResets : site.OpsReady 0 ∧ site.resetHold = none ∧
    (run .resetLine site).resetHold = some ⟨.resetLine, false, true⟩ := by decide +kernel

theorem test_witness_ResetLinkResult : site.OpsReady 1 ∧ (0 : Byte).toNat < 6 ∧ (5 : Byte).toNat < 6 ∧
    (6 : Byte).toNat = 6 + (0 : OpsId).val ∧ (7 : Byte).toNat = 6 + (1 : OpsId).val ∧ 8 ≤ (8 : Byte).toNat := by
  decide +kernel

theorem test_witness_ResetFieldbusResult :
    (site.OpsReady 0 ∧ site.TablesWf ∧ site.site ≠ .unconfigured ∧ (∀ t : TId, site.transfers[t] = none) ∧
      ∀ p ∈ site.points, p.2.pos ≠ .moving) ∧
    (unconfigured.OpsReady 0 ∧ unconfigured.site = .unconfigured) ∧
    (expiring.OpsReady 0 ∧ expiring.transfers[(3 : TId)] ≠ none) ∧
    (∃ p ∈ expiring.points, p.2.pos = .moving) ∧
    (let s : State := { site with
       site := .survey, units := [(5, { UnitRec.fresh .detector with st := .silent, surveyed := true }), (9, .fresh .point)]
       cmdQueue := [⟨.clamp, 22, 31, .watch 31⟩] }.modPad 31 fun x => { x with watch := .queued }
     s.OpsReady 0 ∧ s.TablesWf ∧ s.site = .survey ∧ (s.unit? 5).map (fun x => (x.st, x.surveyed)) = some (.silent, true) ∧
       s.padWaiters = [] ∧ [31].Nodup ∧ (s.pad? 31).map (·.watch) = some .queued) ∧
    ((1 : Byte) ≠ 0 ∧ 2 < (3 : Byte).toNat) := by decide +kernel

/-- The hypotheses of the six invariants, in RUNNING with an authority in force and in a site that is not RUNNING. -/
theorem test_witness_invariants :
    (∀ s ∈ [going 2000 100, waiting, tripped, unconfigured],
      s.Bounded ∧ s.BusCounts ∧ s.TablesWf ∧ s.params.Legal) ∧
    (∀ s ∈ [going 2000 100, waiting, tripped, unconfigured], s.IdleSite ∧ s.StatesMatch ∧ s.StandsMatch) ∧
    (∀ s ∈ [going 2000 100, waiting, tripped, unconfigured], s.QueueOnce ∧ s.RoutesRise) :=
  ⟨by decide +kernel, by decide +kernel, by decide +kernel⟩
theorem test_witness_StepKeepsStopsCurrent : (going 2000 100).IdleSite ∧ (going 2000 100).StopsCurrent ∧
    ∃ t, step (going 2000 100) = .next t :=
  ⟨by decide +kernel, (State.stopsCurrent_iff _).mpr (by decide +kernel), _, rfl⟩
theorem test_witness_StepKeepsCapacities : (going 2000 100).Bounded ∧ (going 2000 100).BusCounts ∧
    (run (.qSection 0 1 [15]) repliesFull).IntakeDone ∧ ((run (.qSection 0 1 [15]) repliesFull).core (.ops 0)).rx ≠ [] ∧
    ∃ t, step (going 2000 100) = .next t :=
  ⟨by decide +kernel, by decide +kernel, by decide +kernel, by decide +kernel, _, rfl⟩
theorem test_witness_StepKeepsTablesAndParams : (going 2000 100).TablesWf ∧ (going 2000 100).params.Legal ∧
    ∃ t, step (going 2000 100) = .next t := ⟨by decide +kernel, by decide +kernel, _, rfl⟩
theorem test_witness_StepKeepsIdleSite : unconfigured.IdleSite ∧ unconfigured.site ≠ .running ∧
    ∃ t, step unconfigured = .next t := ⟨by decide +kernel, by decide +kernel, _, rfl⟩
theorem test_witness_StepKeepsTransporterStates : tripped.StatesMatch ∧ tripped.StandsMatch ∧
    ∃ t, step tripped = .next t := ⟨by decide +kernel, by decide +kernel, _, rfl⟩
theorem test_witness_StepKeepsRoutes : waiting.QueueOnce ∧ waiting.RoutesRise ∧ ∃ t, step waiting = .next t :=
  ⟨by decide +kernel, by decide +kernel, _, rfl⟩

theorem test_witness_GrantSafety :
    (∃ t, exec (.join 3 [12, 0, 50, 0, 0, 0xFF]) (occupied 12 site) = .next t ∧ t.holdBy 3 12 ≠ none) ∧
    (occupied 12 site).holdBy 3 12 = none ∧
    (∃ t, exec .pendingQueueWalk { waiting with walkDue := true } = .next t ∧ t.holdBy 3 13 = some .granted ∧
      (t.pointOf 13).map (·.1) = some 4) ∧
    (waiting.TablesWf ∧ waiting.holdBy 3 13 = none ∧ waiting.IntakeDone ∧ (occupied 12 site).IntakeDone ∧
      (occupied 12 site).TablesWf) :=
  ⟨⟨_, rfl, by decide +kernel⟩, by decide +kernel, ⟨_, rfl, by decide +kernel⟩, by decide +kernel⟩

/-- A unit of two entries, all sections being of one passing group, which a walk grants whole. -/
theorem test_witness_GrantSafety_group :
    let s : State := { waiting with
      walkDue := true, sections := Table.mapAll waiting.sections fun x => { x with defn := { x.defn with group := 1 } } }
    s.TablesWf ∧ s.IntakeDone ∧ (s.nextUnit 3).map (·.sec) = [13, 20] ∧ (∀ e ∈ s.nextUnit 3, s.groupOf e ≠ 0) ∧
      ∀ e ∈ s.nextUnit 3, s.holdBy 3 e.sec ≠ some .granted ∧ (run .pendingQueueWalk s).holdBy 3 e.sec = some .granted := by
  decide +kernel

/-- T3 has passed from S12 into S13, and detector 5 now reads S12 CLEAR. -/
def passed : State := (occupied 13 (held 13 .granted true (going 2000 100))).modRoute 3 fun r => { r with front := some 2 }

theorem test_witness_ReleaseSafety : (passed.IntakeDone ∧ passed.holdBy 3 12 = some .granted) ∧
    (∀ l, ¬ bytesAt l (goodReply 5 .detector [0, 1, 0, 0])) ∧
    ∃ t, exec (goodReply 5 .detector [0, 1, 0, 0]) passed = .next t ∧ t.holdBy 3 12 = none ∧ t.detOf 12 = .clear :=
  ⟨by decide +kernel, fun _ => by simp [bytesAt, goodReply], ⟨_, rfl, by decide +kernel⟩⟩

theorem test_witness_QueriesAnswered : edges.OpsReady 0 ∧
    (∀ b ∈ [(0 : Byte), 95], b.toNat < 96 ∧ (edges.sec? b.toNat).isSome = true) ∧
    (96 ≤ (96 : Byte).toNat ∧ edges.sec? (94 : Byte).toNat = none) ∧
    (∀ b ∈ [(0 : Byte), 31], b.toNat < 32 ∧ (edges.point? b.toNat).isSome = true) ∧
    (32 ≤ (32 : Byte).toNat ∧ edges.point? (30 : Byte).toNat = none) ∧
    (∀ b ∈ [(0 : Byte), 79], b.toNat < 80 ∧ (edges.pad? b.toNat).isSome = true) ∧
    (80 ≤ (80 : Byte).toNat ∧ edges.pad? (78 : Byte).toNat = none) ∧
    (∀ b ∈ [(1 : Byte), 48], 1 ≤ b.toNat ∧ b.toNat ≤ 48 ∧ (edges.unit? b.toNat).isSome = true) ∧
    (49 ≤ (49 : Byte).toNat ∧ edges.unit? (47 : Byte).toNat = none) ∧
    ((5 : Byte).toNat < 6 ∧ 6 ≤ (6 : Byte).toNat ∧ 1 ≤ (1 : Byte).toNat ∧ (16 : Byte).toNat ≤ 16 ∧ 17 ≤ (17 : Byte).toNat) := by
  decide +kernel

theorem test_witness_LengthRefused :
    (site.OpsReady 0 ∧ opsFrame (.qSite 0 1 [0]) = some (0, 0x40, 1, [0]) ∧ [(0 : Byte)].length ∉ opsLengths 0x40) ∧
    (site.Quiet (.tl 3) ∧ tlFrame (.join 3 []) = some (3, 0x10, [])) ∧ ¬ tlLengthOk 0x10 [] :=
  ⟨by decide +kernel, by decide +kernel, by simp [tlLengthOk]⟩

theorem test_witness_OutsideRunningRefused :
    (unconfigured.OpsReady 0 ∧ unconfigured.site ≠ .running ∧
      opsFrame (.allStop 0 1 []) = some (0, 0x50, 1, []) ∧ ([] : List Byte).length ∈ opsLengths 0x50 ∧
      opsFrame (.xferAbort 0 1 [3]) = some (0, 0x5E, 1, [3]) ∧ [(3 : Byte)].length ∈ opsLengths 0x5E ∧
      opsFrame (.declare 0 1 [2, 0, 31]) = some (0, 0x5D, 1, [2, 0, 31]) ∧ [(2 : Byte), 0, 31].length ∈ opsLengths 0x5D ∧
      [(2 : Byte), 0, 31][1]? = some 0 ∧ opsFrame (.configure 0 1 []) = some (0, 0x68, 1, [])) ∧
    (unconfigured.Quiet (.tl 3) ∧ unconfigured.IdleSite ∧ tlFrame (.leave 3 [0]) = some (3, 0x16, [0])) ∧
    tlLengthOk 0x16 [0] ∧ tlCoded 0x16 [0] :=
  ⟨by and_intros <;> decide +kernel, by decide +kernel, by simp [tlLengthOk], by simp [tlCoded]⟩

/-- The site with line 2 latching. -/
def latched (m : StopMode) (asserted latch : Bool) : State := site.modLine 2 fun _ => ⟨asserted, m, latch⟩

theorem test_witness_StopCommandsResult :
    (unconfigured.OpsReady 0 ∧ unconfigured.site ≠ .running) ∧
    (site.OpsReady 0 ∧ site.site = .running ∧ site.allStop = false ∧ site.allStop ≠ true) ∧
    8 ≤ (8 : Byte).toNat ∧ (7 : Byte).toNat < 8 ∧ (2 : Byte).toNat < 8 ∧
    ((latched .latch true true).OpsReady 0 ∧ (latched .latch true true).lines[2] = ⟨true, .latch, true⟩) ∧
    ((latched .latchLevel true true).OpsReady 0 ∧ (latched .latchLevel true true).lines[2] = ⟨true, .latchLevel, true⟩) := by
  decide +kernel

theorem test_witness_ShortenResult :
    let s := going 2000 150
    s.site = .running ∧ s.RoutesRise ∧ (s.tr 3).state = .authorised ∧ s.entryAt 3 1 = some ⟨12, .a, .b, 1⟩ ∧
    s.frontPos 3 = some ⟨1, 2000⟩ ∧ (s.route 3).endPos = some ⟨3, 2250⟩ ∧ 8000 ≤ s.pathLen ⟨12, .a, .b, 1⟩ ∧
    RoutePos.ahead ⟨1, 2000⟩ ⟨1, 8000⟩ = false ∧ RoutePos.ahead ⟨1, 8000⟩ ⟨3, 2250⟩ = false ∧ s.OpsReady 0 ∧
    s.Quiet (.tl 3) ∧ (3 : Byte).toNat = (3 : TId).val ∧ (⟨1, 8000⟩ : RoutePos) = ⟨num16 0 1, num16 0x1F 0x40⟩ := by
  decide +kernel

/-- Ends that are refused: behind the front, beyond the end, beyond its entry, at an entry that is none. -/
theorem test_witness_ShortenResult_refused :
    6 ≤ (6 : Byte).toNat ∧ (tripped.OpsReady 0 ∧ tripped.Quiet (.tl 3) ∧ tripped.site = .running ∧
      ¬ ((tripped.tr 3).state = .parked ∨ (tripped.tr 3).state = .authorised ∨ (tripped.tr 3).state = .held)) ∧
    (let s := going 2000 150
     s.frontPos 3 = some ⟨1, 2000⟩ ∧ (s.route 3).endPos = some ⟨3, 2250⟩ ∧ s.entryAt 3 1 = some ⟨12, .a, .b, 1⟩ ∧
       RoutePos.ahead ⟨1, 2000⟩ ⟨num16 0 1, num16 0x07 0xCF⟩ = true ∧
       RoutePos.ahead ⟨num16 0 3, num16 0x08 0xCB⟩ ⟨3, 2250⟩ = true ∧
       s.pathLen ⟨12, .a, .b, 1⟩ < num16 0x1F 0x41 ∧ s.entryAt 3 (num16 0 4) = none) := by decide +kernel

theorem test_witness_RecoverResult :
    (tripped.OpsReady 0 ∧ tripped.site = .running ∧ (tripped.tr 3).state = .tripped ∧
      (tripped.tr 3).superv = some (.load 30) ∧ (Countdown.load 30).steps ≠ 0) ∧
    ((tripped.modTr 3 fun x => { x with superv := some ⟨0, 0⟩ }).tr 3).superv = some ⟨0, 0⟩ ∧
    (∀ k q, (k, .indeterminate q 3) ∉ tripped.telescopes) ∧
    (∃ k q, (k, Location.indeterminate q 3) ∈ { tripped with telescopes := [(16, .indeterminate 31 3)] }.telescopes) ∧
    ((standing.tr 3).state ≠ .tripped ∧ 6 ≤ (6 : Byte).toNat ∧ (5 : Byte).toNat < 6 ∧
      unconfigured.OpsReady 0 ∧ unconfigured.site ≠ .running) :=
  ⟨by decide +kernel, by decide +kernel, (fun _ _ h => nomatch h), ⟨16, 31, .head _⟩, by decide +kernel⟩

theorem test_witness_OfflineResult :
    (standing.site = .running ∧ standing.TablesWf ∧ standing.OpsReady 0 ∧ standing.Quiet (.tl 3) ∧
      (3 : Byte).toNat = (3 : TId).val ∧ (standing.tr 3).state = .parked) ∧
    (∀ k q, (k, .indeterminate q 3) ∉ standing.telescopes) ∧ (tripped.TablesWf ∧ (tripped.tr 3).state = .tripped) ∧
    ((going 2000 0).TablesWf ∧ ((going 2000 0).tr 3).state ≠ .parked ∧ ((going 2000 0).tr 3).state ≠ .tripped) ∧
    6 ≤ (6 : Byte).toNat :=
  ⟨by decide +kernel, fun _ _ h => (nomatch h), by decide +kernel, by decide +kernel, by decide +kernel⟩

/-- The site with P4's latch set. -/
def faulted : State := site.modPoint 4 fun x => { x with latch := some .unitSilent }

theorem test_witness_PointCommandsResult : site.OpsReady 0 ∧ site.site = .running ∧
    (unconfigured.OpsReady 0 ∧ unconfigured.site ≠ .running) ∧
    (4 : Byte).toNat < 32 ∧ (site.point? (4 : Byte).toNat).isSome = true ∧ 32 ≤ (32 : Byte).toNat ∧
    site.point? (31 : Byte).toNat = none ∧ (faulted.OpsReady 0 ∧ faulted.site = .running) ∧
    (faulted.point? 4).map (fun x => (x.latch, x.lock)) = some (some .unitSilent, none) ∧
    (faulted.unit? 9).map (·.st) = some .active ∧
    (((faulted.modUnit 9 fun u => { u with st := .silent }).unit? 9).map (·.st)) = some .silent ∧
    ((faulted.modPoint 4 fun x => { x with lock := some 3 }).point? 4).map (·.lock) = some (some 3) := by decide +kernel

/-- The site with S12 not vouched for. -/
def disturbed : State := site.modSec 12 fun x => { x with det := .disturbed }

theorem test_witness_RestoreSectionResult : disturbed.OpsReady 0 ∧ disturbed.site = .running ∧ disturbed.TablesWf ∧
    ((12 : Byte).toNat < 96 ∧ (disturbed.sec? 12).map (·.det) = some .disturbed ∧
      (disturbed.unit? 5).map (·.st) ≠ some .silent) ∧
    (disturbed.sec? 13).map (·.det) = some .clear ∧
    (((disturbed.modUnit 5 fun u => { u with st := .silent }).unit? 5).map (·.st) = some .silent) ∧
    96 ≤ (96 : Byte).toNat ∧ disturbed.sec? (95 : Byte).toNat = none ∧
    ((disturbed.setHold 12 (some ⟨3, .setting, false⟩)).sec? 12).map (·.hold) = some (some ⟨3, .setting, false⟩) := by
  decide +kernel

/-- The site with unit 9 SILENT. -/
def silent9 : State := site.modUnit 9 fun u => { u with st := .silent }

theorem test_witness_RestoreUnitResult : silent9.OpsReady 0 ∧ silent9.site = .running ∧
    (1 ≤ (9 : Byte).toNat ∧ (9 : Byte).toNat ≤ 48 ∧ silent9.unit? 9 = some ⟨.point, .silent, 0, false, false⟩) ∧
    (silent9.unit? 5).map (·.st) = some .active ∧
    ((run (.restoreUnit 1 1 [9]) silent9).unit? 9).map (fun u => (u.st, u.restorePending)) = some (.restoring, true) ∧
    (49 ≤ (49 : Byte).toNat ∧ silent9.unit? (48 : Byte).toNat = none) ∧ silent9.exchange ≠ none ∧
    ({ silent9 with exchange := none }.OpsReady 0 ∧ { silent9 with exchange := none }.cmdQueue = [] ∧
      { silent9 with exchange := none }.restoreList = []) := by decide +kernel

theorem test_witness_PadCommandsResult : site.OpsReady 0 ∧ site.site = .running ∧
    ((31 : Byte).toNat < 80 ∧ (site.pad? 31).map (fun x => (x.st, x.watch, x.reserv)) = some (.vacant, .none, none) ∧
      ∀ q ∈ site.pads, q.1 ≠ 31 → q.2.reserv ≠ some 16) ∧
    (1 ≤ (1 : Byte).toNat ∧ (16 : Byte).toNat ≤ 16 ∧ 17 ≤ (17 : Byte).toNat ∧ 80 ≤ (80 : Byte).toNat ∧
      site.pad? (79 : Byte).toNat = none ∧ (2 : Byte) ≠ 0 ∧ (2 : Byte) ≠ 1) ∧
    ((run (.padService 1 1 [31, 1]) site).pad? 31).map (·.st) = some .outOfService := by decide +kernel

/-- The site with pad 31 loaded and telescope 2 INDETERMINATE between pad 31 and T3. -/
def indeterminate : State :=
  { site.modPad 31 fun x => { x with load := .loaded, st := .blocked } with telescopes := [(2, .indeterminate 31 3)] }

theorem test_witness_DeclareResult :
    let loaded := site.modPad 31 fun x => { x with load := .loaded }
    (loaded.OpsReady 0 ∧ loaded.site = .running ∧ loaded.locOf (16 : Byte).toNat = none ∧ 1 ≤ (1 : Byte).toNat ∧
      (16 : Byte).toNat ≤ 16 ∧ (31 : Byte).toNat < 80 ∧
      (loaded.pad? 31).map (fun x => (x.st, x.reserv, x.watch, x.load)) = some (.vacant, none, .none, .loaded)) ∧
    ((site.pad? 31).map (·.load) = some .empty ∧ (atPad.pad? 31).isSome = true) ∧
    ((3 : Byte).toNat < 6 ∧ standing.telescopeAt 3 = none ∧ (standing.tr 3).state ≠ .transfer ∧
      (going 2000 0).telescopeAt 3 ≠ none ∧ (expiring.tr 3).state = .transfer ∧ expiring.telescopeAt 3 = none) ∧
    (indeterminate.OpsReady 0 ∧ indeterminate.site = .running ∧
      indeterminate.locOf (2 : Byte).toNat = some (.indeterminate 31 3) ∧ (indeterminate.unit? 22).map (·.st) = some .active) ∧
    ((going 2000 0).OpsReady 0 ∧ (going 2000 0).locOf (2 : Byte).toNat = some (.onTransporter 3)) ∧
    (80 ≤ (80 : Byte).toNat ∧ 6 ≤ (6 : Byte).toNat ∧ 17 ≤ (17 : Byte).toNat) := by decide +kernel

/-- A LIFT whose load is moving. -/
def raising : Transfer := ⟨31, .lift, 2, .raise, .none, true, some (.load 600), true⟩
/-- A LIFT whose UNCLAMP is sent. -/
def unclamping : Transfer := ⟨31, .lift, 2, .unclamp, .sent, true, some (.load 300), false⟩

theorem test_witness_AbortResult :
    ((inTransfer raising).transfers[(3 : TId)] = some raising ∧ (inTransfer raising).OpsReady 0 ∧
      (inTransfer raising).site = .running ∧ (3 : Byte).toNat = (3 : TId).val ∧ ((inTransfer raising).tr 3).state = .transfer ∧
      (inTransfer raising).resetHold = none ∧ 0 < (Countdown.load 600).steps ∧ (inTransfer raising).Quiet (.tl 3) ∧
      raising.stage = .raise) ∧
    ((inTransfer unclamping).transfers[(3 : TId)] = some unclamping ∧ unclamping.loadMoving = false ∧
      (inTransfer unclamping).nothingDeferred 3) ∧
    (inTransfer { raising with cd := none }).transfers[(3 : TId)] = some { raising with cd := none } ∧
    ({ raising with cd := none } : Transfer).cd = none ∧
    (standing.transfers[(3 : TId)] = none ∧ standing.OpsReady 0 ∧ (standing.tr 3).state ≠ .transfer) ∧
    6 ≤ (6 : Byte).toNat := by decide +kernel

theorem test_witness_SetParamResult :
    (site.OpsReady 0 ∧ site.params.Legal ∧ site.site = .running) ∧
    ((0 : Byte).toNat = 0 ∧ 21 ≤ (21 : Byte).toNat ∧ 8 ≤ (8 : Byte).toNat) ∧
    (∀ code ∈ [(1 : Byte), 13, 17, 18, 19], 1 ≤ code.toNat ∧ code.toNat ≤ 19) ∧
    ({ site.params with windCrawl := 30 }.values = site.params.values.set (13 - 1) (num16 0 30) ∧
      { site.params with windCrawl := 30 }.Legal) ∧
    ({ site.params with margin := 2001 }.values = site.params.values.set (1 - 1) (num16 7 0xD1) ∧
      ¬ { site.params with margin := 2001 }.Legal) ∧
    ({ site.params with linkHoldUpper := 8 }.values = site.params.values.set (17 - 1) (num16 0 8) ∧
      { site.params with linkHoldUpper := 8 }.Legal) ∧
    (unconfigured.OpsReady 0 ∧ unconfigured.params.Legal ∧ unconfigured.site ≠ .survey) ∧
    ({ site with site := .survey }.OpsReady 0 ∧ { site with site := .survey }.site = .survey) ∧
    (num16 0 3 = StopMode.latchLevel.code ∧ num16 0 0 = StopMode.off.code ∧ (7 : Byte).toNat < 8 ∧ 3 < num16 0 4) := by
  and_intros <;> decide +kernel

/-- S20's DEFINE_SECTION of 1.7. -/
def define20 : List Byte := [20, 0, 0x0B, 0xB8, 0xFF, 0xFF, 0xFC, 0, 120, 0xFE, 0xFE, 13, 2, 0xFF, 0xFF, 8, 0, 6, 0]

theorem test_witness_DefineSectionResult :
    (unconfigured.OpsReady 0 ∧ unconfigured.site = .unconfigured ∧ unconfigured.TablesWf) ∧
    (match parseSection define20 with
     | some (.full f) => f.id = 20 ∧ f.len = 3000 ∧ f.speed = 120 ∧ f.grade = -4 ∧ f.kind = 0 ∧ f.len2 = 65535
     | _ => False) ∧
    parseSection [20, 0, 0] = none ∧ site.OpsReady 0 ∧ site.site = .running ∧
    { site with site := .survey }.OpsReady 0 ∧ 2 ≤ (2 : Byte).toNat ∧ 3 ≤ (3 : Byte).toNat ∧ (95 : Byte).toNat < 96 ∧
    96 ≤ (96 : Byte).toNat := by
  refine ⟨by decide +kernel, ?_, by decide +kernel⟩
  show (20 = 20 ∧ 3000 = 3000 ∧ 120 = 120 ∧ (-4 : Int) = -4 ∧ 0 = 0 ∧ 65535 = 65535)
  decide

/-- R1 before R2: a PLAIN definition with a second length is CONFIG_LOCKED in RUNNING, and FRAME in UNCONFIGURED. -/
theorem test_defineSection_order :
    let p : List Byte := define20.set 4 0 |>.set 5 200
    replies (run (.defineSection 0 1 p) site) = [(0x61, .configLocked, [])] ∧
    replies (run (.defineSection 0 1 p) unconfigured) = [(0x61, .frame, [])] := by decide +kernel

theorem test_witness_DefineRecordsResult :
    (unconfigured.OpsReady 0 ∧ unconfigured.site = .unconfigured ∧ unconfigured.TablesWf) ∧
    (∀ n ∈ [(0 : Byte), 31], ¬ (32 ≤ n.toNat ∨ 96 ≤ (95 : Byte).toNat)) ∧
    (∀ a ∈ [(1 : Byte), 48], ¬ (a.toNat = 0 ∨ 48 < a.toNat)) ∧
    (¬ (80 ≤ (79 : Byte).toNat ∨ 96 ≤ (20 : Byte).toNat) ∧ ¬ 65000 < num16 0xFD 0xE8 ∧ 65000 < num16 0xFD 0xE9) ∧
    (¬ (num16 0 50 = 0 ∨ 50 < num16 0 50) ∧ (0xFF : Byte) ≠ 95 ∧ (4 : Byte).toNat = UnitType.mast.code ∧ 4 < (5 : Byte).toNat) ∧
    ((5 : Byte).toNat < 6 ∧ 6 ≤ (6 : Byte).toNat ∧ 4 ≤ num16 0 4 ∧ num16 0 100 ≤ 100 ∧ 10 ≤ num16 0 10 ∧ num16 1 44 ≤ 300 ∧
      3 ≤ num16 0 3 ∧ num16 0 127 ≤ 127) ∧
    (site.OpsReady 0 ∧ { site with site := .survey }.OpsReady 0) := by decide +kernel

theorem test_witness_AllocateResult :
    let legal : Vector Byte 6 := #v[32, 32, 32, 16, 14, 2]
    (∀ t : TId, 2 ≤ legal[t].toNat ∧ legal[t].toNat ≤ 32) ∧ (legal.toList.map BitVec.toNat).sum ≤ 128 ∧
    ¬ ((#v[32, 32, 32, 16, 15, 2] : Vector Byte 6).toList.map BitVec.toNat).sum ≤ 128 ∧
    (standing.OpsReady 0 ∧ standing.site = .running ∧ ∀ t : TId, (standing.tr t).state = .offline ∨
      (standing.tr t).state = .parked ∧ (∀ w ∈ standing.waiting, w.t ≠ t) ∧ (standing.route t).entries.length ≤ legal[t].toNat) ∧
    ((going 2000 0).OpsReady 0 ∧ ((going 2000 0).tr 3).state = .authorised) := by decide +kernel

/-- A site that COMMIT accepts: one section, served by one detector, and no mast. -/
def tiny : State := { unconfigured with
  sections := [(7, sec 3000 0 120 .buffer .buffer 0 5 0)], points := [], pads := [], units := [(5, .fresh .detector)] }

theorem test_witness_CommitResult :
    (tiny.OpsReady 0 ∧ tiny.site = .unconfigured ∧ tiny.TablesWf) ∧ tiny.Sound ∧ ¬ { tiny with sections := [] }.Sound ∧
    ({ tiny with sections := [] }.OpsReady 0 ∧ { tiny with sections := [] }.site = .unconfigured ∧
      { tiny with sections := [] }.TablesWf) ∧ site.site ≠ .unconfigured := by
  refine ⟨by decide +kernel, ?_, fun h => h.some_section rfl, by decide +kernel, by decide +kernel⟩
  constructor <;> simp [tiny, sec, State.servedBy, State.unit?, Table.find, SectionDef.isPoint, UnitRec.fresh]
  all_goals first
    | (intro e m f h; cases e <;> simp [SectionDef.linkOf] at h)
    | decide +kernel

theorem test_witness_ConfigureResult : site.OpsReady 0 ∧ site.site = .running ∧
    (∀ t : TId, (site.tr t).state = .offline) ∧ standing.OpsReady 0 ∧ (standing.tr 3).state ≠ .offline := by decide +kernel

theorem test_witness_JoinResult :
    let s := occupied 12 site
    let secs := (12 : Byte).toNat :: []
    (s.Quiet (.tl 3) ∧ s.TablesWf ∧ ¬ (1 < (1 : Byte).toNat ∨ 1 < (1 : Byte).toNat) ∧
      ¬ (s.site ≠ .running ∨ (s.tr 3).state ≠ .offline) ∧ ¬ (∃ m ∈ secs, 96 ≤ m ∨ s.sec? m = none) ∧
      ¬ (∃ m ∈ secs, ((s.pointOf m).bind fun q => q.2.latch) ≠ none) ∧ (0xFF : Byte) ≠ 12 ∧
      s.joinFront 12 .up ≠ none ∧ ¬ (∃ m ∈ secs, (s.sec? m).bind (·.hold) ≠ none) ∧
      ¬ (∃ m ∈ secs, s.detOf m ≠ .occupied ∧ s.detOf m ≠ .disturbed)) ∧
    (s.joinFront 13 .up).bind (s.joinRear 12) = some ⟨12, .a, .b, 0⟩ := by decide +kernel

/-- A REPORT from where T3 stands, and one from S13 while it holds S12 behind. -/
theorem test_witness_ReportAnswered :
    (let s := standing
     s.Quiet (.tl 3) ∧ s.RoutesRise ∧ (0 : Byte).toNat ≤ 1 ∧ (1 : Byte).toNat ≤ 1 ∧ (s.tr 3).state = .parked ∧
       s.holdsFirm 3 12 ∧ s.entryOf 3 12 = some ⟨12, .a, .b, 1⟩ ∧ s.pendingRun 3 = [] ∧
       (sentReport 1 12 0x17 0x70 0 0 0 0 0xFF).speed = 0 ∧ (s.route 3).front = some 1) ∧
    (let s := going 2000 100
     s.Quiet (.tl 3) ∧ s.RoutesRise ∧ (s.tr 3).state = .authorised ∧ s.holdsFirm 3 12 ∧
       s.entryOf 3 12 = some ⟨12, .a, .b, 1⟩ ∧ s.entryAt 3 1 = some ⟨12, .a, .b, 1⟩ ∧ s.pendingRun 3 = [] ∧
       (sentReport 14 12 0x17 0x70 0 0 140 0 0xFF).dir = senseOf .a ∧
       (sentReport 14 12 0x17 0x70 0 0 140 0 0xFF).speed ≤
         (s.noted 3 (sentReport 14 12 0x17 0x70 0 0 140 0 0xFF)).curve 3 + s.params.overspeedTol) ∧
    (let s := passed
     s.Quiet (.tl 3) ∧ s.RoutesRise ∧ s.holdsFirm 3 13 ∧ s.holdsFirm 3 12 ∧ s.entryOf 3 13 = some ⟨13, .a, .c, 2⟩ ∧
       (sentReport 14 13 0 10 0 0 0 0 12).rear = some 12) := by decide +kernel

/-- The state in which the front of T3's report r lies in the entry f, nothing being released. -/
def fronted (s : State) (r : Report) (f : Entry) : State :=
  (s.noted 3 { r with off := min r.off (s.pathLen f) }).modRoute 3 fun x => { x with front := some f.index }

/-- The report of T3 running at 100 from S12 into S13, and the one of T3 standing in TRANSFER. -/
def intoS13 : Report := sentReport 14 13 0 10 0 0 100 0 0xFF
def atJacks : Report := sentReport 1 20 2 0xF8 1 0 0 0 0xFF

/-- A report into a new entry, the rear S12 still OCCUPIED, and a report in TRANSFER, both plausible. -/
theorem test_witness_ReportAnswered_moving :
    (let s := going 2000 100
     let m := fronted s intoS13 ⟨13, .a, .c, 2⟩
     (s.noted 3 { intoS13 with off := min intoS13.off (s.pathLen ⟨13, .a, .c, 2⟩) }).FrontTaken m 3 ⟨13, .a, .c, 2⟩ ∧
       m.Plausible 3 ⟨13, .a, .c, 2⟩ intoS13 ∧ ¬ m.Overspeeds 3 intoS13 ∧
       (s.Quiet (.tl 3) ∧ s.RoutesRise ∧ s.TablesWf ∧ (s.tr 3).state = .authorised ∧ s.holdsFirm 3 13 ∧
         s.entryOf 3 13 = some ⟨13, .a, .c, 2⟩ ∧ intoS13.rear = none ∧
         m.pendingRun 3 = [])) ∧
    (let s := inTransfer raising
     let m := fronted s atJacks ⟨20, .b, .a, 1⟩
     (s.noted 3 { atJacks with off := min atJacks.off (s.pathLen ⟨20, .b, .a, 1⟩) }).FrontTaken m 3 ⟨20, .b, .a, 1⟩ ∧
       m.Plausible 3 ⟨20, .b, .a, 1⟩ atJacks ∧ ¬ m.Overspeeds 3 atJacks ∧
       (s.Quiet (.tl 3) ∧ s.RoutesRise ∧ s.TablesWf ∧ (s.tr 3).state = .transfer ∧ s.holdsFirm 3 20 ∧
         s.entryOf 3 20 = some ⟨20, .b, .a, 1⟩ ∧ m.pendingRun 3 = [])) := by
  refine ⟨⟨⟨fun h => absurd h (by decide +kernel), fun _ => ⟨[], rfl, ?_⟩⟩, ⟨by decide +kernel, by decide +kernel,
    fun h => absurd h (by decide +kernel)⟩, fun h => absurd h.2.2 (by decide +kernel), by decide +kernel⟩,
    ⟨⟨fun _ => by decide +kernel, fun h => absurd (by decide +kernel) h⟩, ⟨by decide +kernel, by decide +kernel,
    fun _ x p hx hp => ?_⟩, fun h => absurd h.1 (by decide +kernel), by decide +kernel⟩⟩
  · rintro e ⟨h1, ⟨x, h2, -, h3⟩, -⟩
    obtain rfl := Option.some.inj h1
    obtain rfl := Option.some.inj h2
    exact absurd h3 (by decide +kernel)
  · obtain rfl := Option.some.inj hx
    obtain rfl := Option.some.inj hp
    decide +kernel

/-- In TRANSFER: a front not held, motion, and a front outside the pad's section; and into a new entry: overspeed, a run
against the entry, and a front beyond the end it echoes. -/
theorem test_witness_ReportTrips_moving :
    (let s := inTransfer raising
     s.Quiet (.tl 3) ∧ s.RoutesRise ∧ s.TablesWf ∧ (s.tr 3).state = .transfer ∧ s.transfers[(3 : TId)] = some raising ∧
       ¬ s.holdsFirm 3 12 ∧ s.holdsFirm 3 20 ∧ s.params.overspeedTol < (sentReport 1 20 2 0xF8 1 0 16 0 0xFF).speed ∧
       ((s.modPad 31 fun p => { p with sec := 13 }).pad? 31).map (·.sec) = some 13) ∧
    (let s := going 2000 100
     let r := sentReport 14 13 0 10 0 1 0xF4 0 0xFF
     let m := fronted s r ⟨13, .a, .c, 2⟩
     (s.Quiet (.tl 3) ∧ s.RoutesRise ∧ s.TablesWf ∧ s.holdsFirm 3 13 ∧ s.entryOf 3 13 = some ⟨13, .a, .c, 2⟩ ∧
       m.pendingRun 3 = [] ∧ (m.tr 3).state = .authorised ∧ r.dir = senseOf .a ∧ r.echo = (m.route 3).authNum ∧
       m.curve 3 + m.params.overspeedTol < r.speed) ∧ (sentReport 14 13 0 10 1 0 1 0 0xFF).dir ≠ senseOf .a) ∧
    (let s := shortened
     let r := sentReport 15 13 0 10 0 0 0 0 0xFF
     let m := fronted s r ⟨13, .a, .c, 2⟩
     s.Quiet (.tl 3) ∧ s.RoutesRise ∧ s.TablesWf ∧ s.holdsFirm 3 13 ∧ m.pendingRun 3 ≠ [] ∧ r.echo = (m.route 3).authNum ∧
       (m.route 3).endPos = some ⟨1, 8000⟩) :=
  ⟨by decide +kernel, by decide +kernel, by decide +kernel⟩

theorem test_witness_ReportTrips :
    (let s := standing
     s.Quiet (.tl 3) ∧ (s.tr 3).state = .parked ∧ ¬ s.holdsFirm 3 13 ∧ s.holdsFirm 3 12 ∧
       s.entryOf 3 12 = some ⟨12, .a, .b, 1⟩ ∧ s.entryAt 3 1 = some ⟨12, .a, .b, 1⟩ ∧ (s.route 3).front = some 1 ∧
       s.params.overspeedTol < (sentReport 1 12 0 0 0 0 16 0 0xFF).speed) ∧
    (let s := going 2000 100
     s.Quiet (.tl 3) ∧ (s.tr 3).state = .authorised ∧ (s.route 3).front = some 1 ∧ (sentReport 14 12 0 0 1 0 1 0 0xFF).rear = none ∧
       0 < (sentReport 14 12 0 0 1 0 1 0 0xFF).speed ∧ (sentReport 14 12 0 0 1 0 1 0 0xFF).dir ≠ senseOf .a) ∧
    (let s := going 2000 100
     let r := sentReport 14 12 0x1F 0x40 0 1 0xF4 0 0xFF
     s.pendingRun 3 = [] ∧ r.echo = (s.route 3).authNum ∧ r.dir = senseOf .a ∧ r.speed = 500 ∧
       (s.noted 3 { r with off := min r.off (s.pathLen ⟨12, .a, .b, 1⟩) }).curve 3 + s.params.overspeedTol < r.speed) ∧
    (let s := shortened.modRoute 3 fun r => { r with front := some 2 }
     s.Quiet (.tl 3) ∧ (s.tr 3).state = .authorised ∧ s.holdsFirm 3 13 ∧ s.entryOf 3 13 = some ⟨13, .a, .c, 2⟩ ∧
       s.entryAt 3 2 = some ⟨13, .a, .c, 2⟩ ∧ (s.route 3).front = some 2 ∧ s.pendingRun 3 ≠ [] ∧
       (sentReport 15 13 0 0 0 0 0 0 0xFF).echo = (s.route 3).authNum ∧ (s.route 3).endPos = some ⟨1, 8000⟩) := by decide +kernel

theorem test_witness_EchoRelease : ∀ s ∈ [shortened, shortened.modRoute 3 fun r => { r with keep := true }],
    s.Quiet (.tl 3) ∧ s.RoutesRise ∧ (s.tr 3).state = .authorised ∧ s.holdsFirm 3 12 ∧
    s.entryOf 3 12 = some ⟨12, .a, .b, 1⟩ ∧ (s.route 3).front = some 1 ∧ (s.route 3).endPos = some ⟨1, 8000⟩ ∧
    s.pendingRun 3 ≠ [] ∧ (s.route 3).authNum < 256 ∧
    ∀ k : OpsId, (s.opsPort k).notices.length + 2 * (s.pendingRun 3).length ≤ 32 := by decide +kernel

/-- The same echo of T3 running at 15: plausible, its front where it was. -/
theorem test_witness_EchoRelease_moving :
    let s := shortened
    let r := sentReport 15 12 0x17 0x70 0 0 15 0 0xFF
    let m := fronted s r ⟨12, .a, .b, 1⟩
    (s.noted 3 { r with off := min r.off (s.pathLen ⟨12, .a, .b, 1⟩) }).FrontTaken m 3 ⟨12, .a, .b, 1⟩ ∧
      m.Plausible 3 ⟨12, .a, .b, 1⟩ r ∧
      (s.Quiet (.tl 3) ∧ s.RoutesRise ∧ s.TablesWf ∧ (s.tr 3).state = .authorised ∧ s.holdsFirm 3 12 ∧ s.entryOf 3 12 = some ⟨12, .a, .b, 1⟩ ∧
        m.pendingRun 3 ≠ [] ∧ r.echo = (m.route 3).authNum ∧ (m.route 3).endPos = some ⟨1, 8000⟩) :=
  ⟨⟨fun _ => by decide +kernel, fun h => absurd (by decide +kernel) h⟩,
    ⟨by decide +kernel, by decide +kernel, fun h => absurd h (by decide +kernel)⟩, by decide +kernel⟩

theorem test_witness_ReportWhileDown :
    (site.Quiet (.tl 3) ∧ (site.tr 3).state = .offline ∧ 1 < (2 : Byte).toNat) ∧
    (tripped.Quiet (.tl 3) ∧ (tripped.tr 3).state = .tripped ∧ (tripped.tr 3).awaitingFix = false ∧ tripped.holdsFirm 3 12 ∧
      tripped.entryOf 3 12 = some ⟨12, .a, .b, 1⟩ ∧ ¬ tripped.holdsFirm 3 13) ∧
    (let s := run (.recover 0 1 [3]) tripped
     s.Quiet (.tl 3) ∧ s.RoutesRise ∧ s.TablesWf ∧ (s.tr 3).state = .tripped ∧ (s.tr 3).awaitingFix = true ∧
       s.holdsFirm 3 12 ∧ ¬ s.holdsFirm 3 13 ∧
       s.entryOf 3 12 = some ⟨12, .a, .b, 1⟩ ∧ (sentReport 1 12 0x17 0x70 0 0 15 0 0xFF).speed ≤ s.params.overspeedTol ∧
       s.params.overspeedTol < (sentReport 1 12 0x17 0x70 0 0 16 0 0xFF).speed) := by decide +kernel

/-- The ROUTE of 1.7 to the pad. -/
def routeToPad : List Byte := [3, 8, 0xCA, 12, 0, 1, 13, 0, 2, 20, 1, 0]

theorem test_witness_RouteResult :
    let s := standing
    let ts : List Triple := [⟨12, .a, .b⟩, ⟨13, .a, .c⟩, ⟨20, .b, .a⟩]
    (s.Quiet (.tl 3) ∧ s.RoutesRise ∧ s.TablesWf ∧ parseRoute routeToPad = some (2250, some ts) ∧
      parseRoute [1, 0, 0, 12, 0, 3] = some (0, none)) ∧
    (s.site = .running ∧ s.pendingRun 3 = [] ∧ (s.tr 3).state = .parked) ∧
    ¬ (∃ x ∈ ts, 96 ≤ x.sec ∨ s.sec? x.sec = none) ∧ s.contiguous (ts.map Triple.entry) = true ∧
    s.startMatches 3 ts = true ∧ ((s.routeAfter 3 ts).map (·.sec)).Nodup ∧
    ¬ ((s.tr 3).quota < (s.routeAfter 3 ts).length ∨ ∃ e ∈ s.routeAfter 3 ts, 65535 < e.index) ∧
    ts.getLast? = some ⟨20, .b, .a⟩ ∧ 2250 ≤ s.pathLen (Triple.entry ⟨20, .b, .a⟩) ∧ s.newEntries 3 ts ≠ [] ∧
    ((going 2000 0).Quiet (.tl 3) ∧ (going 2000 0).RoutesRise ∧ (going 2000 0).TablesWf ∧ (going 2000 0).tail 3 = [] ∧
      (going 2000 0).newEntries 3 [⟨20, .b, .a⟩] = [] ∧ (going 2000 0).startMatches 3 [⟨20, .b, .a⟩] = true ∧
      (going 2000 0).endAhead 3 [⟨20, .b, .a⟩] 3000 = true ∧ (going 2000 0).endBehind 3 [⟨20, .b, .a⟩] 2250 = false) :=
  ⟨by decide +kernel, by decide +kernel⟩

/-- PARKED, a request whose rebuilt record ends elsewhere and is granted, and one that moves the end ahead in S12. -/
theorem test_witness_RouteResult_parked :
    let s := standing
    (s.rebuiltEnd 3 (s.routeAfter 3 [⟨12, .a, .b⟩, ⟨13, .a, .c⟩, ⟨20, .b, .a⟩]) 2250 ≠ s.endTriple 3 ∧
      (∃ e ∈ ((run (.route 3 routeToPad) s).route 3).entries,
        (run (.route 3 routeToPad) s).holdBy 3 e.sec = some .granted ∧ s.holdBy 3 e.sec ≠ some .granted)) ∧
    (s.newEntries 3 [⟨12, .a, .b⟩] = [] ∧ s.endAhead 3 [⟨12, .a, .b⟩] 7000 = true ∧
      s.startMatches 3 [⟨12, .a, .b⟩] = true ∧ s.endBehind 3 [⟨12, .a, .b⟩] 7000 = false) := by decide +kernel

/-- T3 at pad 31 with telescope 2 on it, and T3 empty there with telescope 2 on the pad. -/
def loaded : State := { atPad with telescopes := [(2, .onTransporter 3)] }
def padFull : State := atPad.modPad 31 fun x => { x with st := .occupied 2, load := .loaded }

theorem test_witness_TransferResult :
    (let s := loaded
     s.Quiet (.tl 3) ∧ s.site = .running ∧ (s.tr 3).state = .parked ∧ s.pendingRun 3 = [] ∧ (31 : Byte).toNat < 80 ∧
       ¬ 1 < (1 : Byte).toNat ∧ s.speed 3 = 0 ∧ s.carried 3 = some 2 ∧
       (s.pad? 31).map (fun x => (x.st, x.reserv, x.watch, x.silent, x.load)) = some (.vacant, none, .none, false, .empty) ∧
       (s.tr 3).last.map (·.off) = some 760) ∧
    (let s := padFull
     s.Quiet (.tl 3) ∧ s.telescopeAt 3 = none ∧ s.loadSensed 3 = false ∧ s.cmdQueue.length < 16 ∧
       (s.pad? 31).map (fun x => (x.st, x.load)) = some (.occupied 2, .loaded)) ∧
    (standing.Quiet (.tl 3) ∧ 80 ≤ (80 : Byte).toNat ∧ (going 2000 0).Quiet (.tl 3) ∧
      ((going 2000 0).tr 3).state ≠ .parked) := ⟨by decide +kernel, by decide +kernel, by decide +kernel⟩

/-- The bus awaits a good reply of pad 31's unit. -/
theorem awaits (s : State) (a : Nat) (v : UnitRec) (rs : List Nat) (h1 : s.resetHold = none) (h2 : s.unit? a = some v)
    (h3 : a ≤ 48) (h4 : rs.length + 3 = v.typ.replyLength) (h5 : ∀ r ∈ rs, r < 256)
    (h6 : s.exchange = some (onBus a)) : s.AwaitsReply a v rs 8000 :=
  ⟨h1, h2, h3, h4, h5, _, h6, rfl, Nat.le_refl _⟩

/-- Pad 31 with a clamp watch that runs. -/
def watched : State := site.modPad 31 fun x => { x with watch := .running (.load 300) }

theorem test_witness_TransferStages :
    ((inTransfer raising).Quiet (.tl 3) ∧ (inTransfer raising).transfers[(3 : TId)] = some raising ∧ raising.kind = .lift ∧
      raising.stage = .raise ∧ 1 < (2 : Byte).toNat ∧ standing.Quiet (.tl 3) ∧ standing.transfers[(3 : TId)] = none) ∧
    (polling 22 (inTransfer unclamping)).AwaitsReply 22 (.fresh .pad) [1, 2] 8000 ∧
    (let s := polling 22 (inTransfer unclamping)
     (s.padAt 22).map (fun p => (p.1, p.2.st)) = some (31, .transfer 3) ∧ s.transfers[(3 : TId)] = some unclamping ∧
       s.TablesWf ∧ (∀ c ∈ s.cmdQueue, c.req ≠ .xfer 3) ∧ .xfer 3 ∉ s.padWaiters) ∧
    (polling 22 (inTransfer { raising with stage := .confirm })).AwaitsReply 22 (.fresh .pad) [3, 1] 8000 ∧
    (inTransfer { raising with stage := .confirm }).nothingDeferred 3 ∧
    (polling 22 watched).AwaitsReply 22 (.fresh .pad) [2, 1] 8000 ∧
    ((polling 22 watched).padAt 22).map (fun p => (p.1, p.2.st, p.2.watch)) = some (31, .vacant, .running (.load 300)) ∧
    ((polling 22 watched).TablesWf ∧ (∀ c ∈ watched.cmdQueue, c.req ≠ .watch 31) ∧ .watch 31 ∉ watched.padWaiters) :=
  ⟨by decide +kernel, awaits _ _ _ _ rfl rfl (by decide) rfl (by decide) rfl, by decide +kernel,
    awaits _ _ _ _ rfl rfl (by decide) rfl (by decide) rfl, by decide +kernel,
    awaits _ _ _ _ rfl rfl (by decide) rfl (by decide) rfl, by decide +kernel, by decide +kernel⟩

/-- A PLACE in CONFIRM: LOADED ends the stage, with room in the command queue and without; UNSURE ends none; UNKNOWN aborts. -/
def confirming : Transfer := ⟨31, .place, 2, .confirm, .none, false, some (.load 100), true⟩

def confirms : State := polling 22 (inTransfer confirming)
def confirmsFull : State := { confirms with cmdQueue := List.replicate 16 ⟨.throwNormal, 9, 4, .ops⟩ }

theorem test_witness_TransferStages_place :
    (∀ load ∈ [0, 2, 3, 4], confirms.AwaitsReply 22 (.fresh .pad) [2, load] 8000) ∧
    confirmsFull.AwaitsReply 22 (.fresh .pad) [2, 2] 8000 ∧
    (∀ s ∈ [confirms, confirmsFull], (s.padAt 22).map (fun p => (p.1, p.2.st)) = some (31, .transfer 3) ∧
      s.transfers[(3 : TId)] = some confirming ∧ s.TablesWf ∧ (∀ c ∈ s.cmdQueue, c.req ≠ .xfer 3) ∧ .xfer 3 ∉ s.padWaiters) ∧
    confirms.offerOk [⟨.clamp, 22, 31, .xfer 3⟩] = true ∧ confirmsFull.offerOk [⟨.clamp, 22, 31, .xfer 3⟩] = false :=
  ⟨fun load h => awaits _ _ _ _ rfl rfl (by decide) rfl (by
      simp only [List.mem_cons, List.not_mem_nil, or_false] at h ⊢
      omega) rfl, awaits _ _ _ _ rfl rfl (by decide) rfl (by decide) rfl, by decide +kernel, by decide +kernel, by decide +kernel⟩

theorem test_witness_LinkBytes : site.resetHold = none ∧ (site.core (.tl 5)).receiver = .hunting ∧
    ((run (.synByte (.tl 5)) site).core (.tl 5)).receiver = .assembling [] ∧
    ((site.setReceiver (.tl 5) (.assembling [2, 0x16])).core (.tl 5)).receiver = .assembling [2, 0x16] ∧
    [(0x16 : Byte)].length + 2 ≠ (2 : Byte).toNat + 3 ∧ (1 : Byte).toNat < 2 ∧ 125 < (126 : Byte).toNat ∧
    2 ≤ (2 : Byte).toNat ∧ (125 : Byte).toNat ≤ 125 := by decide +kernel

theorem test_witness_FrameRoundTrip :
    (let s := run (.synByte (.tl 3)) site
     s.resetHold = none ∧ (s.core (.tl 3)).receiver = .assembling [] ∧ 1 ≤ [(0 : Byte)].length ∧
      (List.replicate 124 (0 : Byte)).length ≤ 124) ∧
    tlFrame (.leave 3 [0]) = some (3, 0x16, [0]) ∧ opsFrame (.qSite 0 1 []) = some (0, 0x40, 1, []) ∧
    (let s := run (.synByte (.ops 0)) repliesFull
     (s.core (.ops 0)).receiver = .assembling [] ∧ 8 ≤ (s.opsPort 0).replies.length ∧ validType (.ops 0) 0x40 = true) ∧
    validType (.tl 3) 0x40 = false ∧ [(0 : Byte), 0] ≠ crcBytes [2, 0x16, 0] := by decide +kernel

theorem test_witness_QueuedFrames :
    opsFrame (.qSite 0 1 []) = some (0, 0x40, 1, []) ∧
    (repliesFull.resetHold = none ∧ 8 ≤ (repliesFull.opsPort 0).replies.length ∧ (repliesFull.opsPort 0).core.rx.length < 8) ∧
    (let s := run (.qSite 0 1 []) repliesFull
     let q := s.opsPort 0
     s.resetHold = none ∧ 2 ≤ s.params.linkHoldUpper ∧ q.core.txFlow = .go ∧ q.core.flowByte = none ∧ q.parts = [] ∧
       q.replies.length = 8 ∧ q.replies.head?.map (·.payloads) = some [[1, 0x40, 0, 1, 0]] ∧ q.core.rx = [⟨0x40, [1]⟩]) := by
  decide +kernel

theorem test_witness_TransmitOrder :
    (let s := site.modCore (.tl 0) fun c => { c with flowByte := some .hold }
     s.resetHold = none ∧ (s.core (.tl 0)).flowByte = some .hold ∧ (site.core (.tl 0)).flowByte = none) ∧
    (let s := (standing.formAuth 3).refuse 3 0x12 .range
     (s.tl 3).core.txFlow = .go ∧ (s.tl 3).core.flowByte = none ∧ (s.tl 3).auth ≠ none ∧ (s.tl 3).refusals ≠ []) ∧
    ((standing.tl 3).auth = none ∧ ((standing.placeXfer 3 (.xend .done 31)).tl 3).xfer = some (.xend .done 31)) ∧
    (let s := (site.reply 0 1 0x40 .ok []).post (.zoneStop 2 .level true)
     (s.opsPort 0).core.txFlow = .go ∧ (s.opsPort 0).core.flowByte = none ∧ (s.opsPort 0).parts = [] ∧
       (s.opsPort 0).core.rx = [] ∧ (s.opsPort 0).replies ≠ [] ∧ (s.opsPort 0).notices ≠ []) ∧
    (let s := (List.replicate 33 ()).foldl (fun s _ => s.post (.zoneStop 2 .level true)) site
     (s.opsPort 0).replies = [] ∧ (s.opsPort 0).notices.length = 32 ∧ (s.opsPort 0).overflow = true ∧ (s.opsPort 0).lost = 1) := by
  decide +kernel

theorem test_witness_RepliesAndNotices :
    (Reply.payloads ⟨1, 0x44, .ok, List.replicate 120 0⟩).length = 2 ∧ (site.opsPort 0).notices.length < 32 ∧
    32 ≤ (((List.replicate 32 ()).foldl (fun s _ => s.post (.zoneStop 2 .level true)) site).opsPort 0).notices.length := by
  decide +kernel

theorem test_witness_DetectorReading :
    site.AwaitsReply 5 (.fresh .detector) [0, 1, 2, 255] 8000 ∧ site.TablesWf ∧
    (site.modUnit 5 fun u => { u with st := .restoring }).AwaitsReply 5 ⟨.detector, .restoring, 0, false, false⟩ [0, 0, 0, 0] 8000 ∧
    ((site.sec? 12).map (fun x => (x.defn.detAddr, x.defn.detSlot, x.det)) = some (5, 0, .clear) ∧
      (site.sec? 20).map (fun x => x.defn.detAddr) = some 6 ∧ [0, 1, 2, 255][3]? = some 255 ∧
      ∀ k : OpsId, (site.opsPort k).notices.length + (site.sectionsOf 5).length < 32) ∧
    (disturbed.sec? 12).map (·.det) = some .disturbed :=
  ⟨awaits _ _ _ _ rfl rfl (by decide) rfl (by decide) rfl, by decide +kernel,
    awaits _ _ _ _ rfl rfl (by decide) rfl (by decide) rfl, by decide +kernel, by decide +kernel⟩

theorem test_witness_PointReading :
    (polling 9 site).AwaitsReply 9 (.fresh .point) [1] 8000 ∧ (polling 9 site).AwaitsReply 9 (.fresh .point) [0] 8000 ∧
    ((polling 9 site).TablesWf ∧ ((polling 9 site).pointAt 9).map (fun p => (p.1, p.2.pos, p.2.latch)) = some (4, .reverse, none) ∧
      ∀ c ∈ (polling 9 site).cmdQueue, c.func.blade = none ∨ c.entity ≠ 4) ∧
    (let s := polling 9 (site.modPoint 4 fun x => { x with pos := .moving, cmd := some .normal })
     (s.pointAt 9).map (fun p => (p.2.pos, p.2.cmd)) = some (.moving, some .normal) ∧
       ∀ k : OpsId, (s.opsPort k).notices.length + 2 ≤ 32) ∧
    (let s := { polling 9 site with cmdQueue := [⟨.throwNormal, 9, 4, .ops⟩] }
     s.AwaitsReply 9 (.fresh .point) [0] 8000 ∧ s.TablesWf ∧
       (s.pointAt 9).map (fun p => (p.1, p.2.pos, p.2.latch)) = some (4, .reverse, none)) :=
  ⟨awaits _ _ _ _ rfl rfl (by decide) rfl (by decide) rfl, awaits _ _ _ _ rfl rfl (by decide) rfl (by decide) rfl,
    by decide +kernel, by decide +kernel, awaits _ _ _ _ rfl rfl (by decide) rfl (by decide) rfl, by decide +kernel⟩

theorem test_witness_MastReading :
    (polling 47 site).AwaitsReply 47 (.fresh .mast) [0, 0, 5, 0xDC] 8000 ∧ (polling 47 site).site ≠ .survey ∧
    { polling 47 standing with band := .hold .gust }.AwaitsReply 47 (.fresh .mast) [0, 0, 5, 0x14] 8000 ∧
    (let s : State := { polling 47 (going 2000 100) with ceilings := Vector.replicate 6 250 }
     s.AwaitsReply 47 (.fresh .mast) [0, 0, 4, 0x4C] 8000 ∧ (s.band = .normal ∧ s.params.windCaution ≤ 1100 ∧
       1100 < s.params.windHold ∧ (s.tr 3).state = .authorised ∧ s.ceilingNow 3 < s.ceilings[(3 : TId)])) ∧
    (({ polling 47 standing with band := .hold .gust }.tr 3).state ≠ .offline ∧
      { polling 47 standing with band := .hold .gust }.band.isHold = true ∧
      ∀ k : OpsId, (site.opsPort k).notices.length + 2 ≤ 32) :=
  ⟨awaits _ _ _ _ rfl rfl (by decide) rfl (by decide) rfl, by decide +kernel,
    awaits _ _ _ _ rfl rfl (by decide) rfl (by decide) rfl,
    ⟨awaits _ _ _ _ rfl rfl (by decide) rfl (by decide) rfl, by decide +kernel⟩, by decide +kernel⟩

theorem test_witness_MissResult :
    (site.resetHold = none ∧ { site with exchange := none }.exchange = none) ∧
    (site.exchange = some (onBus 5) ∧ site.unit? 5 = some ⟨.detector, .active, 0, false, false⟩) ∧
    (∀ a ∈ [5, 9, 22, 47], let s := (polling a site).modUnit a fun u => { u with retries := 2 }
      (s.unit? a).map (·.retries) = some 2 ∧ s.TablesWf ∧ s.exchange.map (·.addr) = some a) ∧
    (site.cmdQueue = [] ∧ (site.pointAt 9).map (·.2.latch) = some none) ∧
    ((site.pointAt 9).map (·.1) = some 4 ∧ (site.padAt 22).map (·.1) = some 31 ∧ site.band = .normal ∧
      site.mastHold = none ∧ site.params.mastHold ≠ 0) ∧
    (((inTransfer unclamping).padAt 22).map (·.2.st) = some (.transfer 3) ∧
      (inTransfer unclamping).transfers[(3 : TId)] = some unclamping ∧
      (watched.padAt 22).map (·.2.watch) = some (.running (.load 300))) ∧
    (expiring.mastHold = some ⟨1, 99⟩ ∧ { site with band := .hold .mastLost }.band = .hold .mastLost) := by decide +kernel

theorem test_witness_NextExchange :
    ((1 ≤ 1 ∧ 48 ≤ 48) ∧ site.resetHold = none ∧ BusChar.driven ⟨0, 0x105, true⟩ = true) ∧
    site.AwaitsReply 5 (.fresh .detector) [0, 1, 2, 255] 8000 ∧
    (let s := { site with site := .survey }
     s.unit? 5 = some (.fresh .detector) ∧ s.unit? 6 = some (.fresh .detector) ∧
       ∀ p ∈ { s with units := [(5, .fresh .detector)] }.units, p.1 = 5) ∧
    (site.TablesWf ∧ site.cmdQueue = [] ∧ 4 ≤ { site with forced := 4 }.forced) ∧
    (let s := { site with cmdQueue := [⟨.clamp, 22, 31, .watch 31⟩] }
     s.forced < 4 ∧ s.cmdQueue = [⟨.clamp, 22, 31, .watch 31⟩]) ∧
    (let s := { site with cmdQueue := [⟨.throwNormal, 9, 4, .ops⟩] }
     s.chooseNext.exchange = some (s.request 9 .throwNormal) ∧ BusFunc.throwNormal.blade = some .normal) :=
  ⟨by decide +kernel, awaits _ _ _ _ rfl rfl (by decide) rfl (by decide) rfl, by decide +kernel, by decide +kernel,
    by decide +kernel, by decide +kernel⟩

/-- The head of the queue: a throw that may be sent, and one that may not, its section OCCUPIED. -/
theorem test_witness_NextExchange_throw :
    let c : BusCmd := ⟨.throwNormal, 9, 4, .ops⟩
    (let s := { site with cmdQueue := [c] }
     s.forced < 4 ∧ s.cmdQueue = c :: [] ∧ c.func.blade ≠ none ∧ s.MaySend c) ∧
    (let s := { occupied 13 site with cmdQueue := [c] }
     s.forced < 4 ∧ s.cmdQueue = c :: [] ∧ c.func.blade ≠ none ∧ ¬ s.MaySend c) := by
  refine ⟨⟨by decide +kernel, rfl, by decide, ?_⟩, by decide +kernel, rfl, by decide, ?_⟩
  · exact ⟨_, _, rfl, rfl, rfl, rfl, rfl, .inl rfl⟩
  · rintro ⟨y, z, hy, hz, -, -, hd, -⟩
    cases hy
    cases hz
    cases hd

/-- A clamp watch that waits for room: a place is free, or the queue is full. -/
theorem test_witness_NextExchange_waiting :
    let c : BusCmd := ⟨.clamp, 22, 31, .watch 31⟩
    let full : State := { site with cmdQueue := List.replicate 16 c }
    site.PadOffers (.watch 31) c ∧ site.PadRoom c ∧ full.PadOffers (.watch 31) c ∧ ¬ full.PadRoom c := by
  refine ⟨⟨_, rfl, rfl⟩, ⟨by decide +kernel, _, rfl, rfl, by decide⟩, ⟨_, rfl, rfl⟩, fun h => ?_⟩
  exact absurd h.1 (by decide +kernel)

theorem test_witness_ExpiryResult :
    (expiring.resetHold = none ∧ (expiring.point? 4).map (fun x => (x.pos, x.throwCd)) = some (.moving, some ⟨1, 99⟩) ∧
      (site.point? 4).map (·.throwCd) = some none ∧ (expiring.point? 4).map (·.latch) = some none) ∧
    (⟨3, some (.load 3000)⟩ ∈ waiting.waiting ∧ 0 < (Countdown.load 3000).steps ∧ ∀ w ∈ site.waiting, w.t ≠ 3) ∧
    ((expiring.pad? 31).map (·.watch) = some (.running ⟨1, 99⟩) ∧ (site.pad? 31).map (·.watch) = some .none) ∧
    (expiring.mastHold = some ⟨1, 99⟩ ∧ site.mastHold = none ∧ { expiring with band := .hold .mastPending }.band = .hold .mastPending) ∧
    ({ site with mastHold := some ⟨0, 0⟩ }.mastHold = some ⟨0, 0⟩ ∧ { site with waiting := [⟨3, none⟩] }.waiting = [⟨3, none⟩] ∧
      site.point? 31 = none ∧ site.pad? 79 = none) ∧
    ∀ k : OpsId, (waiting.opsPort k).notices.length + 2 ≤ 32 := by decide +kernel

theorem test_witness_SupervisionExpiryResult :
    (standing.resetHold = none ∧ (standing.tr 3).state = .parked ∧ (standing.tr 3).superv = some (.load 30) ∧
      0 < (Countdown.load 30).steps) ∧
    ((tripped.tr 3).state = .tripped ∧ (tripped.tr 3).superv = some (.load 30)) ∧
    (((inTransfer raising).tr 3).state = .transfer ∧ ((inTransfer raising).tr 3).superv = some (.load 30) ∧
      (inTransfer raising).transfers[(3 : TId)] = some raising ∧ (inTransfer unclamping).transfers[(3 : TId)] = some unclamping) ∧
    (site.tr 3).state = .offline := by decide +kernel

theorem test_witness_StopLineEdgeResult : site.resetHold = none ∧ site.lines[(2 : Fin 8)].asserted = false ∧
    (latched .latch true true).lines[(2 : Fin 8)].asserted = true := by decide +kernel

/-- T3 waits and a walk is due; its next unit is available and in position. -/
def due : State := { waiting with walkDue := true }

theorem test_witness_WalkResult :
    (site.resetHold = none ∧ site.QueueOnce ∧ site.RoutesRise ∧ site.TablesWf ∧ site.walkDue = false) ∧
    ({ site with walkDue := true }.walkDue = true ∧ { site with walkDue := true }.waiting = []) ∧
    (due.resetHold = none ∧ due.QueueOnce ∧ due.RoutesRise ∧ due.TablesWf ∧ due.walkDue = true ∧
      due.isWaiting 4 = false ∧ ∀ w ∈ due.waiting, due.settingRun w.t = []) ∧
    (∃ e ∈ (due.route 3).entries, (run .pendingQueueWalk due).holdBy 3 e.sec = some .granted ∧
      due.holdBy 3 e.sec ≠ some .granted) ∧
    due.firstServed 3 ∧
    (due.nextUnit 3 ≠ [] ∧ ∀ e ∈ due.nextUnit 3, due.available 3 e = true ∧ due.inPosition e = true) ∧
    (let s := due.modPoint 4 fun x => { x with pos := .normal }
     s.walkDue = true ∧ s.isWaiting 3 = true ∧ (∃ e ∈ s.nextUnit 3, s.inPosition e = false) ∧
       (∀ e ∈ s.nextUnit 3, s.available 3 e = true) ∧ s.offerOk ((s.nextUnit 3).filterMap (s.throwFor 3)) = true) :=
  ⟨by decide +kernel, by decide +kernel, by decide +kernel, by decide +kernel,
    ⟨[], ⟨3, some (.load 3000)⟩, [], by decide +kernel, rfl, by decide +kernel, by simp⟩, by decide +kernel, by decide +kernel⟩

theorem test_witness_CeilingIsTheLeast :
    ((standing.tr 3).state ≠ .authorised) ∧
    (let s := going 6000 140
     (s.tr 3).state = .authorised ∧ s.frontEntry 3 = some ⟨12, .a, .b, 1⟩ ∧ (s.route 3).endPos = some ⟨3, 2250⟩ ∧
       s.entryAt 3 2 = some ⟨13, .a, .c, 2⟩ ∧ { s with band := .caution }.band = .caution) := by decide +kernel

theorem test_witness_CurveAndStopDistanceAgree : (60 ≤ 60 ∧ 350 ≤ 350 ∧ 350 < 351) ∧
    (350 < 2000000 ∧ 2000000 ≤ 2000000 ∧ 2 ≤ 2 ∧ 100 ≤ 100) ∧ 0 < 63 ∧
    (let s := going 6000 140
     s.RoutesRise ∧ s.entryAt 3 1 = some ⟨12, .a, .b, 1⟩ ∧ s.entryAt 3 3 = some ⟨20, .b, .a, 3⟩ ∧
       6000 ≤ s.pathLen ⟨12, .a, .b, 1⟩ ∧ 2250 ≤ s.pathLen ⟨20, .b, .a, 3⟩ ∧ s.frontPos 3 = some ⟨1, 6000⟩ ∧
       (s.route 3).endPos = some ⟨3, 2250⟩ ∧ (2, .onTransporter 3) ∈ s.telescopes) := by decide +kernel

end Sys2Proof.Tests
end

/-! PROOFS. The point commands THROW (R35) and CLEAR_POINT (R36): what a ready link hands to their owners, the order in
which their checks are judged, and what an accepted one changes. -/

namespace Sys2Proof.Machine

/-! ## Judging, one check at a time -/

/-- With no check left the command is carried out and answered OK. -/
theorem State.judge_nil (s : State) (l : OpsId) (tag ty : Byte) (act : State → State) (data : State → List Byte) :
    s.judge l tag ty [] act data = (act s).reply l tag ty .ok (data (act s)) := rfl

/-- The check at the head is judged before the others, told by the condition `p` under which it fails. -/
theorem State.judge_cons {ok : Bool} {p : Prop} [Decidable p] (hp : ok = false ↔ p) (s : State) (l : OpsId)
    (tag ty : Byte) (r : Reason) (checks : List (Bool × Reason)) (act : State → State) (data : State → List Byte) :
    s.judge l tag ty ((ok, r) :: checks) act data =
      if p then s.reply l tag ty r [] else s.judge l tag ty checks act data := by
  cases ok with
  | false => rw [if_pos (hp.mp rfl)]; rfl
  | true => rw [if_neg fun h => Bool.noConfusion (hp.mpr h)]; rfl

/-- Where the site state is the first check, it alone decides outside RUNNING (R183). -/
theorem State.judge_outside_running {s : State} (h : s.site ≠ .running) (l : OpsId) (tag ty : Byte)
    (checks : List (Bool × Reason)) (act : State → State) (data : State → List Byte) :
    s.judge l tag ty ((s.running, .state) :: checks) act data = s.reply l tag ty .state [] := by
  rw [State.judge_cons (p := s.site ≠ .running) (by simp [State.running]), if_pos h]

/-- Where the site state is the first check, the others decide in RUNNING. -/
theorem State.judge_running {s : State} (h : s.site = .running) (l : OpsId) (tag ty : Byte)
    (checks : List (Bool × Reason)) (act : State → State) (data : State → List Byte) :
    s.judge l tag ty ((s.running, .state) :: checks) act data = s.judge l tag ty checks act data := by
  rw [State.judge_cons (p := s.site ≠ .running) (by simp [State.running]), if_neg (not_not_intro h)]

/-- In RUNNING a command whose number names nothing is answered UNKNOWN_ID. -/
theorem State.judge_unknownId {s : State} (h : s.site = .running) (l : OpsId) (tag ty : Byte) :
    s.judge l tag ty [(s.running, .state), (false, .unknownId)] id noData = s.reply l tag ty .unknownId [] := by
  rw [State.judge_running h, State.judge_cons (p := True) (by simp), if_pos trivial]

/-! ## The owner's view of the two commands -/

/-- At a ready link THROW is judged in the state as it stands. -/
theorem exec_throwPoint_ready {s : State} {l : OpsId} (h : s.OpsReady l) (tag n pos : Byte) :
    exec (.throwPoint l tag [n, pos]) s = .next (s.throwCommand l tag n.toNat pos) := by
  change execThrowPoint l tag [n, pos] s = _
  rw [execThrowPoint, State.live_eq h.1.1, State.frameArrives_ops (act := State.onThrowPoint) tag _ h rfl]
  rfl

/-- At a ready link CLEAR_POINT is judged in the state as it stands. -/
theorem exec_clearPoint_ready {s : State} {l : OpsId} (h : s.OpsReady l) (tag n : Byte) :
    exec (.clearPoint l tag [n]) s = .next (s.clearPoint l tag n.toNat) := by
  change execClearPoint l tag [n] s = _
  rw [execClearPoint, State.live_eq h.1.1, State.frameArrives_ops (act := State.onClearPoint) tag _ h rfl]
  rfl

/-- A number outside P0 to P31, or of no point that is defined, names no point. -/
theorem State.namedPoint_none {s : State} {n : Nat} (h : 32 ≤ n ∨ s.point? n = none) :
    (if n < Config.numPoints then s.point? n else none) = none := by
  rcases h with h | h
  · exact if_neg (Nat.not_lt.mpr h)
  · rw [h, ite_self]

/-- The number of a point that is defined names it. -/
theorem State.namedPoint_some {s : State} {n : Nat} {x : Point} (hn : n < 32) (hx : s.point? n = some x) :
    (if n < Config.numPoints then s.point? n else none) = some x :=
  (if_pos hn).trans hx

/-! ## THROW (R35) -/

/-- Whatever its fields name, THROW is judged by the site state first. -/
theorem State.throwCommand_outside_running {s : State} (h : s.site ≠ .running) (l : OpsId) (tag : Byte) (n : Nat)
    (pos : Byte) : s.throwCommand l tag n pos = s.reply l tag 0x56 .state [] := by
  unfold State.throwCommand
  split
  · exact State.judge_outside_running h ..
  · split <;> exact State.judge_outside_running h ..

theorem State.throwCommand_unknown {s : State} {n : Nat} (hrun : s.site = .running)
    (h : 32 ≤ n ∨ s.point? n = none) (l : OpsId) (tag pos : Byte) :
    s.throwCommand l tag n pos = s.reply l tag 0x56 .unknownId [] := by
  simp only [State.throwCommand, State.namedPoint_none h]
  exact State.judge_unknownId hrun ..

theorem State.throwCommand_range {s : State} {n : Nat} {x : Point} {pos : Byte} (hrun : s.site = .running)
    (hn : n < 32) (hx : s.point? n = some x) (hp : bladeOf pos = none) (l : OpsId) (tag : Byte) :
    s.throwCommand l tag n pos = s.reply l tag 0x56 .range [] := by
  simp only [State.throwCommand, State.namedPoint_some hn hx, hp]
  rw [State.judge_running hrun, State.judge_cons (p := True) (by simp), if_pos trivial]
  rfl

/-- THROW of a defined point to a position that is one: steps 4 to 9 of R35 in their order, and the request that joins
the tail of the command queue. -/
theorem State.throwCommand_judged {s : State} {n : Nat} {x : Point} {pos : Byte} {b : Blade} (hrun : s.site = .running)
    (hn : n < 32) (hx : s.point? n = some x) (hp : bladeOf pos = some b) (l : OpsId) (tag : Byte) :
    s.throwCommand l tag n pos =
      if x.lock ≠ none then s.reply l tag 0x56 .locked []
      else if (s.sec? x.sec).bind (·.hold) ≠ none then s.reply l tag 0x56 .held []
      else if s.detOf x.sec ≠ .clear then s.reply l tag 0x56 .notClear []
      else if x.latch ≠ none then s.reply l tag 0x56 .pointFault []
      else if x.pos = .moving ∨ s.outstanding n ≠ none then s.reply l tag 0x56 .moving []
      else if 16 ≤ s.cmdQueue.length then s.reply l tag 0x56 .state []
      else (s.enqueue [⟨b.throwFunc, x.addr, n, .ops⟩]).reply l tag 0x56 .ok [] := by
  simp only [State.throwCommand, State.namedPoint_some hn hx, hp]
  rw [State.judge_running hrun,
    State.judge_cons (p := x.lock ≠ none) (by simp [Option.isSome_iff_ne_none]),
    State.judge_cons (p := (s.sec? x.sec).bind (·.hold) ≠ none) (by simp [Option.isSome_iff_ne_none]),
    State.judge_cons (p := s.detOf x.sec ≠ .clear) (by simp),
    State.judge_cons (p := x.latch ≠ none) (by simp [Option.isSome_iff_ne_none]),
    State.judge_cons (p := x.pos = .moving ∨ s.outstanding n ≠ none)
      (by simp [or_iff_not_imp_left, Option.isSome_iff_ne_none]),
    State.judge_cons (p := 16 ≤ s.cmdQueue.length) (by rw [decide_eq_false_iff_not]; exact Nat.not_lt),
    State.judge_nil]
  rfl

/-! ## CLEAR_POINT (R36) -/

/-- What an accepted CLEAR_POINT does to point n: the latch is cleared, and the position waits for a reading. -/
abbrev State.clearedPoint (s : State) (n : Nat) : State :=
  (s.modPoint n fun x => { x with latch := none, pos := .unknown }).trigger

/-- Whatever its number names, CLEAR_POINT is judged by the site state first. -/
theorem State.clearPoint_outside_running {s : State} (h : s.site ≠ .running) (l : OpsId) (tag : Byte) (n : Nat) :
    s.clearPoint l tag n = s.reply l tag 0x57 .state [] := by
  unfold State.clearPoint
  split <;> exact State.judge_outside_running h ..

theorem State.clearPoint_unknown {s : State} {n : Nat} (hrun : s.site = .running)
    (h : 32 ≤ n ∨ s.point? n = none) (l : OpsId) (tag : Byte) :
    s.clearPoint l tag n = s.reply l tag 0x57 .unknownId [] := by
  simp only [State.clearPoint, State.namedPoint_none h]
  exact State.judge_unknownId hrun ..

/-- CLEAR_POINT of a defined point: steps 3 to 5 of R36 in their order, and the cleared point. -/
theorem State.clearPoint_judged {s : State} {n : Nat} {x : Point} (hrun : s.site = .running)
    (hn : n < 32) (hx : s.point? n = some x) (l : OpsId) (tag : Byte) :
    s.clearPoint l tag n =
      if x.latch = none then s.reply l tag 0x57 .state []
      else if (s.unit? x.addr).map (·.st) = some .silent ∨ (s.unit? x.addr).map (·.st) = some .restoring then
        s.reply l tag 0x57 .unitSilent []
      else if x.lock ≠ none then s.reply l tag 0x57 .locked []
      else (s.clearedPoint n).reply l tag 0x57 .ok [] := by
  simp only [State.clearPoint, State.namedPoint_some hn hx]
  rw [State.judge_running hrun,
    State.judge_cons (p := x.latch = none) (by simp),
    State.judge_cons
      (p := (s.unit? x.addr).map (·.st) = some .silent ∨ (s.unit? x.addr).map (·.st) = some .restoring)
      (by rw [decide_eq_false_iff_not, not_and_or, not_not, not_not]; rfl),
    State.judge_cons (p := x.lock ≠ none) (by simp [Option.isSome_iff_ne_none]),
    State.judge_nil]
  rfl

theorem State.clearedPoint_self {s : State} {n : Nat} {x : Point} (hx : s.point? n = some x) :
    (s.clearedPoint n).point? n = some { x with latch := none, pos := .unknown } :=
  (Table.find_adjust_self _ _ _).trans (congrArg (Option.map _) hx)

theorem State.clearedPoint_other (s : State) {n p : Nat} (h : p ≠ n) : (s.clearedPoint n).point? p = s.point? p :=
  Table.find_adjust_ne _ _ h

/-! ## The statement -/

/-- Settles O25: a ready link hands each command to its owner in the state as it stands, whose judged form gives the
reply in every case. -/
theorem pointCommandsResult : Obligations.PointCommandsResult := by
  unfold Obligations.PointCommandsResult
  refine ⟨?outsideRunning, ?throw, ?clear⟩
  case outsideRunning =>
    intro s l tag n pos hl hout
    rw [exec_throwPoint_ready hl, exec_clearPoint_ready hl, State.throwCommand_outside_running hout,
      State.clearPoint_outside_running hout]
    exact ⟨rfl, rfl⟩
  case throw =>
    intro s l tag n pos hl hrun
    rw [exec_throwPoint_ready hl]
    refine ⟨fun hid => by rw [State.throwCommand_unknown hrun hid], fun x hn hx => ?_⟩
    by_cases hnormal : pos = 1
    · subst hnormal
      rw [State.throwCommand_judged hrun hn hx (b := .normal) rfl]
      rfl
    by_cases hreverse : pos = 2
    · subst hreverse
      rw [State.throwCommand_judged hrun hn hx (b := .reverse) rfl]
      rfl
    · rw [if_pos ⟨hnormal, hreverse⟩,
        State.throwCommand_range hrun hn hx ((if_neg hnormal).trans (if_neg hreverse))]
  case clear =>
    intro s l tag n hl hrun
    rw [exec_clearPoint_ready hl]
    refine ⟨fun hid => by rw [State.clearPoint_unknown hrun hid], fun x hn hx => ?_⟩
    rw [State.clearPoint_judged hrun hn hx]
    refine ⟨fun hlatch => ?_, fun hlatch hsilent => ?_, fun hlatch hsilent hlock => ?_,
      fun hlatch hsilent hlock => ⟨s.clearedPoint n.toNat, ?_, rfl, State.clearedPoint_self hx,
        fun _ => State.clearedPoint_other s⟩⟩
    · rw [if_pos hlatch]
    · rw [if_neg hlatch, if_pos hsilent]
    · rw [if_neg hlatch, if_neg hsilent, if_pos hlock]
    · rw [if_neg hlatch, if_neg hsilent, if_neg (not_not_intro hlock)]

end Sys2Proof.Machine

/-! PROOFS. RECOVER (R117): what a ready link hands to its owner, the order in which its checks are judged, and the one
flag that an accepted RECOVER sets. -/

namespace Sys2Proof.Machine

/-! ## One identifier, and the transporter it names -/

/-- A payload that is not one identifier is answered FRAME. -/
theorem State.oneId_of_length_ne {p : List Byte} (h : p.length ≠ 1) (s : State) (l : OpsId) (tag ty : Byte)
    (f : Nat → State) : s.oneId l tag ty p f = s.reply l tag ty .frame [] := by
  match p with
  | [] => rfl
  | [_] => exact absurd rfl h
  | _ :: _ :: _ => rfl

theorem tid?_eq_none {n : Nat} (h : 6 ≤ n) : tid? n = none := dif_neg (Nat.not_lt.mpr h)

theorem tid?_eq_some {n : Nat} (h : n < 6) : tid? n = some ⟨n, h⟩ := dif_pos h

/-- The scan of the telescopes for one INDETERMINATE at t (R117 step 5), as membership in the table. -/
theorem State.indeterminateAt_iff (s : State) (t : TId) :
    s.indeterminateAt t = true ↔ ∃ k q, (k, .indeterminate q t) ∈ s.telescopes := by
  rw [State.indeterminateAt, List.any_eq_true]
  constructor
  · rintro ⟨⟨k, loc⟩, hmem, hat⟩
    cases loc with
    | onPad p => cases hat
    | onTransporter u => cases hat
    | indeterminate q u => exact ⟨k, q, of_decide_eq_true hat ▸ hmem⟩
  · rintro ⟨k, q, hmem⟩
    exact ⟨_, hmem, decide_eq_true rfl⟩

theorem State.not_indeterminateAt_iff (s : State) (t : TId) :
    ¬ s.indeterminateAt t = true ↔ ∀ k q, (k, .indeterminate q t) ∉ s.telescopes := by
  simp only [State.indeterminateAt_iff, not_exists]

/-! ## RECOVER (R117) -/

/-- At a ready link RECOVER is judged in the state as it stands. -/
theorem exec_recover_ready {s : State} {l : OpsId} (h : s.OpsReady l) (tag : Byte) (p : List Byte) :
    exec (.recover l tag p) s = .next (s.onRecover l tag p) := by
  change execRecover l tag p s = _
  rw [execRecover, State.live_eq h.1.1, State.frameArrives_ops (act := State.onRecover) tag _ h rfl]

/-- Whatever its number names, RECOVER is judged by the site state first. -/
theorem State.recover_outside_running {s : State} (h : s.site ≠ .running) (l : OpsId) (tag : Byte) (n : Nat) :
    s.recover l tag n = s.reply l tag 0x54 .state [] := by
  unfold State.recover
  split <;> exact State.judge_outside_running h ..

theorem State.recover_unknown {s : State} {n : Nat} (hrun : s.site = .running) (h : 6 ≤ n) (l : OpsId) (tag : Byte) :
    s.recover l tag n = s.reply l tag 0x54 .unknownId [] := by
  simp only [State.recover, tid?_eq_none h]
  exact State.judge_unknownId hrun ..

/-- RECOVER of a transporter: steps 4 to 6 of R117 in their order, and the flag that an accepted one sets. -/
theorem State.recover_judged {s : State} {n : Nat} {t : TId} (hrun : s.site = .running) (ht : tid? n = some t)
    (l : OpsId) (tag : Byte) :
    s.recover l tag n =
      if (s.tr t).state ≠ .tripped then s.reply l tag 0x54 .state []
      else if s.indeterminateAt t = true then s.reply l tag 0x54 .indeterminate []
      else if (s.tr t).superv.map (·.steps) = some 0 then s.reply l tag 0x54 .state []
      else (s.modTr t fun x => { x with awaitingFix := true }).reply l tag 0x54 .ok [] := by
  simp only [State.recover, ht]
  rw [State.judge_running hrun,
    State.judge_cons (p := (s.tr t).state ≠ .tripped) decide_eq_false_iff_not,
    State.judge_cons (p := s.indeterminateAt t = true) (Bool.not_eq_false' _).to_iff,
    State.judge_cons (p := (s.tr t).superv.map (·.steps) = some 0) (by rw [decide_eq_false_iff_not, not_not]),
    State.judge_nil]
  rfl

/-! ## The statement -/

/-- Settles O23: a ready link hands RECOVER to its owner in the state as it stands, whose judged form gives the reply in
every case. -/
theorem recoverResult : Obligations.RecoverResult := by
  unfold Obligations.RecoverResult
  refine ⟨fun s l tag p hl => ?_, fun s l tag n hl hrun => ?_⟩
  · rw [exec_recover_ready hl]
    refine ⟨fun hlen => congrArg _ (State.oneId_of_length_ne hlen ..), fun hlen hout => ?_⟩
    obtain ⟨b, rfl⟩ := List.length_eq_one_iff.mp hlen
    exact congrArg _ (State.recover_outside_running hout ..)
  · rw [exec_recover_ready hl, show s.onRecover l tag [n] = s.recover l tag n.toNat from rfl]
    refine ⟨fun hid => congrArg _ (State.recover_unknown hrun hid ..), fun hid => ?_⟩
    rw [State.recover_judged hrun (tid?_eq_some hid)]
    refine ⟨fun hstate => ?_, fun hstate hat => ?_, fun hstate hclean hzero => ?_, fun hstate hclean hruns => ?_⟩
    · rw [if_pos hstate]
    · rw [if_neg (not_not_intro hstate), if_pos ((s.indeterminateAt_iff _).mpr hat)]
    · rw [if_neg (not_not_intro hstate), if_neg ((s.not_indeterminateAt_iff _).mpr hclean),
        if_pos (Option.map_eq_some_iff.mpr hzero)]
    · rw [if_neg (not_not_intro hstate), if_neg ((s.not_indeterminateAt_iff _).mpr hclean),
        if_neg (mt Option.map_eq_some_iff.mp fun ⟨c, hc, hzero⟩ => hruns c hc hzero)]
      rfl

end Sys2Proof.Machine

/-! PROOFS. One step, time and the full resets: which commands the controller takes while it is held in reset (R190), how
a countdown runs (00_scope.md 5.2), and what a full reset leaves. -/

namespace Sys2Proof.Machine

/-! ## What a command is allowed to do in reset -/

/-- Every command but the causes and the end of a full reset acts only out of reset (R190, log 11). -/
theorem exec_live {c : Instr} (hon : c ≠ .powerOn) (hlow : c ≠ .supplyLow) (hline : c ≠ .resetLine)
    (hend : c ≠ .clockStartUpEnd) : ∃ f : State → State, ∀ s, exec c s = .next (s.live f) := by
  cases c
  case powerOn => exact absurd rfl hon
  case supplyLow => exact absurd rfl hlow
  case resetLine => exact absurd rfl hline
  case clockStartUpEnd => exact absurd rfl hend
  all_goals exact ⟨_, fun _ => rfl⟩

/-- Settles O1: the queue's front decides the branch that `step` takes. -/
theorem stepRunsFrontCommand : Obligations.StepRunsFrontCommand := by
  intro c rest s h
  rw [step, h]

/-- Settles O5: every other command acts only out of reset. -/
theorem heldInReset : Obligations.HeldInReset := by
  intro c s hheld hon hlow hline hend
  obtain ⟨f, hf⟩ := exec_live hon hlow hline hend
  obtain ⟨h, hh⟩ := Option.ne_none_iff_exists'.mp hheld
  rw [hf, State.live_held hh]

/-! ## Full resets (R190) -/

theorem State.beginReset_first {s : State} (h : s.resetHold = none) (c : ResetCause) (supply line : Bool) :
    s.beginReset c supply line = { s with resetHold := some ⟨c, supply, line⟩, exchange := none } := by
  simp only [State.beginReset, h]

theorem State.beginReset_again {s : State} {h : ResetHold} (hh : s.resetHold = some h) (c : ResetCause)
    (supply line : Bool) : s.beginReset c supply line =
      { s with resetHold := some { h with supply := h.supply || supply, line := h.line || line } } := by
  simp only [State.beginReset, hh]

/-- At a ready link RESET, whatever its scope, is judged in the state as it stands. -/
theorem exec_reset_ready {s : State} {l : OpsId} (h : s.OpsReady l) (tag : Byte) (p : List Byte) :
    exec (.resetLink l tag p) s = .next (s.resetCommand l tag p) ∧
    exec (.resetFieldbus l tag p) s = .next (s.resetCommand l tag p) ∧
    exec (.resetAll l tag p) s = .next (s.resetCommand l tag p) := by
  have he : (s.live fun s => s.frameArrives (.ops l) ⟨Config.tyReset, tag :: p⟩) = s.resetCommand l tag p := by
    rw [State.live_eq h.1.1, State.frameArrives_ops (act := State.resetCommand) tag p h rfl]
  exact ⟨congrArg _ he, congrArg _ he, congrArg _ he⟩

/-- Settles O6: each cause begins a reset, or adds its hold to the one that runs, and the end of the start-up completes it. -/
theorem fullResets : Obligations.FullResets := by
  refine ⟨fun s => ⟨fun hnone => ?begin, fun l tag hl => ?all, fun h hh => ?again⟩,
    fun s => ⟨fun h hh => ?complete, fun hnone => ?outside⟩⟩
  case begin => simp only [exec, execPowerOn, execSupplyLow, execResetLine, State.beginReset_first hnone, and_self]
  case all =>
    rw [(exec_reset_ready hl tag _).2.2, show s.resetCommand l tag [2, 0] = s.beginReset .commanded false false from rfl,
      State.beginReset_first hl.1.1]
  case again =>
    simp only [exec, execPowerOn, execSupplyLow, execResetLine, State.beginReset_again hh, Bool.or_true, Bool.or_false,
      and_self]
  case complete => simp only [exec, execClockStartUpEnd, hh]; rfl
  case outside => simp only [exec, execClockStartUpEnd, hnone]

/-! ## Countdowns (00_scope.md 5.2, log 2) -/

/-- A countdown in its n-th 100 ms: a tick counts within the step, or begins the next one. -/
theorem Countdown.tick_running {c : Countdown} (hs : c.steps ≠ 0) (hlast : c.steps = 1 → c.ms < 99) :
    c.tick = (if c.ms < 99 then { c with ms := c.ms + 1 } else ⟨c.steps - 1, 0⟩, false) := by
  unfold Countdown.tick
  rw [if_neg hs]
  split
  · rfl
  · next hms => rw [if_neg fun h => hms (hlast h)]

/-- The countdown loaded with n steps, k milliseconds on, while it runs. -/
theorem Countdown.after_ticks (n k : Nat) (h : k < 100 * n) :
    (fun c : Countdown => c.tick.1)^[k] (.load n) = ⟨n - k / 100, k % 100⟩ := by
  induction k with
  | zero => rfl
  | succ k ih =>
    rw [Function.iterate_succ_apply', ih (by omega), Countdown.tick_running (by dsimp only; omega) (by dsimp only; omega)]
    dsimp only
    split
    · congr 1 <;> omega
    · congr 1 <;> omega

theorem Countdown.tick_load_zero : (Countdown.load 0).tick = (.load 0, false) := rfl

/-- Settles O3: a running countdown shows its milliseconds, so that its last tick is the 100 n-th. -/
theorem countdownExpiry : Obligations.CountdownExpiry := by
  refine ⟨fun n k h => ?_, fun k => ?_⟩
  · rw [Countdown.after_ticks n k h]
    refine ⟨rfl, ?_⟩
    by_cases hlast : k + 1 = 100 * n
    · have hms : ¬ k % 100 < 99 := by omega
      have hone : n - k / 100 = 1 := by omega
      simp [Countdown.tick, hms, hone, hlast]
    · rw [Countdown.tick_running (by dsimp only; omega) (by dsimp only; omega)]
      simp [hlast]
  · have hfix : (fun c : Countdown => c.tick.1)^[k] (.load 0) = .load 0 :=
      Function.iterate_fixed (congrArg Prod.fst Countdown.tick_load_zero) k
    rw [hfix]
    exact ⟨rfl, rfl⟩

/-! ## What a full reset leaves (R178, R190) -/

theorem State.reset_tr (t : TId) : State.reset.tr t = .initial := by
  simp [State.tr, State.reset, State.afterReset]

theorem State.reset_route (t : TId) : State.reset.route t = .empty := by
  simp [State.route, State.reset, State.afterReset]

theorem State.reset_tl (t : TId) : State.reset.tl t = .initial := by
  simp [State.tl, State.reset, State.afterReset]

theorem State.reset_transfer (t : TId) : State.reset.transfers[t] = none := by
  simp [State.reset, State.afterReset]

theorem State.reset_opsPort (l : OpsId) :
    State.reset.opsPort l = { OpsPort.initial with notices := [⟨0, .siteReset .powerOn⟩] } := by
  simp [State.opsPort, State.reset, State.afterReset]

theorem State.reset_core (l : PortId) : State.reset.core l = .initial := by
  cases l with
  | tl t => rw [State.core, State.reset_tl]; rfl
  | ops o => rw [State.core, State.reset_opsPort]; rfl

theorem State.reset_line (n : Fin 8) : State.reset.lines[n] = ⟨false, .level, false⟩ := by
  simp [State.reset, State.afterReset]

/-- The invariants hold at the end of a full reset. -/
theorem State.reset_invariants : State.reset.Bounded ∧ State.reset.TablesWf ∧ State.reset.IdleSite ∧
    State.reset.StatesMatch ∧ State.reset.StandsMatch ∧ State.reset.StopsCurrent ∧ State.reset.QueueOnce ∧
    State.reset.RoutesRise ∧ State.reset.params.Legal ∧ State.reset.BusCounts ∧ State.reset.IntakeDone := by
  refine ⟨⟨fun t => ?_, fun l => ?_, by decide⟩, by decide, fun _ => ⟨fun t => ?_, by decide, State.reset_transfer, rfl⟩,
    fun t => ?_, fun t => ?_, fun t ht => ?_, by decide, fun t => ?_, by decide, ⟨by decide, by decide⟩,
    fun t => by rw [State.reset_core]; rfl, fun l => .inl (by rw [State.reset_core]; rfl)⟩
  · rw [State.reset_tl]; decide
  · rw [State.reset_opsPort]; decide
  · rw [State.reset_tr]; rfl
  · rw [State.reset_tr, State.reset_transfer]; decide
  · rw [State.reset_tr]; decide
  · exact absurd (congrArg Transporter.state (State.reset_tr t)) ht
  · rw [State.reset_route]; decide

/-- Settles O4: every vector of the state after reset is a replicated initial value. -/
theorem resetLeaves : Obligations.ResetLeaves := by
  refine ⟨⟨rfl, rfl, rfl, rfl, rfl, State.reset_invariants.2.2.2.2.2.2.2.2.1, rfl, rfl, rfl, rfl, rfl, rfl, rfl, rfl, rfl,
    rfl, rfl, fun t => ?_, fun l => ?_, fun l => ?_, fun n => ?_⟩, State.reset_invariants⟩
  · rw [State.reset_tr, State.reset_route, State.reset_tl, State.reset_transfer]
    exact ⟨rfl, rfl, rfl, rfl, rfl, rfl, rfl, rfl⟩
  · rw [State.reset_core]
    exact ⟨rfl, rfl, rfl, rfl, rfl⟩
  · rw [State.reset_opsPort]
    exact ⟨rfl, rfl, rfl⟩
  · rw [State.reset_line]
    exact ⟨rfl, rfl⟩

end Sys2Proof.Machine

/-! PROOFS. A step with an empty queue (log 2): which commands are the expiries of a millisecond, each once, and what the
millisecond leaves. RESET LINK (R178, R191). -/

namespace Sys2Proof.Machine

/-! ## The expiries of a millisecond -/

theorem expiresNow_iff {c : Option Countdown} : expiresNow c = true ↔ ∃ d, c = some d ∧ d.tick.2 = true := by
  cases c with
  | none => exact ⟨fun h => absurd h Bool.false_ne_true, fun ⟨_, h, _⟩ => nomatch h⟩
  | some d => exact ⟨fun h => ⟨d, rfl, h⟩, fun ⟨_, h, ht⟩ => Option.some.inj h ▸ ht⟩

theorem Watch.expiresNow_iff {w : Watch} : w.expiresNow = true ↔ ∃ d, w = .running d ∧ d.tick.2 = true := by
  cases w with
  | running d => exact ⟨fun h => ⟨d, rfl, h⟩, fun ⟨_, h, ht⟩ => Watch.running.inj h ▸ ht⟩
  | _ => exact ⟨fun h => absurd h Bool.false_ne_true, fun ⟨_, h, _⟩ => nomatch h⟩

theorem mem_allT (t : TId) : t ∈ allT := List.mem_finRange t

/-- The commands that join the queue in a millisecond are the expiries of the countdowns that end in it. -/
theorem State.mem_expiries (s : State) (c : Instr) : c ∈ s.expiries ↔
    (∃ p x d, c = .throwTimeout p ∧ (p, x) ∈ s.points ∧ x.throwCd = some d ∧ d.tick.2 = true) ∨
    (∃ u d, c = .supervisionExpiry u ∧ (s.tr u).superv = some d ∧ d.tick.2 = true) ∨
    (∃ u d, c = .waitExpired u ∧ ⟨u, some d⟩ ∈ s.waiting ∧ d.tick.2 = true) ∨
    (∃ u x d, c = .stageTimeout u ∧ s.transfers[u] = some x ∧ x.cd = some d ∧ d.tick.2 = true) ∨
    (∃ p x d, c = .clampFailed p ∧ (p, x) ∈ s.pads ∧ x.watch = .running d ∧ d.tick.2 = true) ∨
    (∃ d, c = .mastLost ∧ s.mastHold = some d ∧ d.tick.2 = true) := by
  simp only [State.expiries, List.mem_append, List.mem_map, List.mem_filter, List.mem_ite_nil_right, List.mem_singleton,
    expiresNow_iff, Watch.expiresNow_iff, mem_allT, true_and, or_assoc]
  refine or_congr ?throws (or_congr ?superv (or_congr ?waits (or_congr ?stages (or_congr ?watches ?mast))))
  case throws => exact ⟨fun ⟨⟨p, x⟩, ⟨hm, d, hd⟩, hc⟩ => ⟨p, x, d, hc.symm, hm, hd⟩,
    fun ⟨p, x, d, hc, hm, hd⟩ => ⟨(p, x), ⟨hm, d, hd⟩, hc.symm⟩⟩
  case superv => exact ⟨fun ⟨u, ⟨d, hd⟩, hc⟩ => ⟨u, d, hc.symm, hd⟩, fun ⟨u, d, hc, hd⟩ => ⟨u, ⟨d, hd⟩, hc.symm⟩⟩
  case waits => exact ⟨fun ⟨⟨u, w⟩, ⟨hm, d, hw, hd⟩, hc⟩ => ⟨u, d, hc.symm, hw ▸ hm, hd⟩,
    fun ⟨u, d, hc, hm, hd⟩ => ⟨⟨u, some d⟩, ⟨hm, d, rfl, hd⟩, hc.symm⟩⟩
  case stages =>
    constructor
    · rintro ⟨u, ⟨d, hcd, hd⟩, hc⟩
      obtain ⟨x, hx, hxd⟩ := Option.bind_eq_some_iff.mp hcd
      exact ⟨u, x, d, hc.symm, hx, hxd, hd⟩
    · rintro ⟨u, x, d, hc, hx, hxd, hd⟩
      exact ⟨u, ⟨d, Option.bind_eq_some_iff.mpr ⟨x, hx, hxd⟩, hd⟩, hc.symm⟩
  case watches => exact ⟨fun ⟨⟨p, x⟩, ⟨hm, d, hd⟩, hc⟩ => ⟨p, x, d, hc.symm, hm, hd⟩,
    fun ⟨p, x, d, hc, hm, hd⟩ => ⟨(p, x), ⟨hm, d, hd⟩, hc.symm⟩⟩
  case mast => exact ⟨fun ⟨⟨d, hd⟩, hc⟩ => ⟨d, hc, hd⟩, fun ⟨d, hc, hd⟩ => ⟨⟨d, hd⟩, hc⟩⟩

/-- A canonical table has no key twice. -/
theorem Table.keys_nodup {α : Type} {t : Table α} (h : Table.wf t = true) : (Table.keys t).Nodup :=
  ((Table.wf_iff t).mp h).imp fun hlt => Nat.ne_of_lt hlt

/-- Commands named after the kept items of a list that has no name twice are all different. -/
theorem nodup_named {α β γ : Type} {l : List α} {name : α → β} (h : (l.map name).Nodup) (q : α → Bool) {f : β → γ}
    (hf : Function.Injective f) : ((l.filter q).map fun a => f (name a)).Nodup := by
  have hsub : ((l.filter q).map name).Nodup := h.sublist (List.filter_sublist.map name)
  simpa [List.map_map, Function.comp_def] using hsub.map hf

/-- In canonical tables, with no transporter waiting twice, no expiry joins the queue twice. -/
theorem State.expiries_nodup {s : State} (hwf : s.TablesWf) (hq : s.QueueOnce) : s.expiries.Nodup := by
  obtain ⟨-, hpoints, hpads, -, -⟩ := hwf
  have hT : (allT.map id).Nodup := by rw [List.map_id]; exact List.nodup_finRange 6
  have hthrows := nodup_named (Table.keys_nodup hpoints) (fun p => expiresNow p.2.throwCd)
    (f := Instr.throwTimeout) fun _ _ => Instr.throwTimeout.inj
  have hsuperv := nodup_named hT (fun t => expiresNow (s.tr t).superv) (f := Instr.supervisionExpiry)
    fun _ _ => Instr.supervisionExpiry.inj
  have hwaits := nodup_named hq (fun w => expiresNow w.wait) (f := Instr.waitExpired) fun _ _ => Instr.waitExpired.inj
  have hstages := nodup_named hT (fun t => expiresNow ((s.transfers[t]).bind (·.cd))) (f := Instr.stageTimeout)
    fun _ _ => Instr.stageTimeout.inj
  have hwatches := nodup_named (Table.keys_nodup hpads) (fun p => p.2.watch.expiresNow) (f := Instr.clampFailed)
    fun _ _ => Instr.clampFailed.inj
  have hmast : (if expiresNow s.mastHold then [Instr.mastLost] else []).Nodup := by split <;> simp
  unfold State.expiries
  refine ((((hthrows.append hsuperv ?_).append hwaits ?_).append hstages ?_).append hwatches ?_).append hmast ?_
  all_goals
    intro c h h'
    simp only [List.mem_append, List.mem_map, List.mem_ite_nil_right, List.mem_singleton] at h h'
    aesop

/-! ## One millisecond -/

theorem State.tr_mapTrs (s : State) (f : Transporter → Transporter) (u : TId) :
    ({ s with trs := s.trs.map f } : State).tr u = f (s.tr u) := by
  simp [State.tr]

/-- Settles O2: with no command waiting `step` is `State.idle`, whose three cases are the statement's. -/
theorem emptyQueueStep : Obligations.EmptyQueueStep := by
  intro s hempty
  have hstep : step s = .next s.idle := by rw [step, hempty]
  refine ⟨fun hheld => ?held, fun hnone hdue => ?walk, fun hnone hdue => ?millisecond⟩
  case held =>
    obtain ⟨h, hh⟩ := Option.ne_none_iff_exists'.mp hheld
    rw [hstep, State.idle, State.live_held hh]
  case walk =>
    rw [hstep, State.idle, State.live_eq hnone, if_pos hdue]
    change _ = Host.Outcome.next (s.live fun s => s.walkIfDue)
    rw [State.live_eq hnone, State.walkIfDue, if_pos hdue]
  case millisecond =>
    have hidle : s.idle = s.tick := by rw [State.idle, State.live_eq hnone, if_neg (by rw [hdue]; decide)]
    refine ⟨s.tick, by rw [hstep, hidle], ?_, fun p => ?_, fun u => ?_, fun u => ?_, fun p => ?_, fun c => ?_,
      fun hwf hq => ?_⟩
    · rw [State.tick, hempty, List.nil_append]
      rfl
    · rw [State.point?, State.tick, Table.find_mapAll]
      rfl
    · exact s.tr_mapTrs _ u
    · exact Vector.getElem_map _ u.isLt
    · rw [State.pad?, State.tick, Table.find_mapAll]
      rfl
    · rw [show s.tick.pending = s.expiries from by simp [State.tick, hempty]]
      exact s.mem_expiries c
    · rw [show s.tick.pending = s.expiries from by simp [State.tick, hempty]]
      exact State.expiries_nodup hwf hq

/-! ## RESET LINK (R178, R191) -/

theorem State.resetLink_judged (s : State) (l : OpsId) (tag n : Byte) :
    s.resetCommand l tag [0, n] = s.resetLinkCommand l tag n.toNat := rfl

/-- Settles O7: the link number names a transporter's port, an operations port, or none. -/
theorem resetLinkResult : Obligations.ResetLinkResult := by
  intro s l tag n hl
  rw [(exec_reset_ready hl tag _).1, State.resetLink_judged]
  refine ⟨fun hn => ?transporter, fun k hn => ?operations, fun hn => ?none⟩
  case transporter =>
    have hport : portOf n.toNat = some (.tl ⟨n.toNat, hn⟩) := dif_pos hn
    refine ⟨s.resetPort (.tl ⟨n.toNat, hn⟩), ?_, rfl, fun t ht => ?_, ?_⟩
    · rw [State.resetLinkCommand, hport]
      rfl
    · exact (s.tl_modTl _ t _).trans (if_neg ht.symm)
    · exact s.tl_modTl_self _ _
  case operations =>
    have hport : portOf n.toNat = some (.ops k) := by
      rw [hn]
      fin_cases k <;> rfl
    refine ⟨s.resetPort (.ops k), ?_, rfl, fun j hj => ?_, ?_⟩
    · rw [State.resetLinkCommand, hport]
      rfl
    · exact (s.opsPort_modOps _ j _).trans (if_neg hj.symm)
    · exact s.opsPort_modOps_self _ _
  case none =>
    have hport : portOf n.toNat = none := by
      rw [portOf, dif_neg (by omega), if_neg (by omega), if_neg (by omega)]
    rw [State.resetLinkCommand, hport]
    rfl

end Sys2Proof.Machine

/-! PROOFS. The braking curve (chapter 05): the exact arithmetic of its stages, its inputs along a rising record, and the
ceiling as the least of its caps. -/

namespace Sys2Proof.Machine

/-! ## The ceiling (R97) -/

/-- The least of a list of numbers and a first one: no greater than any of them, and one of them. -/
theorem foldl_min_spec (l : List Nat) (a : Nat) : (∀ x ∈ a :: l, l.foldl min a ≤ x) ∧ l.foldl min a ∈ a :: l := by
  induction l generalizing a with
  | nil => simp
  | cons b l ih =>
    obtain ⟨hle, hmem⟩ := ih (min a b)
    rw [List.foldl_cons]
    refine ⟨fun x hx => ?_, ?_⟩
    · have hfirst := hle _ (List.mem_cons_self ..)
      rcases List.mem_cons.mp hx with rfl | hx
      · omega
      rcases List.mem_cons.mp hx with rfl | hx
      · omega
      · exact hle _ (List.mem_cons_of_mem _ hx)
    · rcases List.mem_cons.mp hmem with h | h
      · rw [h]
        rcases min_choice a b with hm | hm <;> simp [hm]
      · exact List.mem_cons_of_mem _ (List.mem_cons_of_mem _ h)

/-- The caps that are not the curve, with a front entry and an end (R97). -/
theorem State.mem_caps {s : State} {t : TId} {f : Entry} {p : RoutePos} (hf : s.frontEntry t = some f)
    (hp : (s.route t).endPos = some p) (c : Nat) : c ∈ s.caps t ↔
      c = s.lineSpeed f ∨ (∃ e, f.index < p.idx ∧ s.entryAt t (f.index + 1) = some e ∧ c = s.lineSpeed e) ∨
      c = s.vmax t ∨ s.band = .caution ∧ c = s.params.windCrawl := by
  simp only [State.caps, hf, hp, List.mem_append, List.mem_cons, List.mem_ite_nil_right, Option.mem_toList,
    Option.map_eq_some_iff, List.not_mem_nil, or_false, or_assoc]
  refine or_congr_right (or_congr_left ?_)
  exact ⟨fun ⟨hlt, e, he, hc⟩ => ⟨e, hlt, he, hc.symm⟩, fun ⟨e, hlt, he, hc⟩ => ⟨hlt, e, he, hc.symm⟩⟩

theorem State.ceilingNow_authorised {s : State} {t : TId} (h : (s.tr t).state = .authorised) :
    s.ceilingNow t = (s.caps t).foldl min (s.curve t) := if_pos h

/-- Settles O59: the ceiling is the least of the curve speed and the caps. -/
theorem ceilingIsTheLeast : Obligations.CeilingIsTheLeast := by
  intro s t
  refine ⟨⟨?_, upd_get_self ..⟩, fun h => if_neg h, fun f p hauth hf hp => ?_⟩
  · exact congrArg (fun q : TlPort => q.auth.map (·.ceiling)) (State.tl_modTl_self s t _)
  · rw [State.ceilingNow_authorised hauth]
    obtain ⟨hle, hmem⟩ := foldl_min_spec (s.caps t) (s.curve t)
    have hcap : ∀ c ∈ s.caps t, (s.caps t).foldl min (s.curve t) ≤ c := fun c hc => hle c (List.mem_cons_of_mem _ hc)
    refine ⟨hle _ (List.mem_cons_self ..), hcap _ ?_, hcap _ ?_, fun hb => hcap _ ?_, fun e hlt he => hcap _ ?_, ?_⟩
    · exact (State.mem_caps hf hp _).mpr (.inl rfl)
    · exact (State.mem_caps hf hp _).mpr (.inr (.inr (.inl rfl)))
    · exact (State.mem_caps hf hp _).mpr (.inr (.inr (.inr ⟨hb, rfl⟩)))
    · exact (State.mem_caps hf hp _).mpr (.inr (.inl ⟨e, hlt, he, rfl⟩))
    · rw [List.mem_cons, State.mem_caps hf hp] at hmem
      tauto

/-! ## Square root, grade term and stop distance (R95, R96, R99) -/

/-- The search for the root, bit by bit, keeps the root between its candidate and the bits still to come. -/
theorem isqrtFrom_eq_sqrt (x n r : Nat) (hle : r * r ≤ x) (hlt : x < (r + 2 ^ n) * (r + 2 ^ n)) :
    isqrtFrom x n r = Nat.sqrt x := by
  induction n generalizing r with
  | zero =>
    change r = Nat.sqrt x
    exact Nat.eq_sqrt.mpr ⟨hle, by simpa using hlt⟩
  | succ n ih =>
    unfold isqrtFrom
    have hpow : r + 2 ^ n + 2 ^ n = r + 2 ^ (n + 1) := by rw [pow_succ]; omega
    split
    · next h => exact ih _ h (by rw [hpow]; exact hlt)
    · next h => exact ih _ hle (Nat.lt_of_not_le h)

theorem isqrt_eq_sqrt {x : Nat} (h : x < 2 ^ 64) : isqrt x = Nat.sqrt x :=
  isqrtFrom_eq_sqrt x 32 0 (Nat.zero_le x) (by norm_num at h ⊢; exact h)

/-- The product under the root is far below 2^64 (R96). -/
theorem brakingProduct_lt {a d m : Nat} (hd : d ≤ 2000000) (ha : a ≤ 100) : 2 * a * (d - m) < 2 ^ 64 := by
  have : 2 * a * (d - m) ≤ 200 * 2000000 := Nat.mul_le_mul (by omega) (by omega)
  omega

theorem gradeTerm_bounds (g : Nat) : 981 * g ≤ 1000 * gradeTerm g ∧ 1000 * gradeTerm g < 981 * g + 1000 := by
  unfold gradeTerm
  omega

/-- The stop distance is within k exactly when the square of the speed is within 2 a k (R99). -/
theorem stopDistance_le_iff {a : Nat} (ha : 0 < a) (v k : Nat) : stopDistance v a ≤ k ↔ v * v ≤ 2 * a * k := by
  rw [stopDistance, Nat.div_le_iff_le_mul_add_pred (by omega)]
  omega

/-- The curve speed beyond the margin is the exact floor square root, or CREEP. -/
theorem curveSpeed_beyond {d a m creep : Nat} (h : m < d) (hd : d ≤ 2000000) (ha : a ≤ 100) :
    curveSpeed d a m creep = max (Nat.sqrt (2 * a * (d - m))) creep := by
  rw [curveSpeed, if_neg (Nat.not_le.mpr h), isqrt_eq_sqrt (brakingProduct_lt hd ha)]

/-- A speed is within the root exactly when its stop distance is within the distance less the margin (R100). -/
theorem le_isqrt_iff_stopDistance_le {d m a v : Nat} (hd : d ≤ 2000000) (ha : 2 ≤ a) (ha' : a ≤ 100) :
    v ≤ isqrt (2 * a * (d - m)) ↔ stopDistance v a ≤ d - m := by
  rw [isqrt_eq_sqrt (brakingProduct_lt hd ha'), Nat.le_sqrt, stopDistance_le_iff (by omega)]

theorem stopDistance_bounds {a : Nat} (ha : 0 < a) (v : Nat) :
    v * v ≤ 2 * a * stopDistance v a ∧ (0 < v → 2 * a * (stopDistance v a - 1) < v * v) := by
  refine ⟨(stopDistance_le_iff ha v _).mp (Nat.le_refl _), fun hv => Nat.lt_of_not_le fun h => ?_⟩
  have hle := (stopDistance_le_iff ha v _).mpr h
  have hsq : 0 < v * v := Nat.mul_pos hv hv
  have hzero : stopDistance v a = 0 := by omega
  rw [hzero] at h
  omega

/-! ## Distances along a record (R16, R93) -/

/-- The entries of a record before the route index i. -/
def entriesBefore (es : List Entry) (i : Nat) : List Entry := es.filter fun g => decide (g.index < i)

/-- The entries of a record strictly between two route indices. -/
def entriesBetween (es : List Entry) (i j : Nat) : List Entry :=
  es.filter fun e => decide (i < e.index ∧ e.index < j)

/-- Along a rising record the lengths before j are those before an earlier entry, that entry's, and those between. -/
theorem sum_before_split {es : List Entry} (h : (es.map (·.index)).Pairwise (· < ·)) (len : Entry → Nat) {e : Entry}
    (he : e ∈ es) {j : Nat} (hj : e.index < j) :
    ((entriesBefore es j).map len).sum =
      ((entriesBefore es e.index).map len).sum + len e + ((entriesBetween es e.index j).map len).sum := by
  induction es with
  | nil => cases he
  | cons g es ih =>
    rw [List.map_cons, List.pairwise_cons] at h
    obtain ⟨hfirst, hrest⟩ := h
    have hgt : ∀ f ∈ es, g.index < f.index := fun f hf => hfirst _ (List.mem_map_of_mem hf)
    rcases List.mem_cons.mp he with rfl | hmem
    · have hbefore : entriesBefore es e.index = [] :=
        List.filter_eq_nil_iff.mpr fun f hf => by simpa using (hgt f hf).le
      have hbetween : entriesBetween es e.index j = entriesBefore es j :=
        List.filter_congr fun f hf => by simp [hgt f hf]
      simp only [entriesBefore, entriesBetween, Bool.decide_and] at hbefore hbetween
      simp [entriesBefore, entriesBetween, hj, hbefore, hbetween]
    · have hlt := hgt e hmem
      have hsum := ih hrest hmem
      simp only [entriesBefore, entriesBetween] at hsum
      have hnot : ¬ e.index < g.index := by omega
      simp [entriesBefore, entriesBetween, hlt, hlt.trans hj, hnot, hsum]
      omega

theorem State.entryAt_spec {s : State} {t : TId} {i : Nat} {e : Entry} (h : s.entryAt t i = some e) :
    e ∈ (s.route t).entries ∧ e.index = i :=
  ⟨List.mem_of_find?_eq_some h, by simpa using List.find?_some h⟩

/-- How far a route position lies along t's record: the lengths before its entry, and its offset. -/
def State.along (s : State) (t : TId) (x : RoutePos) : Nat :=
  ((entriesBefore (s.route t).entries x.idx).map s.pathLen).sum + x.off

/-- Along a rising record the distance is the difference of how far the two positions lie, saturated (R93). -/
theorem State.distance_eq_along {s : State} {t : TId} {q p : RoutePos} {e f : Entry} (hr : s.RoutesRise)
    (he : s.entryAt t q.idx = some e) (hf : s.entryAt t p.idx = some f) (hq : q.off ≤ s.pathLen e)
    (hp : p.off ≤ s.pathLen f) : s.distance t q p = min (s.along t p - s.along t q) 2000000 := by
  obtain ⟨hrise, -, -⟩ := hr t
  obtain ⟨hemem, heidx⟩ := State.entryAt_spec he
  obtain ⟨hfmem, hfidx⟩ := State.entryAt_spec hf
  rw [State.distance]
  split
  · next hlt =>
    have hsplit := sum_before_split hrise s.pathLen hfmem (j := q.idx) (by omega)
    rw [hfidx] at hsplit
    simp only [State.along]
    omega
  split
  · next heq =>
    rw [show s.along t p - s.along t q = p.off - q.off from by simp only [State.along, heq]; omega]
    rfl
  · next hnlt hne =>
    have hsplit := sum_before_split hrise s.pathLen hemem (j := p.idx) (by omega)
    rw [heidx] at hsplit
    have hfirst : ((s.entryAt t q.idx).map s.pathLen).getD 0 = s.pathLen e := by rw [he]; rfl
    rw [hfirst, show s.along t p - s.along t q =
      s.pathLen e - q.off + ((entriesBetween (s.route t).entries q.idx p.idx).map s.pathLen).sum + p.off from by
        simp only [State.along]; omega]
    rfl

/-! ## The worst grade (R94) -/

/-- How steeply an entry through section x descends; negative where it climbs. -/
def descent (e : Entry) (x : Section) : Int := if e.ent = .a then -x.defn.grade else x.defn.grade

/-- The downhill grade that an entry counts for (R94). -/
def State.downhillAt (s : State) (e : Entry) : Nat :=
  match s.sec? e.sec with
  | some x => downhill x.defn.grade e.ent
  | none => 0

theorem State.downhillAt_some {s : State} {e : Entry} {x : Section} (h : s.sec? e.sec = some x) :
    s.downhillAt e = (descent e x).toNat := by
  simp only [State.downhillAt, h]
  rfl

/-- The greatest of a list of numbers and a first one: no less than any of them, and one of them. -/
theorem foldl_max_spec {α : Type} (f : α → Nat) (l : List α) (a : Nat) :
    (a ≤ l.foldl (fun g e => max g (f e)) a ∧ ∀ e ∈ l, f e ≤ l.foldl (fun g e => max g (f e)) a) ∧
    (l.foldl (fun g e => max g (f e)) a = a ∨ ∃ e ∈ l, l.foldl (fun g e => max g (f e)) a = f e) := by
  induction l generalizing a with
  | nil => simp
  | cons b l ih =>
    obtain ⟨⟨hfirst, hle⟩, hmem⟩ := ih (max a (f b))
    rw [List.foldl_cons]
    refine ⟨⟨by omega, fun e he => ?_⟩, ?_⟩
    · rcases List.mem_cons.mp he with rfl | he
      · omega
      · exact hle e he
    · rcases hmem with h | ⟨e, he, h⟩
      · rcases max_choice a (f b) with hm | hm
        · exact .inl (h.trans hm)
        · exact .inr ⟨b, List.mem_cons_self .., h.trans hm⟩
      · exact .inr ⟨e, List.mem_cons_of_mem _ he, h⟩

theorem State.worstGrade_spec (s : State) (es : List Entry) :
    (∀ e ∈ es, s.downhillAt e ≤ s.worstGrade es) ∧
    (s.worstGrade es = 0 ∨ ∃ e ∈ es, s.worstGrade es = s.downhillAt e) :=
  let ⟨⟨_, hle⟩, hmem⟩ := foldl_max_spec s.downhillAt es 0
  ⟨hle, hmem⟩

/-- The worst grade is the steepest descent of the span, or 0 (R94). -/
theorem State.worstGrade_descent (s : State) (es : List Entry) :
    (∀ e ∈ es, ∀ x, s.sec? e.sec = some x → descent e x ≤ s.worstGrade es) ∧
    (s.worstGrade es = 0 ∨ ∃ e ∈ es, ∃ x, s.sec? e.sec = some x ∧ descent e x = s.worstGrade es) := by
  obtain ⟨hle, hmem⟩ := s.worstGrade_spec es
  refine ⟨fun e he x hx => ?_, ?_⟩
  · have := hle e he
    rw [State.downhillAt_some hx] at this
    omega
  · by_cases hzero : s.worstGrade es = 0
    · exact .inl hzero
    obtain ⟨e, he, heq⟩ := hmem.resolve_left hzero
    cases hx : s.sec? e.sec with
    | none => exact absurd (heq.trans (by simp only [State.downhillAt, hx])) hzero
    | some x =>
      rw [State.downhillAt_some hx] at heq
      exact .inr ⟨e, he, x, hx, by omega⟩

/-! ## Load, curve and braking test (R76, R92, R96, R99) -/

/-- A transporter counts as loaded where the register shows a telescope at it, or its last report says so (R92). -/
theorem State.loaded_iff (s : State) (t : TId) : s.loaded t = true ↔
    (∃ k l, (k, l) ∈ s.telescopes ∧ (l = .onTransporter t ∨ ∃ p, l = .indeterminate p t)) ∨
    ∃ r, (s.tr t).last = some r ∧ r.load = true := by
  rw [State.loaded, Bool.or_eq_true]
  refine or_congr ?_ ?_
  · rw [State.telescopeAt, Option.isSome_map, List.find?_isSome]
    constructor
    · rintro ⟨⟨k, l⟩, hm, hat⟩
      refine ⟨k, l, hm, ?_⟩
      cases l with
      | onPad p => cases hat
      | onTransporter u => exact .inl (congrArg _ (of_decide_eq_true hat))
      | indeterminate p u => exact .inr ⟨p, congrArg _ (of_decide_eq_true hat)⟩
    · rintro ⟨k, l, hm, rfl | ⟨p, rfl⟩⟩
      · exact ⟨_, hm, decide_eq_true rfl⟩
      · exact ⟨_, hm, decide_eq_true rfl⟩
  · rw [State.loadSensed]
    cases (s.tr t).last <;> simp

theorem State.curve_at {s : State} {t : TId} {q p : RoutePos} (hq : s.frontPos t = some q)
    (hp : (s.route t).endPos = some p) : s.curve t =
      curveSpeed (s.distance t q p) (s.effDecelTo t q.idx p.idx) s.params.margin s.params.creep := by
  simp only [State.curve, hq, hp]

theorem effDecel_ge_two (a g : Nat) : 2 ≤ effDecel a g := le_max_left ..

/-- The braking test asks that the square of the speed fit the distance less the margin (R76, R99). -/
theorem State.brakingOk_iff {s : State} {t : TId} {q : RoutePos} (hq : s.frontPos t = some q) (c : RoutePos) :
    s.brakingOk t c = true ↔ c = q ∧ s.speed t = 0 ∨ s.params.margin ≤ s.distance t q c ∧
      s.speed t ^ 2 ≤ 2 * s.effDecelTo t q.idx c.idx * (s.distance t q c - s.params.margin) := by
  have hpos : 0 < s.effDecelTo t q.idx c.idx := Nat.lt_of_lt_of_le Nat.zero_lt_two (effDecel_ge_two ..)
  simp only [State.brakingOk, hq, Bool.or_eq_true, decide_eq_true_eq, sq, ← stopDistance_le_iff hpos]
  exact or_congr_right (by omega)

/-- Settles O60: the arithmetic is exact, and the inputs are what the rules name. -/
theorem curveAndStopDistanceAgree : Obligations.CurveAndStopDistanceAgree := by
  refine ⟨fun g hg => ?grade, fun a g => ?decel, fun d a m creep h => ?within, fun d a m creep => curveSpeed_beyond,
    fun v a ha => stopDistance_bounds ha v, fun d m a v _ hd ha ha' => le_isqrt_iff_stopDistance_le hd ha ha',
    fun s t q p e f hr he hf hq hp => State.distance_eq_along hr he hf hq hp, State.worstGrade_descent, fun s t => ?load⟩
  case grade => exact ⟨(gradeTerm_bounds g).1, (gradeTerm_bounds g).2, by unfold gradeTerm; omega⟩
  case decel => exact ⟨effDecel_ge_two a g, by unfold effDecel; omega⟩
  case within => exact if_pos h
  case load =>
    refine ⟨fun h => ?_, fun h => ?_, fun q hq => ⟨fun p hp => State.curve_at hq hp, State.brakingOk_iff hq⟩⟩
    · have hl := (s.loaded_iff t).mpr h
      exact ⟨if_pos hl, if_pos hl⟩
    · have hl := (s.loaded_iff t).not.mpr h
      exact ⟨if_neg hl, if_neg hl⟩

end Sys2Proof.Machine

/-! PROOFS. What is refused before an owner acts: a payload of the wrong length (FRAME), and, outside RUNNING, the control
commands, CONFIGURE and the transporter requests (STATE) (R180, R183, R109). -/

namespace Sys2Proof.Machine

/-! ## Frames and their owners -/

/-- An operations command is the arrival of its frame (log 1). -/
theorem exec_opsFrame {c : Instr} {l : OpsId} {ty tag : Byte} {p : List Byte} (h : opsFrame c = some (l, ty, tag, p))
    (s : State) : exec c s = .next (s.live fun s => s.frameArrives (.ops l) ⟨ty, tag :: p⟩) := by
  cases c <;> cases h <;> rfl

/-- A transporter request is the arrival of its frame (log 1). -/
theorem exec_tlFrame {c : Instr} {t : TId} {ty : Byte} {p : List Byte} (h : tlFrame c = some (t, ty, p)) (s : State) :
    exec c s = .next (s.live fun s => s.frameArrives (.tl t) ⟨ty, p⟩) := by
  cases c <;> cases h <;> rfl

/-- Every operations command's type has an owner. -/
theorem opsFrame_owner {c : Instr} {l : OpsId} {ty tag : Byte} {p : List Byte} (h : opsFrame c = some (l, ty, tag, p)) :
    ∃ o ∈ opsOwners, o.1 = ty ∧ ownerOf opsOwners ty = some o.2 := by
  have htypes : ∀ c : Instr, ∀ f, opsFrame c = some f → f.2.1 ∈ opsOwners.map (·.1) := by
    intro c f hf
    cases c <;> cases hf <;> dsimp only <;> decide
  obtain ⟨o, ho, hty⟩ := List.mem_map.mp (htypes c _ h)
  have hsome : (opsOwners.find? fun e => decide (e.1 = ty)).isSome = true :=
    List.find?_isSome.mpr ⟨o, ho, decide_eq_true hty⟩
  obtain ⟨q, hq⟩ := Option.isSome_iff_exists.mp hsome
  exact ⟨q, List.mem_of_find?_eq_some hq, by simpa using List.find?_some hq, by rw [ownerOf, hq]; rfl⟩

/-- Every transporter request's type has an owner. -/
theorem tlFrame_owner {c : Instr} {t : TId} {ty : Byte} {p : List Byte} (h : tlFrame c = some (t, ty, p)) :
    ∃ o ∈ tlOwners, o.1 = ty ∧ ownerOf tlOwners ty = some o.2 := by
  have htypes : ∀ c : Instr, ∀ f, tlFrame c = some f → f.2.1 ∈ tlOwners.map (·.1) := by
    intro c f hf
    cases c <;> cases hf <;> dsimp only <;> decide
  obtain ⟨o, ho, hty⟩ := List.mem_map.mp (htypes c _ h)
  have hsome : (tlOwners.find? fun e => decide (e.1 = ty)).isSome = true :=
    List.find?_isSome.mpr ⟨o, ho, decide_eq_true hty⟩
  obtain ⟨q, hq⟩ := Option.isSome_iff_exists.mp hsome
  exact ⟨q, List.mem_of_find?_eq_some hq, by simpa using List.find?_some hq, by rw [ownerOf, hq]; rfl⟩

/-- At a ready link an operations command is what its owner does with it. -/
theorem exec_ops_ready {c : Instr} {s : State} {l : OpsId} {ty tag : Byte} {p : List Byte}
    {act : State → OpsId → Byte → List Byte → State} (hl : s.OpsReady l) (h : opsFrame c = some (l, ty, tag, p))
    (ho : ownerOf opsOwners ty = some act) : exec c s = .next (act s l tag p) := by
  rw [exec_opsFrame h, State.live_eq hl.1.1, State.frameArrives_ops tag p hl ho]

/-- At a quiet port a transporter request is what its owner does with it, its supervision reloaded. -/
theorem exec_tl_quiet {c : Instr} {s : State} {t : TId} {ty : Byte} {p : List Byte}
    {act : State → TId → List Byte → State} (hl : s.Quiet (.tl t)) (h : tlFrame c = some (t, ty, p))
    (ho : ownerOf tlOwners ty = some act) : exec c s = .next (act (s.reloadSupervision t) t p) := by
  rw [exec_tlFrame h, State.live_eq hl.1, State.frameArrives_tl p hl ho]

/-! ## Lengths (R180) -/

theorem State.noFields_of_length_ne {p : List Byte} (h : p.length ≠ 0) (s : State) (l : OpsId) (tag ty : Byte)
    (f : State) : s.noFields l tag ty p f = s.reply l tag ty .frame [] := by
  match p with
  | [] => exact absurd rfl h
  | _ :: _ => rfl

theorem State.query_of_length_ne {p : List Byte} (h : p.length ≠ 1) (s : State) (l : OpsId) (tag ty : Byte)
    (f : Nat → Option (List Byte)) : s.query l tag ty p f = s.reply l tag ty .frame [] :=
  State.oneId_of_length_ne h ..

theorem parseSection_of_length {p : List Byte} (h : p.length ≠ 2 ∧ p.length ≠ 19) : parseSection p = none := by
  unfold parseSection
  split
  · exact absurd rfl h.1
  · exact absurd rfl h.2
  · rfl

/-- The owner of a type answers FRAME to a payload whose length is none of those in `lengths`. -/
def RefusesLength (ty : Byte) (lengths : List Nat) (act : State → OpsId → Byte → List Byte → State) : Prop :=
  ∀ (s : State) (l : OpsId) (tag : Byte) (p : List Byte), p.length ∉ lengths → act s l tag p = s.reply l tag ty .frame []

theorem refusesLength_noFields (ty : Byte) (f : State → OpsId → Byte → State) :
    RefusesLength ty [0] fun s l tag p => s.noFields l tag ty p (f s l tag) :=
  fun s l tag _ h => State.noFields_of_length_ne (by simpa using h) s l tag ty _

theorem refusesLength_oneId (ty : Byte) (f : State → OpsId → Byte → Nat → State) :
    RefusesLength ty [1] fun s l tag p => s.oneId l tag ty p (f s l tag) :=
  fun s l tag _ h => State.oneId_of_length_ne (by simpa using h) s l tag ty _

theorem refusesLength_query (ty : Byte) (f : State → Nat → Option (List Byte)) :
    RefusesLength ty [1] fun s l tag p => s.query l tag ty p (f s) :=
  fun s l tag _ h => State.query_of_length_ne (by simpa using h) s l tag ty _

theorem refusesLength_cancel : RefusesLength Config.tyCancel [5] State.onCancel := by
  intro s l tag p h
  unfold State.onCancel
  split
  · exact absurd (List.mem_singleton.mpr rfl) h
  · rfl

theorem refusesLength_throwPoint : RefusesLength Config.tyThrow [2] State.onThrowPoint := by
  intro s l tag p h
  unfold State.onThrowPoint
  split
  · exact absurd (List.mem_singleton.mpr rfl) h
  · rfl

theorem refusesLength_padReserve : RefusesLength Config.tyPadReserve [2] State.onPadReserve := by
  intro s l tag p h
  unfold State.onPadReserve
  split
  · exact absurd (List.mem_singleton.mpr rfl) h
  · rfl

theorem refusesLength_padService : RefusesLength Config.tyPadService [2] State.onPadService := by
  intro s l tag p h
  unfold State.onPadService
  split
  · exact absurd (List.mem_singleton.mpr rfl) h
  · rfl

theorem refusesLength_declare : RefusesLength Config.tyDeclare [3] State.onDeclare := by
  intro s l tag p h
  unfold State.onDeclare
  split
  · exact absurd (List.mem_singleton.mpr rfl) h
  · rfl

theorem refusesLength_setParam : RefusesLength Config.tySetParam [4] State.onSetParam := by
  intro s l tag p h
  unfold State.onSetParam
  split
  · exact absurd (List.mem_singleton.mpr rfl) h
  · rfl

theorem refusesLength_defineSection : RefusesLength Config.tyDefineSection [2, 19] State.onDefineSection := by
  intro s l tag p h
  simp only [State.onDefineSection, parseSection_of_length (p := p) (by simpa using h)]

theorem refusesLength_definePoint : RefusesLength Config.tyDefinePoint [2, 3] State.onDefinePoint := by
  intro s l tag p h
  unfold State.onDefinePoint
  split
  · exact absurd (List.mem_cons_self ..) h
  · exact absurd (List.mem_cons_of_mem _ (List.mem_singleton.mpr rfl)) h
  · rfl

theorem refusesLength_definePad : RefusesLength Config.tyDefinePad [2, 7] State.onDefinePad := by
  intro s l tag p h
  unfold State.onDefinePad
  split
  · exact absurd (List.mem_cons_self ..) h
  · exact absurd (List.mem_cons_of_mem _ (List.mem_singleton.mpr rfl)) h
  · rfl

theorem refusesLength_defineUnit : RefusesLength Config.tyDefineUnit [2] State.onDefineUnit := by
  intro s l tag p h
  unfold State.onDefineUnit
  split
  · exact absurd (List.mem_singleton.mpr rfl) h
  · rfl

theorem refusesLength_defineTransporter :
    RefusesLength Config.tyDefineTransporter [11] State.onDefineTransporter := by
  intro s l tag p h
  unfold State.onDefineTransporter
  split
  · exact absurd (List.mem_singleton.mpr rfl) h
  · rfl

theorem refusesLength_allocate : RefusesLength Config.tyAllocate [6] State.onAllocate :=
  fun _ _ _ _ h => if_neg fun hlen => h (List.mem_singleton.mpr hlen)

theorem refusesLength_reset : RefusesLength Config.tyReset [2] State.resetCommand := by
  intro s l tag p h
  unfold State.resetCommand
  split
  · exact absurd (List.mem_singleton.mpr rfl) h
  · rfl

/-- An operations command whose payload has a length that its type does not have is answered FRAME by its owner. -/
theorem opsOwners_length : ∀ o ∈ opsOwners, RefusesLength o.1 (opsLengths o.1) o.2 := by
  simp only [opsOwners, List.forall_mem_cons]
  exact ⟨refusesLength_noFields _ fun s l tag => s.reply l tag _ .ok s.siteData,
    refusesLength_query _ fun s n => if n < Config.numSections then (s.sec? n).map (Section.data n) else none,
    refusesLength_query _ fun s n => if n < Config.numPoints then (s.point? n).map (Point.data n) else none,
    refusesLength_query _ fun s n => (tid? n).map s.transporterData,
    refusesLength_query _ fun s n => (tid? n).map s.routeData,
    refusesLength_query _ fun s n => if n < Config.numPads then (s.pad? n).map (s.padData n) else none,
    refusesLength_query _ fun s n => if 1 ≤ n ∧ n ≤ Config.numTelescopes then some (s.telescopeData n) else none,
    refusesLength_query _ fun s n => if 1 ≤ n ∧ n ≤ Config.maxAddress then (s.unit? n).map (s.unitData n) else none,
    refusesLength_noFields _ fun s l tag =>
      s.judge l tag Config.tyAllStop [(s.running, .state)] (fun s => s.setAllStop true) noData,
    refusesLength_noFields _ fun s l tag =>
      s.judge l tag Config.tyAllResume [(s.running, .state)] (fun s => s.setAllStop false) noData,
    refusesLength_oneId _ State.zoneClear, refusesLength_cancel, refusesLength_oneId _ State.recover,
    refusesLength_oneId _ State.retire, refusesLength_throwPoint, refusesLength_oneId _ State.clearPoint,
    refusesLength_oneId _ State.restoreSection, refusesLength_oneId _ State.restoreUnit, refusesLength_padReserve,
    refusesLength_oneId _ State.padFree, refusesLength_padService, refusesLength_declare,
    refusesLength_oneId _ State.xferAbort, refusesLength_setParam, refusesLength_defineSection,
    refusesLength_definePoint, refusesLength_definePad, refusesLength_defineUnit, refusesLength_defineTransporter,
    refusesLength_allocate, refusesLength_noFields _ State.commit,
    refusesLength_noFields _ fun s l tag =>
      s.judge l tag Config.tyConfigure [(s.running, .state), (s.allOffline, .state)] (fun s => s.configureAccepted) noData,
    refusesLength_reset, fun _ h => absurd h List.not_mem_nil⟩

/-- ROUTE's payload is read exactly where its length is the one its entry count gives (R42). -/
theorem parseRoute_of_length {p : List Byte} (h : ¬ tlLengthOk Config.tyRoute p) : parseRoute p = none := by
  unfold parseRoute
  split
  · next n fh fl rest =>
    refine if_neg fun ⟨hlow, hhigh, hlen⟩ => h ?_
    exact .inr (.inr (.inr (.inr (.inr ⟨rfl, n, rfl, hlow, hhigh, by simp only [List.length_cons, hlen]; omega⟩))))
  · rfl

/-- A transporter request whose payload has a length that its type does not have is answered FRAME by its owner. -/
theorem tlOwners_length : ∀ o ∈ tlOwners, ∀ (s : State) (t : TId) (p : List Byte), ¬ tlLengthOk o.1 p →
    o.2 s t p = s.refuse t o.1 .frame := by
  simp only [tlOwners, List.forall_mem_cons]
  refine ⟨fun s t p h => ?join, fun s t p h => ?report, fun s t p h => ?route, fun s t p h => ?giveback,
    fun s t p h => ?transfer, fun s t p h => ?step, fun s t p h => ?leave, fun _ h => absurd h List.not_mem_nil⟩
  case join =>
    unfold State.onJoin parseJoin
    split
    · next hp =>
      split at hp
      · exact absurd (.inl ⟨rfl, rfl⟩) h
      · cases hp
    · rfl
  case report =>
    unfold State.onReport parseReport
    split
    · rfl
    · next hp =>
      split at hp
      · exact absurd (.inr (.inl ⟨rfl, rfl⟩)) h
      · cases hp
  case route => simp only [State.onRoute, parseRoute_of_length h]
  case giveback =>
    unfold State.onGiveback parsePos
    split
    · rfl
    · next hp =>
      split at hp
      · exact absurd (.inr (.inr (.inl ⟨rfl, rfl⟩))) h
      · cases hp
  case transfer =>
    unfold State.onTransfer
    split
    · exact absurd (.inr (.inr (.inr (.inl ⟨rfl, rfl⟩)))) h
    · rfl
  case step =>
    unfold State.onStepResult
    split
    · exact absurd (.inr (.inr (.inr (.inr (.inl ⟨.inl rfl, rfl⟩))))) h
    · rfl
  case leave =>
    unfold State.onLeave
    split
    · exact absurd (.inr (.inr (.inr (.inr (.inl ⟨.inr rfl, rfl⟩))))) h
    · rfl

/-- Settles O18: the owner of every type refuses a length that its type does not have before anything else. -/
theorem lengthRefused : Obligations.LengthRefused := by
  refine ⟨fun c s l ty tag p hl hc hlen => ?_, fun c s t ty p hl hc hlen => ⟨rfl, ?_⟩⟩
  · obtain ⟨o, ho, rfl, hown⟩ := opsFrame_owner hc
    rw [exec_ops_ready hl hc hown, opsOwners_length o ho s l tag p hlen]
  · obtain ⟨o, ho, rfl, hown⟩ := tlFrame_owner hc
    rw [exec_tl_quiet hl hc hown, tlOwners_length o ho _ t p hlen]

end Sys2Proof.Machine

/-! PROOFS. Outside RUNNING: the control commands and CONFIGURE are answered STATE by their owners (R183), and so is every
transporter request, since every transporter is OFFLINE there (R109). -/

namespace Sys2Proof.Machine

/-! ## Operations commands -/

section
variable {s : State} (hout : s.site ≠ .running) (l : OpsId) (tag : Byte)
include hout

theorem State.zoneClear_outside_running (n : Nat) : s.zoneClear l tag n = s.reply l tag 0x52 .state [] := by
  unfold State.zoneClear
  split <;> exact State.judge_outside_running hout ..

theorem State.cancel_outside_running (n : Nat) (e : RoutePos) : s.cancel l tag n e = s.reply l tag 0x53 .state [] := by
  unfold State.cancel
  split <;> exact State.judge_outside_running hout ..

theorem State.retire_outside_running (n : Nat) : s.retire l tag n = s.reply l tag 0x55 .state [] := by
  unfold State.retire
  split <;> exact State.judge_outside_running hout ..

theorem State.restoreSection_outside_running (n : Nat) :
    s.restoreSection l tag n = s.reply l tag 0x58 .state [] := by
  unfold State.restoreSection
  split <;> exact State.judge_outside_running hout ..

theorem State.restoreUnit_outside_running (n : Nat) : s.restoreUnit l tag n = s.reply l tag 0x59 .state [] := by
  unfold State.restoreUnit
  split <;> exact State.judge_outside_running hout ..

theorem State.padReserve_outside_running (n k : Nat) : s.padReserve l tag n k = s.reply l tag 0x5A .state [] := by
  unfold State.padReserve
  split <;> exact State.judge_outside_running hout ..

theorem State.padFree_outside_running (n : Nat) : s.padFree l tag n = s.reply l tag 0x5B .state [] :=
  State.judge_outside_running hout ..

theorem State.padService_outside_running (n : Nat) (out : Bool) :
    s.padService l tag n out = s.reply l tag 0x5C .state [] := by
  unfold State.padService
  split
  · exact State.judge_outside_running hout ..
  · split <;> exact State.judge_outside_running hout ..

theorem State.declarePad_outside_running (k n : Nat) (x : Pad) :
    s.declarePad l tag k n x = s.reply l tag 0x5D .state [] := by
  unfold State.declarePad
  split <;> exact State.judge_outside_running hout ..

theorem State.declareTransporter_outside_running (k : Nat) (t : TId) :
    s.declareTransporter l tag k t = s.reply l tag 0x5D .state [] := by
  unfold State.declareTransporter
  split <;> exact State.judge_outside_running hout ..

theorem State.declare_outside_running (k : Nat) (b : Bool) (n : Nat) :
    s.declare l tag k b n = s.reply l tag 0x5D .state [] := by
  unfold State.declare
  split
  · split
    · exact State.declareTransporter_outside_running hout ..
    · exact State.judge_outside_running hout ..
  · split
    · exact State.declarePad_outside_running hout ..
    · exact State.judge_outside_running hout ..

theorem State.xferAbort_outside_running (n : Nat) : s.xferAbort l tag n = s.reply l tag 0x5E .state [] := by
  unfold State.xferAbort
  split <;> exact State.judge_outside_running hout ..

end

/-- The owner of a type answers STATE outside RUNNING to every payload of a length in `lengths`, where `coded` holds of it. -/
def RefusesOutside (ty : Byte) (lengths : List Nat) (coded : List Byte → Prop)
    (act : State → OpsId → Byte → List Byte → State) : Prop :=
  ∀ (s : State) (l : OpsId) (tag : Byte) (p : List Byte), s.site ≠ .running → p.length ∈ lengths → coded p →
    act s l tag p = s.reply l tag ty .state []

theorem refusesOutside_noFields {ty : Byte} {coded : List Byte → Prop} {f : State → OpsId → Byte → State}
    (h : ∀ s l tag, s.site ≠ .running → f s l tag = s.reply l tag ty .state []) :
    RefusesOutside ty [0] coded fun s l tag p => s.noFields l tag ty p (f s l tag) := by
  intro s l tag p hout hlen _
  obtain rfl : p = [] := by simpa using hlen
  exact h s l tag hout

theorem refusesOutside_oneId {ty : Byte} {coded : List Byte → Prop} {f : State → OpsId → Byte → Nat → State}
    (h : ∀ s l tag n, s.site ≠ .running → f s l tag n = s.reply l tag ty .state []) :
    RefusesOutside ty [1] coded fun s l tag p => s.oneId l tag ty p (f s l tag) := by
  intro s l tag p hout hlen _
  obtain ⟨b, rfl⟩ := List.length_eq_one_iff.mp (List.mem_singleton.mp hlen)
  exact h s l tag _ hout

/-- A byte that is 0 or 1 is a flag. -/
theorem flagOf_of_eq {b : Byte} (h : b = 0 ∨ b = 1) : ∃ f, flagOf b = some f := by
  rcases h with rfl | rfl
  · exact ⟨false, rfl⟩
  · exact ⟨true, rfl⟩

theorem refusesOutside_cancel (coded : List Byte → Prop) : RefusesOutside 0x53 [5] coded State.onCancel := by
  intro s l tag p hout hlen _
  obtain ⟨n, ih, il, oh, ol, rfl⟩ : ∃ n ih il oh ol, p = [n, ih, il, oh, ol] := by
    rcases p with _ | ⟨n, _ | ⟨ih, _ | ⟨il, _ | ⟨oh, _ | ⟨ol, _ | ⟨x, p⟩⟩⟩⟩⟩⟩ <;> simp at hlen ⊢
  exact State.cancel_outside_running hout ..

/-- A list of two is its two items. -/
theorem exists_of_length_two {α : Type} {p : List α} (h : p.length ∈ [2]) : ∃ a b, p = [a, b] :=
  List.length_eq_two.mp (List.mem_singleton.mp h)

theorem refusesOutside_throwPoint (coded : List Byte → Prop) : RefusesOutside 0x56 [2] coded State.onThrowPoint := by
  intro s l tag p hout hlen _
  obtain ⟨n, pos, rfl⟩ := exists_of_length_two hlen
  exact State.throwCommand_outside_running hout ..

theorem refusesOutside_padReserve (coded : List Byte → Prop) : RefusesOutside 0x5A [2] coded State.onPadReserve := by
  intro s l tag p hout hlen _
  obtain ⟨n, k, rfl⟩ := exists_of_length_two hlen
  exact State.padReserve_outside_running hout ..

theorem refusesOutside_padService :
    RefusesOutside 0x5C [2] (fun p => p[1]? = some 0 ∨ p[1]? = some 1) State.onPadService := by
  intro s l tag p hout hlen hcoded
  obtain ⟨n, q, rfl⟩ := exists_of_length_two hlen
  obtain ⟨f, hf⟩ := flagOf_of_eq (b := q) (by simpa using hcoded)
  simp only [State.onPadService, hf]
  exact State.padService_outside_running hout ..

theorem refusesOutside_declare :
    RefusesOutside 0x5D [3] (fun p => p[1]? = some 0 ∨ p[1]? = some 1) State.onDeclare := by
  intro s l tag p hout hlen hcoded
  obtain ⟨k, q, n, rfl⟩ := List.length_eq_three.mp (List.mem_singleton.mp hlen)
  obtain ⟨f, hf⟩ := flagOf_of_eq (b := q) (by simpa using hcoded)
  simp only [State.onDeclare, hf]
  exact State.declare_outside_running hout ..

/-- Outside RUNNING the owner of every control command and of CONFIGURE answers STATE. -/
theorem opsOwners_outside : ∀ o ∈ opsOwners, 0x50 ≤ o.1.toNat ∧ o.1.toNat ≤ 0x5E ∨ o.1 = 0x68 →
    RefusesOutside o.1 (opsLengths o.1) (fun p => o.1 = 0x5C ∨ o.1 = 0x5D → p[1]? = some 0 ∨ p[1]? = some 1) o.2 := by
  have query : ∀ {ty : Byte} {P : Prop}, ¬ (0x50 ≤ ty.toNat ∧ ty.toNat ≤ 0x5E ∨ ty = 0x68) →
    (0x50 ≤ ty.toNat ∧ ty.toNat ≤ 0x5E ∨ ty = 0x68) → P := fun h h' => absurd h' h
  simp only [opsOwners, List.forall_mem_cons]
  refine ⟨query (by decide), query (by decide), query (by decide), query (by decide), query (by decide),
    query (by decide), query (by decide), query (by decide),
    fun _ => refusesOutside_noFields (f := fun s l tag =>
      s.judge l tag Config.tyAllStop [(s.running, .state)] (fun s => s.setAllStop true) noData)
      fun s l tag h => State.judge_outside_running h ..,
    fun _ => refusesOutside_noFields (f := fun s l tag =>
      s.judge l tag Config.tyAllResume [(s.running, .state)] (fun s => s.setAllStop false) noData)
      fun s l tag h => State.judge_outside_running h ..,
    fun _ => refusesOutside_oneId fun s l tag n h => State.zoneClear_outside_running h l tag n,
    fun _ => refusesOutside_cancel _,
    fun _ => refusesOutside_oneId fun s l tag n h => State.recover_outside_running h l tag n,
    fun _ => refusesOutside_oneId fun s l tag n h => State.retire_outside_running h l tag n,
    fun _ => refusesOutside_throwPoint _,
    fun _ => refusesOutside_oneId fun s l tag n h => State.clearPoint_outside_running h l tag n,
    fun _ => refusesOutside_oneId fun s l tag n h => State.restoreSection_outside_running h l tag n,
    fun _ => refusesOutside_oneId fun s l tag n h => State.restoreUnit_outside_running h l tag n,
    fun _ => refusesOutside_padReserve _,
    fun _ => refusesOutside_oneId fun s l tag n h => State.padFree_outside_running h l tag n,
    fun _ s l tag p h hlen hc => refusesOutside_padService s l tag p h hlen (hc (.inl rfl)),
    fun _ s l tag p h hlen hc => refusesOutside_declare s l tag p h hlen (hc (.inr rfl)),
    fun _ => refusesOutside_oneId fun s l tag n h => State.xferAbort_outside_running h l tag n,
    query (by decide), query (by decide), query (by decide), query (by decide), query (by decide), query (by decide),
    query (by decide), query (by decide),
    fun _ => refusesOutside_noFields (f := fun s l tag =>
      s.judge l tag Config.tyConfigure [(s.running, .state), (s.allOffline, .state)] (fun s => s.configureAccepted) noData)
      fun s l tag h => State.judge_outside_running h ..,
    query (by decide), fun _ h => absurd h List.not_mem_nil⟩

/-! ## Transporter requests -/

/-- A request whose first check is that the site is RUNNING is answered STATE outside it. -/
theorem State.judgeTl_first {s : State} {ok : Bool} (h : ok = false) (t : TId) (ty : Byte) (r : Reason)
    (checks : List (Bool × Reason)) (act : State → State) : s.judgeTl t ty ((ok, r) :: checks) act = s.refuse t ty r := by
  subst h
  rfl

theorem State.running_eq_false {s : State} (h : s.site ≠ .running) : s.running = false := decide_eq_false h

theorem byte_of_le_one {b : Byte} (h : b.toNat ≤ 1) : b = 0 ∨ b = 1 := by
  rcases Nat.le_one_iff_eq_zero_or_eq_one.mp h with h | h
  · exact .inl (BitVec.eq_of_toNat_eq h)
  · exact .inr (BitVec.eq_of_toNat_eq h)

theorem dirOf_of_le_one {b : Byte} (h : b.toNat ≤ 1) : ∃ d, dirOf b = some d := by
  rcases byte_of_le_one h with rfl | rfl
  · exact ⟨.up, rfl⟩
  · exact ⟨.down, rfl⟩

theorem endOf_of_le_two {b : Byte} (h : b.toNat ≤ 2) : ∃ e, endOf b = some e := by
  have : b = 0 ∨ b = 1 ∨ b = 2 := by
    rcases (by omega : b.toNat = 0 ∨ b.toNat = 1 ∨ b.toNat = 2) with h | h | h
    · exact .inl (BitVec.eq_of_toNat_eq h)
    · exact .inr (.inl (BitVec.eq_of_toNat_eq h))
    · exact .inr (.inr (BitVec.eq_of_toNat_eq h))
  rcases this with rfl | rfl | rfl
  · exact ⟨.a, rfl⟩
  · exact ⟨.b, rfl⟩
  · exact ⟨.c, rfl⟩

/-- Whole triples whose end codes are codes are read as entries (R42, R180). -/
theorem parseTriples_of_coded : ∀ (n : Nat) (p : List Byte), p.length = 3 * n →
    (∀ k b, k % 3 ≠ 0 → p[k]? = some b → b.toNat ≤ 2) → ∃ ts, parseTriples p = some (some ts)
  | 0, p, hlen, _ => by
    obtain rfl : p = [] := by simpa using hlen
    exact ⟨[], rfl⟩
  | n + 1, p, hlen, hcoded => by
    match p, hlen with
    | x :: y :: z :: rest, hlen =>
      obtain ⟨ts, hts⟩ := parseTriples_of_coded n rest (by simp only [List.length_cons] at hlen; omega)
        fun k b hk hb => hcoded (k + 3) b (by omega) (by simpa using hb)
      obtain ⟨ent, hent⟩ := endOf_of_le_two (hcoded 1 y (by decide) rfl)
      obtain ⟨ext, hext⟩ := endOf_of_le_two (hcoded 2 z (by decide) rfl)
      exact ⟨⟨x.toNat, ent, ext⟩ :: ts, by simp only [parseTriples, hts, Option.map_some, hent, hext]⟩

/-- A ROUTE of a good length with good end codes is read (R42). -/
theorem parseRoute_of_coded {p : List Byte} {n : Byte} (hhead : p.head? = some n) (hlow : 1 ≤ n.toNat)
    (hhigh : n.toNat ≤ 32) (hlen : p.length = 3 + 3 * n.toNat)
    (hcoded : ∀ k b, k % 3 ≠ 0 → p[3 + k]? = some b → b.toNat ≤ 2) :
    ∃ final ts, parseRoute p = some (final, some ts) := by
  rcases p with _ | ⟨m, _ | ⟨fh, _ | ⟨fl, rest⟩⟩⟩
  · cases hhead
  · simp only [List.length_cons, List.length_nil] at hlen
    omega
  · simp only [List.length_cons, List.length_nil] at hlen
    omega
  · obtain rfl : m = n := by simpa using hhead
    have hrest : rest.length = 3 * m.toNat := by simp only [List.length_cons] at hlen; omega
    obtain ⟨ts, hts⟩ := parseTriples_of_coded m.toNat rest hrest
      fun k b hk hb => hcoded k b hk (by rw [Nat.add_comm]; simpa using hb)
    exact ⟨num16 fh fl, ts, by simp only [parseRoute, hlow, hhigh, hrest, and_self, if_true, hts, Option.map_some]⟩

section
variable {s : State} (t : TId)

theorem State.onJoin_outside_running (hout : s.site ≠ .running) {p : List Byte} (hlen : p.length = 6)
    (hcoded : ∀ i ∈ [3, 4], ∀ b, p[i]? = some b → b.toNat ≤ 1) : s.onJoin t p = s.refuse t 0x10 .state := by
  match p, hlen with
  | [sec, oh, ol, d, ld, rear], _ =>
    obtain ⟨d', hd⟩ := dirOf_of_le_one (hcoded 3 (by decide) d rfl)
    obtain ⟨ld', hld⟩ := flagOf_of_eq (byte_of_le_one (hcoded 4 (by decide) ld rfl))
    simp only [State.onJoin, parseJoin, State.joinRequest, hd, hld]
    exact State.judgeTl_first (by rw [State.running_eq_false hout]; rfl) ..

theorem State.onReport_offline (hoff : (s.tr t).state = .offline) {p : List Byte} (hlen : p.length = 9)
    (hcoded : ∀ i ∈ [4, 7], ∀ b, p[i]? = some b → b.toNat ≤ 1) : s.onReport t p = s.refuse t 0x11 .state := by
  match p, hlen with
  | [echo, sec, oh, ol, d, vh, vl, ld, rear], _ =>
    obtain ⟨d', hd⟩ := dirOf_of_le_one (hcoded 4 (by decide) d rfl)
    obtain ⟨ld', hld⟩ := flagOf_of_eq (byte_of_le_one (hcoded 7 (by decide) ld rfl))
    simp only [State.onReport, parseReport, hd, hld, State.handleReport, hoff]
    rfl

theorem State.routeRequest_outside_running (hout : s.site ≠ .running) (ts : List Triple) (final : Nat) :
    s.routeRequest t ts final = s.refuse t 0x12 .state :=
  State.judgeTl_first (by rw [State.routeState, State.running_eq_false hout]; rfl) ..

theorem State.givebackRequest_outside_running (hout : s.site ≠ .running) (e : RoutePos) :
    s.givebackRequest t e = s.refuse t 0x13 .state :=
  State.judgeTl_first (State.running_eq_false hout) ..

theorem State.transferRequest_outside_running (hout : s.site ≠ .running) (n : Nat) (kind : Byte) :
    s.transferRequest t n kind = s.refuse t 0x14 .state := by
  have hfirst : s.transferState t = false := by rw [State.transferState, State.running_eq_false hout]; rfl
  unfold State.transferRequest
  split
  · exact State.judgeTl_first hfirst ..
  · split <;> exact State.judgeTl_first hfirst ..

theorem State.stepRequest_no_transfer (h : s.transfers[t] = none) (done : Bool) :
    s.stepRequest t done = s.refuse t 0x15 .state := by
  simp only [State.stepRequest, h]
  rfl

theorem State.onLeave_outside_running (hout : s.site ≠ .running) (b : Byte) :
    s.onLeave t [b] = s.refuse t 0x16 .state := by
  rw [State.onLeave, State.judgeTl_first (by rw [State.running_eq_false hout]; rfl)]
  rfl

theorem State.reloadSupervision_offline (h : (s.tr t).state = .offline) : s.reloadSupervision t = s := if_pos h

end

/-- At an idle site that is not RUNNING the owner of every transporter request answers STATE. -/
theorem tlOwners_outside : ∀ o ∈ tlOwners, ∀ (s : State) (t : TId) (p : List Byte), s.site ≠ .running → s.IdleSite →
    tlLengthOk o.1 p → tlCoded o.1 p → o.2 s t p = s.refuse t o.1 .state := by
  simp only [tlOwners, List.forall_mem_cons]
  refine ⟨fun s t p hout hidle hlen hcoded => ?join, fun s t p hout hidle hlen hcoded => ?report,
    fun s t p hout hidle hlen hcoded => ?route, fun s t p hout hidle hlen hcoded => ?giveback,
    fun s t p hout hidle hlen hcoded => ?transfer, fun s t p hout hidle hlen hcoded => ?step,
    fun s t p hout hidle hlen hcoded => ?leave, fun _ h => absurd h List.not_mem_nil⟩
  all_goals
    obtain ⟨hjoin, hreport, hstep, hroute⟩ := hcoded
    simp [tlLengthOk, Config.tyJoin, Config.tyReport, Config.tyRoute, Config.tyGiveback, Config.tyTransfer,
      Config.tyStep, Config.tyLeave] at hlen
  case join => exact State.onJoin_outside_running t hout hlen (hjoin rfl)
  case report => exact State.onReport_offline t ((hidle hout).1 t) hlen (hreport rfl)
  case route =>
    obtain ⟨n, hhead, hlow, hhigh, hlen⟩ := hlen
    obtain ⟨final, ts, hp⟩ := parseRoute_of_coded hhead hlow hhigh hlen (hroute rfl)
    simp only [State.onRoute, hp]
    exact State.routeRequest_outside_running t hout ts final
  case giveback =>
    match p, hlen with
    | [ih, il, oh, ol], _ => exact State.givebackRequest_outside_running t hout _
  case transfer =>
    match p, hlen with
    | [n, kind], _ => exact State.transferRequest_outside_running t hout _ _
  case step =>
    match p, hlen with
    | [r], _ =>
      obtain ⟨f, hf⟩ := flagOf_of_eq (byte_of_le_one (hstep rfl r rfl))
      simp only [State.onStepResult, hf]
      exact State.stepRequest_no_transfer t ((hidle hout).2.2.1 t) _
  case leave =>
    match p, hlen with
    | [_], _ => exact State.onLeave_outside_running t hout _

/-- Settles O19: the owner of every type judges the site state before anything that could change it. -/
theorem outsideRunningRefused : Obligations.OutsideRunningRefused := by
  refine ⟨fun c s l ty tag p hl hout hc hty hlen hcoded => ?_,
    fun c s t ty p hl hidle hout hc hlen hcoded => ?_⟩
  · obtain ⟨o, ho, rfl, hown⟩ := opsFrame_owner hc
    rw [exec_ops_ready hl hc hown, opsOwners_outside o ho hty s l tag p hout hlen hcoded]
  · obtain ⟨o, ho, rfl, hown⟩ := tlFrame_owner hc
    rw [exec_tl_quiet hl hc hown, State.reloadSupervision_offline t ((hidle hout).1 t),
      tlOwners_outside o ho s t p hout hidle hlen hcoded]

end Sys2Proof.Machine

/-! PROOFS. The eight queries (R17, R66, R124, R145, R168, R183): each is answered with the data of its entity, and the data
carry, place by place, what the rules list (R181). -/

namespace Sys2Proof.Machine

/-! ## Reading bytes and numbers back -/

theorem toNat_b8 (n : Nat) : (b8 n).toNat = n % 256 := BitVec.toNat_ofNat ..

theorem toNat_flag (b : Bool) : (flag b).toNat = if b then 1 else 0 := by cases b <;> rfl

/-- A two-byte number is read back modulo 65536. -/
theorem be16_word (n : Nat) : 256 * (b8 (n / 256)).toNat + (b8 n).toNat = n % 65536 := by
  rw [toNat_b8, toNat_b8]
  omega

theorem be32_time (c : Clock) :
    65536 * (256 * (b8 (c.toNat / 16777216)).toNat + (b8 (c.toNat / 65536)).toNat) +
      (256 * (b8 (c.toNat / 256)).toNat + (b8 c.toNat).toNat) = c.toNat := by
  have := c.isLt
  simp only [toNat_b8]
  omega

/-- An optional two-byte number is two bytes, which show it. -/
theorem opt16_shown (c : Option Nat) : ∃ h l, opt16 c = [h, l] ∧
    ∀ (d : List Byte) (i : Nat), d[i]? = some h → d[i + 1]? = some l → optWordAt d i c := by
  cases c with
  | none => exact ⟨_, _, rfl, fun d i hh hl => by simp [optWordAt, wordAt, byteAt, hh, hl]⟩
  | some n => exact ⟨_, _, rfl, fun d i hh hl => by simpa [optWordAt, wordAt, byteAt, hh, hl] using be16_word n⟩

theorem opt8_shown (c : Option Nat) (d : List Byte) (i : Nat) (h : d[i]? = some (opt8 c)) : optByteAt d i c := by
  cases c with
  | none => simp [optByteAt, byteAt, h, opt8, absent8]
  | some n => simp [optByteAt, byteAt, h, opt8, toNat_b8]

/-- The link of an end is two bytes, which show it. -/
theorem optLink_shown (c : Option TrackLink) : ∃ h l, optLink c = [h, l] ∧
    ∀ (d : List Byte) (i : Nat), d[i]? = some h → d[i + 1]? = some l → linkAt d i c := by
  match c with
  | none => exact ⟨_, _, rfl, fun d i hh hl => by simp [linkAt, byteAt, hh, hl]⟩
  | some .buffer => exact ⟨_, _, rfl, fun d i hh hl => by simp [linkAt, byteAt, hh, hl]⟩
  | some (.to n e) =>
    exact ⟨_, _, rfl, fun d i hh hl => by cases e <;> simp [linkAt, byteAt, codedAt, hh, hl, toNat_b8, EndName.code]⟩

/-- A pad state is two bytes, which show it. -/
theorem padState_shown (x : PadState) : ∃ h l, x.bytes = [h, l] ∧
    ∀ (d : List Byte) (i : Nat), d[i]? = some h → d[i + 1]? = some l → padStateAt d i x := by
  cases x with
  | transfer t =>
    refine ⟨_, _, rfl, fun d i hh hl => ?_⟩
    have := t.isLt
    simp [padStateAt, byteAt, hh, hl, toNat_b8]
    omega
  | _ => exact ⟨_, _, rfl, fun d i hh hl => by simp [padStateAt, byteAt, hh, hl, toNat_b8, absent8]⟩

/-! ## Codes (R181) -/

section
variable {d : List Byte} {i : Nat}

theorem codedAt_of_getElem {α : Type} {values : List α} {x : α} {b : Byte} (hb : d[i]? = some b)
    (hx : values[b.toNat]? = some x) : codedAt d i values x := by
  rw [codedAt, byteAt, hb]
  exact hx

theorem siteState_coded (x : SiteState) : [SiteState.unconfigured, .survey, .running][x.code.toNat]? = some x := by
  cases x <;> rfl

theorem resetCause_coded (x : ResetCause) :
    [ResetCause.powerOn, .supplyLow, .resetLine, .commanded][x.code.toNat]? = some x := by cases x <;> rfl

theorem stopMode_coded (x : StopMode) : [StopMode.off, .level, .latch, .latchLevel][(b8 x.code).toNat]? = some x := by
  cases x <;> rfl

theorem detection_coded (x : Detection) :
    [Detection.clear, .occupied, .disturbed, .unknown][x.code.toNat]? = some x := by cases x <;> rfl

theorem holdKind_coded (x : HoldKind) : [HoldKind.granted, .setting, .releasePending][x.code.toNat]? = some x := by
  cases x <;> rfl

theorem holdState_coded (x : Option HoldKind) :
    [some HoldKind.granted, some .setting, some .releasePending, none][(holdStateCode x).toNat]? = some x := by
  rcases x with _ | ⟨_ | _ | _⟩ <;> rfl

theorem pointPos_coded (x : PointPos) : [PointPos.unknown, .normal, .reverse, .moving][x.code.toNat]? = some x := by
  cases x <;> rfl

theorem faultCause_coded (x : FaultCause) :
    [FaultCause.throwTimeout, .lostPosition, .unitSilent][x.code.toNat]? = some x := by cases x <;> rfl

theorem clamp_coded (x : Clamp) : [Clamp.opened, .closed, .travel, .unknown][x.code.toNat]? = some x := by
  cases x <;> rfl

theorem load_coded (x : Load) : [Load.loaded, .empty, .unsure, .unknown][x.code.toNat]? = some x := by
  cases x <;> rfl

theorem xferKind_coded (x : XferKind) : [XferKind.lift, .place][x.code.toNat]? = some x := by cases x <;> rfl

theorem stage_coded (x : Stage) : [Stage.unclamp, .raise, .confirm, .lower, .clamp][x.code.toNat]? = some x := by
  cases x <;> rfl

theorem stageCmd_coded (x : StageCmd) : [StageCmd.none, .waiting, .queued, .sent][x.code.toNat]? = some x := by
  cases x <;> rfl

theorem tState_coded (x : TState) :
    [TState.offline, .parked, .authorised, .held, .tripped, .transfer][x.code.toNat]? = some x := by cases x <;> rfl

theorem dir_coded (x : Dir) : [Dir.up, .down][x.code.toNat]? = some x := by cases x <;> rfl

theorem endName_coded (x : EndName) : [EndName.a, .b, .c][x.code.toNat]? = some x := by cases x <;> rfl

theorem unitType_coded (x : UnitType) :
    [none, some UnitType.detector, some .point, some .pad, some .mast][x.byte.toNat]? = some (some x) := by
  cases x <;> rfl

theorem unitState_coded (x : UnitState) : [UnitState.active, .silent, .restoring][x.code.toNat]? = some x := by
  cases x <;> rfl

theorem busFunc_coded (x : BusFunc) :
    [BusFunc.poll, .throwNormal, .throwReverse, .clamp, .unclamp][x.field.toNat]? = some x := by cases x <;> rfl

/-- A code that may be absent. -/
theorem optCodedAt_of_getElem {α : Type} {values : List α} {code : α → Byte} {x : Option α}
    (hb : d[i]? = some ((x.map code).getD absent8)) (hx : ∀ y, values[(code y).toNat]? = some y) :
    optCodedAt d i values x := by
  cases x with
  | none => simp [optCodedAt, byteAt, hb, absent8]
  | some y => exact codedAt_of_getElem hb (hx y)

theorem byteAt_of_getElem {b : Byte} (hb : d[i]? = some b) : byteAt d i = b.toNat := by rw [byteAt, hb]; rfl

theorem byteAt_b8 {n : Nat} (hb : d[i]? = some (b8 n)) : byteAt d i = n % 256 :=
  (byteAt_of_getElem hb).trans (toNat_b8 n)

theorem flagAt_of_getElem {b : Bool} (hb : d[i]? = some (flag b)) : flagAt d i b :=
  (byteAt_of_getElem hb).trans (toNat_flag b)

theorem wordAt_of_getElem {n : Nat} (hh : d[i]? = some (b8 (n / 256))) (hl : d[i + 1]? = some (b8 n)) :
    wordAt d i = n % 65536 := by
  rw [wordAt, byteAt_of_getElem hh, byteAt_of_getElem hl]
  exact be16_word n

theorem timeAt_of_getElem {c : Clock} (h0 : d[i]? = some (b8 (c.toNat / 16777216)))
    (h1 : d[i + 1]? = some (b8 (c.toNat / 65536))) (h2 : d[i + 2]? = some (b8 (c.toNat / 256)))
    (h3 : d[i + 3]? = some (b8 c.toNat)) : timeAt d i c := by
  rw [timeAt, wordAt, wordAt, byteAt_of_getElem h0, byteAt_of_getElem h1, byteAt_of_getElem h2, byteAt_of_getElem h3]
  exact be32_time c

end

/-! ## Sections, points and pads (R17, R145) -/

theorem section_shown (n : Nat) (x : Section) : Section.Shown n x (Section.data n x) := by
  obtain ⟨l1, l2, hlen, hlenShown⟩ := opt16_shown (x.defn.point.map (·.lenAC))
  obtain ⟨a1, a2, ha, haShown⟩ := optLink_shown (some x.defn.linkA)
  obtain ⟨b1, b2, hb, hbShown⟩ := optLink_shown (some x.defn.linkB)
  obtain ⟨c1, c2, hc, hcShown⟩ := optLink_shown (x.defn.point.map (·.linkC))
  have ha' : x.defn.linkA.bytes = [a1, a2] := ha
  have hb' : x.defn.linkB.bytes = [b1, b2] := hb
  have hd : Section.data n x = [b8 n, flag x.defn.isPoint, b8 (x.defn.len / 256), b8 x.defn.len, l1, l2,
      BitVec.ofInt 8 x.defn.grade, b8 (x.defn.lineSpeed / 256), b8 x.defn.lineSpeed, a1, a2, b1, b2, c1, c2,
      x.defn.zones, b8 x.defn.group, b8 x.defn.detAddr, b8 x.defn.detSlot, x.det.code,
      b8 (x.capture.toNat / 16777216), b8 (x.capture.toNat / 65536), b8 (x.capture.toNat / 256), b8 x.capture.toNat,
      opt8 (x.hold.map (·.holder.val)), ((x.hold.map (·.kind)).map HoldKind.code).getD absent8,
      flag ((x.hold.map (·.entered)).getD false)] := by
    rw [Section.data, hlen, ha', hb', hc, Option.map_map]
    rfl
  rw [hd]
  exact {
    size := rfl
    id := toNat_b8 n
    kind := toNat_flag _
    lengths := ⟨be16_word _, hlenShown _ _ rfl rfl⟩
    grade := by
      rw [byteAt_of_getElem (b := BitVec.ofInt 8 x.defn.grade) rfl, BitVec.toNat_ofInt]
      omega
    speed := be16_word _
    links := ⟨haShown _ _ rfl rfl, hbShown _ _ rfl rfl, hcShown _ _ rfl rfl⟩
    zones := rfl
    group := toNat_b8 _
    detector := ⟨toNat_b8 _, toNat_b8 _⟩
    detection := codedAt_of_getElem rfl (detection_coded _)
    capture := timeAt_of_getElem rfl rfl rfl rfl
    holder := opt8_shown _ _ _ rfl
    holdKind := optCodedAt_of_getElem rfl holdKind_coded
    entered := toNat_flag _ }

theorem point_shown (p : Nat) (x : Point) : Point.Shown p x (Point.data p x) := by
  obtain ⟨t1, t2, ht, htShown⟩ := opt16_shown (x.throwCd.map (·.steps))
  have hd : Point.data p x = [b8 p, b8 x.sec, b8 x.addr, x.pos.code, (x.cmd.map fun b => b.pos.code).getD absent8,
      (x.latch.map FaultCause.code).getD absent8, opt8 (x.lock.map (·.val)), t1, t2] := by
    rw [Point.data, cdBytes, ht]
    rfl
  rw [hd]
  exact {
    size := rfl
    defined := ⟨toNat_b8 _, toNat_b8 _, toNat_b8 _⟩
    position := codedAt_of_getElem rfl (pointPos_coded _)
    commanded := by rcases x.cmd with _ | ⟨_ | _⟩ <;> rfl
    latch := optCodedAt_of_getElem rfl faultCause_coded
    lock := opt8_shown _ _ _ rfl
    countdown := htShown _ _ rfl rfl }

/-- A clamp watch is three bytes, which show it. -/
theorem watch_shown (w : Watch) : ∃ a h l, w.bytes = [a, h, l] ∧
    ∀ (d : List Byte) (i : Nat), d[i]? = some a → d[i + 1]? = some h → d[i + 2]? = some l →
      match w with
      | .none => byteAt d i = 0 ∧ wordAt d (i + 1) = 65535
      | .waiting => byteAt d i = 1 ∧ wordAt d (i + 1) = 65535
      | .queued => byteAt d i = 2 ∧ wordAt d (i + 1) = 65535
      | .running c => byteAt d i = 3 ∧ wordAt d (i + 1) = c.steps % 65536 := by
  cases w with
  | running c =>
    exact ⟨_, _, _, rfl, fun d i ha hh hl => ⟨byteAt_of_getElem ha, wordAt_of_getElem hh hl⟩⟩
  | _ =>
    exact ⟨_, _, _, rfl, fun d i ha hh hl =>
      ⟨byteAt_of_getElem ha, by rw [wordAt, byteAt_of_getElem hh, byteAt_of_getElem hl]; rfl⟩⟩

/-- The bytes of a transfer record, twelve in all. -/
theorem transfer_data_shown (t : TId) (x : Transfer) (before : List Byte) :
    (Transfer.data t x).length = 12 ∧ x.Shown t (before ++ Transfer.data t x) before.length := by
  obtain ⟨p1, p2, hp, hpShown⟩ := padState_shown (if x.kind = .lift then .occupied x.tel else .vacant)
  obtain ⟨c1, c2, hc, hcShown⟩ := opt16_shown (x.cd.map (·.steps))
  have hprior : Transfer.data t x = [b8 t.val, b8 x.pad, x.kind.code, b8 x.tel] ++
      (if x.kind = .lift then PadState.occupied x.tel else .vacant).bytes ++
      [x.stage.code, x.cmd.code, flag x.unclampSent] ++ cdBytes x.cd ++ [flag x.loadMoving] := by
    rw [Transfer.data]
    cases x.kind <;> rfl
  have hd : Transfer.data t x = [b8 t.val, b8 x.pad, x.kind.code, b8 x.tel, p1, p2, x.stage.code, x.cmd.code,
      flag x.unclampSent, c1, c2, flag x.loadMoving] := by
    rw [hprior, hp, cdBytes, hc]
    rfl
  have hat : ∀ j, (before ++ Transfer.data t x)[before.length + j]? = (Transfer.data t x)[j]? := fun j => by
    rw [List.getElem?_append_right (Nat.le_add_right ..), Nat.add_sub_cancel_left]
  have hat0 := hat 0
  rw [Nat.add_zero] at hat0
  have ht := t.isLt
  refine ⟨by rw [hd]; rfl, ?_⟩
  exact {
    names := ⟨by rw [byteAt_b8 (n := t.val) (by rw [hat0, hd]; rfl)]; omega, byteAt_b8 (by rw [hat, hd]; rfl),
      byteAt_b8 (by rw [hat, hd]; rfl)⟩
    kind := codedAt_of_getElem (by rw [hat, hd]; rfl) (xferKind_coded _)
    prior := hpShown _ _ (by rw [hat, hd]; rfl) (by rw [Nat.add_assoc, hat, hd]; rfl)
    stage := codedAt_of_getElem (by rw [hat, hd]; rfl) (stage_coded _)
    command := codedAt_of_getElem (by rw [hat, hd]; rfl) (stageCmd_coded _)
    flags := ⟨flagAt_of_getElem (by rw [hat, hd]; rfl), flagAt_of_getElem (by rw [hat, hd]; rfl)⟩
    countdown := hcShown _ _ (by rw [hat, hd]; rfl) (by rw [Nat.add_assoc, hat, hd]; rfl) }

theorem pad_shown (s : State) (n : Nat) (x : Pad) : s.PadShown n x (s.padData n x) := by
  obtain ⟨p1, p2, hp, hpShown⟩ := padState_shown x.st
  obtain ⟨w0, w1, w2, hw, hwShown⟩ := watch_shown x.watch
  have hd : ∃ rest, s.padData n x = [b8 n, b8 x.sec, b8 (x.stop / 256), b8 x.stop, b8 (x.tol / 256), b8 x.tol, b8 x.addr,
      p1, p2, b8 (x.reserv.getD 0), x.clamp.code, x.load.code, flag x.silent, w0, w1, w2] ++ rest ∧
      ((∀ t, x.st ≠ .transfer t) → rest = []) ∧
      ∀ t y, x.st = .transfer t → s.transfers[t] = some y → rest = Transfer.data t y := by
    refine ⟨_, by rw [State.padData, hp, hw]; rfl, fun h => ?_, fun t y h hy => ?_⟩
    · cases hst : x.st with
      | transfer t => exact absurd hst (h t)
      | _ => rfl
    · simp only [h, hy]
      rfl
  obtain ⟨rest, hd, halone, hrec⟩ := hd
  rw [hd]
  exact {
    defined := ⟨toNat_b8 _, toNat_b8 _, be16_word _, be16_word _, toNat_b8 _⟩
    state := hpShown _ _ rfl rfl
    reserved := toNat_b8 _
    clamp := codedAt_of_getElem rfl (clamp_coded _)
    load := codedAt_of_getElem rfl (load_coded _)
    silent := toNat_flag _
    watch := hwShown _ _ rfl rfl rfl
    alone := fun h => by rw [halone h]; rfl
    record := fun t y h hy => by
      obtain ⟨hlen, hshown⟩ := transfer_data_shown t y [b8 n, b8 x.sec, b8 (x.stop / 256), b8 x.stop, b8 (x.tol / 256),
        b8 x.tol, b8 x.addr, p1, p2, b8 (x.reserv.getD 0), x.clamp.code, x.load.code, flag x.silent, w0, w1, w2]
      rw [hrec t y h hy]
      exact ⟨by rw [List.length_append, hlen]; rfl, hshown⟩ }

end Sys2Proof.Machine

/-! PROOFS. What the replies to Q_TELESCOPE, Q_TRANSPORTER, Q_SITE, Q_ROUTE and Q_UNIT show (R145, R124, R183, R66, R168),
and the statement about the eight queries. -/

namespace Sys2Proof.Machine

/-! ## Telescopes (R145) -/

theorem telescope_shown (s : State) (k : Nat) : s.TelescopeShown k (s.telescopeData k) := by
  have hloc : ∃ a b c, locationBytes (s.locOf k) = [a, b, c] := by
    rcases s.locOf k with _ | ⟨p | t | ⟨p, t⟩⟩ <;> exact ⟨_, _, _, rfl⟩
  have hlast : ∀ a b c : Byte, byteAt ([a, b, c] ++ [opt8 (s.padReservedFor k)]) 3 = (opt8 (s.padReservedFor k)).toNat :=
    fun _ _ _ => rfl
  obtain ⟨a, b, c, habc⟩ := hloc
  exact {
    size := by rw [State.telescopeData, habc]; rfl
    location := by
      rw [State.telescopeData]
      rcases s.locOf k with _ | ⟨p | t | ⟨p, t⟩⟩
      · exact ⟨rfl, rfl, rfl⟩
      · exact ⟨rfl, toNat_b8 _, rfl⟩
      · exact ⟨rfl, rfl, (toNat_b8 _).trans (Nat.mod_eq_of_lt (by have := t.isLt; omega))⟩
      · exact ⟨rfl, toNat_b8 _, (toNat_b8 _).trans (Nat.mod_eq_of_lt (by have := t.isLt; omega))⟩
    reserved := fun n x hm hx honly => by
      rw [State.telescopeData, habc, hlast, State.padReservedFor]
      have hsome : (s.pads.find? fun p => decide (p.2.reserv = some k)).isSome = true :=
        List.find?_isSome.mpr ⟨_, hm, decide_eq_true hx⟩
      obtain ⟨q, hq⟩ := Option.isSome_iff_exists.mp hsome
      have hqn := honly q (List.mem_of_find?_eq_some hq) (by simpa using List.find?_some hq)
      rw [hq, ← hqn]
      exact toNat_b8 _
    unreserved := fun h => by
      rw [State.telescopeData, habc, hlast, State.padReservedFor,
        List.find?_eq_none.mpr fun q hq => by simpa using h q hq]
      rfl }

/-! ## Transporters (R124) -/

/-- A last report is nine bytes. -/
theorem reportData_bytes (r : Option Report) : ∃ a0 a1 a2 a3 a4 a5 a6 a7 a8,
    reportData r = [a0, a1, a2, a3, a4, a5, a6, a7, a8] := by
  cases r <;> exact ⟨_, _, _, _, _, _, _, _, _, rfl⟩

theorem stopSet_shown (c : StopSet) : c.byte.toNat =
    ([c.allStop, c.zoneStop, c.wind].mapIdx fun k b => if b then 2 ^ k else 0).sum := by
  obtain ⟨a, z, w⟩ := c
  revert a z w
  decide

theorem tripSet_shown (c : TripSet) : c.byte.toNat =
    ([c.link, c.excursion, c.overspeed, c.wrongDirection, c.unauthorisedMotion, c.obstruction, c.transfer].mapIdx
      fun k b => if b then 2 ^ k else 0).sum := by
  obtain ⟨c0, c1, c2, c3, c4, c5, c6⟩ := c
  revert c0 c1 c2 c3 c4 c5 c6
  decide

/-- The telescope that the register shows at t is one that rides on t or is INDETERMINATE there (R142). -/
theorem State.telescopeAt_some {s : State} {t : TId} {k : Nat} (h : s.telescopeAt t = some k) :
    (k, .onTransporter t) ∈ s.telescopes ∨ ∃ p, (k, .indeterminate p t) ∈ s.telescopes := by
  obtain ⟨⟨j, l⟩, hq, rfl⟩ := Option.map_eq_some_iff.mp h
  have hm := List.mem_of_find?_eq_some hq
  have hat := List.find?_some hq
  dsimp only at hat
  cases l with
  | onPad p => cases hat
  | onTransporter u => exact .inl (of_decide_eq_true hat ▸ hm)
  | indeterminate p u => exact .inr ⟨p, of_decide_eq_true hat ▸ hm⟩

theorem State.telescopeAt_none {s : State} {t : TId} (h : s.telescopeAt t = none) (k : Nat) :
    ¬ ((k, .onTransporter t) ∈ s.telescopes ∨ ∃ p, (k, .indeterminate p t) ∈ s.telescopes) := by
  have hnone := List.find?_eq_none.mp (Option.map_eq_none_iff.mp h)
  rintro (hm | ⟨p, hm⟩)
  · exact hnone _ hm (decide_eq_true rfl)
  · exact hnone _ hm (decide_eq_true rfl)

theorem transporter_shown (s : State) (t : TId) : s.TransporterShown t (s.transporterData t) := by
  obtain ⟨v1, v2, hv, hvShown⟩ := opt16_shown ((s.tr t).superv.map (·.steps))
  obtain ⟨a0, a1, a2, a3, a4, a5, a6, a7, a8, hr⟩ := reportData_bytes (s.tr t).last
  have hd : s.transporterData t = [(s.tr t).state.code, (s.tr t).stop.byte, (s.tr t).trips.byte, v1, v2, a0, a1, a2, a3,
      a4, a5, a6, a7, a8, flag (s.tr t).standSeen, flag (s.tr t).awaitingFix, flag (s.loaded t),
      b8 ((s.telescopeAt t).getD 0), flag (s.loadSensed t), b8 ((s.tr t).decelEmpty / 256), b8 (s.tr t).decelEmpty,
      b8 ((s.tr t).decelLoaded / 256), b8 (s.tr t).decelLoaded, b8 ((s.tr t).vmaxEmpty / 256), b8 (s.tr t).vmaxEmpty,
      b8 ((s.tr t).vmaxLoaded / 256), b8 (s.tr t).vmaxLoaded, b8 ((s.tr t).supervision / 256), b8 (s.tr t).supervision,
      b8 (s.tr t).quota] := by
    rw [State.transporterData, cdBytes, hv, hr]
    rfl
  have hload : s.loaded t = true ↔
      (∃ k, (k, .onTransporter t) ∈ s.telescopes ∨ ∃ p, (k, .indeterminate p t) ∈ s.telescopes) ∨
      s.loadSensed t = true := by
    rw [State.loaded, Bool.or_eq_true]
    refine or_congr_left ?_
    cases h : s.telescopeAt t with
    | none => exact ⟨fun h' => absurd h' Bool.false_ne_true, fun ⟨k, hk⟩ => absurd hk (State.telescopeAt_none h k)⟩
    | some k => exact ⟨fun _ => ⟨k, State.telescopeAt_some h⟩, fun _ => rfl⟩
  rw [hd]
  exact {
    size := rfl
    state := codedAt_of_getElem rfl (tState_coded _)
    stop := stopSet_shown _
    trips := tripSet_shown _
    supervision := hvShown _ _ rfl rfl
    report := fun r hlast => by
      rw [hlast] at hr
      obtain ⟨rfl, rfl, rfl, rfl, rfl, rfl, rfl, rfl, rfl⟩ :
          a0 = b8 r.sec ∧ a1 = b8 (r.off / 256) ∧ a2 = b8 r.off ∧ a3 = r.dir.code ∧ a4 = b8 (r.speed / 256) ∧
          a5 = b8 r.speed ∧ a6 = flag r.load ∧ a7 = b8 r.echo ∧ a8 = opt8 r.rear := by
        have hr' : [b8 r.sec, b8 (r.off / 256), b8 r.off, r.dir.code, b8 (r.speed / 256), b8 r.speed, flag r.load,
          b8 r.echo, opt8 r.rear] = [a0, a1, a2, a3, a4, a5, a6, a7, a8] := hr
        simp only [List.cons.injEq] at hr'
        obtain ⟨rfl, rfl, rfl, rfl, rfl, rfl, rfl, rfl, rfl, -⟩ := hr'
        exact ⟨rfl, rfl, rfl, rfl, rfl, rfl, rfl, rfl, rfl⟩
      exact ⟨toNat_b8 _, be16_word _, codedAt_of_getElem rfl (dir_coded _), be16_word _, toNat_flag _, toNat_b8 _,
        opt8_shown _ _ _ rfl⟩
    noReport := fun hlast i hlow hhigh => by
      rw [hlast] at hr
      have hr' : [255, 255, 255, 255, 255, 255, 255, 255, 255] = [a0, a1, a2, a3, a4, a5, a6, a7, a8] := hr
      simp only [List.cons.injEq] at hr'
      obtain ⟨rfl, rfl, rfl, rfl, rfl, rfl, rfl, rfl, rfl, -⟩ := hr'
      interval_cases i <;> rfl
    flags := ⟨toNat_flag _, toNat_flag _⟩
    load := by
      refine ⟨fun h => ?_, fun h => ?_, fun ⟨k, hk⟩ => ?_, fun h => ?_, toNat_flag _⟩
      · exact (toNat_flag _).trans (if_pos (hload.mpr h))
      · exact (toNat_flag _).trans (if_neg (hload.not.mpr h))
      · cases hat : s.telescopeAt t with
        | none => exact absurd hk (State.telescopeAt_none hat k)
        | some j => exact ⟨j, State.telescopeAt_some hat, toNat_b8 j⟩
      · cases hat : s.telescopeAt t with
        | none => rfl
        | some j => exact absurd ⟨j, State.telescopeAt_some hat⟩ h
    params := fun k v hk => by
      match k with
      | 0 => obtain rfl := Option.some.inj hk; exact be16_word _
      | 1 => obtain rfl := Option.some.inj hk; exact be16_word _
      | 2 => obtain rfl := Option.some.inj hk; exact be16_word _
      | 3 => obtain rfl := Option.some.inj hk; exact be16_word _
      | 4 => obtain rfl := Option.some.inj hk; exact be16_word _
      | k + 5 => exact nomatch hk
    quota := toNat_b8 _ }

/-! ## The site (R183) -/

/-- The pieces of a list, joined, at a place inside a piece, where every piece has the same length. -/
theorem getElem?_flatMap {α β : Type} (f : α → List β) (m : Nat) (rest : List β) {j : Nat} (hj : j < m) :
    ∀ (l : List α) (_ : ∀ a ∈ l, (f a).length = m) (k : Nat) (a : α), l[k]? = some a →
      (l.flatMap f ++ rest)[m * k + j]? = (f a)[j]?
  | [], _, k, a, h => by simp at h
  | b :: l, hm, 0, a, h => by
    obtain rfl : b = a := by simpa using h
    have hlen := hm b (List.mem_cons_self ..)
    rw [List.flatMap_cons, List.append_assoc, Nat.mul_zero, Nat.zero_add, List.getElem?_append_left (by omega)]
  | b :: l, hm, k + 1, a, h => by
    have hlen := hm b (List.mem_cons_self ..)
    rw [List.flatMap_cons, List.append_assoc, show m * (k + 1) + j = (f b).length + (m * k + j) by rw [hlen]; ring,
      List.getElem?_append_right (Nat.le_add_right ..), Nat.add_sub_cancel_left]
    exact getElem?_flatMap f m rest hj l (fun a ha => hm a (List.mem_cons_of_mem _ ha)) k a (by simpa using h)

theorem length_flatMap_const {α β : Type} (f : α → List β) (m : Nat) (l : List α) (h : ∀ a ∈ l, (f a).length = m) :
    (l.flatMap f).length = m * l.length := by
  induction l with
  | nil => rfl
  | cons a l ih =>
    rw [List.flatMap_cons, List.length_append, h a (List.mem_cons_self ..),
      ih fun b hb => h b (List.mem_cons_of_mem _ hb), List.length_cons]
    ring

/-- A place after the first part of a list. -/
theorem getElem?_after {β : Type} (a b : List β) {n : Nat} (hn : a.length = n) (j : Nat) :
    (a ++ b)[n + j]? = b[j]? := by
  rw [← hn, List.getElem?_append_right (Nat.le_add_right ..), Nat.add_sub_cancel_left]

/-- The item of a fixed vector's list at a place. -/
theorem getElem?_toList {α : Type} {n : Nat} (v : Vector α n) (i : Fin n) : v.toList[i.val]? = some v[i] := by
  simp

theorem paramValues_length (p : Params) : (p.values.flatMap be16).length = 38 := rfl

theorem site_shown (s : State) : s.SiteShown s.siteData := by
  obtain ⟨g1, g2, hg, hgShown⟩ := opt16_shown s.gust
  obtain ⟨m1, m2, hm, hmShown⟩ := opt16_shown s.mean
  obtain ⟨c1, c2, hc, hcShown⟩ := opt16_shown (s.mastHold.map (·.steps))
  let head := [s.site.code, s.resetCause.code] ++ be32 s.clock ++ [flag s.allStop]
  let params := s.params.values.flatMap be16
  let modes := s.lines.toList.flatMap fun x => be16 x.mode.code
  let quotas := s.trs.toList.map fun x => b8 x.quota
  let lines := s.lines.toList.flatMap fun x => [b8 x.mode.code, levelCode x.asserted, flag x.latch]
  let zones := s.lines.toList.map fun x => flag x.stopped
  let rest := [s.band.code, s.band.causeByte, g1, g2, m1, m2, c1, c2, b8 s.sections.length, b8 s.points.length,
    b8 s.pads.length, b8 s.units.length] ++ if s.site = .survey then [b8 s.unsurveyed] else []
  have hd : s.siteData = head ++ params ++ modes ++ quotas ++ lines ++ zones ++ rest := by
    rw [State.siteData, cdBytes, hg, hm, hc]
    simp only [head, params, modes, quotas, lines, zones, rest, List.append_assoc, List.cons_append, List.nil_append]
  have hmodes : (head ++ params).length = 45 := rfl
  have hquotas : (head ++ params ++ modes).length = 61 := by
    rw [List.length_append, hmodes, length_flatMap_const _ 2 _ fun _ _ => rfl, Vector.length_toList]
  have hlines : (head ++ params ++ modes ++ quotas).length = 67 := by
    rw [List.length_append, hquotas, List.length_map, Vector.length_toList]
  have hzones : (head ++ params ++ modes ++ quotas ++ lines).length = 91 := by
    rw [List.length_append, hlines, length_flatMap_const _ 3 _ fun _ _ => rfl, Vector.length_toList]
  have hrest : (head ++ params ++ modes ++ quotas ++ lines ++ zones).length = 99 := by
    rw [List.length_append, hzones, List.length_map, Vector.length_toList]
  have atHead : ∀ j, j < 7 → s.siteData[j]? = head[j]? := fun j hj => by
    rw [hd]
    simp only [List.append_assoc]
    exact List.getElem?_append_left hj
  have atParams : ∀ j, s.siteData[7 + j]? = (params ++ (modes ++ (quotas ++ (lines ++ (zones ++ rest)))))[j]? :=
    fun j => by
      rw [hd]
      simp only [List.append_assoc]
      exact getElem?_after head _ rfl j
  have atModes : ∀ j, s.siteData[45 + j]? = (modes ++ (quotas ++ (lines ++ (zones ++ rest))))[j]? := fun j => by
    rw [hd, ← getElem?_after (head ++ params) _ hmodes j]
    simp only [List.append_assoc]
  have atQuotas : ∀ j, s.siteData[61 + j]? = (quotas ++ (lines ++ (zones ++ rest)))[j]? := fun j => by
    rw [hd, ← getElem?_after (head ++ params ++ modes) _ hquotas j]
    simp only [List.append_assoc]
  have atLines : ∀ j, s.siteData[67 + j]? = (lines ++ (zones ++ rest))[j]? := fun j => by
    rw [hd, ← getElem?_after (head ++ params ++ modes ++ quotas) _ hlines j]
    simp only [List.append_assoc]
  have atZones : ∀ j, s.siteData[91 + j]? = (zones ++ rest)[j]? := fun j => by
    rw [hd, ← getElem?_after (head ++ params ++ modes ++ quotas ++ lines) _ hzones j]
    simp only [List.append_assoc]
  have atRest : ∀ j, s.siteData[99 + j]? = rest[j]? := fun j => by
    rw [hd, ← getElem?_after (head ++ params ++ modes ++ quotas ++ lines ++ zones) _ hrest j]
  have lineAt := getElem?_toList s.lines
  exact {
    size := by
      rw [hd, List.length_append, hrest]
      by_cases h : s.site = .survey <;> simp [rest, h]
    site := codedAt_of_getElem (atHead 0 (by decide)) (siteState_coded _)
    cause := codedAt_of_getElem (atHead 1 (by decide)) (resetCause_coded _)
    clock := timeAt_of_getElem (atHead 2 (by decide)) (atHead 3 (by decide)) (atHead 4 (by decide))
      (atHead 5 (by decide))
    allStop := flagAt_of_getElem (atHead 6 (by decide))
    params := fun k v hk => by
      have hat := fun j (hj : j < 2) => (atParams (2 * k + j)).trans
        (getElem?_flatMap be16 2 _ hj s.params.values (fun _ _ => rfl) k v hk)
      exact wordAt_of_getElem (hat 0 (by decide)) (hat 1 (by decide))
    modes := fun n => by
      have hat := fun j (hj : j < 2) => (atModes (2 * n.val + j)).trans
        (getElem?_flatMap _ 2 _ hj s.lines.toList (fun _ _ => rfl) n.val _ (lineAt n))
      refine ⟨(byteAt_b8 (hat 0 (by decide))).trans ?_, codedAt_of_getElem ?_ (stopMode_coded _)⟩
      · cases s.lines[n].mode <;> rfl
      · rw [show 46 + 2 * n.val = 45 + (2 * n.val + 1) by omega]
        exact hat 1 (by decide)
    quotas := fun t => byteAt_b8 (by
      rw [atQuotas, List.getElem?_append_left (by simp [quotas, t.isLt]), List.getElem?_map,
        getElem?_toList s.trs t]
      rfl)
    lines := fun n => by
      have hat := fun j (hj : j < 3) => (atLines (3 * n.val + j)).trans
        (getElem?_flatMap _ 3 _ hj s.lines.toList (fun _ _ => rfl) n.val _ (lineAt n))
      refine ⟨codedAt_of_getElem (hat 0 (by decide)) (stopMode_coded _), flagAt_of_getElem ?_, flagAt_of_getElem ?_⟩
      · rw [show 68 + 3 * n.val = 67 + (3 * n.val + 1) by omega]
        exact hat 1 (by decide)
      · rw [show 69 + 3 * n.val = 67 + (3 * n.val + 2) by omega]
        exact hat 2 (by decide)
    zones := fun n => flagAt_of_getElem (by
      rw [atZones, List.getElem?_append_left (by simp [zones, n.isLt]), List.getElem?_map, lineAt n]
      rfl)
    band := by
      have hcode : s.siteData[99]? = some s.band.code := atRest 0
      have hcause : s.siteData[100]? = some s.band.causeByte := atRest 1
      split
      · next hb => rw [hb] at hcode hcause; exact ⟨byteAt_of_getElem hcode, byteAt_of_getElem hcause⟩
      · next hb => rw [hb] at hcode hcause; exact ⟨byteAt_of_getElem hcode, byteAt_of_getElem hcause⟩
      · next c hb =>
        rw [hb] at hcode hcause
        exact ⟨byteAt_of_getElem hcode, codedAt_of_getElem hcause (by cases c <;> rfl)⟩
    wind := ⟨hgShown _ _ (atRest 2) (atRest 3), hmShown _ _ (atRest 4) (atRest 5), hcShown _ _ (atRest 6) (atRest 7)⟩
    counts := ⟨byteAt_b8 (atRest 8), byteAt_b8 (atRest 9), byteAt_b8 (atRest 10), byteAt_b8 (atRest 11)⟩
    unsurveyed := fun h => byteAt_b8 ((atRest 12).trans (by simp [rest, h, State.unsurveyed])) }

/-! ## Routes (R66) -/

/-- The place of the first item of a list that passes a test. -/
theorem placeIn_split {α : Type} {q : α → Bool} {before after : List α} {a : α} (hb : ∀ x ∈ before, q x = false)
    (ha : q a = true) : placeIn (before ++ a :: after) q = some (before.length + 1) := by
  have hidx : (before ++ a :: after).findIdx? q = some before.length := by
    rw [List.findIdx?_append, List.findIdx?_eq_none_iff.mpr hb, List.findIdx?_cons, if_pos ha]
    simp
  rw [placeIn, hidx]
  rfl

theorem placeIn_none {α : Type} {q : α → Bool} {l : List α} (h : ∀ x ∈ l, q x = false) : placeIn l q = none := by
  rw [placeIn, List.findIdx?_eq_none_iff.mpr h]
  rfl

theorem find?_split {α : Type} {q : α → Bool} {before after : List α} {a : α} (hb : ∀ x ∈ before, q x = false)
    (ha : q a = true) : (before ++ a :: after).find? q = some a := by
  rw [List.find?_append, List.find?_eq_none.mpr fun x hx => by simp [hb x hx], List.find?_cons_of_pos ha]
  rfl

theorem route_shown (s : State) (t : TId) : s.RouteShown t (s.routeData t) := by
  obtain ⟨w1, w2, hw, hwShown⟩ := opt16_shown
    (((s.waiting.find? fun w => decide (w.t = t)).bind (·.wait)).map (·.steps))
  let r := s.route t
  let head := [(s.tr t).state.code, b8 r.entries.length]
  let entry := fun e : Entry =>
    be16 e.index ++ [b8 e.sec, e.ent.code, e.ext.code, holdStateCode (s.holdBy t e.sec)]
  let rest := be16 (r.front.getD 0) ++ be16 ((r.endPos.map (·.idx)).getD 0) ++ be16 ((r.endPos.map (·.off)).getD 0) ++
    be16 r.finalOff ++ [flag r.keep, b8 r.authNum] ++ be16 (s.ceilings[t]) ++
    [opt8 (placeIn s.waiting fun w => decide (w.t = t)), w1, w2, flag s.roomWait]
  have hd : s.routeData t = head ++ (r.entries.flatMap entry ++ rest) := by
    rw [State.routeData, cdBytes, hw]
    simp only [head, entry, rest, r, List.append_assoc, List.cons_append, List.nil_append]
  have hentries : (r.entries.flatMap entry).length = 6 * r.entries.length :=
    length_flatMap_const entry 6 _ fun _ _ => rfl
  have hbefore : (head ++ r.entries.flatMap entry).length = 2 + 6 * r.entries.length := by
    rw [List.length_append, hentries]
    rfl
  have atRest : ∀ j, (s.routeData t)[2 + 6 * r.entries.length + j]? = rest[j]? := fun j => by
    rw [hd, ← List.append_assoc, getElem?_after _ _ hbefore]
  have hat0 := atRest 0
  rw [Nat.add_zero] at hat0
  exact {
    size := by
      rw [hd, ← List.append_assoc, List.length_append, hbefore]
      change 2 + 6 * (s.route t).entries.length + 16 = _
      omega
    state := codedAt_of_getElem (by rw [hd]; rfl) (tState_coded _)
    count := byteAt_b8 (by rw [hd]; rfl)
    entries := fun k e hk => by
      have hat : ∀ j, j < 6 → (s.routeData t)[2 + (6 * k + j)]? = (entry e)[j]? := fun j hj => by
        rw [hd, getElem?_after head _ (n := 2) rfl, getElem?_flatMap entry 6 rest hj r.entries (fun _ _ => rfl) k e hk]
      have hplace : ∀ j, j < 6 → (s.routeData t)[2 + j + 6 * k]? = (entry e)[j]? := fun j hj => by
        rw [← hat j hj]
        congr 1
        omega
      exact ⟨wordAt_of_getElem (hat 0 (by decide)) (hat 1 (by decide)), byteAt_b8 (hplace 2 (by decide)),
        codedAt_of_getElem (hplace 3 (by decide)) (endName_coded _),
        codedAt_of_getElem (hplace 4 (by decide)) (endName_coded _),
        codedAt_of_getElem (hplace 5 (by decide)) (holdState_coded _)⟩
    rest := by
      refine ⟨wordAt_of_getElem hat0 (atRest 1), wordAt_of_getElem (atRest 2) (atRest 3),
        wordAt_of_getElem (atRest 4) (atRest 5), wordAt_of_getElem (atRest 6) (atRest 7), flagAt_of_getElem (atRest 8),
        byteAt_b8 (atRest 9), wordAt_of_getElem (atRest 10) (atRest 11), fun hnone => ?_, fun before w after hs ht hb => ?_,
        flagAt_of_getElem (atRest 15)⟩
      · have hno : ∀ w ∈ s.waiting, decide (w.t = t) = false := fun w hw => decide_eq_false (hnone w hw)
        have hplace := opt8_shown _ _ _ (atRest 12)
        have hwait := hwShown _ _ (atRest 13) (atRest 14)
        rw [placeIn_none hno] at hplace
        rw [List.find?_eq_none.mpr fun w hw => by simp [hnone w hw]] at hwait
        exact ⟨hplace, hwait⟩
      · have hno : ∀ v ∈ before, decide (v.t = t) = false := fun v hv => decide_eq_false (hb v hv)
        have hplace := opt8_shown _ _ _ (atRest 12)
        have hwait := hwShown _ _ (atRest 13) (atRest 14)
        rw [hs, placeIn_split hno (decide_eq_true ht)] at hplace
        rw [hs, find?_split hno (decide_eq_true ht)] at hwait
        exact ⟨hplace, hwait⟩ }

end Sys2Proof.Machine

/-! PROOFS. What the reply to Q_UNIT shows (R168), and the statement about the eight queries. -/

namespace Sys2Proof.Machine

/-! ## Units (R168) -/

theorem State.served_detector (s : State) (a : Nat) :
    s.served a .detector = (s.sectionsOf a).map fun p => [p.2, p.1] := by
  rw [State.served, State.sectionsOf, List.map_flatMap]
  simp only [List.map_map]
  rfl

/-- The entities a unit serves, as its reply carries them: their count, and then their numbers. -/
theorem State.entityBytes_eq (s : State) (a : Nat) (typ : UnitType) :
    s.entityBytes a typ = b8 (s.served a typ).length :: (s.served a typ).flatten.map b8 := by
  cases typ with
  | detector =>
    rw [State.served_detector]
    simp only [State.entityBytes, List.length_map, List.map_flatten, List.map_map, List.flatMap_def]
    rfl
  | point | pad =>
    simp only [State.entityBytes, State.served, List.length_map, List.map_flatten, List.map_map]
    rw [List.cons.injEq]
    refine ⟨rfl, ?_⟩
    rw [show ∀ (l : List (Nat × _)), (l.map ((List.map b8) ∘ fun p => [p.1])) = l.map fun p => [b8 p.1] from
      fun _ => rfl, ← List.flatMap_def, List.map_eq_flatMap]
  | mast => rfl

theorem unit_shown (s : State) (a : Nat) (x : UnitRec) : s.UnitShown a x (s.unitData a x) := by
  let served := s.served a x.typ
  let cs := s.cmdQueue.filter fun c => decide (c.addr = a)
  let head := [x.typ.byte, b8 served.length]
  let names := served.flatten.map b8
  let mid := [x.st.code, b8 x.retries, flag x.restorePending, opt8 (placeIn s.restoreList fun b => decide (b = a)),
    b8 cs.length]
  let cmds := cs.flatMap fun c => [c.func.field, b8 c.entity]
  let tail := [b8 s.cmdQueue.length, opt8 s.pollPos, b8 s.forced]
  have hd : s.unitData a x = head ++ (names ++ (mid ++ (cmds ++ tail))) := by
    rw [State.unitData, s.entityBytes_eq]
    simp only [head, names, mid, cmds, tail, cs, served, List.append_assoc, List.cons_append, List.nil_append]
  have hnames : (head ++ names).length = 2 + served.flatten.length := by
    rw [List.length_append, List.length_map]
    rfl
  have hmid : (head ++ names ++ mid).length = 2 + served.flatten.length + 5 := by
    rw [List.length_append, hnames]
    rfl
  have hcmds : (head ++ names ++ mid ++ cmds).length = 2 + served.flatten.length + 5 + 2 * cs.length := by
    rw [List.length_append, hmid, length_flatMap_const _ 2 _ fun _ _ => rfl]
  have atMid : ∀ j, j < 5 → (s.unitData a x)[2 + served.flatten.length + j]? = mid[j]? := fun j hj => by
    rw [hd, ← List.append_assoc, getElem?_after _ _ hnames, List.getElem?_append_left hj]
  have atCmds : ∀ k c, cs[k]? = some c → ∀ j, j < 2 →
      (s.unitData a x)[2 + served.flatten.length + 5 + (2 * k + j)]? = [c.func.field, b8 c.entity][j]? :=
    fun k c hc j hj => by
      rw [hd, ← List.append_assoc, ← List.append_assoc, getElem?_after _ _ hmid,
        getElem?_flatMap _ 2 tail hj cs (fun _ _ => rfl) k c hc]
  have atTail : ∀ j, (s.unitData a x)[2 + served.flatten.length + 5 + 2 * cs.length + j]? = tail[j]? := fun j => by
    rw [hd, ← List.append_assoc, ← List.append_assoc, ← List.append_assoc, getElem?_after _ _ hcmds]
  have hplace := opt8_shown _ _ _ (atMid 3 (by decide))
  exact {
    typ := codedAt_of_getElem (by rw [hd]; rfl) (unitType_coded _)
    served := by
      refine ⟨byteAt_b8 (by rw [hd]; rfl), fun k v hk => byteAt_b8 ?_⟩
      rw [hd, getElem?_after head _ (n := 2) rfl, List.getElem?_append_left, List.getElem?_map, hk]
      · rfl
      · rw [List.length_map]
        exact (List.getElem?_eq_some_iff.mp hk).1
    rest := by
      refine ⟨?_, codedAt_of_getElem (atMid 0 (by decide)) (unitState_coded _), byteAt_b8 (atMid 1 (by decide)),
        flagAt_of_getElem (atMid 2 (by decide)), fun hno => ?_, fun before after hs hb => ?_,
        byteAt_b8 (atMid 4 (by decide)), fun k c hc => ⟨codedAt_of_getElem ?_ (busFunc_coded _), byteAt_b8 ?_⟩,
        byteAt_b8 (atTail 0), opt8_shown _ _ _ (atTail 1), byteAt_b8 (atTail 2)⟩
      · rw [hd, ← List.append_assoc, ← List.append_assoc, ← List.append_assoc, List.length_append, hcmds]
        rfl
      · rw [placeIn_none fun b hb => decide_eq_false fun h : b = a => hno (h ▸ hb)] at hplace
        exact hplace
      · rw [hs, placeIn_split (fun b hb' => decide_eq_false fun h : b = a => hb (h ▸ hb')) (decide_eq_true rfl)] at hplace
        exact hplace
      · exact atCmds k c hc 0 (by decide)
      · refine Eq.trans ?_ (atCmds k c hc 1 (by decide))
        congr 1
        change 2 + served.flatten.length + 6 + 2 * k = _
        omega }

/-! ## The queries -/

/-- The byte a query names its entity by: with data found, they are the reply. -/
theorem State.query_some {s : State} {l : OpsId} {tag ty b : Byte} {find : Nat → Option (List Byte)} {d : List Byte}
    (h : find b.toNat = some d) : s.query l tag ty [b] find = s.reply l tag ty .ok d := by
  change (match find b.toNat with | some d => s.reply l tag ty .ok d | none => s.reply l tag ty .unknownId []) = _
  rw [h]

theorem State.query_none {s : State} {l : OpsId} {tag ty b : Byte} {find : Nat → Option (List Byte)}
    (h : find b.toNat = none) : s.query l tag ty [b] find = s.reply l tag ty .unknownId [] := by
  change (match find b.toNat with | some d => s.reply l tag ty .ok d | none => s.reply l tag ty .unknownId []) = _
  rw [h]

section
variable {α : Type} {P : Prop} [Decidable P] {x : Option α} {data : α → List Byte}

/-- An entity in range and defined has its data. -/
theorem inRange_some {y : α} (hP : P) (hx : x = some y) : (if P then x.map data else none) = some (data y) := by
  rw [if_pos hP, hx]
  rfl

theorem inRange_none (h : ¬ P ∨ x = none) : (if P then x.map data else none) = none := by
  rcases h with h | rfl
  · exact if_neg h
  · exact ite_self _

end

/-- Settles O17: a query at a ready link is its owner's reply, whose data the lemmas `…_shown` read place by place. -/
theorem queriesAnswered : Obligations.QueriesAnswered := by
  intro s l tag b hl
  refine ⟨?_, fun x hn hx => ?_, fun h => ?_, fun x hn hx => ?_, fun h => ?_,
    fun h => ⟨?_, ?_⟩, fun h => ⟨?_, ?_⟩, fun x hn hx => ?_, fun h => ?_, fun h => ?_, fun h => ?_,
    fun x hlow hhigh hx => ?_, fun h => ?_, site_shown s, section_shown, point_shown,
    fun t => ⟨transporter_shown s t, route_shown s t⟩, pad_shown s, telescope_shown s, unit_shown s⟩
  all_goals rw [exec_ops_ready hl rfl rfl]; refine congrArg _ ?_
  all_goals dsimp only [State.onQSection, State.onQPoint, State.onQTransporter, State.onQRoute, State.onQPad,
    State.onQTelescope, State.onQUnit]
  · rfl
  · apply State.query_some; exact inRange_some hn hx
  · apply State.query_none; exact inRange_none (h.imp_left Nat.not_lt.mpr)
  · apply State.query_some; exact inRange_some hn hx
  · apply State.query_none; exact inRange_none (h.imp_left Nat.not_lt.mpr)
  · apply State.query_some; exact congrArg _ (tid?_eq_some h)
  · apply State.query_some; exact congrArg _ (tid?_eq_some h)
  · apply State.query_none; exact congrArg _ (tid?_eq_none h)
  · apply State.query_none; exact congrArg _ (tid?_eq_none h)
  · apply State.query_some; exact inRange_some hn hx
  · apply State.query_none; exact inRange_none (h.imp_left Nat.not_lt.mpr)
  · apply State.query_some; exact if_pos h
  · apply State.query_none; exact if_neg (by change ¬ (1 ≤ b.toNat ∧ b.toNat ≤ 16); omega)
  · apply State.query_some; exact inRange_some ⟨hlow, hhigh⟩ hx
  · apply State.query_none
    refine inRange_none ?_
    rcases h with h | h | h
    · exact .inl (by omega)
    · exact .inl (by change ¬ (_ ∧ b.toNat ≤ 48); omega)
    · exact .inr h

end Sys2Proof.Machine

/-! PROOFS. The evaluation of the stop causes of several transporters (R121, R122), and the commands and edges that end in
one: ALL_STOP, ALL_RESUME (R189), ZONE_CLEAR (R128) and a stop line's edge (R125, R126, R130, R131). -/

namespace Sys2Proof.Machine

/-! ## One evaluation after another -/

namespace State.Evaluated
variable {s m t : State} {us vs : List TId}

/-- An evaluation changes nothing that stop causes are read from. -/
theorem stopCauses (h : s.Evaluated t us) : t.stopCauses = s.stopCauses := by
  rw [h.only]
  exact State.stopCauses_eq rfl rfl rfl rfl rfl

/-- The record, route and AUTH slot of a transporter that is not evaluated stay. -/
theorem sameForAuth (h : s.Evaluated t us) {u : TId} (hu : u ∉ us) : s.SameForAuth t u := by
  obtain ⟨htr, hroute, -⟩ := h.others u hu
  exact ⟨htr, hroute, fun n => by rw [h.only]; rfl, by rw [h.only], by rw [h.only], by rw [h.only]⟩

theorem refl (s : State) : s.Evaluated s [] :=
  ⟨rfl, fun _ _ => ⟨rfl, rfl, rfl, rfl, rfl⟩, nofun, fun _ => rfl, nofun, nofun, fun _ => rfl⟩

/-- The evaluation of a transporter that the first evaluation left alone is the one that s calls for. -/
theorem carried (h : s.Evaluated m us) {u : TId} (hu : u ∉ us) :
    (m.tr u).evaluated (m.stopCauses u) (decide (m.speed u ≤ m.params.overspeedTol)) =
      (s.tr u).evaluated (s.stopCauses u) (decide (s.speed u ≤ s.params.overspeedTol)) ∧
    (m.evaluationAuth u ↔ s.evaluationAuth u) ∧ m.evaluationNotice u = s.evaluationNotice u := by
  obtain ⟨htr, hroute, -⟩ := h.others u hu
  have hparams : m.params = s.params := by rw [h.only]
  refine ⟨?_, ?_, ?_⟩
  · rw [State.speed, State.speed, htr, h.stopCauses, hparams]
  · rw [State.evaluationAuth, State.evaluationAuth, htr, h.stopCauses]
  · rw [State.evaluationNotice, State.evaluationNotice, htr, hroute, h.stopCauses]

/-- Evaluating first us and then others of them vs is evaluating us ++ vs. -/
theorem trans (h : s.Evaluated m us) (h' : m.Evaluated t vs) (hd : ∀ v ∈ vs, v ∉ us) :
    s.Evaluated t (us ++ vs) := by
  have hauth : ∀ v ∈ us, (t.tl v).auth = (m.tl v).auth ∧ t.ceilings[v] = m.ceilings[v] := fun v hv => by
    obtain ⟨-, -, htl, hceil, -⟩ := h'.others v fun hv' => hd v hv' hv
    exact ⟨by rw [htl], hceil⟩
  exact {
    only := by rw [h'.only, h.only]
    others := fun u hu => by
      obtain ⟨h1, h2, h3, h4, h5⟩ := h.others u fun hm => hu (List.mem_append_left _ hm)
      obtain ⟨k1, k2, k3, k4, k5⟩ := h'.others u fun hm => hu (List.mem_append_right _ hm)
      exact ⟨k1.trans h1, k2.trans h2, k3.trans h3, k4.trans h4, k5.trans h5⟩
    record := fun u hu => by
      rcases List.mem_append.mp hu with hu | hu
      · rw [(h'.others u fun hv => hd u hv hu).1, h.record u hu]
      · rw [h'.record u hu, (h.carried (hd u hu)).1]
    port := fun u => by
      have hm : m.tl u = _ := h.port u
      have ht : t.tl u = _ := h'.port u
      rw [hm] at ht
      exact ht
    auth := fun u hu ha => by
      rcases List.mem_append.mp hu with hu | hu
      · exact (h'.sameForAuth fun hv => hd u hv hu).authCurrent (h.auth u hu ha) (hauth u hu).1 (hauth u hu).2
      · exact h'.auth u hu ((h.carried (hd u hu)).2.1.mpr ha)
    quiet := fun u hu ha => by
      rcases List.mem_append.mp hu with hu | hu
      · obtain ⟨h1, h2⟩ := h.quiet u hu ha
        exact ⟨(hauth u hu).1.trans h1, (hauth u hu).2.trans h2⟩
      · obtain ⟨h1, h2⟩ := h'.quiet u hu fun hm => ha ((h.carried (hd u hu)).2.1.mp hm)
        obtain ⟨-, -, h3, h4, -⟩ := h.others u (hd u hu)
        exact ⟨h1.trans (by rw [h3]), h2.trans h4⟩
    notices := fun k => by
      have hclock : m.clock = s.clock := by rw [h.only]
      rw [h'.notices k, h.notices k, hclock, List.flatMap_append, List.foldl_append]
      congr 1
      exact List.flatMap_congr fun u hu => (h.carried (hd u hu)).2.2 }

/-- A trigger raised after an evaluation may as well be raised before it. -/
theorem trigger (h : s.Evaluated t us) : s.trigger.Evaluated t.trigger us where
  only := by rw [h.only]; rfl
  others := h.others
  record := h.record
  port := h.port
  auth := fun u hu ha => by
    have hs : t.SameForAuth t.trigger u := ⟨rfl, rfl, fun _ => rfl, rfl, rfl, rfl⟩
    exact hs.authCurrent (h.auth u hu ha) rfl rfl
  quiet := h.quiet
  notices := h.notices

end State.Evaluated

/-- Evaluating transporters one after another. -/
theorem State.evalEach_evaluated : ∀ (us : List TId) (_ : us.Nodup) (s : State),
    s.Evaluated (us.foldl (fun s t => s.evalStop t) s) us
  | [], _, s => .refl s
  | u :: us, hnd, s => by
    obtain ⟨hu, hus⟩ := List.nodup_cons.mp hnd
    exact (s.evalStop_evaluated u).trans (State.evalEach_evaluated us hus _) fun v hv hmem =>
      hu (List.mem_singleton.mp hmem ▸ hv)

/-- Settles O20: evaluating all is evaluating one after another. -/
theorem evaluationActsByState : Obligations.EvaluationActsByState :=
  fun s => State.evalEach_evaluated allT (List.nodup_finRange 6) s

/-! ## Zones (R126, R130, R131) -/

/-- In RUNNING a zone counts as stopped exactly while its line's flag is set. -/
theorem State.zoneStopped_running {s : State} (h : s.site = .running) (n : Fin 8) :
    s.zoneStopped n = s.lines[n].stopped := by simp [State.zoneStopped, h]

theorem State.zoneStopped_outside {s : State} (h : s.site ≠ .running) (n : Fin 8) : s.zoneStopped n = false := by
  simp [State.zoneStopped, h]

theorem State.modLine_line (s : State) (n : Fin 8) (f : StopLine → StopLine) : (s.modLine n f).lines[n] = f s.lines[n] :=
  upd_get_self ..

/-- A zone that is freed: it is told, every transporter is evaluated, and a walk is due (R131). -/
theorem State.zoneFree_evaluated (s : State) (n : Fin 8) (c : ClearCause) :
    (s.post (.zoneCleared n.val s.lines[n].mode c)).trigger.Evaluated (s.zoneFree n c) allT :=
  (evaluationActsByState _).trigger

/-- t holds section n in the kind k. -/
theorem State.holdBy_eq_some {s : State} {t : TId} {n : Nat} {k : HoldKind} :
    s.holdBy t n = some k ↔ ∃ x h, s.sec? n = some x ∧ x.hold = some h ∧ h.holder = t ∧ h.kind = k := by
  rw [State.holdBy_eq]
  cases hx : s.sec? n with
  | none => simp
  | some x =>
    cases hh : x.hold with
    | none => simp [hh]
    | some h => by_cases ht : h.holder = t <;> simp [hh, ht]

/-- A section has one holder. -/
theorem State.holdBy_other {s : State} {t u : TId} {n : Nat} {k : HoldKind} (h : s.holdBy t n = some k) (hu : u ≠ t) :
    s.holdBy u n = none := by
  obtain ⟨x, y, hx, hy, rfl, -⟩ := State.holdBy_eq_some.mp h
  simp [State.holdBy_eq, hx, hy, hu.symm]

/-- Dropping the reservation of t changes how no other transporter holds a section. -/
theorem State.holdBy_dropSettingRaw_other {s : State} {t u : TId} (h : u ≠ t) (n : Nat) :
    (s.dropSettingRaw t).holdBy u n = s.holdBy u n := by
  have hsec := (s.dropSettingRaw_spec t).1 n
  by_cases hset : s.holdBy t n = some .setting ∧ s.inRecord t n
  · rw [State.holdBy_other hset.1 h, State.holdBy_eq, hsec]
    cases s.sec? n <;> simp [hset]
  · simp only [hset, if_false] at hsec
    rw [State.holdBy_eq, hsec, State.holdBy_eq]
    cases s.sec? n <;> rfl

/-- A section's definition stays when a reservation is dropped. -/
theorem State.defn_dropSettingRaw (s : State) (t : TId) (n : Nat) :
    ((s.dropSettingRaw t).sec? n).map (·.defn) = (s.sec? n).map (·.defn) := by
  rw [(s.dropSettingRaw_spec t).1 n]
  cases s.sec? n <;> rfl

theorem State.route_dropSettingRaw (s : State) (t u : TId) : (s.dropSettingRaw t).route u = s.route u := by
  rw [(s.dropSettingRaw_spec t).2]
  rfl

/-- Dropping the reservation of another transporter changes no reservation of u. -/
theorem State.settingInZone_dropSettingRaw {s : State} {t u : TId} (h : u ≠ t) (n : Fin 8) :
    (s.dropSettingRaw t).settingInZone n u = s.settingInZone n u := by
  have hrun : (s.dropSettingRaw t).settingRun u = s.settingRun u := by
    simp only [State.settingRun, State.run, s.route_dropSettingRaw, State.holdBy_dropSettingRaw_other h]
  simp only [State.settingInZone, hrun]
  congr 1
  funext e
  have hdefn := s.defn_dropSettingRaw t e.sec
  cases hx : s.sec? e.sec <;> cases hy : (s.dropSettingRaw t).sec? e.sec <;> rw [hx, hy] at hdefn
  case e_p.some.some x y => exact congrArg (inZone ·.zones n) (Option.some.inj hdefn)
  all_goals simp at hdefn

/-- The transporters us lose their reservations where these have a section of zone n: what becomes of the holds, and that
nothing else changes but the walk flag (R130). -/
theorem State.dropInZone_spec (n : Fin 8) : ∀ (us : List TId) (_ : us.Nodup) (s : State),
    let w := us.foldl (fun s t => if s.settingInZone n t then s.dropSettingRaw t else s) s
    (∀ m, w.sec? m = (s.sec? m).map fun x => { x with hold :=
      if (∃ t ∈ us, s.holdBy t m = some .setting ∧ s.settingInZone n t = true ∧ s.inRecord t m) then none else x.hold }) ∧
    (w.walkDue = true ↔ s.walkDue = true ∨ ∃ t ∈ us, s.settingInZone n t = true) ∧
    w = { s with sections := w.sections, walkDue := w.walkDue }
  | [], _, s => by
    refine ⟨fun m => ?_, by simp, rfl⟩
    rw [List.foldl_nil]
    cases s.sec? m <;> simp
  | t :: us, hnd, s => by
    obtain ⟨ht, hus⟩ := List.nodup_cons.mp hnd
    have hne : ∀ u ∈ us, u ≠ t := fun u hu h => ht (h ▸ hu)
    rw [List.foldl_cons]
    by_cases hz : s.settingInZone n t = true
    · rw [if_pos hz]
      obtain ⟨hsec, hwalk, honly⟩ := State.dropInZone_spec n us hus (s.dropSettingRaw t)
      obtain ⟨rsec, ronly⟩ := s.dropSettingRaw_spec t
      have hrun : s.settingRun t ≠ [] := fun h => by simp [State.settingInZone, h] at hz
      refine ⟨fun m => ?_, ?_, ?_⟩
      · rw [hsec, rsec, Option.map_map]
        congr 1
        funext x
        have hrest : (∃ u ∈ us, (s.dropSettingRaw t).holdBy u m = some .setting ∧
            (s.dropSettingRaw t).settingInZone n u = true ∧ (s.dropSettingRaw t).inRecord u m) ↔
            ∃ u ∈ us, s.holdBy u m = some .setting ∧ s.settingInZone n u = true ∧ s.inRecord u m :=
          exists_congr fun u => and_congr_right fun hu => by
            rw [State.holdBy_dropSettingRaw_other (hne u hu), State.settingInZone_dropSettingRaw (hne u hu),
              State.inRecord, State.inRecord, s.route_dropSettingRaw]
        simp only [Function.comp, hrest, List.exists_mem_cons_iff, hz, true_and]
        by_cases h1 : s.holdBy t m = some .setting ∧ s.inRecord t m
        · simp [h1]
        · simp [h1]
      · rw [hwalk, ronly]
        simp [hz, hrun]
      · rw [honly, ronly]
    · rw [if_neg hz]
      obtain ⟨hsec, hwalk, honly⟩ := State.dropInZone_spec n us hus s
      refine ⟨fun m => ?_, ?_, honly⟩
      · rw [hsec]
        simp [hz]
      · rw [hwalk]
        simp [hz]

/-- A zone that is stopped: it is told, its reservations are dropped, and then every transporter is evaluated (R130). -/
theorem State.zoneStop_stopping (s : State) (n : Fin 8) :
    ∃ w, s.ZoneStopping w n ∧ w.Evaluated (s.zoneStop n) allT := by
  let s1 := s.post (.zoneStop n.val s.lines[n].mode s.lines[n].asserted)
  have hw : s.zoneStop n =
      (allT.foldl (fun s t => if s.settingInZone n t then s.dropSettingRaw t else s) s1).evalAll := rfl
  obtain ⟨hsec, hwalk, honly⟩ := State.dropInZone_spec n allT (List.nodup_finRange 6) s1
  generalize allT.foldl _ s1 = w at hw hsec hwalk honly
  refine ⟨w, ⟨fun k => ?_, fun m => ?_, ?_, by rw [honly]; rfl⟩, hw ▸ evaluationActsByState w⟩
  · rw [honly]
    exact State.opsPort_post ..
  · rw [hsec m]
    change (s.sec? m).map _ = _
    cases hx : s.sec? m with
    | none => rfl
    | some x =>
      have hhold : ∀ t, s1.holdBy t m = some .setting ↔ ∃ h, x.hold = some h ∧ h.holder = t ∧ h.kind = .setting :=
        fun t => by
          rw [State.holdBy_eq_some]
          change (∃ y h, s.sec? m = some y ∧ _) ↔ _
          simp [hx]
      have hzone : ∀ t, s1.settingInZone n t = s.settingInZone n t := fun _ => rfl
      have hrec : ∀ t, s1.inRecord t m ↔ s.inRecord t m := fun _ => Iff.rfl
      simp only [hhold, hzone, hrec, mem_allT, true_and]
      cases hh : x.hold with
      | none => simp [hh]
      | some h => simp [hh, and_assoc]
  · rw [hwalk]
    simp only [mem_allT, true_and]
    exact Iff.rfl

/-- A line takes a new value (R126). -/
theorem State.changeLine_lineChanged (s : State) (n : Fin 8) (f : StopLine → StopLine) (c : ClearCause) :
    s.LineChanged (s.changeLine n f c) n (f s.lines[n]) c := by
  have hline := s.modLine_line n f
  have hsite : (s.modLine n f).site = s.site := rfl
  unfold State.changeLine
  dsimp only
  refine ⟨fun h => if_pos ?_, fun hrun hwas hnow => ?_, fun hrun hwas hnow => ?_⟩
  · by_cases hrun : s.site = .running
    · rw [State.zoneStopped_running hrun, State.zoneStopped_running (hsite.trans hrun), hline]
      exact h.resolve_left fun hne => hne hrun
    · rw [State.zoneStopped_outside hrun, State.zoneStopped_outside (hsite ▸ hrun)]
  · rw [State.zoneStopped_running hrun, State.zoneStopped_running (hsite.trans hrun), hline, hwas, hnow,
      if_neg Bool.noConfusion, if_neg Bool.noConfusion]
    have h := (s.modLine n f).zoneFree_evaluated n c
    rw [hline] at h
    exact h
  · rw [State.zoneStopped_running hrun, State.zoneStopped_running (hsite.trans hrun), hline, hwas, hnow,
      if_neg Bool.noConfusion, if_pos rfl]
    exact (s.modLine n f).zoneStop_stopping n

/-- Settles O57: an edge writes the line, and the zone follows. -/
theorem stopLineEdgeResult : Obligations.StopLineEdgeResult := by
  intro s n b hlive
  refine ⟨fun h => ?_, fun h => ?_⟩
  · change execStopLineEdge n b s = _
    rw [execStopLineEdge, State.live_eq hlive, State.lineEdge, if_pos h]
  · refine ⟨_, _, ?_, s.changeLine_lineChanged n (fun x => { x with
        asserted := b, latch := x.latch || (b && x.mode.latching && decide (s.site = .running)) }) .line, rfl, rfl, ?_⟩
    · change execStopLineEdge n b s = _
      rw [execStopLineEdge, State.live_eq hlive, State.lineEdge, if_neg h]
    · cases s.lines[n].mode <;> simp [StopMode.latching]

/-! ## ALL_STOP and ALL_RESUME (R189) -/

/-- What a ready link answers is what the command's owner makes of it. -/
theorem exec_ops_gives {c : Instr} {s u : State} {l : OpsId} {ty tag : Byte} {p : List Byte}
    {act : State → OpsId → Byte → List Byte → State} (hl : s.OpsReady l) (h : opsFrame c = some (l, ty, tag, p))
    (ho : ownerOf opsOwners ty = some act) (hu : act s l tag p = u) : exec c s = .next u :=
  (exec_ops_ready hl h ho).trans (congrArg _ hu)

/-- In RUNNING the two commands write the flag and are answered OK. -/
theorem exec_allStop_running {s : State} {l : OpsId} (hl : s.OpsReady l) (hrun : s.site = .running) (tag : Byte)
    (b : Bool) :
    exec (if b then .allStop l tag [] else .allResume l tag []) s =
      .next ((s.setAllStop b).reply l tag (if b then 0x50 else 0x51) .ok []) := by
  cases b
  · refine exec_ops_gives (act := State.onAllResume) hl rfl rfl ?_
    change s.judge l tag 0x51 [(s.running, .state)] (fun s => s.setAllStop false) noData = _
    rw [State.judge_running hrun]
    rfl
  · refine exec_ops_gives (act := State.onAllStop) hl rfl rfl ?_
    change s.judge l tag 0x50 [(s.running, .state)] (fun s => s.setAllStop true) noData = _
    rw [State.judge_running hrun]
    rfl

theorem exec_allStop_outside {s : State} {l : OpsId} (hl : s.OpsReady l) (hout : s.site ≠ .running) (tag : Byte)
    (b : Bool) :
    exec (if b then .allStop l tag [] else .allResume l tag []) s =
      .next (s.reply l tag (if b then 0x50 else 0x51) .state []) := by
  cases b
  · refine exec_ops_gives (act := State.onAllResume) hl rfl rfl ?_
    change s.judge l tag 0x51 [(s.running, .state)] (fun s => s.setAllStop false) noData = _
    rw [State.judge_outside_running hout]
    rfl
  · refine exec_ops_gives (act := State.onAllStop) hl rfl rfl ?_
    change s.judge l tag 0x50 [(s.running, .state)] (fun s => s.setAllStop true) noData = _
    rw [State.judge_outside_running hout]
    rfl

/-! ## ZONE_CLEAR (R128) -/

/-- ZONE_CLEAR of a line: steps 3 to 6 of R128 in their order, and the cleared latch. -/
theorem State.zoneClear_judged {s : State} (hrun : s.site = .running) {n : Nat} (h : n < 8) (l : OpsId) (tag : Byte) :
    s.zoneClear l tag n =
      if s.lines[n].mode.latching = false then s.reply l tag 0x52 .state []
      else if s.lines[n].latch = false then s.reply l tag 0x52 .state []
      else if s.lines[n].mode = .latchLevel ∧ s.lines[n].asserted = true then s.reply l tag 0x52 .state []
      else (s.clearLatch ⟨n, h⟩).reply l tag 0x52 .ok [] := by
  have hn : line? n = some ⟨n, h⟩ := dif_pos h
  simp only [State.zoneClear, hn]
  simp only [Fin.getElem_fin]
  rw [State.judge_running hrun, State.judge_cons (p := s.lines[n].mode.latching = false) Iff.rfl,
    State.judge_cons (p := s.lines[n].latch = false) Iff.rfl,
    State.judge_cons (p := s.lines[n].mode = .latchLevel ∧ s.lines[n].asserted = true) (by simp), State.judge_nil]
  rfl

/-- Settles O21: an accepted command is the change of a flag or of a line, and then the evaluation of all. -/
theorem stopCommandsResult : Obligations.StopCommandsResult := by
  refine ⟨fun s l tag b hl => ⟨fun hout => exec_allStop_outside hl hout tag b, fun hrun heq => ?same,
    fun hrun hne => ?change⟩, fun s l tag n hl hrun => ⟨fun h => ?unknown, fun h => ⟨fun hno => ?refused,
    fun hmode hlatch => ?cleared⟩⟩⟩
  case same =>
    rw [exec_allStop_running hl hrun, State.setAllStop, if_pos heq]
  case change =>
    refine ⟨_, exec_allStop_running hl hrun tag b, ?_⟩
    rw [State.setAllStop, if_neg hne, hrun]
    exact evaluationActsByState _
  case unknown =>
    rw [exec_ops_ready hl rfl rfl]
    refine congrArg _ ?_
    change s.zoneClear l tag n.toNat = _
    simp only [State.zoneClear, show line? n.toNat = none from dif_neg (Nat.not_lt.mpr h)]
    exact State.judge_unknownId hrun ..
  case refused =>
    rw [exec_ops_ready hl rfl rfl]
    refine congrArg _ ((State.zoneClear_judged hrun h l tag).trans ?_)
    by_cases hm : s.lines[n.toNat].mode.latching = false
    · exact if_pos hm
    rw [if_neg hm]
    rcases hno with ho | ho | ho | ho
    · exact absurd (by rw [ho]; rfl) hm
    · exact absurd (by rw [ho]; rfl) hm
    · exact if_pos ho
    · rw [if_pos ho, ite_self]
  case cleared =>
    have hm : s.lines[n.toNat].mode.latching = true := by rcases hmode with h | ⟨h, -⟩ <;> rw [h] <;> rfl
    have hlevel : ¬ (s.lines[n.toNat].mode = .latchLevel ∧ s.lines[n.toNat].asserted = true) := by
      rcases hmode with h | ⟨-, h⟩ <;> simp [h]
    refine ⟨s.clearLatch ⟨n.toNat, h⟩, ?_, ?_⟩
    · rw [exec_ops_ready hl rfl rfl]
      refine congrArg _ ((State.zoneClear_judged hrun h l tag).trans ?_)
      rw [if_neg (by simp [hm]), if_neg (by simp [hlatch]), if_neg hlevel]
    · refine (s.changeLine_lineChanged ⟨n.toNat, h⟩ (fun x => { x with latch := false }) .clear).2.1 hrun ?_ ?_
      · rcases hmode with hm | ⟨hm, -⟩ <;> simp [StopLine.stopped, hm, hlatch]
      · rcases hmode with hm | ⟨hm, -⟩ <;> simp [StopLine.stopped, hm]

end Sys2Proof.Machine

/-! PROOFS. The pad commands PAD_RESERVE, PAD_FREE and PAD_SERVICE (R139, R140). -/

namespace Sys2Proof.Machine

/-! ## What a judged command comes to -/

/-- A command is answered with the reason of its first failing check. -/
theorem State.judge_refused {s : State} {l : OpsId} {tag ty : Byte} {checks : List (Bool × Reason)} {r : Reason}
    {act : State → State} {data : State → List Byte} (h : firstFailing checks = some r) :
    s.judge l tag ty checks act data = s.reply l tag ty r [] := by
  rw [State.judge, h]

/-- A command whose checks all pass is carried out and answered OK. -/
theorem State.judge_accepted {s : State} {l : OpsId} {tag ty : Byte} {checks : List (Bool × Reason)}
    {act : State → State} {data : State → List Byte} (h : firstFailing checks = none) :
    s.judge l tag ty checks act data = (act s).reply l tag ty .ok (data (act s)) := by
  rw [State.judge, h]

theorem firstFailing_cons_true (r : Reason) (checks : List (Bool × Reason)) :
    firstFailing ((true, r) :: checks) = firstFailing checks := rfl

theorem firstFailing_cons_false (r : Reason) (checks : List (Bool × Reason)) :
    firstFailing ((false, r) :: checks) = some r := rfl

/-- In RUNNING the check of the site state passes. -/
theorem State.running_eq_true {s : State} (h : s.site = .running) : s.running = true := decide_eq_true h

/-! ## One pad record written -/

theorem State.pad_modPad_self {s : State} {n : Nat} {x : Pad} (hx : s.pad? n = some x) (f : Pad → Pad) :
    (s.modPad n f).pad? n = some (f x) :=
  (Table.find_adjust_self ..).trans (congrArg (Option.map f) hx)

theorem State.pad_modPad_ne (s : State) {n p : Nat} (h : p ≠ n) (f : Pad → Pad) : (s.modPad n f).pad? p = s.pad? p :=
  Table.find_adjust_ne _ _ h

theorem State.padIn_some {s : State} {n : Nat} {x : Pad} (hn : n < 80) (hx : s.pad? n = some x) :
    s.padIn n = some x := (if_pos hn).trans hx

theorem State.padIn_none {s : State} {n : Nat} (h : 80 ≤ n ∨ s.pad? n = none) : s.padIn n = none := by
  rcases h with h | h
  · exact if_neg (Nat.not_lt.mpr h)
  · rw [State.padIn, h, ite_self]

/-! ## The three commands, judged -/

section
variable {s : State} {l : OpsId} {tag : Byte} {n k : Nat} {x : Pad}

theorem State.padReserve_unknown (hrun : s.site = .running) (h : s.padIn n = none) :
    s.padReserve l tag n k = s.reply l tag 0x5A .unknownId [] := by
  simp only [State.padReserve, h]
  exact State.judge_unknownId hrun ..

theorem State.padReserve_refused (hrun : s.site = .running) (h : s.padIn n = some x) {r : Reason}
    (hc : firstFailing [(decide (1 ≤ k ∧ k ≤ 16), .range), (decide (x.st ≠ .outOfService), .padState),
      (decide (x.reserv = none ∨ x.reserv = some k), .padState),
      (s.pads.all fun p => decide (p.1 = n ∨ p.2.reserv ≠ some k), .padState)] = some r) :
    s.padReserve l tag n k = s.reply l tag 0x5A r [] := by
  simp only [State.padReserve, h]
  rw [State.judge_running hrun]
  exact State.judge_refused hc

theorem State.padReserve_accepted (hrun : s.site = .running) (h : s.padIn n = some x)
    (hk : 1 ≤ k ∧ k ≤ 16) (hst : x.st ≠ .outOfService) (hres : x.reserv = none ∨ x.reserv = some k)
    (hall : ∀ q ∈ s.pads, q.1 ≠ n → q.2.reserv ≠ some k) :
    s.padReserve l tag n k = (s.modPad n fun x => { x with reserv := some k }).reply l tag 0x5A .ok [] := by
  have hothers : (s.pads.all fun p => decide (p.1 = n ∨ p.2.reserv ≠ some k)) = true :=
    List.all_eq_true.mpr fun q hq => decide_eq_true (or_iff_not_imp_left.mpr (hall q hq))
  simp only [State.padReserve, h]
  rw [State.judge_running hrun]
  refine State.judge_accepted ?_
  rw [show Config.numTelescopes = 16 from rfl, decide_eq_true hk, decide_eq_true hst, decide_eq_true hres, hothers]
  rfl

theorem State.padFree_unknown (hrun : s.site = .running) (h : s.padIn n = none) :
    s.padFree l tag n = s.reply l tag 0x5B .unknownId [] := by
  rw [State.padFree, State.judge_running hrun, h]
  exact State.judge_refused rfl

theorem State.padFree_accepted (hrun : s.site = .running) (h : s.padIn n = some x) :
    s.padFree l tag n = (s.modPad n fun x => { x with reserv := none }).reply l tag 0x5B .ok [] := by
  rw [State.padFree, State.judge_running hrun, h]
  exact State.judge_accepted rfl

theorem State.padService_unknown (hrun : s.site = .running) (h : s.padIn n = none) (out : Bool) :
    s.padService l tag n out = s.reply l tag 0x5C .unknownId [] := by
  simp only [State.padService, h]
  exact State.judge_unknownId hrun ..

/-- PAD_SERVICE OUT takes a VACANT pad without a clamp watch out of service. -/
theorem State.padService_out (hrun : s.site = .running) (h : s.padIn n = some x) :
    s.padService l tag n true =
      if ¬ (x.st = .vacant ∧ x.watch = .none) then s.reply l tag 0x5C .padState []
      else (s.modPad n fun x => { x with st := .outOfService, reserv := none }).reply l tag 0x5C .ok [] := by
  simp only [State.padService, h, if_true]
  rw [State.judge_running hrun, State.judge_cons (p := ¬ (x.st = .vacant ∧ x.watch = .none)) decide_eq_false_iff_not,
    State.judge_nil]
  rfl

theorem State.padService_in (hrun : s.site = .running) (h : s.padIn n = some x) :
    s.padService l tag n false =
      if ¬ x.st = .outOfService then s.reply l tag 0x5C .padState []
      else (s.modPad n fun x => { x with st := .vacant }).reply l tag 0x5C .ok [] := by
  simp only [State.padService, h, Bool.false_eq_true, if_false]
  rw [State.judge_running hrun, State.judge_cons (p := ¬ x.st = .outOfService) decide_eq_false_iff_not,
    State.judge_nil]
  rfl

end

/-! ## The statement -/

section
variable {s : State} {l : OpsId} (hl : s.OpsReady l) (tag n k : Byte)
include hl

theorem exec_padReserve : exec (.padReserve l tag [n, k]) s = .next (s.padReserve l tag n.toNat k.toNat) :=
  exec_ops_gives (act := State.onPadReserve) hl rfl rfl rfl

theorem exec_padFree : exec (.padFree l tag [n]) s = .next (s.padFree l tag n.toNat) :=
  exec_ops_gives (act := State.onPadFree) hl rfl rfl rfl

/-- The request of PAD_SERVICE is IN (0) or OUT (1). -/
theorem exec_padService {b : Bool} (hk : flagOf k = some b) :
    exec (.padService l tag [n, k]) s = .next (s.padService l tag n.toNat b) := by
  refine exec_ops_gives (act := State.onPadService) hl rfl rfl ?_
  simp only [State.onPadService, hk]

theorem exec_padService_range (hk : flagOf k = none) :
    exec (.padService l tag [n, k]) s = .next (s.reply l tag 0x5C .range []) := by
  refine exec_ops_gives (act := State.onPadService) hl rfl rfl ?_
  simp only [State.onPadService, hk]
  rfl

end

/-- Settles O28: each command's owner, judged, writes one pad record. -/
theorem padCommandsResult : Obligations.PadCommandsResult := by
  intro s l tag n k hl hrun
  refine ⟨fun h => ?_, fun h0 h1 => exec_padService_range hl tag n k ?_, fun x hn hx => ?_⟩
  · have hp := State.padIn_none h
    refine ⟨?_, ?_, fun hk => ?_⟩
    · rw [exec_padReserve hl, State.padReserve_unknown hrun hp]
    · rw [exec_padFree hl, State.padFree_unknown hrun hp]
    · rcases hk with rfl | rfl
      · rw [exec_padService hl tag n 0 (b := false) rfl, State.padService_unknown hrun hp]
      · rw [exec_padService hl tag n 1 (b := true) rfl, State.padService_unknown hrun hp]
  · rw [flagOf, if_neg h0, if_neg h1]
  have hp := State.padIn_some hn hx
  have hwrote : ∀ f : Pad → Pad, s.modPad n.toNat f = { s with pads := (s.modPad n.toNat f).pads } ∧
      (s.modPad n.toNat f).pad? n.toNat = some (f x) ∧ ∀ p, p ≠ n.toNat → (s.modPad n.toNat f).pad? p = s.pad? p :=
    fun f => ⟨rfl, State.pad_modPad_self hx f, fun p hpn => s.pad_modPad_ne hpn f⟩
  refine ⟨fun hk => ?range, fun hlow hhigh hbad => ?reserved,
    fun hlow hhigh hst hres hall => ⟨_, ?reserve, hwrote fun x => { x with reserv := some k.toNat }⟩,
    ⟨_, ?free, hwrote fun x => { x with reserv := none }⟩, fun h => ?notOut,
    fun hst hw => ⟨_, ?out, hwrote fun x => { x with st := .outOfService, reserv := none }⟩, fun h => ?notIn,
    fun h => ⟨_, ?back, hwrote fun x => { x with st := .vacant }⟩⟩
  case range =>
    rw [exec_padReserve hl, State.padReserve_refused hrun hp]
    rw [decide_eq_false (by omega)]
    rfl
  case reserved =>
    rw [exec_padReserve hl, State.padReserve_refused hrun hp]
    rw [decide_eq_true ⟨hlow, hhigh⟩, firstFailing_cons_true]
    by_cases hst : x.st = .outOfService
    · rw [hst]
      rfl
    rw [decide_eq_true hst, firstFailing_cons_true]
    by_cases hres : x.reserv = none ∨ x.reserv = some k.toNat
    · obtain ⟨q, hq, hqn, hqk⟩ := (hbad.resolve_left hst).resolve_left fun ⟨j, hj, hjk⟩ =>
        hres.elim (fun h => nomatch h ▸ hj) fun h => hjk (Option.some.inj (hj.symm.trans h))
      rw [decide_eq_true hres, firstFailing_cons_true, List.all_eq_false.mpr ⟨q, hq, by simp [hqn, hqk]⟩]
      rfl
    · rw [decide_eq_false hres]
      rfl
  case reserve => rw [exec_padReserve hl, State.padReserve_accepted hrun hp ⟨hlow, hhigh⟩ hst hres hall]
  case free => rw [exec_padFree hl, State.padFree_accepted hrun hp]
  case notOut =>
    rw [exec_padService hl tag n 1 (b := true) rfl, State.padService_out hrun hp,
      if_pos fun ⟨hst, hw⟩ => h.elim (· hst) (· hw)]
  case out =>
    rw [exec_padService hl tag n 1 (b := true) rfl, State.padService_out hrun hp, if_neg (not_not_intro ⟨hst, hw⟩)]
  case notIn => rw [exec_padService hl tag n 0 (b := false) rfl, State.padService_in hrun hp, if_pos h]
  case back =>
    rw [exec_padService hl tag n 0 (b := false) rfl, State.padService_in hrun hp, if_neg (not_not_intro h)]

end Sys2Proof.Machine

/-! PROOFS. DECLARE (R143, R144): the checks in their order, the clamp watch it opens (R141), and the ceiling it may
lower (R98). -/

namespace Sys2Proof.Machine

/-! ## A ceiling computed again (R98) -/

/-- What a lowering event at t does: a current AUTH where the ceiling falls, and otherwise nothing. -/
theorem State.recompute_spec (s : State) (t : TId) :
    s.recompute t = { s with tls := (s.recompute t).tls, ceilings := (s.recompute t).ceilings } ∧
    (s.recompute t).ceilingNow t = s.ceilingNow t ∧
    (if (s.tr t).state = .authorised ∧ s.ceilingNow t < s.ceilings[t] then (s.recompute t).AuthCurrent t
     else (s.recompute t).tl t = s.tl t ∧ (s.recompute t).ceilings[t] = s.ceilings[t]) ∧
    s.OnlyAuth (s.recompute t) t ∧ ∀ v, v ≠ t → s.SameTransporter (s.recompute t) v := by
  unfold State.recompute
  by_cases h : (s.tr t).state = .authorised ∧ s.ceilingNow t < s.ceilings[t]
  · obtain ⟨hauth, honly, hport, hothers⟩ := s.formAuth_spec t
    have hsame : s.SameForAuth (s.formAuth t) t := ⟨rfl, rfl, fun _ => rfl, rfl, rfl, rfl⟩
    rw [if_pos h, if_pos h]
    exact ⟨honly, hsame.ceilingNow, hauth, hport, hothers⟩
  · rw [if_neg h, if_neg h]
    exact ⟨rfl, rfl, ⟨rfl, rfl⟩, rfl, fun _ _ => ⟨rfl, rfl, rfl, rfl, rfl⟩⟩

/-! ## A clamp watch opened (R141) -/

/-- The queue's answer to one pad command depends on the queue and the units alone. -/
theorem State.offerOk_pad_congr {s t : State} {c : BusCmd} (hc : c.func.blade = none) (hq : t.cmdQueue = s.cmdQueue)
    (hu : t.units = s.units) : t.offerOk [c] = s.offerOk [c] := by
  simp only [State.offerOk, State.unit?, hq, hu, List.all_cons, List.all_nil, hc, Option.isNone_none, Bool.true_or]

/-- A watch is opened: its CLAMP is queued, or it waits for room. -/
theorem State.openWatch_eq {s : State} {n : Nat} {x : Pad} (hx : s.pad? n = some x) :
    s.openWatch n =
      if s.offerOk [⟨.clamp, x.addr, n, .watch n⟩] then
        (s.enqueue [⟨.clamp, x.addr, n, .watch n⟩]).modPad n fun p => { p with watch := .queued }
      else { s with padWaiters := s.padWaiters ++ [Requester.watch n] }.modPad n fun p => { p with watch := .waiting } := by
  have hc : s.padCommand (.watch n) = some ⟨.clamp, x.addr, n, .watch n⟩ := by rw [State.padCommand, hx]; rfl
  rw [State.openWatch, State.offerPad]
  simp only [hc]
  rfl

/-! ## The register -/

theorem State.locOf_setLoc_self (s : State) (k : Nat) (l : Location) : (s.setLoc k l).locOf k = some l :=
  Table.find_put_self ..

theorem State.locOf_setLoc_ne (s : State) {k j : Nat} (h : j ≠ k) (l : Location) :
    (s.setLoc k l).locOf j = s.locOf j := Table.find_put_ne _ _ h

/-! ## DECLARE, judged -/

section
variable {s : State} {l : OpsId} {tag : Byte} {k n : Nat} {x : Pad} {t : TId} (hrun : s.site = .running)
include hrun

theorem State.declare_noPad (h : s.padIn n = none) : s.declare l tag k false n = s.reply l tag 0x5D .unknownId [] := by
  simp only [State.declare, Bool.false_eq_true, if_false, h]
  exact State.judge_unknownId hrun ..

theorem State.declare_noTransporter (h : tid? n = none) :
    s.declare l tag k true n = s.reply l tag 0x5D .unknownId [] := by
  simp only [State.declare, if_true, h]
  exact State.judge_unknownId hrun ..

/-- A telescope out of range is UNKNOWN_ID, whatever target is named. -/
theorem State.declare_noTelescope (h : ¬ (1 ≤ k ∧ k ≤ Config.numTelescopes)) (b : Bool) :
    s.declare l tag k b n = s.reply l tag 0x5D .unknownId [] := by
  have hk : ∀ (checks : List (Bool × Reason)) (act : State → State),
      s.judge l tag 0x5D ((s.running, .state) :: (decide (1 ≤ k ∧ k ≤ Config.numTelescopes), .unknownId) :: checks) act noData =
        s.reply l tag 0x5D .unknownId [] := fun checks act => by
    rw [State.judge_running hrun, decide_eq_false h]
    exact State.judge_refused rfl
  cases b with
  | false =>
    cases hp : s.padIn n with
    | none => exact State.declare_noPad hrun hp
    | some x =>
      simp only [State.declare, Bool.false_eq_true, if_false, hp, State.declarePad]
      split <;> exact hk ..
  | true =>
    cases ht : tid? n with
    | none => exact State.declare_noTransporter hrun ht
    | some t =>
      simp only [State.declare, if_true, ht, State.declareTransporter]
      split <;> exact hk ..

/-- ON_PAD for an UNREGISTERED telescope (R143). -/
theorem State.declarePad_unregistered (hk : 1 ≤ k ∧ k ≤ Config.numTelescopes) (hloc : s.locOf k = none) :
    s.declarePad l tag k n x =
      if ¬ (x.st = .vacant ∧ (x.reserv = none ∨ x.reserv = some k) ∧ x.watch = .none) then
        s.reply l tag 0x5D .padState []
      else if ¬ x.load = .loaded then s.reply l tag 0x5D .loadMismatch []
      else ((s.setLoc k (.onPad n)).modPad n fun x => { x with st := .occupied k }).reply l tag 0x5D .ok [] := by
  simp only [State.declarePad, hloc]
  rw [State.judge_running hrun, State.judge_cons (p := ¬ (1 ≤ k ∧ k ≤ Config.numTelescopes)) decide_eq_false_iff_not,
    if_neg (not_not_intro hk),
    State.judge_cons (p := ¬ (x.st = .vacant ∧ (x.reserv = none ∨ x.reserv = some k) ∧ x.watch = .none))
      (by simp only [Pad.unwatched, ← Bool.decide_and, and_assoc, decide_eq_false_iff_not]),
    State.judge_cons (p := ¬ x.load = .loaded) decide_eq_false_iff_not, State.judge_nil]
  rfl

/-- ON_PAD for an INDETERMINATE telescope (R144). -/
theorem State.declarePad_indeterminate (hk : 1 ≤ k ∧ k ≤ Config.numTelescopes) {q : Nat} (hloc : s.locOf k = some (.indeterminate q t)) :
    s.declarePad l tag k n x =
      if ¬ q = n then s.reply l tag 0x5D .range []
      else if (s.unit? x.addr).map (·.st) = some .silent then s.reply l tag 0x5D .unitSilent []
      else (((s.setLoc k (.onPad n)).modPad n fun x => { x with
        st := .occupied k, reserv := if x.reserv = some k then none else x.reserv }).openWatch n).reply
          l tag 0x5D .ok [] := by
  simp only [State.declarePad, hloc]
  rw [State.judge_running hrun, State.judge_cons (p := ¬ (1 ≤ k ∧ k ≤ Config.numTelescopes)) decide_eq_false_iff_not,
    if_neg (not_not_intro hk), State.judge_cons (p := ¬ q = n) decide_eq_false_iff_not,
    State.judge_cons (p := (s.unit? x.addr).map (·.st) = some .silent)
      (by rw [decide_eq_false_iff_not, not_not, State.unitState]),
    State.judge_nil]
  rfl

/-- ON_TRANSPORTER for an UNREGISTERED telescope (R143, log 38). -/
theorem State.declareTransporter_unregistered (hk : 1 ≤ k ∧ k ≤ Config.numTelescopes) (hloc : s.locOf k = none) :
    s.declareTransporter l tag k t =
      if s.telescopeAt t ≠ none then s.reply l tag 0x5D .loadMismatch []
      else if (s.tr t).state = .transfer then s.reply l tag 0x5D .state []
      else ((s.setLoc k (.onTransporter t)).recompute t).reply l tag 0x5D .ok [] := by
  simp only [State.declareTransporter, hloc]
  rw [State.judge_running hrun, State.judge_cons (p := ¬ (1 ≤ k ∧ k ≤ Config.numTelescopes)) decide_eq_false_iff_not,
    if_neg (not_not_intro hk), State.judge_cons (p := s.telescopeAt t ≠ none) (by simp [Option.isSome_iff_ne_none]),
    State.judge_cons (p := (s.tr t).state = .transfer) (by simp), State.judge_nil]
  rfl

/-- ON_TRANSPORTER for an INDETERMINATE telescope (R144). -/
theorem State.declareTransporter_indeterminate (hk : 1 ≤ k ∧ k ≤ Config.numTelescopes) {q : Nat} {u : TId}
    (hloc : s.locOf k = some (.indeterminate q u)) :
    s.declareTransporter l tag k t =
      if ¬ u = t then s.reply l tag 0x5D .range []
      else (((s.setLoc k (.onTransporter t)).modPad q fun x => { x with st := .vacant }).recompute t).reply
        l tag 0x5D .ok [] := by
  simp only [State.declareTransporter, hloc]
  rw [State.judge_running hrun, State.judge_cons (p := ¬ (1 ≤ k ∧ k ≤ Config.numTelescopes)) decide_eq_false_iff_not,
    if_neg (not_not_intro hk), State.judge_cons (p := ¬ u = t) decide_eq_false_iff_not, State.judge_nil]
  rfl

/-- A settled telescope is STATE (log 27). -/
theorem State.declare_settled (hk : 1 ≤ k ∧ k ≤ Config.numTelescopes) {d : Nat}
    (hloc : s.locOf k = some (.onPad d) ∨ ∃ t, s.locOf k = some (.onTransporter t)) :
    s.declarePad l tag k n x = s.reply l tag 0x5D .state [] ∧
    s.declareTransporter l tag k t = s.reply l tag 0x5D .state [] := by
  have hj : s.judge l tag 0x5D [(s.running, .state), (decide (1 ≤ k ∧ k ≤ Config.numTelescopes), .unknownId), (false, .state)] id
      noData = s.reply l tag 0x5D .state [] := by
    rw [State.judge_running hrun, decide_eq_true hk]
    exact State.judge_refused rfl
  rcases hloc with h | ⟨u, h⟩
  · simp only [State.declarePad, State.declareTransporter, h]
    exact ⟨hj, hj⟩
  · simp only [State.declarePad, State.declareTransporter, h]
    exact ⟨hj, hj⟩

end

/-! ## The statement -/

section
variable {s : State} {l : OpsId} (hl : s.OpsReady l) (tag k n : Byte)
include hl

theorem exec_declare_pad {x : Pad} (h : s.padIn n.toNat = some x) :
    exec (.declare l tag [k, 0, n]) s = .next (s.declarePad l tag k.toNat n.toNat x) := by
  refine exec_ops_gives (act := State.onDeclare) hl rfl rfl ?_
  change s.declare l tag k.toNat false n.toNat = _
  simp only [State.declare, Bool.false_eq_true, if_false, h]

theorem exec_declare_transporter (h : n.toNat < 6) :
    exec (.declare l tag [k, 1, n]) s = .next (s.declareTransporter l tag k.toNat ⟨n.toNat, h⟩) := by
  refine exec_ops_gives (act := State.onDeclare) hl rfl rfl ?_
  change s.declare l tag k.toNat true n.toNat = _
  simp only [State.declare, if_true, tid?_eq_some h]

theorem exec_declare_unknown (b : Bool) (h : s.declare l tag k.toNat b n.toNat = s.reply l tag 0x5D .unknownId []) :
    exec (.declare l tag [k, if b then 1 else 0, n]) s = .next (s.reply l tag 0x5D .unknownId []) := by
  refine exec_ops_gives (act := State.onDeclare) hl rfl rfl ?_
  rw [← h]
  cases b <;> rfl

end

/-- The frame of DECLARE ON_TRANSPORTER: the register, the pad named, and the ceiling where it falls. -/
theorem State.declared_recompute {s m : State} {t : TId}
    (hm : m = { s with telescopes := m.telescopes, pads := m.pads }) :
    let u := m.recompute t
    u = { m with tls := u.tls, ceilings := u.ceilings } ∧
    (if (s.tr t).state = .authorised ∧ u.ceilingNow t < s.ceilings[t] then u.AuthCurrent t
     else u.tl t = s.tl t ∧ u.ceilings[t] = s.ceilings[t]) ∧
    s.OnlyAuth u t ∧ ∀ v, v ≠ t → s.SameTransporter u v := by
  obtain ⟨honly, hceil, hcase, hport, hothers⟩ := m.recompute_spec t
  dsimp only
  rw [hceil]
  have htr : ∀ v, m.tr v = s.tr v := fun v => by rw [hm]; rfl
  have htl : ∀ v, m.tl v = s.tl v := fun v => by rw [hm]; rfl
  have hroute : ∀ v, m.route v = s.route v := fun v => by rw [hm]; rfl
  have hceils : m.ceilings = s.ceilings := by rw [hm]
  have htransfers : m.transfers = s.transfers := by rw [hm]
  rw [htr, htl] at hcase
  simp only [hceils] at hcase
  refine ⟨honly, hcase, ?_, fun v hv => ?_⟩
  · rw [State.OnlyAuth, ← htl]
    exact hport
  · obtain ⟨h1, h2, h3, h4, h5⟩ := hothers v hv
    exact ⟨h1.trans (htr v), h2.trans (hroute v), h3.trans (htl v), h4.trans (by rw [hceils]),
      h5.trans (by rw [htransfers])⟩

/-- The frame of DECLARE ON_PAD of an INDETERMINATE telescope: the register, the pad, and the CLAMP of its watch. -/
theorem State.openWatch_declared {s m : State} {n : Nat} {y : Pad}
    (hm : m = { s with telescopes := m.telescopes, pads := m.pads }) (hy : m.pad? n = some y) :
    let u := m.openWatch n
    let c : BusCmd := ⟨.clamp, y.addr, n, .watch n⟩
    u = { s with telescopes := u.telescopes, pads := u.pads, cmdQueue := u.cmdQueue, padWaiters := u.padWaiters } ∧
    u.telescopes = m.telescopes ∧ (∀ p, p ≠ n → u.pad? p = m.pad? p) ∧
    if s.offerOk [c] then u.pad? n = some { y with watch := .queued } ∧
      u.cmdQueue = s.cmdQueue ++ [c] ∧ u.padWaiters = s.padWaiters
    else u.pad? n = some { y with watch := .waiting } ∧ u.cmdQueue = s.cmdQueue ∧
      u.padWaiters = s.padWaiters ++ [.watch n] := by
  have hq : m.cmdQueue = s.cmdQueue := by rw [hm]
  have hw : m.padWaiters = s.padWaiters := by rw [hm]
  have hu : m.units = s.units := by rw [hm]
  dsimp only
  rw [State.openWatch_eq hy, State.offerOk_pad_congr rfl hq hu]
  by_cases ho : s.offerOk [⟨.clamp, y.addr, n, .watch n⟩] = true
  · rw [if_pos ho, if_pos ho]
    refine ⟨?_, rfl, fun p hp => State.pad_modPad_ne _ hp _, State.pad_modPad_self hy _, by rw [← hq]; rfl, hw⟩
    rw [hm]
    rfl
  · rw [if_neg ho, if_neg ho]
    refine ⟨?_, rfl, fun p hp => State.pad_modPad_ne _ hp _, State.pad_modPad_self hy _, hq, by rw [← hw]; rfl⟩
    rw [hm]
    rfl

/-- Settles O29: the four cases of the register, each judged. -/
theorem declareResult : Obligations.DeclareResult := by
  refine ⟨fun s l tag k n hl hrun => ?first, fun s l tag k n hl hrun hlow hhigh => ?second⟩
  case first =>
    refine ⟨fun h => exec_declare_unknown hl tag k n false (State.declare_noPad hrun (State.padIn_none h)),
      fun h => exec_declare_unknown hl tag k n true (State.declare_noTransporter hrun (tid?_eq_none h)), fun h => ?_,
      fun hloc hlow hhigh => ⟨fun x hn hx => ?_, fun ht => ?_⟩⟩
    · have hk : ¬ (1 ≤ k.toNat ∧ k.toNat ≤ Config.numTelescopes) := by
        change ¬ (1 ≤ k.toNat ∧ k.toNat ≤ 16)
        omega
      exact ⟨exec_declare_unknown hl tag k n false (State.declare_noTelescope hrun hk false),
        exec_declare_unknown hl tag k n true (State.declare_noTelescope hrun hk true)⟩
    · rw [exec_declare_pad hl tag k n (State.padIn_some hn hx), State.declarePad_unregistered hrun ⟨hlow, hhigh⟩ hloc]
      refine ⟨fun hfree => by rw [if_pos hfree], fun hfree hload => by
        rw [if_neg (not_not_intro hfree), if_pos hload], fun hfree hload =>
          ⟨(s.setLoc k.toNat (.onPad n.toNat)).modPad n.toNat fun x => { x with st := .occupied k.toNat }, ?_, rfl,
            s.locOf_setLoc_self .., fun j hj => s.locOf_setLoc_ne hj _, State.pad_modPad_self hx _,
            fun p hp => State.pad_modPad_ne _ hp _⟩⟩
      rw [if_neg (not_not_intro hfree), if_neg (not_not_intro hload)]
    · rw [exec_declare_transporter hl tag k n ht, State.declareTransporter_unregistered hrun ⟨hlow, hhigh⟩ hloc]
      refine ⟨fun hat => by rw [if_pos hat], fun hat hst => by rw [if_neg (not_not_intro hat), if_pos hst],
        fun hat hst => ?_⟩
      obtain ⟨honly, hcase, hport, hothers⟩ := State.declared_recompute (s := s)
        (m := s.setLoc k.toNat (.onTransporter ⟨n.toNat, ht⟩)) (t := ⟨n.toNat, ht⟩) rfl
      refine ⟨_, by rw [if_neg (not_not_intro hat), if_neg hst], by rw [honly]; rfl, ?_, fun j hj => ?_, hcase, hport, hothers⟩
      · rw [honly]
        exact s.locOf_setLoc_self ..
      · rw [honly]
        exact s.locOf_setLoc_ne hj _
  case second =>
    refine ⟨fun x q t hn hx hloc => ?_, fun ht q t hloc => ?_, fun d hloc => ⟨fun x hn hx => ?_, fun ht => ?_⟩⟩
    · rw [exec_declare_pad hl tag k n (State.padIn_some hn hx), State.declarePad_indeterminate hrun ⟨hlow, hhigh⟩ hloc]
      refine ⟨fun hq => by rw [if_pos hq], fun hq hsil => by rw [if_neg (not_not_intro hq), if_pos hsil],
        fun hq hsil => ⟨_, by rw [if_neg (not_not_intro hq), if_neg hsil], ?_⟩⟩
      obtain ⟨honly, htel, hne, hself⟩ := State.openWatch_declared (s := s)
        (m := (s.setLoc k.toNat (.onPad n.toNat)).modPad n.toNat fun x => { x with
          st := .occupied k.toNat, reserv := if x.reserv = some k.toNat then none else x.reserv }) rfl
        (State.pad_modPad_self hx _)
      refine ⟨honly, ?_, fun j hj => ?_, fun p hp => (hne p hp).trans (State.pad_modPad_ne _ hp _), hself⟩
      · rw [State.locOf, htel]
        exact s.locOf_setLoc_self ..
      · rw [State.locOf, htel]
        exact s.locOf_setLoc_ne hj _
    · rw [exec_declare_transporter hl tag k n ht, State.declareTransporter_indeterminate hrun ⟨hlow, hhigh⟩ hloc]
      refine ⟨fun hq => by rw [if_pos hq], fun hq => ?_⟩
      subst hq
      obtain ⟨honly, hcase, hport, hothers⟩ := State.declared_recompute (s := s)
        (m := (s.setLoc k.toNat (.onTransporter ⟨n.toNat, ht⟩)).modPad q fun x => { x with st := .vacant })
        (t := ⟨n.toNat, ht⟩) rfl
      refine ⟨_, by rw [if_neg (not_not_intro rfl)], by rw [honly]; rfl, ?_, fun j hj => ?_, ?_, fun p hp => ?_, hcase, hport,
        hothers⟩
      · rw [honly]
        exact s.locOf_setLoc_self ..
      · rw [honly]
        exact s.locOf_setLoc_ne hj _
      · rw [honly]
        exact Table.find_adjust_self ..
      · rw [honly]
        exact State.pad_modPad_ne _ hp _
    · rw [exec_declare_pad hl tag k n (State.padIn_some hn hx),
        (State.declare_settled (t := 0) hrun ⟨hlow, hhigh⟩ hloc).1]
    · rw [exec_declare_transporter hl tag k n ht,
        (State.declare_settled (n := 0) (x := ⟨0, 0, 0, 0, .vacant, none, .unknown, .unknown, false, .none⟩) hrun
          ⟨hlow, hhigh⟩ hloc).2]

end Sys2Proof.Machine

/-! PROOFS. ALLOCATE (R187) and the DEFINE commands for points, pads, units and transporters (R9, R11, R104, R155). -/

namespace Sys2Proof.Machine

/-! ## A transporter's record changed for each transporter -/

theorem State.modTrs_spec (f : TId → Transporter → Transporter) : ∀ (us : List TId) (_ : us.Nodup) (s : State),
    let w := us.foldl (fun s t => s.modTr t (f t)) s
    w = { s with trs := w.trs } ∧ ∀ t, w.tr t = if t ∈ us then f t (s.tr t) else s.tr t
  | [], _, s => ⟨rfl, fun t => by simp⟩
  | u :: us, hnd, s => by
    obtain ⟨hu, hus⟩ := List.nodup_cons.mp hnd
    obtain ⟨honly, htr⟩ := State.modTrs_spec f us hus (s.modTr u (f u))
    refine ⟨by rw [List.foldl_cons, honly]; rfl, fun t => ?_⟩
    rw [List.foldl_cons, htr t, State.tr_modTr]
    by_cases ht : u = t
    · subst ht
      rw [if_neg hu, if_pos rfl, if_pos (List.mem_cons_self ..)]
    · simp [ht, Ne.symm ht]

/-! ## ALLOCATE (R187) -/

theorem quotaOf_vector (q : Vector Byte 6) (t : TId) : quotaOf (q.toList.map BitVec.toNat) t = q[t].toNat := by
  simp [quotaOf]

/-- The quotas fit what the transporters are doing (R187 step 4). -/
theorem State.quotasFit_iff (s : State) (q : Vector Byte 6) :
    s.quotasFit (q.toList.map BitVec.toNat) = true ↔ (s.site = .running → ∀ t : TId, (s.tr t).state = .offline ∨
      (s.tr t).state = .parked ∧ (∀ w ∈ s.waiting, w.t ≠ t) ∧ (s.route t).entries.length ≤ q[t].toNat) := by
  simp only [State.quotasFit, Bool.or_eq_true, decide_eq_true_eq, List.all_eq_true, Bool.and_eq_true, quotaOf_vector,
    mem_allT, true_implies, ← imp_iff_not_or, and_assoc, Bool.not_eq_true', State.isWaiting, List.any_eq_false]

/-- Settles O34: the checks of R187 in their order, and the six quotas written. -/
theorem allocateResult : Obligations.AllocateResult := by
  intro s l tag q hl
  let qs := q.toList.map BitVec.toNat
  let u := s.forT fun t s => s.modTr t fun x => { x with quota := quotaOf qs t }
  have hexec : exec (.allocate l tag q.toList) s = .next (s.judge l tag 0x66
      [(decide (s.site ≠ .survey), .state),
       (qs.all (fun q => decide (2 ≤ q ∧ q ≤ 32)) && decide (qs.sum ≤ 128), .range), (s.quotasFit qs, .state)]
      (fun s => s.forT fun t s => s.modTr t fun x => { x with quota := quotaOf qs t }) noData) :=
    exec_ops_gives (act := State.onAllocate) hl rfl rfl (if_pos Vector.length_toList)
  have hlegal : (qs.all (fun q => decide (2 ≤ q ∧ q ≤ 32)) && decide (qs.sum ≤ 128)) = true ↔
      (∀ t : TId, 2 ≤ q[t].toNat ∧ q[t].toNat ≤ 32) ∧ qs.sum ≤ 128 := by
    rw [Bool.and_eq_true, decide_eq_true_eq, List.all_eq_true]
    refine and_congr_left fun _ => ⟨fun h t => ?_, fun h x hx => ?_⟩
    · exact of_decide_eq_true (h _ (List.mem_map_of_mem (List.mem_of_getElem? (getElem?_toList q t))))
    · obtain ⟨b, hb, rfl⟩ := List.mem_map.mp hx
      obtain ⟨i, hi, rfl⟩ := Vector.mem_iff_getElem.mp (Vector.mem_toList_iff.mp hb)
      exact decide_eq_true (h ⟨i, hi⟩)
  have hfits := s.quotasFit_iff q
  dsimp only
  rw [hexec]
  refine ⟨fun h => ?_, fun h hbad => ?_, fun h hok hbad => ?_, fun h hok hfit => ⟨u, ?_, ?_, fun t => ?_⟩⟩
  · rw [State.judge_refused (r := .state) (by rw [h]; rfl)]
  · rw [State.judge_refused (r := .range)]
    rw [decide_eq_true h, Bool.eq_false_iff.mpr (hlegal.not.mpr hbad)]
    rfl
  · rw [State.judge_refused (r := .state)]
    rw [decide_eq_true h, hlegal.mpr hok, Bool.eq_false_iff.mpr (hfits.not.mpr hbad)]
    rfl
  · rw [State.judge_accepted (by rw [decide_eq_true h, hlegal.mpr hok, hfits.mpr hfit]; rfl)]
    rfl
  · exact (State.modTrs_spec _ allT (List.nodup_finRange 6) s).1
  · refine ((State.modTrs_spec _ allT (List.nodup_finRange 6) s).2 t).trans ?_
    rw [if_pos (mem_allT t), quotaOf_vector]

/-! ## What the DEFINE commands share -/

/-- A record that is removed from a table in its canonical form is gone. -/
theorem Table.find_drop_self {α : Type} {t : Table α} (h : Table.wf t = true) (k : Nat) :
    Table.find (Table.drop t k) k = none := by
  induction t with
  | nil => rfl
  | cons p r ih =>
    obtain ⟨j, w⟩ := p
    have hpair := List.pairwise_cons.mp ((Table.wf_iff _).mp h)
    by_cases hj : j = k
    · subst hj
      rw [Table.drop, if_pos rfl]
      cases hf : Table.find r j with
      | none => rfl
      | some v => exact absurd (hpair.1 j (List.mem_map_of_mem (f := (·.1)) (Table.mem_of_find hf))) (lt_irrefl j)
    · rw [Table.drop, if_neg hj, Table.find, if_neg hj]
      exact ih ((Table.wf_iff _).mpr hpair.2)

section
variable {s : State} (l : OpsId) (tag ty : Byte) (checks : List (Bool × Reason)) (act : State → State)
  (data : State → List Byte)

/-- In SURVEY every DEFINE command is refused with STATE (R183). -/
theorem State.judge_define_survey (h : s.site = .survey) :
    s.judge l tag ty (s.defineOpen ++ checks) act data = s.reply l tag ty .state [] :=
  State.judge_refused (by rw [State.defineOpen, h]; rfl)

/-- In RUNNING every DEFINE command is refused with CONFIG_LOCKED (R183). -/
theorem State.judge_define_running (h : s.site = .running) :
    s.judge l tag ty (s.defineOpen ++ checks) act data = s.reply l tag ty .configLocked [] :=
  State.judge_refused (by rw [State.defineOpen, h]; rfl)

/-- In UNCONFIGURED a DEFINE command is judged by its own checks. -/
theorem State.judge_define_open (h : s.site = .unconfigured) :
    s.judge l tag ty (s.defineOpen ++ checks) act data = s.judge l tag ty checks act data := by
  rw [State.judge, State.judge, State.defineOpen, h]
  rfl

end

/-! ## DEFINE_POINT, DEFINE_PAD, DEFINE_UNIT -/

section
variable {s : State} {l : OpsId} (hl : s.OpsReady l) (tag n x oh ol th tl a : Byte)
include hl

theorem exec_definePoint (hx : x ≠ 0xFF) : exec (.definePoint l tag [n, x, a]) s = .next (s.judge l tag 0x62
    (s.defineOpen ++ [(decide (n.toNat < 32), .unknownId), (decide (x.toNat < 96), .unknownId),
      (decide (1 ≤ a.toNat ∧ a.toNat ≤ 48), .range)])
    (fun s => { s with points := Table.put s.points n.toNat (.fresh x.toNat a.toNat) }) noData) :=
  exec_ops_gives (act := State.onDefinePoint) hl rfl rfl (if_neg hx)

theorem exec_definePad (hx : x ≠ 0xFF) : exec (.definePad l tag [n, x, oh, ol, th, tl, a]) s = .next (s.judge l tag 0x63
    (s.defineOpen ++ [(decide (n.toNat < 80), .unknownId), (decide (x.toNat < 96), .unknownId),
      (decide (num16 oh ol ≤ 65000), .range), (decide (1 ≤ num16 th tl ∧ num16 th tl ≤ 50), .range),
      (decide (1 ≤ a.toNat ∧ a.toNat ≤ 48), .range)])
    (fun s => s.putPad n.toNat (.fresh x.toNat (num16 oh ol) (num16 th tl) a.toNat)) noData) :=
  exec_ops_gives (act := State.onDefinePad) hl rfl rfl (if_neg hx)

theorem exec_defineUnit : exec (.defineUnit l tag [n, a]) s = .next (s.judge l tag 0x64
    (s.defineOpen ++ [(decide (1 ≤ n.toNat ∧ n.toNat ≤ 48), .unknownId), ((unitTypeOf a).isSome, .range)])
    (fun s => s.putUnit n.toNat ((unitTypeOf a).getD none)) noData) :=
  exec_ops_gives (act := State.onDefineUnit) hl rfl rfl rfl

theorem exec_dropPoint : exec (.definePoint l tag [n, 0xFF]) s = .next (s.judge l tag 0x62
    (s.defineOpen ++ [(decide (n.toNat < 32), .unknownId)])
    (fun s => { s with points := Table.drop s.points n.toNat }) noData) :=
  exec_ops_gives (act := State.onDefinePoint) hl rfl rfl rfl

theorem exec_dropPad : exec (.definePad l tag [n, 0xFF]) s = .next (s.judge l tag 0x63
    (s.defineOpen ++ [(decide (n.toNat < 80), .unknownId)])
    (fun s => { s with pads := Table.drop s.pads n.toNat }) noData) :=
  exec_ops_gives (act := State.onDefinePad) hl rfl rfl rfl

end

/-- DEFINE_POINT in UNCONFIGURED, judged (R9). -/
theorem State.definePoint_judged {s : State} (h : s.site = .unconfigured) (l : OpsId) (tag : Byte) (n x a : Nat)
    (act : State → State) :
    s.judge l tag 0x62 (s.defineOpen ++ [(decide (n < 32), .unknownId), (decide (x < 96), .unknownId),
      (decide (1 ≤ a ∧ a ≤ 48), .range)]) act noData =
      if 32 ≤ n ∨ 96 ≤ x then s.reply l tag 0x62 .unknownId []
      else if a = 0 ∨ 48 < a then s.reply l tag 0x62 .range []
      else (act s).reply l tag 0x62 .ok [] := by
  rw [State.judge_define_open (h := h)]
  by_cases hid : 32 ≤ n ∨ 96 ≤ x
  · rw [if_pos hid]
    refine State.judge_refused ?_
    by_cases hn : n < 32
    · rw [decide_eq_true hn, decide_eq_false (by omega)]
      rfl
    · rw [decide_eq_false hn]
      rfl
  · rw [if_neg hid, State.judge_cons (p := False) (by simp; omega), if_neg id, State.judge_cons (p := False) (by simp; omega),
      if_neg id, State.judge_cons (p := a = 0 ∨ 48 < a) (by simp; omega), State.judge_nil]
    rfl

/-- DEFINE_PAD in UNCONFIGURED, judged (R11). -/
theorem State.definePad_judged {s : State} (h : s.site = .unconfigured) (l : OpsId) (tag : Byte) (n x o t a : Nat)
    (act : State → State) :
    s.judge l tag 0x63 (s.defineOpen ++ [(decide (n < 80), .unknownId), (decide (x < 96), .unknownId),
      (decide (o ≤ 65000), .range), (decide (1 ≤ t ∧ t ≤ 50), .range), (decide (1 ≤ a ∧ a ≤ 48), .range)]) act noData =
      if 80 ≤ n ∨ 96 ≤ x then s.reply l tag 0x63 .unknownId []
      else if 65000 < o then s.reply l tag 0x63 .range []
      else if t = 0 ∨ 50 < t then s.reply l tag 0x63 .range []
      else if a = 0 ∨ 48 < a then s.reply l tag 0x63 .range []
      else (act s).reply l tag 0x63 .ok [] := by
  rw [State.judge_define_open (h := h)]
  by_cases hid : 80 ≤ n ∨ 96 ≤ x
  · rw [if_pos hid]
    refine State.judge_refused ?_
    by_cases hn : n < 80
    · rw [decide_eq_true hn, decide_eq_false (by omega)]
      rfl
    · rw [decide_eq_false hn]
      rfl
  · rw [if_neg hid, State.judge_cons (p := False) (by simp; omega), if_neg id, State.judge_cons (p := False) (by simp; omega),
      if_neg id, State.judge_cons (p := 65000 < o) (by simp), State.judge_cons (p := t = 0 ∨ 50 < t) (by simp; omega),
      State.judge_cons (p := a = 0 ∨ 48 < a) (by simp; omega), State.judge_nil]
    rfl

/-- The type byte of DEFINE_UNIT is one of NONE and the four types up to 4. -/
theorem unitTypeOf_isSome (b : Byte) : (unitTypeOf b).isSome = false ↔ 4 < b.toNat := by
  revert b
  decide

theorem unitTypeOf_code (ty : UnitType) (b : Byte) (h : b.toNat = ty.code) : unitTypeOf b = some (some ty) := by
  have hb : b = BitVec.ofNat 8 ty.code := BitVec.eq_of_toNat_eq (h.trans (by cases ty <;> rfl))
  subst hb
  cases ty <;> rfl

/-- DEFINE_UNIT in UNCONFIGURED, judged (R155). -/
theorem State.defineUnit_judged {s : State} (h : s.site = .unconfigured) (l : OpsId) (tag : Byte) (n : Nat) (a : Byte)
    (act : State → State) :
    s.judge l tag 0x64 (s.defineOpen ++ [(decide (1 ≤ n ∧ n ≤ 48), .unknownId), ((unitTypeOf a).isSome, .range)])
      act noData =
      if n = 0 ∨ 48 < n then s.reply l tag 0x64 .unknownId []
      else if 4 < a.toNat then s.reply l tag 0x64 .range []
      else (act s).reply l tag 0x64 .ok [] := by
  rw [State.judge_define_open (h := h), State.judge_cons (p := n = 0 ∨ 48 < n) (by simp; omega),
    State.judge_cons (p := 4 < a.toNat) (unitTypeOf_isSome a), State.judge_nil]
  rfl

/-! ## DEFINE_TRANSPORTER (R104) -/

/-- DEFINE_TRANSPORTER of a transporter that is one, judged. -/
theorem State.defineTransporter_judged {s : State} (h : s.site = .unconfigured) (l : OpsId) (tag : Byte) {n : Nat} {t : TId}
    (ht : tid? n = some t) (de dl ve vl sv : Nat) :
    s.defineTransporter l tag n de dl ve vl sv =
      if (4 ≤ de ∧ de ≤ 100) ∧ (4 ≤ dl ∧ dl ≤ 100) ∧ (10 ≤ ve ∧ ve ≤ 300) ∧ (10 ≤ vl ∧ vl ≤ 300) ∧ (3 ≤ sv ∧ sv ≤ 127) then
        (s.modTr t fun x => { x with
          decelEmpty := de, decelLoaded := dl, vmaxEmpty := ve, vmaxLoaded := vl, supervision := sv }).reply l tag 0x65 .ok []
      else s.reply l tag 0x65 .range [] := by
  simp only [State.defineTransporter, ht]
  rw [State.judge_define_open (h := h)]
  by_cases h1 : 4 ≤ de ∧ de ≤ 100 ∧ 4 ≤ dl ∧ dl ≤ 100
  · by_cases h2 : 10 ≤ ve ∧ ve ≤ 300 ∧ 10 ≤ vl ∧ vl ≤ 300
    · by_cases h3 : 3 ≤ sv ∧ sv ≤ 127
      · rw [if_pos (by omega), State.judge_accepted (by rw [decide_eq_true h1, decide_eq_true h2, decide_eq_true h3]; rfl)]
        rfl
      · rw [if_neg (by omega)]
        exact State.judge_refused (by rw [decide_eq_true h1, decide_eq_true h2, decide_eq_false h3]; rfl)
    · rw [if_neg (by omega)]
      exact State.judge_refused (by rw [decide_eq_true h1, decide_eq_false h2]; rfl)
  · rw [if_neg (by omega)]
    exact State.judge_refused (by rw [decide_eq_false h1]; rfl)

/-- Settles O33: each command's owner, judged, writes one record. -/
theorem defineRecordsResult : Obligations.DefineRecordsResult := by
  refine ⟨fun s l tag n x oh ol th tl a hl => ?records, fun s l tag n ah al bh bl ch cl dh dl eh el hl => ?transporter⟩
  case records =>
    dsimp only
    refine ⟨fun hx => ⟨?_, ?_⟩, fun hsite => ⟨fun hx => ⟨?_, ?_⟩, ?_⟩, fun hsite => ⟨fun hx => ⟨?_, ?_⟩, ?_⟩,
      fun hsite => ⟨fun hx => ⟨?point, ?pad⟩, ?unit, fun hwf hn => ?dropPoint, fun hwf hn => ?dropPad⟩⟩
    · exact exec_ops_gives (act := State.onDefinePoint) hl rfl rfl (if_pos hx)
    · exact exec_ops_gives (act := State.onDefinePad) hl rfl rfl (if_pos hx)
    · rw [exec_definePoint hl tag n x a hx, State.judge_define_survey (h := hsite)]
    · rw [exec_definePad hl tag n x oh ol th tl a hx, State.judge_define_survey (h := hsite)]
    · rw [exec_defineUnit hl, State.judge_define_survey (h := hsite)]
    · rw [exec_definePoint hl tag n x a hx, State.judge_define_running (h := hsite)]
    · rw [exec_definePad hl tag n x oh ol th tl a hx, State.judge_define_running (h := hsite)]
    · rw [exec_defineUnit hl, State.judge_define_running (h := hsite)]
    case point =>
      rw [exec_definePoint hl tag n x a hx, State.definePoint_judged hsite]
      split_ifs
      · rfl
      · rfl
      · exact ⟨_, rfl, rfl, Table.find_put_self .., fun p hp => Table.find_put_ne _ _ hp⟩
    case pad =>
      rw [exec_definePad hl tag n x oh ol th tl a hx, State.definePad_judged hsite]
      split_ifs
      · rfl
      · rfl
      · rfl
      · rfl
      · exact ⟨_, rfl, rfl, Table.find_put_self .., fun p hp => Table.find_put_ne _ _ hp⟩
    case unit =>
      rw [exec_defineUnit hl, State.defineUnit_judged hsite]
      split_ifs
      · rfl
      · rfl
      · have ha : ∃ o, unitTypeOf a = some o := Option.isSome_iff_exists.mp (by
          rw [← Bool.not_eq_false, unitTypeOf_isSome]
          assumption)
        obtain ⟨o, ho⟩ := ha
        refine ⟨_, rfl, ?_, fun h0 hwf => ?_, fun ty hty => ?_, fun b hb => ?_⟩
        · rw [ho]
          cases o <;> rfl
        · rw [show a = 0 from BitVec.eq_of_toNat_eq h0]
          exact Table.find_drop_self hwf.2.2.2.1 _
        · rw [unitTypeOf_code ty a hty]
          exact Table.find_put_self ..
        · rw [ho]
          cases o with
          | none => exact Table.find_drop_ne _ hb
          | some ty => exact Table.find_put_ne _ _ hb
    case dropPoint =>
      rw [exec_dropPoint hl, State.judge_define_open (h := hsite), State.judge_accepted (by rw [decide_eq_true hn]; rfl)]
      exact ⟨_, rfl, rfl, Table.find_drop_self hwf.2.1 _, fun p hp => Table.find_drop_ne _ hp⟩
    case dropPad =>
      rw [exec_dropPad hl, State.judge_define_open (h := hsite), State.judge_accepted (by rw [decide_eq_true hn]; rfl)]
      exact ⟨_, rfl, rfl, Table.find_drop_self hwf.2.2.1 _, fun p hp => Table.find_drop_ne _ hp⟩
  case transporter =>
    have hexec : exec (.defineTransporter l tag [n, ah, al, bh, bl, ch, cl, dh, dl, eh, el]) s =
        .next (s.defineTransporter l tag n.toNat (num16 ah al) (num16 bh bl) (num16 ch cl) (num16 dh dl) (num16 eh el)) :=
      exec_ops_gives (act := State.onDefineTransporter) hl rfl rfl rfl
    dsimp only
    rw [hexec]
    refine ⟨fun hsite => congrArg _ ?_, fun hsite => congrArg _ ?_, fun hsite h => congrArg _ ?_, fun h hsite => ?_⟩
    · rw [State.defineTransporter]
      split <;> exact State.judge_define_survey (h := hsite) ..
    · rw [State.defineTransporter]
      split <;> exact State.judge_define_running (h := hsite) ..
    · simp only [State.defineTransporter, tid?_eq_none h]
      rw [State.judge_define_open (h := hsite)]
      exact State.judge_refused rfl
    · rw [State.defineTransporter_judged hsite l tag (tid?_eq_some h)]
      refine ⟨fun hno => by rw [if_neg hno], fun hok => ⟨_, by rw [if_pos hok], rfl, fun t ht => ?_, ?_⟩⟩
      · rw [State.tr_modTr, if_neg ht.symm]
      · exact State.tr_modTr_self ..

end Sys2Proof.Machine

/-! PROOFS. DEFINE_SECTION (R1, R2): its checks in their order, and the record it writes or removes. -/

namespace Sys2Proof.Machine

/-! ## The checks of R2 -/

theorem LinkField.isAbsent_iff (f : LinkField) : f.isAbsent = true ↔ f = ⟨0xFF, 0xFF⟩ := by
  obtain ⟨a, b⟩ := f
  simp [LinkField.isAbsent]

/-- Step 1 of R2. -/
theorem SectionFields.presentOk_iff (f : SectionFields) : f.presentOk = true ↔
    (f.kind = 0 → f.len2 = 65535 ∧ f.c = ⟨0xFF, 0xFF⟩) ∧ (f.kind = 1 → f.len2 ≠ 65535 ∧ f.c ≠ ⟨0xFF, 0xFF⟩) ∧
    (f.kind = 0 ∨ f.kind = 1 → f.a ≠ ⟨0xFF, 0xFF⟩ ∧ f.b ≠ ⟨0xFF, 0xFF⟩) := by
  simp only [SectionFields.presentOk, Bool.and_eq_true, Bool.or_eq_true, decide_eq_true_eq, Bool.not_eq_true',
    ← Bool.not_eq_true, LinkField.isAbsent_iff, and_assoc, ← not_or, ← imp_iff_not_or, ne_eq]

/-- Step 7 of R2. -/
theorem secOk_eq_false (l : List LinkField) :
    l.all LinkField.secOk = false ↔ ∃ k ∈ l, k.isBuffer = false ∧ 96 ≤ k.sec.toNat := by
  rw [List.all_eq_false]
  refine exists_congr fun k => and_congr_right fun _ => ?_
  rw [LinkField.secOk, Bool.or_eq_true, decide_eq_true_eq, not_or, Bool.not_eq_true]
  exact and_congr_right fun _ => Nat.not_lt

theorem endOf_isSome (b : Byte) : (endOf b).isSome = true ↔ ¬ 3 ≤ b.toNat := by
  revert b
  decide

/-- The last part of step 8: no two of the links that are not BUFFER are the same. -/
theorem distinctLinks_iff : ∀ l : List LinkField, distinctLinks l = true ↔ (l.filter fun k => !k.isBuffer).Nodup
  | [] => by simp [distinctLinks]
  | f :: r => by
    rw [distinctLinks, Bool.and_eq_true, distinctLinks_iff r]
    cases hf : f.isBuffer <;> simp [hf]

/-- Step 8 of R2. -/
theorem endOk_eq_false (n : Nat) (l : List LinkField) :
    (l.all (LinkField.endOk n) && distinctLinks l) = false ↔
      (∃ k ∈ l, k.isBuffer = false ∧ (3 ≤ k.e.toNat ∨ k.sec.toNat = n)) ∨ ¬ (l.filter fun k => !k.isBuffer).Nodup := by
  rw [Bool.and_eq_false_iff, ← Bool.not_eq_true (distinctLinks l), distinctLinks_iff]
  refine or_congr_left ?_
  rw [List.all_eq_false]
  refine exists_congr fun k => and_congr_right fun _ => ?_
  rw [LinkField.endOk, Bool.or_eq_true, Bool.and_eq_true, endOf_isSome, decide_eq_true_eq, not_or, Bool.not_eq_true,
    not_and_or, not_not, not_not]

theorem lengthOk_iff (n : Nat) : lengthOk n = true ↔ ¬ (n < 100 ∨ 65000 < n) := by
  simp [lengthOk]

/-- Step 4 of R2. -/
theorem lengths_eq_false (f : SectionFields) : (lengthOk f.len && (!f.isPoint || lengthOk f.len2)) = false ↔
    f.len < 100 ∨ 65000 < f.len ∨ f.kind = 1 ∧ (f.len2 < 100 ∨ 65000 < f.len2) := by
  rw [Bool.and_eq_false_iff, Bool.or_eq_false_iff, ← Bool.not_eq_true (lengthOk _), ← Bool.not_eq_true (lengthOk _),
    lengthOk_iff, lengthOk_iff, not_not, not_not, SectionFields.isPoint, or_assoc]
  simp

/-- The checks of R2 in their order. -/
theorem State.defineSection_judged {s : State} (h : s.site = .unconfigured) (l : OpsId) (tag : Byte) (f : SectionFields) :
    s.judge l tag 0x61 (s.defineOpen ++ f.checks) (fun s => s.putSection f) noData =
      if ¬ ((f.kind = 0 → f.len2 = 65535 ∧ f.c = ⟨0xFF, 0xFF⟩) ∧ (f.kind = 1 → f.len2 ≠ 65535 ∧ f.c ≠ ⟨0xFF, 0xFF⟩) ∧
          (f.kind = 0 ∨ f.kind = 1 → f.a ≠ ⟨0xFF, 0xFF⟩ ∧ f.b ≠ ⟨0xFF, 0xFF⟩)) then s.reply l tag 0x61 .frame []
      else if 96 ≤ f.id then s.reply l tag 0x61 .unknownId []
      else if f.kind ≠ 0 ∧ f.kind ≠ 1 then s.reply l tag 0x61 .range []
      else if f.len < 100 ∨ 65000 < f.len ∨ f.kind = 1 ∧ (f.len2 < 100 ∨ 65000 < f.len2) then
        s.reply l tag 0x61 .range []
      else if f.grade < -60 ∨ 60 < f.grade then s.reply l tag 0x61 .range []
      else if f.speed < 10 ∨ 300 < f.speed then s.reply l tag 0x61 .range []
      else if ∃ k ∈ f.links, k.isBuffer = false ∧ 96 ≤ k.sec.toNat then s.reply l tag 0x61 .unknownId []
      else if (∃ k ∈ f.links, k.isBuffer = false ∧ (3 ≤ k.e.toNat ∨ k.sec.toNat = f.id)) ∨
          ¬ (f.links.filter fun k => !k.isBuffer).Nodup then s.reply l tag 0x61 .range []
      else if 16 < f.group then s.reply l tag 0x61 .range []
      else if f.addr = 0 ∨ 48 < f.addr ∨ 3 < f.slot then s.reply l tag 0x61 .range []
      else (s.putSection f).reply l tag 0x61 .ok [] := by
  rw [State.judge_define_open (h := h), SectionFields.checks,
    State.judge_cons (by rw [← Bool.not_eq_true, f.presentOk_iff]), 
    State.judge_cons (p := 96 ≤ f.id) (by rw [decide_eq_false_iff_not]; exact Nat.not_lt),
    State.judge_cons (p := f.kind ≠ 0 ∧ f.kind ≠ 1) (by simp), State.judge_cons (lengths_eq_false f),
    State.judge_cons (p := f.grade < -60 ∨ 60 < f.grade) (by simp; omega),
    State.judge_cons (p := f.speed < 10 ∨ 300 < f.speed) (by simp; omega),
    State.judge_cons (secOk_eq_false _), State.judge_cons (endOk_eq_false _ _),
    State.judge_cons (p := 16 < f.group) (by rw [decide_eq_false_iff_not]; exact Nat.not_le),
    State.judge_cons (p := f.addr = 0 ∨ 48 < f.addr ∨ 3 < f.slot) 
      (by rw [decide_eq_false_iff_not]; change ¬ (1 ≤ f.addr ∧ f.addr ≤ 48 ∧ f.slot ≤ 3) ↔ _; omega), State.judge_nil]
  rfl

/-- Where the outcome is one of two by a condition, the refusal is read off, and the rest follows without it. -/
theorem reply_or {C : Prop} {d d' : Decidable C} {o : Host.Outcome State Fault Refusal} {a b : State} {Q : Prop}
    (h : o = .next (@ite _ C d a b)) (hrest : ¬ C → o = .next b → Q) : @ite _ C d' (o = .next a) Q := by
  by_cases hC : C
  · rw [if_pos hC] at h ⊢
    exact h
  · rw [if_neg hC] at h ⊢
    exact hrest hC h

/-! ## The two forms of the payload -/

section
variable {s : State} {l : OpsId} (hl : s.OpsReady l) (tag : Byte)
include hl

theorem exec_defineSection_full {p : List Byte} {f : SectionFields} (hp : parseSection p = some (.full f)) :
    exec (.defineSection l tag p) s =
      .next (s.judge l tag 0x61 (s.defineOpen ++ f.checks) (fun s => s.putSection f) noData) := by
  refine exec_ops_gives (act := State.onDefineSection) hl rfl rfl ?_
  simp only [State.onDefineSection, hp]
  rfl

theorem exec_defineSection_malformed {p : List Byte} (hp : parseSection p = none) :
    exec (.defineSection l tag p) s = .next (s.reply l tag 0x61 .frame []) := by
  refine exec_ops_gives (act := State.onDefineSection) hl rfl rfl ?_
  simp only [State.onDefineSection, hp]
  rfl

/-- The short payload. -/
theorem exec_defineSection_bare (n k : Byte) (hk : 2 ≤ k.toNat) :
    exec (.defineSection l tag [n, k]) s = .next (s.judge l tag 0x61
      (s.defineOpen ++ [(decide (n.toNat < 96), .unknownId), (decide (k = 2), .range)])
      (fun s => { s with sections := Table.drop s.sections n.toNat }) noData) := by
  have hkind : ¬ (k = 0 ∨ k = 1) := by rintro (rfl | rfl) <;> exact absurd hk (by decide)
  refine exec_ops_gives (act := State.onDefineSection) hl rfl rfl ?_
  simp only [State.onDefineSection, show parseSection [n, k] = some (.bare n.toNat k) from if_neg hkind]
  rfl

end

/-- Settles O32: the owner judges the form of the payload, the site state and the checks, and writes one record. -/
theorem defineSectionResult : Obligations.DefineSectionResult := by
  intro s l tag hl
  refine ⟨fun p f hp => ⟨fun hsite => ?_, fun hsite => ?_, fun hsite => ?full⟩,
    fun p hp => exec_defineSection_malformed hl tag hp, fun n k hsite hk => ?_, fun n k hk => ⟨fun hsite => ?_, fun hsite => ?_⟩,
    fun n hsite hwf => ⟨fun hn => ?_, fun hn => ?drop⟩⟩
  · rw [exec_defineSection_full hl tag hp, State.judge_define_survey (h := hsite)]
  · rw [exec_defineSection_full hl tag hp, State.judge_define_running (h := hsite)]
  case full =>
    have h := exec_defineSection_full hl tag hp
    rw [State.defineSection_judged hsite] at h
    refine reply_or h fun _ h => reply_or h fun _ h => reply_or h fun _ h => reply_or h fun _ h => reply_or h fun _ h =>
      reply_or h fun _ h => reply_or h fun _ h => reply_or h fun _ h => reply_or h fun _ h => reply_or h fun _ h => ?_
    refine ⟨_, h, rfl, (Table.find_put_self ..).trans ?_, fun m hm => Table.find_put_ne _ _ hm⟩
    by_cases hkind : f.kind = 1 <;> simp [SectionFields.defn, SectionFields.isPoint, hkind]
  · have hk2 : k ≠ 2 := by rintro rfl; exact absurd hk (by decide)
    rw [exec_defineSection_bare hl tag n k (by omega), State.judge_define_open (h := hsite)]
    by_cases hn : 96 ≤ n.toNat
    · rw [if_pos hn, State.judge_refused (r := .unknownId) (by rw [decide_eq_false (by omega)]; rfl)]
    · rw [if_neg hn, State.judge_refused (r := .range)
        (by rw [decide_eq_true (by omega), decide_eq_false hk2]; rfl)]
  · rw [exec_defineSection_bare hl tag n k hk, State.judge_define_survey (h := hsite)]
  · rw [exec_defineSection_bare hl tag n k hk, State.judge_define_running (h := hsite)]
  · rw [exec_defineSection_bare hl tag n 2 (by decide), State.judge_define_open (h := hsite),
      State.judge_refused (r := .unknownId) (by rw [decide_eq_false (by omega)]; rfl)]
  case drop =>
    rw [exec_defineSection_bare hl tag n 2 (by decide), State.judge_define_open (h := hsite),
      State.judge_accepted (by rw [decide_eq_true hn]; rfl)]
    exact ⟨_, rfl, rfl, Table.find_drop_self hwf.1 _, fun m hm => Table.find_drop_ne _ hm⟩

end Sys2Proof.Machine

/-! PROOFS. The ceilings of all transporters computed again (R98), the band and what its change does (R134), and SET_PARAM
(R188). -/

namespace Sys2Proof.Machine

/-! ## Ceilings computed again (R98) -/

/-- What the ceilings read is the same after they were computed again. -/
theorem State.Recomputed.sameForAuth {s u : State} (h : s.Recomputed u) (t : TId) : s.SameForAuth u t := by
  rw [h.only]
  exact ⟨rfl, rfl, fun _ => rfl, rfl, rfl, rfl⟩

/-- Ceilings computed again one after another. -/
theorem State.recomputeEach_spec : ∀ (us : List TId) (_ : us.Nodup) (s : State),
    let w := us.foldl (fun s t => s.recompute t) s
    w = { s with tls := w.tls, ceilings := w.ceilings } ∧ (∀ t, s.OnlyAuth w t) ∧
    ∀ t, if t ∈ us ∧ (s.tr t).state = .authorised ∧ s.ceilingNow t < s.ceilings[t] then w.AuthCurrent t
      else w.tl t = s.tl t ∧ w.ceilings[t] = s.ceilings[t]
  | [], _, s => ⟨rfl, fun _ => rfl, fun t => by rw [if_neg fun h => nomatch h.1]; exact ⟨rfl, rfl⟩⟩
  | u :: us, hnd, s => by
    obtain ⟨hu, hus⟩ := List.nodup_cons.mp hnd
    obtain ⟨wonly, wport, wcase⟩ := State.recomputeEach_spec us hus (s.recompute u)
    obtain ⟨ronly, rceil, rcase, rport, rothers⟩ := s.recompute_spec u
    rw [List.foldl_cons]
    generalize us.foldl (fun s t => s.recompute t) (s.recompute u) = w at wonly wport wcase
    have hsame : ∀ t, s.SameForAuth (s.recompute u) t := fun t => by
      rw [ronly]
      exact ⟨rfl, rfl, fun _ => rfl, rfl, rfl, rfl⟩
    refine ⟨by rw [wonly, ronly], fun t => ?_, fun t => ?_⟩
    · have hw : w.tl t = { (s.recompute u).tl t with auth := (w.tl t).auth } := wport t
      have hr : (s.recompute u).tl t = { s.tl t with auth := ((s.recompute u).tl t).auth } := by
        by_cases ht : t = u
        · exact ht ▸ rport
        · rw [(rothers t ht).2.2.1]
      rw [hr] at hw
      exact hw
    · have hcase := wcase t
      rw [(hsame t).tr, (hsame t).ceilingNow] at hcase
      by_cases ht : t = u
      · subst ht
        rw [if_neg fun h => hu h.1] at hcase
        by_cases hlow : (s.tr t).state = .authorised ∧ s.ceilingNow t < s.ceilings[t]
        · rw [if_pos hlow] at rcase
          rw [if_pos ⟨List.mem_cons_self .., hlow⟩]
          refine State.SameForAuth.authCurrent (s := s.recompute t) ?_ rcase (by rw [hcase.1]) hcase.2
          rw [wonly]
          exact ⟨rfl, rfl, fun _ => rfl, rfl, rfl, rfl⟩
        · rw [if_neg hlow] at rcase
          rw [if_neg fun h => hlow h.2]
          exact ⟨hcase.1.trans rcase.1, hcase.2.trans rcase.2⟩
      · obtain ⟨-, -, htl, hceil, -⟩ := rothers t ht
        have hmem : t ∈ u :: us ↔ t ∈ us := by simp [ht]
        rw [htl, hceil] at hcase
        simp only [hmem]
        exact hcase

theorem State.recomputeAll_recomputed (s : State) : s.Recomputed (s.forT fun t s => s.recompute t) := by
  obtain ⟨honly, hport, hcase⟩ := State.recomputeEach_spec allT (List.nodup_finRange 6) s
  refine ⟨honly, hport, fun t ha hlow => ?_, fun t hkept => ?_⟩
  · have h := hcase t
    rw [if_pos ⟨mem_allT t, ha, hlow⟩] at h
    exact h
  · have h := hcase t
    rw [if_neg fun ⟨_, ha, hlow⟩ => hkept.elim (· ha) fun hle => absurd hlow (Nat.not_lt.mpr hle)] at h
    exact h

/-- The band becomes b, and its change is handed on (R134). -/
theorem State.setBand_bandSet (s : State) (b : Band) : s.BandSet (s.setBand b) b := by
  unfold State.setBand
  refine ⟨fun h => if_pos h, fun h hhold => ?_, fun hn hc => ?_, fun h hhold hcrawl => ?_⟩
  · rw [if_neg h]
    dsimp only
    rw [if_pos hhold]
    exact evaluationActsByState _
  · subst hc
    rw [if_neg (by rw [hn]; exact nofun)]
    dsimp only
    rw [if_neg (by rw [hn]; exact fun h => h rfl), if_pos ⟨hn, rfl⟩]
    exact State.recomputeAll_recomputed _
  · rw [if_neg h]
    dsimp only
    rw [if_neg (not_not_intro hhold), if_neg hcrawl]

/-! ## The parameter table (R188) -/

/-- A table is its values. -/
theorem Params.ext_values {p q : Params} (h : p.values = q.values) : p = q := by
  cases p
  cases q
  simp only [Params.values, List.cons.injEq] at h
  simp [h]

/-- A value written is that value of the list. -/
theorem Params.values_write (p : Params) {code : Nat} (hlow : 1 ≤ code) (hhigh : code ≤ 19) (v : Nat) :
    (p.write code v).values = p.values.set (code - 1) v := by
  interval_cases code <;> rfl

/-- Written into a legal table, a value keeps it legal exactly when it lies in its range and in its order. -/
theorem Params.legal_write_iff {p : Params} (h : p.Legal) {code : Nat} (hlow : 1 ≤ code) (hhigh : code ≤ 19) (v : Nat) :
    (p.write code v).Legal ↔ paramInRange code v = true ∧ (p.write code v).ordered = true := by
  obtain ⟨⟨h1, h2, h3, h4, h5, h6⟩, ⟨h7, h8, h9⟩, ⟨h10, h11, h12, h13, h14, h15⟩, ⟨h16, h17, h18⟩,
    ⟨h19, h20, h21, h22, h23⟩, h24, ⟨h25, h26, h27⟩, h28⟩ := h
  simp only [List.mem_cons, List.not_mem_nil, or_false] at h24 h28
  interval_cases code <;>
    simp only [Params.Legal, Params.write, paramInRange, Params.ordered, decide_eq_true_eq, List.mem_cons,
      List.not_mem_nil, or_false] <;> omega

/-! ## Changed LINK_HOLD limits (R172) -/

theorem PortCore.rejudge_eq (q : Params) (c : PortCore) : c.rejudge q =
    if c.rxFlow = .go ∧ q.linkHoldUpper ≤ c.rx.length then
      { c with rxFlow := .hold, sinceHold := 0, flowByte := some .hold }
    else if c.rxFlow = .hold ∧ c.rx.length ≤ q.linkHoldLower then { c with rxFlow := .go, flowByte := some .go }
    else c := by
  obtain ⟨r, rx, flow, n, fb, tx, sent⟩ := c
  cases flow <;> simp [PortCore.rejudge, PortCore.flowDown, PortCore.orderFlow]

/-- Every port judges its count against the limits. -/
theorem State.rejudgePorts_spec (s : State) :
    (∀ t, s.rejudgePorts.tl t = { s.tl t with core := s.rejudgePorts.core (.tl t) }) ∧
    (∀ k, s.rejudgePorts.opsPort k = { s.opsPort k with core := s.rejudgePorts.core (.ops k) }) ∧
    ∀ p, s.rejudgePorts.core p = (s.core p).rejudge s.params := by
  have htl : ∀ t, s.rejudgePorts.tl t = { s.tl t with core := (s.tl t).core.rejudge s.params } := fun t => by
    simp [State.rejudgePorts, State.tl]
  have hops : ∀ k, s.rejudgePorts.opsPort k = { s.opsPort k with core := (s.opsPort k).core.rejudge s.params } :=
    fun k => by simp [State.rejudgePorts, State.opsPort]
  refine ⟨fun t => ?_, fun k => ?_, fun p => ?_⟩
  · rw [State.core, htl]
  · rw [State.core, hops]
  · cases p with
    | tl t => rw [State.core, htl]; rfl
    | ops k => rw [State.core, hops]; rfl

/-! ## SET_PARAM, judged -/

section
variable {s : State} {l : OpsId} {tag : Byte} {code idx v : Nat}

theorem State.setParam_unknown (h : paramKnown code idx = false) :
    s.setParam l tag code idx v = s.reply l tag 0x60 .unknownId [] :=
  State.judge_refused (by rw [h]; rfl)

theorem State.setParam_survey (h : paramKnown code idx = true) (hsite : s.site = .survey) :
    s.setParam l tag code idx v = s.reply l tag 0x60 .state [] :=
  State.judge_refused (by rw [h, hsite]; rfl)

theorem State.setParam_locked (h : paramKnown code idx = true) (hsite : s.site = .running)
    (hlock : writableRunning code = false) : s.setParam l tag code idx v = s.reply l tag 0x60 .configLocked [] :=
  State.judge_refused (by rw [h, hsite, hlock]; rfl)

/-- Past the checks of identity and state, the value is judged by its range and its order. -/
theorem State.setParam_open (h : paramKnown code idx = true) (hsite : s.site ≠ .survey)
    (hopen : ¬ (s.site = .running ∧ writableRunning code = false)) :
    s.setParam l tag code idx v =
      if paramInRange code v = true ∧ (s.params.write code v).ordered = true then
        (s.writeParam code idx v).reply l tag 0x60 .ok []
      else s.reply l tag 0x60 .range [] := by
  have hw : (decide (s.site ≠ .running) || writableRunning code) = true := by
    by_cases hrun : s.site = .running
    · rw [Bool.not_eq_false _ |>.mp fun hw => hopen ⟨hrun, hw⟩, Bool.or_true]
    · rw [decide_eq_true hrun, Bool.true_or]
  unfold State.setParam
  rw [h, decide_eq_true hsite, hw]
  cases hr : paramInRange code v with
  | false =>
    rw [if_neg fun h => Bool.noConfusion h.1]
    exact State.judge_refused rfl
  | true =>
    cases ho : (s.params.write code v).ordered with
    | false =>
      rw [if_neg fun h => Bool.noConfusion h.2]
      exact State.judge_refused rfl
    | true =>
      rw [if_pos ⟨rfl, rfl⟩]
      exact State.judge_accepted rfl

end

theorem paramKnown_eq_false {code idx : Nat} : paramKnown code idx = false ↔
    (code = 0 ∨ 21 ≤ code ∨ code ≠ 20 ∧ idx ≠ 0 ∨ code = 20 ∧ 8 ≤ idx) := by
  rw [paramKnown, decide_eq_false_iff_not]
  split <;> omega

theorem writableRunning_eq_false {code : Nat} (hhigh : code ≤ 20) : writableRunning code = false ↔
    ¬ (code = 5 ∨ 10 ≤ code ∧ code ≤ 14 ∨ 17 ≤ code) := by
  rw [writableRunning, decide_eq_false_iff_not]
  omega

/-- The mode of a code, and the code of a mode. -/
theorem stopModeOf_code (m : StopMode) : stopModeOf m.code = some m := by cases m <;> rfl

theorem StopMode.latching_iff (m : StopMode) : m.latching = true ↔ m = .latch ∨ m = .latchLevel := by
  cases m <;> simp [StopMode.latching]

theorem exec_setParam {s : State} {l : OpsId} (hl : s.OpsReady l) (tag code idx vh vl : Byte) :
    exec (.setParam l tag [code, idx, vh, vl]) s = .next (s.setParam l tag code.toNat idx.toNat (num16 vh vl)) :=
  exec_ops_gives (act := State.onSetParam) hl rfl rfl rfl

/-- The effect of a written parameter (R188). -/
theorem State.writeParam_param (s : State) {code idx v : Nat} {q : Params} (hq : s.params.write code v = q)
    (hhigh : code ≤ 19) :
    let u := s.writeParam code idx v
    (code ≠ 13 → code ≠ 17 → code ≠ 18 → u = { s with params := q }) ∧
    (code = 13 → u = { s with params := q, tls := u.tls, ceilings := u.ceilings } ∧
      ∀ t, s.OnlyAuth u t ∧
        if s.band = .caution ∧ (s.tr t).state = .authorised ∧ u.ceilingNow t < s.ceilings[t] then u.AuthCurrent t
        else u.tl t = s.tl t ∧ u.ceilings[t] = s.ceilings[t]) ∧
    (code = 17 ∨ code = 18 → u = ({ s with params := q } : State).rejudgePorts) := by
  subst hq
  refine ⟨fun h13 h17 h18 => ?_, fun h13 => ?_, fun h => ?_⟩
  · unfold State.writeParam
    dsimp only
    rw [if_neg h13, if_neg (by omega), if_neg (by omega)]
  · subst h13
    have hrec := State.recomputeAll_recomputed { s with params := s.params.write 13 v }
    by_cases hband : s.band = .caution
    · have hw : s.writeParam 13 idx v =
          ({ s with params := s.params.write 13 v } : State).forT fun t s => s.recompute t := if_pos hband
      rw [hw]
      refine ⟨hrec.only, fun t => ⟨hrec.port t, ?_⟩⟩
      rw [(hrec.sameForAuth t).ceilingNow]
      split_ifs with hlow
      · exact hrec.lowered t hlow.2.1 hlow.2.2
      · refine hrec.kept t ?_
        by_cases ha : (s.tr t).state = .authorised
        · exact .inr (Nat.not_lt.mp fun hlt => hlow ⟨hband, ha, hlt⟩)
        · exact .inl ha
    · have hw : s.writeParam 13 idx v = { s with params := s.params.write 13 v } := if_neg hband
      rw [hw]
      exact ⟨rfl, fun t => ⟨rfl, by rw [if_neg fun h => hband h.1]; exact ⟨rfl, rfl⟩⟩⟩
  · unfold State.writeParam
    dsimp only
    rw [if_neg (by omega), if_pos h]

/-- Settles O31: the checks of R188 in their order, and the effect of the value written. -/
theorem setParamResult : Obligations.SetParamResult := by
  refine ⟨fun s l tag code idx vh vl q hl hp => ⟨fun h => ?unknown, fun hlow hhigh hidx hq => ?param⟩,
    fun s l tag n vh vl m hl hp hm h => ⟨fun hsite => ?_, fun hsite => ?mode⟩,
    fun s l tag n vh vl hl hp hn hv hsite => ?badMode⟩
  case unknown =>
    rw [exec_setParam hl, State.setParam_unknown]
    refine paramKnown_eq_false.mpr (h.imp_right (.imp_right (.imp_left (.imp_right fun h0 h0' => h0 ?_))))
    exact BitVec.eq_of_toNat_eq h0'
  case param =>
    have hwrite : s.params.write code.toNat (num16 vh vl) = q :=
      Params.ext_values ((s.params.values_write hlow hhigh _).trans hq.symm)
    have hknown : paramKnown code.toNat idx.toNat = true := by
      rw [← Bool.not_eq_false, paramKnown_eq_false, hidx]
      change ¬ (_ ∨ _ ∨ _ ∧ (0 : Nat) ≠ 0 ∨ _)
      omega
    have hlocked := writableRunning_eq_false (code := code.toNat) (by omega)
    have hlegal := Params.legal_write_iff hp hlow hhigh (num16 vh vl)
    rw [exec_setParam hl]
    refine ⟨fun hsite => ?_, fun hlock => ?_, fun hsite hopen hbad => ?_, fun hsite hopen hok => ?_⟩
    · rw [State.setParam_survey hknown hsite]
    · rw [State.setParam_locked hknown hlock.1 (hlocked.mpr hlock.2)]
    · rw [State.setParam_open hknown hsite fun h => hopen ⟨h.1, hlocked.mp h.2⟩, if_neg]
      rw [← hlegal, hwrite]
      exact hbad
    · rw [State.setParam_open hknown hsite fun h => hopen ⟨h.1, hlocked.mp h.2⟩, if_pos (hlegal.mp (hwrite ▸ hok))]
      obtain ⟨hrest, hcrawl, hhold⟩ := s.writeParam_param (idx := idx.toNat) hwrite hhigh
      refine ⟨_, rfl, hrest, hcrawl, fun h => ?_⟩
      obtain ⟨htl, hops, hcore⟩ := State.rejudgePorts_spec { s with params := q }
      rw [hhold h]
      exact ⟨rfl, htl, hops, fun p => (hcore p).trans (PortCore.rejudge_eq ..)⟩
  · have hknown : paramKnown 20 n.toNat = true := by
      rw [← Bool.not_eq_false, paramKnown_eq_false]
      omega
    exact (exec_setParam hl ..).trans (congrArg _ (State.setParam_survey hknown hsite))
  case mode =>
    have hknown : paramKnown 20 n.toNat = true := by
      rw [← Bool.not_eq_false, paramKnown_eq_false]
      omega
    have hset : s.writeParam 20 n.toNat m.code = s.setMode ⟨n.toNat, h⟩ m := by
      unfold State.writeParam
      rw [if_neg (by decide), if_neg (by decide), if_pos rfl, stopModeOf_code, show line? n.toNat = some ⟨n.toNat, h⟩ from dif_pos h]
      rfl
    have hrange : paramInRange 20 m.code = true ∧ (s.params.write 20 m.code).ordered = true :=
      ⟨by cases m <;> rfl, decide_eq_true ⟨hp.2.2.2.1.1, hp.2.2.2.1.2.1, hp.2.2.2.2.2.2.1.2.2⟩⟩
    refine ⟨s.setMode ⟨n.toNat, h⟩ m, s.latchAfterMode s.lines[n.toNat] m, ?_, ?_, ?_⟩
    · refine (exec_setParam hl ..).trans (congrArg _ ?_)
      change s.setParam l tag 20 n.toNat (num16 vh vl) = _
      rw [hm, State.setParam_open hknown hsite fun h => Bool.noConfusion h.2, if_pos hrange, hset]
    · exact s.changeLine_lineChanged ⟨n.toNat, h⟩ (fun x => { x with mode := m, latch := s.latchAfterMode x m }) .mode
    · dsimp only
      rw [State.latchAfterMode, ← StopMode.latching_iff, ← StopMode.latching_iff]
      cases m.latching <;> cases s.lines[n.toNat].mode.latching <;> simp
  case badMode =>
    have hknown : paramKnown 20 n.toNat = true := by
      rw [← Bool.not_eq_false, paramKnown_eq_false]
      omega
    refine (exec_setParam hl ..).trans (congrArg _ ?_)
    change s.setParam l tag 20 n.toNat (num16 vh vl) = _
    rw [State.setParam_open hknown hsite fun h => Bool.noConfusion h.2, if_neg]
    intro h
    exact absurd (of_decide_eq_true h.1) (Nat.not_le.mpr hv)

end Sys2Proof.Machine

/-! PROOFS. Choosing the next exchange (R163, R164): the poll that the state calls for, and the commands of the queue. -/

namespace Sys2Proof.Machine

/-! ## The next address of a rising list -/

/-- The first address at or after a, where there is one. -/
theorem find_from_spec {l : List Nat} (hl : l.Pairwise (· < ·)) {a b : Nat}
    (h : (l.find? fun b => decide (a ≤ b)) = some b) : b ∈ l ∧ a ≤ b ∧ ∀ c ∈ l, a ≤ c → b ≤ c := by
  induction l with
  | nil => simp at h
  | cons x l ih =>
    obtain ⟨hx, hl⟩ := List.pairwise_cons.mp hl
    by_cases hax : a ≤ x
    · rw [List.find?_cons_of_pos (by simpa using hax)] at h
      obtain rfl := Option.some.inj h
      refine ⟨List.mem_cons_self .., hax, fun c hc _ => ?_⟩
      rcases List.mem_cons.mp hc with rfl | hc
      · exact le_rfl
      · exact (hx c hc).le
    · rw [List.find?_cons_of_neg (by simpa using hax)] at h
      obtain ⟨hb, hab, hleast⟩ := ih hl h
      refine ⟨List.mem_cons_of_mem _ hb, hab, fun c hc hac => ?_⟩
      rcases List.mem_cons.mp hc with rfl | hc
      · exact absurd hac hax
      · exact hleast c hc hac

/-- The next address at or after a wraps to the lowest. -/
theorem nextFrom_spec {l : List Nat} (hl : l.Pairwise (· < ·)) (hne : l ≠ []) (a : Nat) :
    ∃ b ∈ l, nextFrom l a = some b ∧
      (a ≤ b ∧ (∀ c ∈ l, a ≤ c → b ≤ c) ∨ (∀ c ∈ l, c < a) ∧ ∀ c ∈ l, b ≤ c) := by
  unfold nextFrom
  cases hf : l.find? fun b => decide (a ≤ b) with
  | some b =>
    obtain ⟨hb, hab, hleast⟩ := find_from_spec hl hf
    exact ⟨b, hb, rfl, .inl ⟨hab, hleast⟩⟩
  | none =>
    have hbelow : ∀ c ∈ l, c < a := fun c hc =>
      Nat.not_le.mp fun h => List.find?_eq_none.mp hf c hc (decide_eq_true h)
    cases l with
    | nil => exact absurd rfl hne
    | cons x l =>
      refine ⟨x, List.mem_cons_self .., rfl, .inr ⟨hbelow, fun c hc => ?_⟩⟩
      rcases List.mem_cons.mp hc with rfl | hc
      · exact le_rfl
      · exact ((List.pairwise_cons.mp hl).1 c hc).le

theorem nextFrom_nil (a : Nat) : nextFrom [] a = none := rfl

/-- The addresses polls take rise. -/
theorem State.pollList_pairwise {s : State} (h : Table.wf s.units = true) : s.pollList.Pairwise (· < ·) :=
  ((Table.wf_iff _).mp h).sublist (List.filter_sublist.map _)

/-! ## Choosing a poll (R164) -/

theorem State.choosePoll_pollChosen {s : State} (h : Table.wf s.units = true) : s.PollChosen s.choosePoll := by
  have hrise := State.pollList_pairwise h
  refine ⟨fun a r hr => ?_, fun hr hl => ?_, fun hr hl => ?_⟩
  · simp only [State.choosePoll, hr]
    rw [← hr]
    rfl
  · simp only [State.choosePoll, hr, hl, nextFrom_nil]
  · obtain ⟨a, ha, hfrom, hnext⟩ := nextFrom_spec hrise hl (s.pollPos.getD 0)
    obtain ⟨c, hc, hfrom', hnext'⟩ := nextFrom_spec hrise hl (a + 1)
    have hchosen : s.choosePoll = { s with
        exchange := some (s.request a .poll), forced := 0, pollPos := some c } := by
      simp only [State.choosePoll, hr, hfrom, hfrom']
      rw [← hr]
      rfl
    refine ⟨a, ha, hnext, by rw [hchosen], c, hc, by rw [hchosen], ?_⟩
    exact hnext'.imp_right fun ⟨hbelow, hleast⟩ => ⟨fun b hb => Nat.lt_succ_iff.mp (hbelow b hb), hleast⟩

/-! ## The pad commands offered again at an exit keep the number of commands queued and waiting -/

/-- An offer made again touches the queue, the waiters and the marks of owners alone. -/
theorem State.reofferOne_cases (s : State) (r : Requester) :
    s.reofferOne r = s ∨ ∃ c, s.PadOffers r c ∧ s.PadRoom c ∧
      s.reofferOne r = { s with
        cmdQueue := s.cmdQueue ++ [c], padWaiters := s.padWaiters.filter fun w => decide (w ≠ r)
        transfers := (s.reofferOne r).transfers, pads := (s.reofferOne r).pads } := by
  have h := s.reofferOne_spec r
  by_cases hc : ∃ c, s.PadOffers r c ∧ s.PadRoom c
  · obtain ⟨c, ho, hr⟩ := hc
    exact .inr ⟨c, ho, hr, (h.1 c ho hr).1⟩
  · exact .inl (h.2 fun c ho hr => hc ⟨c, ho, hr⟩)

/-- What an exit may change, and what it adds to the queue: pad commands alone. -/
structure State.ExitFrame (s u : State) : Prop where
  only : u = { s with
    cmdQueue := u.cmdQueue, padWaiters := u.padWaiters, transfers := u.transfers, pads := u.pads, walkDue := u.walkDue }
  queue : ∃ more, u.cmdQueue = s.cmdQueue ++ more ∧ ∀ c ∈ more, c.func = .clamp ∨ c.func = .unclamp

theorem State.ExitFrame.refl (s : State) : s.ExitFrame s := ⟨rfl, [], by simp, nofun⟩

theorem State.ExitFrame.trans {s m u : State} (h : s.ExitFrame m) (h' : m.ExitFrame u) : s.ExitFrame u := by
  obtain ⟨more, hq, hmore⟩ := h.queue
  obtain ⟨more', hq', hmore'⟩ := h'.queue
  exact ⟨by rw [h'.only, h.only], more ++ more', by rw [hq', hq, List.append_assoc], fun c hc =>
    (List.mem_append.mp hc).elim (hmore c) (hmore' c)⟩

theorem State.reofferOne_exitFrame (s : State) (r : Requester) : s.ExitFrame (s.reofferOne r) := by
  rcases s.reofferOne_cases r with h | ⟨c, ho, -, h⟩
  · rw [h]
    exact .refl s
  · rw [h]
    exact ⟨rfl, [c], rfl, fun d hd => List.mem_singleton.mp hd ▸ ho.func⟩

theorem State.reofferAll_exitFrame : ∀ (rs : List Requester) (s : State),
    s.ExitFrame (rs.foldl (fun s r => s.reofferOne r) s)
  | [], s => .refl s
  | r :: rs, s => (s.reofferOne_exitFrame r).trans (State.reofferAll_exitFrame rs _)

theorem State.commandExit_exitFrame (s : State) : s.ExitFrame s.commandExit := by
  have h := State.reofferAll_exitFrame s.padWaiters s
  unfold State.commandExit
  dsimp only
  generalize s.padWaiters.foldl (fun s r => s.reofferOne r) s = m at h
  split
  · refine h.trans ⟨rfl, [], by simp [State.trigger], nofun⟩
  · exact h

/-- The number of requesters still to be offered again that do not wait any more. -/
def notWaiting (ws rs : List Requester) : Nat := (rs.filter fun r => decide (r ∉ ws)).length

theorem notWaiting_le_cons (ws : List Requester) (r : Requester) (rs : List Requester) :
    notWaiting ws rs ≤ notWaiting ws (r :: rs) :=
  ((List.sublist_cons_self r rs).filter _).length_le

/-- Where r waits no more, at most its own places among those to be offered again are new ones. -/
theorem notWaiting_filter_le (ws : List Requester) (r : Requester) : ∀ rs : List Requester,
    notWaiting (ws.filter fun w => decide (w ≠ r)) rs ≤ notWaiting ws rs + rs.count r
  | [] => Nat.le_refl _
  | x :: rs => by
    have ih := notWaiting_filter_le ws r rs
    unfold notWaiting at ih ⊢
    by_cases hx : x = r
    · subst hx
      by_cases hm : x ∈ ws <;> simp [hm] at ih ⊢ <;> omega
    · by_cases hm : x ∈ ws <;> simp [hm, hx] at ih ⊢ <;> omega

theorem length_filter_ne_add_count (ws : List Requester) (r : Requester) :
    (ws.filter fun w => decide (w ≠ r)).length + ws.count r = ws.length := by
  induction ws with
  | nil => rfl
  | cons x ws ih => by_cases hx : x = r <;> simp [hx] at ih ⊢ <;> omega

/-- Offering the waiters again one after another does not raise the number of commands queued and waiting: each entry of
the queue takes the place of an entry of the list that it went through. -/
theorem State.reofferAll_count : ∀ (rs : List Requester) (s : State), (∀ r ∈ s.padWaiters, rs.count r ≤ s.padWaiters.count r) →
    let u := rs.foldl (fun s r => s.reofferOne r) s
    u.cmdQueue.length + u.padWaiters.length ≤ s.cmdQueue.length + s.padWaiters.length + notWaiting s.padWaiters rs
  | [], s, _ => Nat.le_add_right ..
  | r :: rs, s, hcount => by
    have hrs : ∀ x, rs.count x ≤ (r :: rs).count x := fun x => List.count_le_count_cons
    rw [List.foldl_cons]
    rcases s.reofferOne_cases r with h | ⟨c, -, -, h⟩
    · rw [h]
      have ih := State.reofferAll_count rs s fun x hx => (hrs x).trans (hcount x hx)
      exact ih.trans (Nat.add_le_add_left (notWaiting_le_cons ..) _)
    · generalize s.reofferOne r = m at h
      have hq : m.cmdQueue.length = s.cmdQueue.length + 1 := by rw [h, List.length_append]; rfl
      have hw : m.padWaiters = s.padWaiters.filter fun w => decide (w ≠ r) := by rw [h]
      have ih := State.reofferAll_count rs m fun x hx => by
        rw [hw] at hx ⊢
        obtain ⟨hx, hxr⟩ := List.mem_filter.mp hx
        rw [List.count_filter (p := fun w => decide (w ≠ r)) hxr]
        exact (hrs x).trans (hcount x hx)
      have hlen : m.padWaiters.length + s.padWaiters.count r = s.padWaiters.length := by
        rw [hw]
        exact length_filter_ne_add_count ..
      have hnot : notWaiting m.padWaiters rs ≤ notWaiting s.padWaiters rs + rs.count r := by
        rw [hw]
        exact notWaiting_filter_le ..
      dsimp only at ih
      by_cases hr : r ∈ s.padWaiters
      · have hc := hcount r hr
        rw [List.count_cons_self] at hc
        have hcons := notWaiting_le_cons s.padWaiters r rs
        omega
      · have h0 : s.padWaiters.count r = 0 := List.count_eq_zero.mpr hr
        have hsame : m.padWaiters = s.padWaiters := by
          rw [hw]
          exact List.filter_eq_self.mpr fun w hw' => decide_eq_true fun hwr => hr (hwr ▸ hw')
        have hcons : notWaiting s.padWaiters (r :: rs) = notWaiting s.padWaiters rs + 1 := by
          simp [notWaiting, hr]
        rw [hsame] at ih hlen
        rw [hcons]
        omega

/-- An exit keeps the number of commands queued and waiting, or lowers it. -/
theorem State.commandExit_count (s : State) :
    s.commandExit.cmdQueue.length + s.commandExit.padWaiters.length ≤ s.cmdQueue.length + s.padWaiters.length := by
  have h := State.reofferAll_count s.padWaiters s fun _ _ => le_rfl
  have h0 : notWaiting s.padWaiters s.padWaiters = 0 := by simp [notWaiting]
  unfold State.commandExit
  dsimp only at h ⊢
  generalize s.padWaiters.foldl (fun s r => s.reofferOne r) s = m at h
  rw [h0] at h
  split <;> exact h

/-! ## The three ways of a choice (R163) -/

/-- The commands that are queued or wait for room bound the discards of one choice. -/
def State.load (s : State) : Nat := s.cmdQueue.length + s.padWaiters.length

theorem State.load_commandExit (s : State) : s.commandExit.trigger.load ≤ s.load := s.commandExit_count

/-- Beyond what it needs, fuel makes no difference. -/
theorem chooseFrom_fuel : ∀ (n m : Nat) (s : State), s.load < n → s.load < m → chooseFrom n s = chooseFrom m s
  | 0, _, _, hn, _ => absurd hn (Nat.not_lt_zero _)
  | _, 0, _, _, hm => absurd hm (Nat.not_lt_zero _)
  | n + 1, m + 1, s, hn, hm => by
    rw [chooseFrom, chooseFrom]
    by_cases hf : s.forced ≥ Config.forcedPollAt
    · rw [if_pos hf, if_pos hf]
    rw [if_neg hf, if_neg hf]
    cases hq : s.cmdQueue with
    | nil => rfl
    | cons c rest =>
      dsimp only
      by_cases hd : c.func.blade.isSome = true ∧ s.sendTest c = false
      · rw [if_pos hd, if_pos hd]
        have hload : ({ s with cmdQueue := rest } : State).load + 1 = s.load := by
          simp only [State.load, hq, List.length_cons]
          omega
        have hexit := ({ s with cmdQueue := rest } : State).load_commandExit
        exact chooseFrom_fuel n m _ (by omega) (by omega)
      · rw [if_neg hd, if_neg hd]

/-- A poll is chosen after four commands, or with none queued. -/
theorem State.chooseNext_poll {s : State} (h : 4 ≤ s.forced ∨ s.cmdQueue = []) : s.chooseNext = s.choosePoll := by
  rw [State.chooseNext, chooseFrom]
  rcases h with h | h
  · exact if_pos h
  · rw [h, ite_self]

/-- A pad command, or a throw that may be sent, is sent. -/
theorem State.chooseNext_sent {s : State} {c : BusCmd} {rest : List BusCmd} (hf : s.forced < 4)
    (hq : s.cmdQueue = c :: rest) (h : ¬ (c.func.blade.isSome = true ∧ s.sendTest c = false)) :
    s.chooseNext = ({ ({ s with cmdQueue := rest } : State).commandExit.tellSent c with
      forced := s.forced + 1 } : State).startExchange c.addr c.func := by
  rw [State.chooseNext, chooseFrom, if_neg (show ¬ s.forced ≥ Config.forcedPollAt from Nat.not_le.mpr hf)]
  simp only [hq]
  rw [if_neg h]

/-- A throw that may not be sent is discarded, and the choice begins again. -/
theorem State.chooseNext_discard {s : State} {c : BusCmd} {rest : List BusCmd} (hf : s.forced < 4)
    (hq : s.cmdQueue = c :: rest) (h : c.func.blade.isSome = true ∧ s.sendTest c = false) :
    s.chooseNext = ({ s with cmdQueue := rest } : State).commandExit.trigger.chooseNext := by
  have hload : ({ s with cmdQueue := rest } : State).load + 1 = s.load := by
    simp only [State.load, hq, List.length_cons]
    omega
  have hexit := ({ s with cmdQueue := rest } : State).load_commandExit
  rw [State.chooseNext, chooseFrom, if_neg (show ¬ s.forced ≥ Config.forcedPollAt from Nat.not_le.mpr hf)]
  simp only [hq]
  rw [if_pos h]
  exact chooseFrom_fuel _ _ _ (by rw [← hq]; change _ < s.load; omega) (Nat.lt_succ_self _)

/-! ## The send test (R28) -/

theorem State.sendTest_iff (s : State) (c : BusCmd) : s.sendTest c = true ↔ s.MaySend c := by
  unfold State.sendTest State.MaySend
  cases hy : s.point? c.entity with
  | none => simp
  | some y =>
    cases hz : s.sec? y.sec with
    | none => simp [hz]
    | some z =>
      cases hh : z.hold with
      | none => simp [hz, hh, and_assoc]
      | some h => simp [hz, hh, and_assoc]

/-- The send test reads the points and the sections alone. -/
theorem State.sendTest_congr {s t : State} (hp : t.points = s.points) (hs : t.sections = s.sections) (c : BusCmd) :
    t.sendTest c = s.sendTest c := by
  simp only [State.sendTest, State.point?, State.sec?, hp, hs]

theorem BusFunc.blade_isSome {f : BusFunc} : f.blade.isSome = true ↔ f.blade ≠ none := Option.isSome_iff_ne_none

theorem BusFunc.blade_of_pad {f : BusFunc} (h : f = .clamp ∨ f = .unclamp) : f.blade = none := by
  rcases h with rfl | rfl <;> rfl

/-! ## Telling the owner (R163) -/

/-- A throw that is sent moves its point. -/
theorem State.point_throwSent (s : State) {c : BusCmd} {b : Blade} (hb : c.func.blade = some b) (p : Nat) :
    (s.throwSent c).point? p = if p = c.entity then (s.point? p).map fun y =>
      { y with cmd := some b, pos := .moving, throwCd := some (.load s.params.throwTime), mover := some c.req }
    else s.point? p := by
  simp only [State.throwSent, hb]
  by_cases hp : p = c.entity
  · subst hp
    rw [if_pos rfl]
    exact Table.find_adjust_self ..
  · rw [if_neg hp]
    exact Table.find_adjust_ne _ _ hp

/-- What telling the owner of a command changes. -/
theorem State.tellSent_only (s : State) (c : BusCmd) : s.tellSent c = { s with
    points := (s.tellSent c).points, transfers := (s.tellSent c).transfers, pads := (s.tellSent c).pads } := by
  unfold State.tellSent State.throwSent
  split
  · split <;> rfl
  · split <;> rfl
  · rfl
  · rfl

/-- The command at the front is sent: the count, the request and the owner. -/
theorem State.sent_tellSent (s : State) {c : BusCmd} :
    s.Sent (({ s.tellSent c with forced := s.forced + 1 } : State).startExchange c.addr c.func) c := by
  have honly := s.tellSent_only c
  refine ⟨?_, fun b hb hreq => ?_, fun hpad => ?_⟩
  · rw [honly]
    rfl
  · have htell : s.tellSent c = s.throwSent c := by
      rcases hreq with h | ⟨t, h⟩ <;> rw [State.tellSent, h]
    rw [htell]
    refine ⟨?_, ?_, fun p => s.point_throwSent hb p⟩
    · simp only [State.throwSent, hb]
      rfl
    · simp only [State.throwSent, hb]
      rfl
  · have hthrow : s.throwSent c = s := by simp only [State.throwSent, BusFunc.blade_of_pad hpad]
    refine ⟨?_, fun t ht => ?_, fun n hn => ?_⟩
    · cases hreq : c.req <;> simp only [State.tellSent, hreq, hthrow] <;> rfl
    · simp only [State.tellSent, ht]
      refine ⟨rfl, fun v => ?_⟩
      by_cases hv : v = t
      · subst hv
        rw [if_pos rfl]
        exact upd_get_self ..
      · rw [if_neg hv]
        exact upd_get_ne _ _ _ _ (Ne.symm hv)
    · simp only [State.tellSent, hn]
      refine ⟨rfl, fun q => ?_⟩
      by_cases hq : q = n
      · subst hq
        rw [if_pos rfl]
        exact Table.find_adjust_self ..
      · rw [if_neg hq]
        exact Table.find_adjust_ne _ _ hq

end Sys2Proof.Machine

/-! PROOFS. The exchanges of the field bus: requests and replies (R157, R158, R160, R182), the survey (R166), and the choice
of the next exchange (R163). -/

namespace Sys2Proof.Machine

/-! ## Notices posted one after another -/

theorem State.postAll_only : ∀ (bs : List NoticeBody) (s : State),
    bs.foldl State.post s = { s with opss := (bs.foldl State.post s).opss }
  | [], _ => rfl
  | b :: bs, s => by
    rw [List.foldl_cons, State.postAll_only bs]
    rfl

theorem State.postAll_told : ∀ (bs : List NoticeBody) (s : State), s.Told (bs.foldl State.post s) bs
  | [], _ => fun _ => rfl
  | b :: bs, s => fun k => by
    rw [List.foldl_cons, List.foldl_cons, State.postAll_told bs (s.post b) k, State.opsPort_post]
    rfl

/-- Telling nothing. -/
theorem State.told_nil {s t : State} (h : t.opss = s.opss) : s.Told t [] := fun k => by
  rw [State.opsPort, h]
  rfl

/-- Telling more. -/
theorem State.Told.trans {s m t : State} {bs cs : List NoticeBody} (h : s.Told m bs) (hc : m.clock = s.clock)
    (h' : m.Told t cs) : s.Told t (bs ++ cs) := fun k => by
  rw [h' k, h k, hc, List.foldl_append]

theorem State.told_post (s : State) (b : NoticeBody) : s.Told (s.post b) [b] := fun k => State.opsPort_post s k b

/-! ## Characters on the bus (R158, R182) -/

theorem busLow_ofNat (gap b : Nat) (d : Bool) : busLow ⟨gap, BitVec.ofNat 9 b, d⟩ = b % 256 := by
  simp [busLow, BitVec.toNat_ofNat]

theorem busNinth_ofNat (gap b : Nat) (d : Bool) (h : b < 512) : busNinth ⟨gap, BitVec.ofNat 9 b, d⟩ = decide (256 ≤ b) := by
  simp [busNinth, BitVec.msb_eq_decide, Nat.mod_eq_of_lt h]

/-- A reply as it is sent is judged good (R158). -/
theorem replyGood_replyChars {x : Exchange} {typ : UnitType} {rs : List Nat} {gap : Nat} (ha : x.addr ≤ 48)
    (hrs : ∀ r ∈ rs, r < 256) (hlen : rs.length + 3 = typ.replyLength) (hgap : gap ≤ 1000 * x.window) :
    replyGood x typ (replyChars x.addr typ rs gap) = true := by
  have hcode : typ.code < 256 := by cases typ <;> decide
  have hchk : (256 - (x.addr + typ.code + rs.sum) % 256) % 256 < 256 := Nat.mod_lt _ (by decide)
  have hlength : (replyChars x.addr typ rs gap).length = typ.replyLength := by simp [replyChars]; omega
  have htake : (replyChars x.addr typ rs gap).take typ.replyLength = replyChars x.addr typ rs gap := by
    rw [← hlength, List.take_length]
  have hsmall : ∀ r ∈ rs ++ [(256 - (x.addr + typ.code + rs.sum) % 256) % 256], r < 256 := fun r hr =>
    (List.mem_append.mp hr).elim (hrs r) fun h => List.mem_singleton.mp h ▸ hchk
  unfold replyGood
  rw [htake, hlength]
  simp only [Bool.and_eq_true, decide_eq_true_eq, le_refl, true_and]
  refine ⟨⟨?_, ?_⟩, ?_⟩
  · rw [List.all_eq_true]
    intro c hc
    rcases List.mem_cons.mp hc with rfl | hc
    · exact decide_eq_true hgap
    · obtain ⟨b, -, rfl⟩ := List.mem_map.mp hc
      exact decide_eq_true hgap
  · change (busNinth _ && decide (busLow _ = x.addr) && !busNinth _ && decide (busLow _ = typ.code) && List.all _ _) = true
    rw [busNinth_ofNat _ _ _ (by omega), busLow_ofNat, busNinth_ofNat _ _ _ (by omega), busLow_ofNat,
      decide_eq_true (by omega), decide_eq_true (by omega), decide_eq_false (by omega),
      decide_eq_true (Nat.mod_eq_of_lt hcode)]
    rw [Bool.and_eq_true, List.all_eq_true]
    refine ⟨rfl, fun c hc => ?_⟩
    obtain ⟨b, hb, rfl⟩ := List.mem_map.mp hc
    have := hsmall b hb
    rw [busNinth_ofNat _ _ _ (by omega), decide_eq_false (by omega)]
    rfl
  · have hlow : (replyChars x.addr typ rs gap).map busLow =
        x.addr :: typ.code :: (rs ++ [(256 - (x.addr + typ.code + rs.sum) % 256) % 256]) := by
      simp only [replyChars, List.map_cons, List.map_map, List.cons_append]
      rw [busLow_ofNat, busLow_ofNat, Nat.mod_eq_of_lt hcode, show (256 + x.addr) % 256 = x.addr by omega]
      congr 2
      refine (List.map_congr_left fun b hb => ?_).trans (List.map_id _)
      exact (busLow_ofNat ..).trans (Nat.mod_eq_of_lt (hsmall b hb))
    rw [hlow, List.sum_cons, List.sum_cons, List.sum_append, List.sum_singleton]
    omega

/-- The readings of a reply as it is sent. -/
theorem replyReadings_replyChars {a : Nat} {typ : UnitType} {rs : List Nat} {gap : Nat} (hrs : ∀ r ∈ rs, r < 256)
    (hlen : rs.length + 3 = typ.replyLength) : replyReadings typ (replyChars a typ rs gap) = rs := by
  rw [replyReadings, ← hlen, show rs.length + 3 - 1 = rs.length + 1 + 1 by omega]
  simp only [replyChars, List.cons_append, List.map_cons, List.take_succ_cons, List.drop_succ_cons, List.drop_zero,
    List.map_append]
  rw [List.take_append_of_le_length (by simp), List.take_of_length_le (by simp), List.map_map]
  refine (List.map_congr_left fun b hb => ?_).trans (List.map_id _)
  exact (busLow_ofNat ..).trans (Nat.mod_eq_of_lt (hrs b hb))

/-- A reply's characters come after the release of FDE. -/
theorem replyChars_driven {a : Nat} {typ : UnitType} {rs : List Nat} {gap : Nat} :
    ∀ c ∈ replyChars a typ rs gap, c.driven = false := by
  intro c hc
  rcases List.mem_cons.mp hc with rfl | hc
  · rfl
  · obtain ⟨b, -, rfl⟩ := List.mem_map.mp hc
    rfl

theorem replyChars_ne_nil (a : Nat) (typ : UnitType) (rs : List Nat) (gap : Nat) : replyChars a typ rs gap ≠ [] := by simp [replyChars]

/-- The characters after FDE's release decide. -/
theorem State.busReply_late (s : State) {early late : List BusChar} (he : ∀ c ∈ early, c.driven = true)
    (hl : ∀ c ∈ late, c.driven = false) (hne : late ≠ []) : s.busReply (early ++ late) = s.windowReply late := by
  obtain ⟨c, late', rfl⟩ := List.exists_cons_of_ne_nil hne
  have hall : (early ++ c :: late').all BusChar.driven = false := by
    rw [List.all_eq_false]
    exact ⟨c, by simp, by rw [hl c (List.mem_cons_self ..)]; exact Bool.noConfusion⟩
  rw [State.busReply, hall, Bool.and_false, if_neg Bool.false_ne_true, List.filter_append,
    List.filter_eq_nil_iff.mpr fun c hc => by simp [he c hc], List.nil_append,
    List.filter_eq_self.mpr fun c hc => by simp [hl c hc]]

theorem State.busReply_early (s : State) {early : List BusChar} (he : ∀ c ∈ early, c.driven = true) (hne : early ≠ []) :
    s.busReply early = s := by
  obtain ⟨c, early', rfl⟩ := List.exists_cons_of_ne_nil hne
  rw [State.busReply, List.all_eq_true.mpr he]
  rfl

/-! ## A good reply (R160) -/

theorem exec_goodReply_live {s : State} (h : s.resetHold = none) (cs : List BusChar) :
    exec (.fieldbusGoodReply cs) s = .next (s.busReply cs) := by
  change execFieldbusGoodReply cs s = _
  rw [execFieldbusGoodReply, State.live_eq h]

theorem State.unit_modUnit_self {s : State} {a : Nat} {v : UnitRec} (h : s.unit? a = some v) (f : UnitRec → UnitRec) :
    (s.modUnit a f).unit? a = some (f v) := (Table.find_adjust_self ..).trans (congrArg (Option.map f) h)

theorem State.unit_modUnit_ne (s : State) {a b : Nat} (h : b ≠ a) (f : UnitRec → UnitRec) :
    (s.modUnit a f).unit? b = s.unit? b := Table.find_adjust_ne _ _ h

/-- The unit's record after a good reply: the count cleared, and a RESTORING unit back (R160 steps 1 and 2). -/
structure State.UnitHeard (s w : State) (a : Nat) (v : UnitRec) : Prop where
  only : w = { s with
    units := w.units, opss := w.opss
    restoreList := if v.st = .restoring then s.restoreList.filter (fun b => decide (b ≠ a)) else s.restoreList }
  unit : w.unit? a = some ⟨v.typ, if v.st = .restoring then .active else v.st, 0,
    if v.st = .restoring then false else v.restorePending, v.surveyed⟩
  units : ∀ b, b ≠ a → w.unit? b = s.unit? b
  told : s.Told w (if v.st = .restoring then [.unitBack a v.typ] else [])
  keys : Table.keys w.units = Table.keys s.units

theorem State.unitBack_heard {s : State} {a : Nat} {v : UnitRec} (hv : s.unit? a = some v) :
    s.UnitHeard ((s.modUnit a fun u => { u with retries := 0 }).unitBack a v) a v := by
  have hself := State.unit_modUnit_self hv fun u => { u with retries := 0 }
  unfold State.unitBack
  by_cases hr : v.st = .restoring
  · simp only [if_pos hr]
    refine ⟨by rw [if_pos hr]; rfl, ?_, fun b hb => ?_, fun k => ?_, ?_⟩
    · exact (State.unit_modUnit_self hself _).trans (by rw [if_pos hr, if_pos hr])
    · exact (State.unit_modUnit_ne _ hb _).trans (State.unit_modUnit_ne _ hb _)
    · rw [if_pos hr]
      exact State.opsPort_post ..
    · exact (Table.keys_adjust ..).trans (Table.keys_adjust ..)
  · simp only [if_neg hr]
    refine ⟨by rw [if_neg hr]; rfl, hself.trans (by rw [if_neg hr, if_neg hr]), fun b hb => State.unit_modUnit_ne _ hb _,
      by rw [if_neg hr]; exact State.told_nil rfl, Table.keys_adjust ..⟩

/-- A good reply that is awaited (R160): the unit is heard, its readings delivered, the unit surveyed, the next exchange
chosen. -/
theorem exec_goodReply {s : State} {a gap : Nat} {v : UnitRec} {rs : List Nat} (h : s.AwaitsReply a v rs gap) :
    ∃ w, s.UnitHeard w a v ∧ exec (.fieldbusGoodReply (replyChars a v.typ rs gap)) s =
      .next (((w.deliver a v.typ rs).markSurveyed a).chooseNext) := by
  obtain ⟨hlive, hv, ha, hlen, hrs, x, hx, rfl, hgap⟩ := h
  refine ⟨_, State.unitBack_heard hv, ?_⟩
  have hlate := s.busReply_late (early := []) (fun _ hc => (List.not_mem_nil hc).elim) (replyChars_driven (a := x.addr) (typ := v.typ)
    (rs := rs) (gap := gap)) (replyChars_ne_nil _ _ _ _)
  rw [exec_goodReply_live hlive, ← List.nil_append (replyChars ..), hlate]
  simp only [State.windowReply, hx, hv]
  rw [if_pos (replyGood_replyChars ha hrs hlen hgap), State.goodReply, replyReadings_replyChars hrs hlen]

/-! ## The survey (R166) -/

/-- A record that stands in a table in its canonical form is found. -/
theorem Table.find_of_mem {α : Type} {t : Table α} (h : Table.wf t = true) {k : Nat} {v : α} (hm : (k, v) ∈ t) :
    Table.find t k = some v := by
  induction t with
  | nil => exact nomatch hm
  | cons p r ih =>
    obtain ⟨j, w⟩ := p
    have hpair := List.pairwise_cons.mp ((Table.wf_iff _).mp h)
    rcases List.mem_cons.mp hm with heq | hm
    · obtain ⟨rfl, rfl⟩ := Prod.mk.inj heq
      exact if_pos rfl
    · have hlt : j < k := hpair.1 k (List.mem_map_of_mem (f := (·.1)) hm)
      rw [Table.find, if_neg hlt.ne]
      exact ih ((Table.wf_iff _).mpr hpair.2) hm

theorem Table.mem_iff_find {α : Type} {t : Table α} (h : Table.wf t = true) {k : Nat} {v : α} :
    (k, v) ∈ t ↔ Table.find t k = some v := ⟨Table.find_of_mem h, Table.mem_of_find⟩

/-- Changing one record changes no other key. -/
theorem Table.head_key_adjust {α : Type} (t : Table α) (k : Nat) (f : α → α) :
    (Table.adjust t k f).head?.map (·.1) = t.head?.map (·.1) := by
  rw [← List.head?_map, ← List.head?_map]
  exact congrArg List.head? (Table.keys_adjust t k f)

/-- Every unit is surveyed. -/
theorem State.unsurveyed_eq_zero {s : State} (h : Table.wf s.units = true) :
    s.unsurveyed = 0 ↔ ∀ b x, s.unit? b = some x → x.surveyed = true := by
  rw [State.unsurveyed, List.length_eq_zero_iff, List.filter_eq_nil_iff]
  constructor
  · intro hall b x hx
    simpa using hall _ (Table.mem_of_find hx)
  · rintro hall ⟨b, x⟩ hm
    simpa using hall b x (Table.find_of_mem h hm)

/-- Entering RUNNING tells the stopped zones in turn (R127). -/
theorem State.tellZones_eq : ∀ (ns : List (Fin 8)) (s : State),
    ns.foldl (fun s n => if s.zoneStopped n then s.post (.zoneStop n.val s.lines[n].mode s.lines[n].asserted) else s) s =
      ((ns.filter s.zoneStopped).map fun n => NoticeBody.zoneStop n.val s.lines[n].mode s.lines[n].asserted).foldl
        State.post s
  | [], _ => rfl
  | n :: ns, s => by
    rw [List.foldl_cons]
    by_cases hz : s.zoneStopped n = true
    · rw [if_pos hz, State.tellZones_eq ns, List.filter_cons_of_pos hz, List.map_cons, List.foldl_cons]
      rfl
    · rw [if_neg hz, State.tellZones_eq ns, List.filter_cons_of_neg hz]

/-- The latches after entry into RUNNING (R127). -/
theorem State.enterRunning_spec (s : State) (hrun : s.site = .running) :
    s.enterRunning = { s with lines := s.enterRunning.lines, opss := s.enterRunning.opss } ∧
    (∀ n : Fin 8, s.enterRunning.lines[n] = { s.lines[n] with
      latch := s.lines[n].latch || decide ((s.lines[n].mode = .latch ∨ s.lines[n].mode = .latchLevel) ∧
        s.lines[n].asserted = true) }) ∧
    s.Told s.enterRunning (((List.finRange 8).filter fun n => s.enterRunning.lines[n].stopped).map fun n =>
      .zoneStop n.val s.enterRunning.lines[n].mode s.enterRunning.lines[n].asserted) := by
  let s1 : State := { s with lines := s.lines.map fun x => { x with latch := x.latch || (x.mode.latching && x.asserted) } }
  have hall := State.tellZones_eq (List.finRange 8) s1
  have honly := State.postAll_only (((List.finRange 8).filter s1.zoneStopped).map fun n =>
    NoticeBody.zoneStop n.val s1.lines[n].mode s1.lines[n].asserted) s1
  have htold := State.postAll_told (((List.finRange 8).filter s1.zoneStopped).map fun n =>
    NoticeBody.zoneStop n.val s1.lines[n].mode s1.lines[n].asserted) s1
  have henter : s.enterRunning = _ := hall
  rw [← henter] at honly htold
  have hlines : s.enterRunning.lines = s1.lines := by rw [honly]
  have hzone : s1.zoneStopped = fun n => s1.lines[n].stopped := funext fun n => State.zoneStopped_running (s := s1) hrun n
  refine ⟨by rw [honly], fun n => ?_, ?_⟩
  · rw [hlines]
    have hline : s1.lines[n] = { s.lines[n] with
        latch := s.lines[n].latch || (s.lines[n].mode.latching && s.lines[n].asserted) } := by simp [s1]
    rw [hline]
    cases s.lines[n].mode <;> simp [StopMode.latching]
  · rw [hlines, ← hzone]
    exact htold

/-- The survey of a unit, in every site state (R166). -/
theorem State.markSurveyed_spec {s : State} {a : Nat} {v : UnitRec} (hwf : Table.wf s.units = true)
    (hv : s.unit? a = some v) :
    let u := s.markSurveyed a
    (s.site ≠ .survey → u = s) ∧
    (s.site = .survey → u.unit? a = some { v with surveyed := true } ∧ (∀ b, b ≠ a → u.unit? b = s.unit? b) ∧
      ((∃ b x, b ≠ a ∧ s.unit? b = some x ∧ x.surveyed = false) → u = { s with units := u.units }) ∧
      ((∀ b x, b ≠ a → s.unit? b = some x → x.surveyed = true) →
        u = { s with units := u.units, site := .running, pollPos := s.units.head?.map (·.1), lines := u.lines
                     opss := u.opss } ∧
        (∀ n : Fin 8, let x := s.lines[n]
          u.lines[n] = { x with latch := x.latch || decide ((x.mode = .latch ∨ x.mode = .latchLevel) ∧ x.asserted = true) }) ∧
        s.Told u (.siteChanged .running .survey :: ((List.finRange 8).filter fun n => u.lines[n].stopped).map fun n =>
          .zoneStop n.val u.lines[n].mode u.lines[n].asserted))) := by
  obtain ⟨s1, hs1⟩ : ∃ s1, s1 = s.modUnit a fun u => { u with surveyed := true } := ⟨_, rfl⟩
  obtain ⟨s2, hs2⟩ : ∃ s2, s2 = ({ s1 with site := .running, pollPos := s1.lowestUnit } : State).post
    (.siteChanged .running .survey) := ⟨_, rfl⟩
  have honly1 : s1 = { s with units := s1.units } := by rw [hs1]; rfl
  have hunits : s1.units = Table.adjust s.units a fun u => { u with surveyed := true } := by rw [hs1]; rfl
  have hself : s1.unit? a = some { v with surveyed := true } := hs1 ▸ State.unit_modUnit_self hv _
  have hne : ∀ b, b ≠ a → s1.unit? b = s.unit? b := fun b hb => hs1 ▸ s.unit_modUnit_ne hb _
  have hmark : s.site = .survey → s.markSurveyed a = if s1.unsurveyed = 0 then s2.enterRunning else s1 := by
    intro hsite
    rw [hs2, hs1]
    exact if_neg (not_not_intro hsite)
  have hcount : s1.unsurveyed = 0 ↔ ∀ b x, b ≠ a → s.unit? b = some x → x.surveyed = true := by
    rw [State.unsurveyed_eq_zero (by rw [hunits]; exact (Table.wf_adjust ..).trans hwf)]
    refine ⟨fun h b x hb hx => h b x ((hne b hb).trans hx), fun h b x hx => ?_⟩
    by_cases hb : b = a
    · subst hb
      rw [← Option.some.inj (hself.symm.trans hx)]
    · exact h b x hb ((hne b hb).symm.trans hx)
  have hpoll : s1.lowestUnit = s.units.head?.map (·.1) := by
    rw [State.lowestUnit, hunits]
    exact Table.head_key_adjust ..
  have honly2 : s2 = { s with units := s1.units, site := .running, pollPos := s.units.head?.map (·.1), opss := s2.opss } := by
    rw [hs2, hpoll, honly1]
    rfl
  have htold2 : s.Told s2 [.siteChanged .running .survey] := by
    rw [hs2, honly1]
    exact fun k => State.opsPort_post ..
  obtain ⟨honly, hlines, htold⟩ := s2.enterRunning_spec (by rw [honly2])
  have hunits2 : s2.enterRunning.units = s1.units := by rw [honly, honly2]
  have hlines2 : s2.lines = s.lines := by rw [honly2]
  refine ⟨fun h => if_pos h, fun hsite => ?_⟩
  rw [hmark hsite]
  by_cases hall : s1.unsurveyed = 0
  · rw [if_pos hall]
    generalize s2.enterRunning = e at honly hlines htold hunits2 ⊢
    refine ⟨?_, fun b hb => ?_, fun ⟨b, x, hb, hx, hno⟩ => ?_, fun _ => ⟨?_, hlines2 ▸ hlines, ?_⟩⟩
    · rw [State.unit?, hunits2]
      exact hself
    · rw [State.unit?, hunits2]
      exact hne b hb
    · exact absurd (hcount.mp hall b x hb hx) (by rw [hno]; exact Bool.noConfusion)
    · rw [hunits2]
      rw [honly2] at honly
      exact honly
    · exact htold2.trans (by rw [honly2]) htold
  · rw [if_neg hall]
    exact ⟨hself, hne, fun _ => honly1, fun h => absurd (hcount.mpr h) hall⟩

end Sys2Proof.Machine

/-! PROOFS. The exchanges of the bus together: what a choice sends, and O54. -/

namespace Sys2Proof.Machine

/-- A poll that is chosen is a poll. -/
theorem State.choosePoll_exchange (s : State) {x : Exchange} (h : s.choosePoll.exchange = some x) : x.func = .poll := by
  unfold State.choosePoll at h
  split at h
  · obtain rfl := Option.some.inj h
    rfl
  · split at h
    · obtain rfl := Option.some.inj h
      rfl
    · exact nomatch h

/-- A throw on the bus was queued and passed its send test, and its point moves. -/
theorem State.chooseNext_throw (s : State) {x : Exchange} {b : Blade} (hx : s.chooseNext.exchange = some x)
    (hb : x.func.blade = some b) :
    ∃ c ∈ s.cmdQueue, c.addr = x.addr ∧ c.func = x.func ∧ s.MaySend c ∧
      (c.req = .ops ∨ (∃ t, c.req = .tr t) → s.chooseNext.point? c.entity = (s.point? c.entity).map fun y => { y with
        cmd := some b, pos := .moving, throwCd := some (.load s.params.throwTime), mover := some c.req }) := by
  by_cases hpoll : 4 ≤ s.forced ∨ s.cmdQueue = []
  · rw [State.chooseNext_poll hpoll] at hx
    rw [s.choosePoll_exchange hx] at hb
    exact nomatch hb
  obtain ⟨hf, hne⟩ := not_or.mp hpoll
  obtain ⟨c, rest, hq⟩ := List.exists_cons_of_ne_nil hne
  have hf : s.forced < 4 := Nat.not_le.mp hf
  have hexit := ({ s with cmdQueue := rest } : State).commandExit_exitFrame
  have hcount := ({ s with cmdQueue := rest } : State).load_commandExit
  by_cases hd : c.func.blade.isSome = true ∧ s.sendTest c = false
  · rw [State.chooseNext_discard hf hq hd] at hx ⊢
    have hload : ({ s with cmdQueue := rest } : State).load + 1 = s.load := by
      simp only [State.load, hq, List.length_cons]
      omega
    have hless : ({ s with cmdQueue := rest } : State).commandExit.trigger.load < s.load := by omega
    obtain ⟨d, hd, haddr, hfunc, hmay, hpoint⟩ := State.chooseNext_throw _ hx hb
    obtain ⟨more, hmore, hpad⟩ := hexit.queue
    have hpoints : ({ s with cmdQueue := rest } : State).commandExit.trigger.points = s.points := by
      change State.points (State.commandExit _) = _
      rw [hexit.only]
    have hsecs : ({ s with cmdQueue := rest } : State).commandExit.trigger.sections = s.sections := by
      change State.sections (State.commandExit _) = _
      rw [hexit.only]
    have hparams : ({ s with cmdQueue := rest } : State).commandExit.trigger.params = s.params := by
      change State.params (State.commandExit _) = _
      rw [hexit.only]
    have hold : d ∈ rest := by
      have hdq : d ∈ ({ s with cmdQueue := rest } : State).commandExit.cmdQueue := hd
      rw [hmore] at hdq
      refine (List.mem_append.mp hdq).resolve_right fun hm => ?_
      rw [← hfunc, BusFunc.blade_of_pad (hpad d hm)] at hb
      exact nomatch hb
    refine ⟨d, by rw [hq]; exact List.mem_cons_of_mem _ hold, haddr, hfunc, ?_, fun hreq => ?_⟩
    · rw [← State.sendTest_iff] at hmay ⊢
      rwa [State.sendTest_congr hpoints hsecs] at hmay
    · rw [hpoint hreq, State.point?, State.point?, hpoints, hparams]
  · rw [State.chooseNext_sent hf hq hd] at hx ⊢
    obtain rfl := Option.some.inj hx
    refine ⟨c, by rw [hq]; exact List.mem_cons_self .., rfl, rfl, ?_, fun hreq => ?_⟩
    · rw [← State.sendTest_iff, ← Bool.not_eq_false]
      exact fun h => hd ⟨by rw [show c.func.blade = some b from hb]; rfl, h⟩
    · have hthrow := ((State.sent_tellSent ({ s with cmdQueue := rest } : State).commandExit).throw b hb hreq).2.2 c.entity
      have hsent := ((State.sent_tellSent ({ s with cmdQueue := rest } : State).commandExit (c := c)).throw b hb hreq).2.2
        c.entity
      have hpoints : ({ s with cmdQueue := rest } : State).commandExit.point? c.entity = s.point? c.entity := by
        rw [State.point?, hexit.only]
        rfl
      have hparams : ({ s with cmdQueue := rest } : State).commandExit.params = s.params := by rw [hexit.only]
      rw [if_pos rfl, hpoints, hparams] at hsent
      exact hsent
termination_by s.load

/-- The characters of a request (R157, R182). -/
theorem State.request_chars (s : State) {a : Nat} {f : BusFunc} (ha : 1 ≤ a) (ha' : a ≤ 48) :
    ∃ k : Nat, k < 256 ∧ (a + f.code + k) % 256 = 0 ∧
      s.request a f = ⟨a, f, [BitVec.ofNat 9 (256 + a), BitVec.ofNat 9 f.code, BitVec.ofNat 9 k],
        s.params.replyWindow, s.params.driverLead, true⟩ :=
  ⟨(512 - (a + f.code) % 256) % 256, by omega, by omega, by
    rw [State.request, requestChars, Nat.mod_eq_of_lt (by omega : a < 256)]⟩

/-- Settles O54, from the lemmas about the reply's characters, the survey and the choice. -/
theorem nextExchange : Obligations.NextExchange := by
  refine ⟨fun s a f ha ha' => s.request_chars ha ha', fun s early late hlive he hl hne => ⟨?_, ?_⟩,
    fun s a gap v rs h hwf => ?_, fun s a v hwf hv => ?_, fun s hwf h => ?_, fun s c rest hf hq hpad => ?_,
    fun s c rest hf hq => ?_, fun s x b hx hb => s.chooseNext_throw hx hb⟩
  · rintro rfl
    rw [exec_goodReply_live hlive, State.busReply_early s he hne]
  · intro hlate
    have hnone := s.busReply_late (early := []) (fun _ hc => (List.not_mem_nil hc).elim) hl hlate
    rw [List.nil_append] at hnone
    rw [exec_goodReply_live hlive, exec_goodReply_live hlive, s.busReply_late he hl hlate, hnone]
  · obtain ⟨w, hheard, hexec⟩ := exec_goodReply h
    exact ⟨w, hexec, hheard.only, hheard.unit, hheard.units, hheard.told⟩
  · obtain ⟨-, -, -, hunits, -⟩ := hwf
    exact State.markSurveyed_spec hunits hv
  · rw [State.chooseNext_poll h]
    obtain ⟨-, -, -, hunits, -⟩ := hwf
    exact State.choosePoll_pollChosen hunits
  · have hsent : ¬ (c.func.blade.isSome = true ∧ s.sendTest c = false) := fun h => by
      rw [BusFunc.blade_of_pad hpad] at h
      exact nomatch h.1
    obtain ⟨more, hmore, -⟩ := ({ s with cmdQueue := rest } : State).commandExit_exitFrame.queue
    have honly := ({ s with cmdQueue := rest } : State).commandExit_exitFrame.only
    rw [State.chooseNext_sent hf hq hsent]
    refine ⟨?_, rfl, more, ?_⟩
    · rw [State.tellSent_only, honly]
      rfl
    · rw [State.tellSent_only]
      exact hmore
  · refine ⟨_, ({ s with cmdQueue := rest } : State).commandExit_spec, fun h => ?_, fun hb hno => ?_⟩
    · have hsent : ¬ (c.func.blade.isSome = true ∧ s.sendTest c = false) := by
        rintro ⟨hblade, htest⟩
        rcases h with h | h | ⟨-, h⟩
        · exact absurd (BusFunc.blade_of_pad (.inl h)) (BusFunc.blade_isSome.mp hblade)
        · exact absurd (BusFunc.blade_of_pad (.inr h)) (BusFunc.blade_isSome.mp hblade)
        · rw [← State.sendTest_iff, htest] at h
          exact Bool.noConfusion h
      have hforced : ({ s with cmdQueue := rest } : State).commandExit.forced = s.forced := by
        rw [({ s with cmdQueue := rest } : State).commandExit_exitFrame.only]
      have hspec := State.sent_tellSent ({ s with cmdQueue := rest } : State).commandExit (c := c)
      rw [hforced] at hspec
      rw [State.chooseNext_sent hf hq hsent]
      exact hspec
    · rw [← State.sendTest_iff, Bool.not_eq_true] at hno
      exact State.chooseNext_discard hf hq ⟨BusFunc.blade_isSome.mpr hb, hno⟩

end Sys2Proof.Machine

/-! PROOFS. What a choice of the next exchange leaves unchanged (R163), and RESTORE_UNIT (R165). -/

namespace Sys2Proof.Machine

/-! ## The frame of a choice -/

/-- What a choice of the next exchange may change. -/
abbrev State.ChoiceFrame (s u : State) : Prop :=
  u = { s with
    cmdQueue := u.cmdQueue, padWaiters := u.padWaiters, transfers := u.transfers, pads := u.pads, walkDue := u.walkDue
    points := u.points, forced := u.forced, exchange := u.exchange, pollPos := u.pollPos }

theorem State.ChoiceFrame.trans {s m u : State} (h : s.ChoiceFrame m) (h' : m.ChoiceFrame u) : s.ChoiceFrame u := by
  unfold State.ChoiceFrame at h h' ⊢
  rw [h', h]

theorem State.choosePoll_frame (s : State) : s.ChoiceFrame s.choosePoll := by
  unfold State.choosePoll
  split
  · rfl
  · split <;> rfl

/-- The choice touches what it sends, what leaves the queue, and the count and place of the polls. -/
theorem State.chooseNext_frame (s : State) : s.ChoiceFrame s.chooseNext := by
  by_cases hpoll : 4 ≤ s.forced ∨ s.cmdQueue = []
  · rw [State.chooseNext_poll hpoll]
    exact s.choosePoll_frame
  obtain ⟨hf, hne⟩ := not_or.mp hpoll
  obtain ⟨c, rest, hq⟩ := List.exists_cons_of_ne_nil hne
  have hf : s.forced < 4 := Nat.not_le.mp hf
  have honly := ({ s with cmdQueue := rest } : State).commandExit_exitFrame.only
  have hexit : s.ChoiceFrame ({ s with cmdQueue := rest } : State).commandExit.trigger := by
    unfold State.ChoiceFrame State.trigger
    rw [honly]
  by_cases hd : c.func.blade.isSome = true ∧ s.sendTest c = false
  · have hload : ({ s with cmdQueue := rest } : State).load + 1 = s.load := by
      simp only [State.load, hq, List.length_cons]
      omega
    have hcount := ({ s with cmdQueue := rest } : State).load_commandExit
    rw [State.chooseNext_discard hf hq hd]
    exact hexit.trans (State.chooseNext_frame _)
  · rw [State.chooseNext_sent hf hq hd]
    unfold State.ChoiceFrame
    rw [State.tellSent_only, honly]
    rfl
termination_by s.load
decreasing_by omega

/-- With a unit to restore the bus has an exchange (R164). -/
theorem State.chooseNext_restoring (s : State) (h : s.restoreList ≠ []) : s.chooseNext.exchange ≠ none := by
  by_cases hpoll : 4 ≤ s.forced ∨ s.cmdQueue = []
  · obtain ⟨a, r, hr⟩ := List.exists_cons_of_ne_nil h
    rw [State.chooseNext_poll hpoll, State.choosePoll, hr]
    exact Option.some_ne_none _
  obtain ⟨hf, hne⟩ := not_or.mp hpoll
  obtain ⟨c, rest, hq⟩ := List.exists_cons_of_ne_nil hne
  have hf : s.forced < 4 := Nat.not_le.mp hf
  by_cases hd : c.func.blade.isSome = true ∧ s.sendTest c = false
  · have hload : ({ s with cmdQueue := rest } : State).load + 1 = s.load := by
      simp only [State.load, hq, List.length_cons]
      omega
    have hcount := ({ s with cmdQueue := rest } : State).load_commandExit
    rw [State.chooseNext_discard hf hq hd]
    refine State.chooseNext_restoring _ ?_
    change (State.commandExit _).restoreList ≠ []
    rwa [({ s with cmdQueue := rest } : State).commandExit_exitFrame.only]
  · rw [State.chooseNext_sent hf hq hd]
    exact Option.some_ne_none _
termination_by s.load
decreasing_by omega

/-! ## A unit that joins the restore list (R165) -/

/-- The state in which the unit at a has joined the restore list. -/
def State.listed (s : State) (a : Nat) : State :=
  { s.modUnit a fun u => { u with st := .restoring, retries := 0, restorePending := true } with
    restoreList := s.restoreList ++ [a] }

theorem State.restore_listed {s : State} {a : Nat} {x : UnitRec} (hx : s.unit? a = some x)
    (hp : x.restorePending = false) :
    s.restore a = if s.exchange = none then (s.listed a).chooseNext else s.listed a := by
  simp only [State.restore, hx, hp, Bool.false_eq_true, if_false, Option.isNone_iff_eq_none]
  rfl

theorem State.restore_pending {s : State} {a : Nat} {x : UnitRec} (hx : s.unit? a = some x)
    (hp : x.restorePending = true) : s.restore a = s := by
  simp only [State.restore, hx, hp, if_true]

/-- The oldest unit of the restore list is polled first (R164). -/
theorem State.choosePoll_restoring {s : State} {a : Nat} {r : List Nat} (hr : s.restoreList = a :: r) :
    s.choosePoll = { s with exchange := some (s.request a .poll), forced := 0 } := by
  simp only [State.choosePoll, hr]
  rw [← hr]
  rfl

/-- Where nothing else waits, the choice polls the unit just listed. -/
theorem State.chooseNext_listed {s : State} {a : Nat} (hq : s.cmdQueue = []) (hr : s.restoreList = []) :
    (s.listed a).chooseNext = { s.listed a with exchange := some (s.request a .poll), forced := 0 } := by
  have hlist : (s.listed a).restoreList = [a] := by rw [State.listed, hr]; rfl
  rw [State.chooseNext_poll (s := s.listed a) (.inr hq)]
  exact State.choosePoll_restoring hlist

/-- RESTORE_UNIT, judged in RUNNING for a unit that is defined. -/
theorem State.restoreUnit_judged {s : State} (hrun : s.site = .running) {a : Nat} {x : UnitRec} (ha : 1 ≤ a ∧ a ≤ 48)
    (hx : s.unit? a = some x) (l : OpsId) (tag : Byte) :
    s.restoreUnit l tag a =
      if x.st = .active then s.reply l tag 0x59 .state [] else (s.restore a).reply l tag 0x59 .ok [] := by
  have hmatch : (if 1 ≤ a ∧ a ≤ Config.maxAddress then s.unit? a else none) = some x := (if_pos ha).trans hx
  simp only [State.restoreUnit, hmatch]
  rw [State.judge_running hrun, State.judge_cons (p := x.st = .active) (by simp), State.judge_nil]
  rfl

theorem State.restoreUnit_unknown {s : State} (hrun : s.site = .running) {a : Nat}
    (ha : a = 0 ∨ 49 ≤ a ∨ s.unit? a = none) (l : OpsId) (tag : Byte) :
    s.restoreUnit l tag a = s.reply l tag 0x59 .unknownId [] := by
  have hmatch : (if 1 ≤ a ∧ a ≤ Config.maxAddress then s.unit? a else none) = none := by
    rcases ha with h | h | h
    · exact if_neg (by omega)
    · exact if_neg (by change ¬ (_ ∧ a ≤ 48); omega)
    · rw [h, ite_self]
  simp only [State.restoreUnit, hmatch]
  exact State.judge_unknownId hrun ..

/-- Settles O27, by what RESTORE_UNIT does to the unit's record and the frame of the choice. -/
theorem restoreUnitResult : Obligations.RestoreUnitResult := by
  intro s l tag a hl hrun
  have hgives : ∀ u : State, s.restoreUnit l tag a.toNat = u → exec (.restoreUnit l tag [a]) s = .next u := fun u h =>
    exec_ops_gives (act := State.onRestoreUnit) hl rfl rfl h
  refine ⟨fun ha => hgives _ (State.restoreUnit_unknown hrun ha l tag), fun x hlow hhigh hx => ?_⟩
  have hjudged := State.restoreUnit_judged hrun ⟨hlow, hhigh⟩ hx l tag
  refine ⟨fun hact => hgives _ (hjudged.trans (if_pos hact)), fun hact hp => ?_, fun hact hp => ?_⟩
  · exact hgives _ (by rw [hjudged, if_neg hact, State.restore_pending hx hp])
  · have hframe := (s.listed a.toNat).chooseNext_frame
    have hself : (s.listed a.toNat).unit? a.toNat = some { x with st := .restoring, retries := 0, restorePending := true } :=
      State.unit_modUnit_self hx _
    have hne : ∀ b, b ≠ a.toNat → (s.listed a.toNat).unit? b = s.unit? b := fun b hb => State.unit_modUnit_ne _ hb _
    refine ⟨s.restore a.toNat, hgives _ (by rw [hjudged, if_neg hact]), ?_⟩
    rw [State.restore_listed hx hp]
    by_cases hex : s.exchange = none
    · rw [if_pos hex]
      have hunits : (s.listed a.toNat).chooseNext.units = (s.listed a.toNat).units := by rw [hframe]
      refine ⟨?_, fun b hb => ?_, by rw [hframe]; rfl, ?_, fun h => absurd hex h, fun _ hq hr => ?_⟩
      · rw [State.unit?, hunits]
        exact hself
      · rw [State.unit?, hunits]
        exact hne b hb
      · exact State.chooseNext_restoring _ (List.append_ne_nil_of_right_ne_nil _ (List.cons_ne_nil _ _))
      · rw [State.chooseNext_listed hq hr]
        exact ⟨rfl, rfl⟩
    · rw [if_neg hex]
      exact ⟨hself, hne, rfl, hex, fun _ => rfl, fun h => absurd h hex⟩

end Sys2Proof.Machine

/-! PROOFS. The runtime state that COMMIT and CONFIGURE clear (R185, R186), and CONFIGURE. -/

namespace Sys2Proof.Machine

/-- The two commands clear the runtime state alike. -/
theorem State.clearRun_cleared (s : State) (x : SiteState) : s.RunCleared (s.setSite x).clearRun where
  sections := Table.find_mapAll s.sections fun y => ⟨y.defn, .unknown, s.clock, none⟩
  points := Table.find_mapAll s.points fun y => .fresh y.sec y.addr
  pads := Table.find_mapAll s.pads fun y => .fresh y.sec y.stop y.tol y.addr
  units := Table.find_mapAll s.units fun y => .fresh y.typ
  transporters t := by simp [State.tr, State.clearRun, State.setSite, State.post, Transporter.offline]
  routes t := by simp [State.route, State.clearRun]
  rest := ⟨rfl, rfl, rfl, rfl, rfl, rfl, rfl, rfl, rfl, rfl⟩
  kept := ⟨rfl, rfl, rfl, rfl, rfl, rfl, rfl, rfl⟩

/-- The clearing of the runtime state speaks of nothing else. -/
theorem State.RunCleared.congr {s u w : State} (h : s.RunCleared u)
    (hw : w = { u with
      site := w.site, telescopes := w.telescopes, band := w.band, exchange := w.exchange, pollPos := w.pollPos
      opss := w.opss }) : s.RunCleared w := by
  obtain ⟨hsec, hpt, hpd, hun, htr, hrt, hrest, hkept⟩ := h
  rw [hw]
  exact ⟨hsec, hpt, hpd, hun, htr, hrt, hrest, hkept⟩

theorem State.setSite_told (s : State) (x : SiteState) : s.Told (s.setSite x).clearRun [.siteChanged x s.site] :=
  fun k => State.opsPort_post { s with site := x } k _

theorem State.lowestUnit_clearRun (s : State) (x : SiteState) :
    (s.setSite x).clearRun.pollPos = s.units.head?.map (·.1) := rfl

/-- CONFIGURE, judged in RUNNING. -/
theorem exec_configure {s : State} {l : OpsId} (hl : s.OpsReady l) (hrun : s.site = .running) (tag : Byte) :
    exec (.configure l tag []) s = .next
      (if ∃ t, (s.tr t).state ≠ .offline then s.reply l tag 0x68 .state []
       else s.configureAccepted.reply l tag 0x68 .ok []) := by
  refine exec_ops_gives (act := State.onConfigure) hl rfl rfl ?_
  change s.judge l tag 0x68 [(s.running, .state), (s.allOffline, .state)] _ noData = _
  rw [State.judge_running hrun, State.judge_cons (p := ∃ t, (s.tr t).state ≠ .offline) ?_, State.judge_nil]
  · rfl
  · rw [← Bool.not_eq_true, State.allOffline, List.all_eq_true, ← not_forall, not_iff_not]
    exact ⟨fun h t => of_decide_eq_true (h t (mem_allT t)), fun h t _ => decide_eq_true (h t)⟩

/-- Settles O36, by the runtime state that is cleared. -/
theorem configureResult : Obligations.ConfigureResult := by
  intro s l tag hl hrun
  have hexec := exec_configure hl hrun tag
  refine ⟨fun h => hexec.trans (by rw [if_pos h]), fun h => ⟨s.configureAccepted, hexec.trans ?_, ?_⟩⟩
  · rw [if_neg fun ⟨t, ht⟩ => ht (h t)]
  · have htold := s.setSite_told .unconfigured
    rw [hrun] at htold
    exact ⟨(s.clearRun_cleared .unconfigured).congr rfl, rfl, rfl, rfl, rfl, rfl, htold⟩

/-! ## COMMIT accepted (R185) -/

/-- The addresses of the MAST records stand for the records. -/
theorem State.masts_isEmpty (s : State) : s.masts.isEmpty = true ↔ ¬ ∃ a x, (a, x) ∈ s.units ∧ x.typ = .mast := by
  rw [State.masts, List.isEmpty_iff, List.map_eq_nil_iff, List.filter_eq_nil_iff]
  constructor
  · rintro h ⟨a, x, hm, hx⟩
    exact h _ hm (decide_eq_true hx)
  · rintro h ⟨a, x⟩ hm hx
    exact h ⟨a, x, hm, of_decide_eq_true hx⟩

/-- The state at which the survey's first poll is chosen. -/
def State.surveyOpen (s : State) : State := (s.setSite .survey).clearRun.commitBand

theorem State.surveyOpen_only (s : State) : s.surveyOpen =
    { (s.setSite .survey).clearRun with band := s.surveyOpen.band, opss := s.surveyOpen.opss } := by
  unfold State.surveyOpen State.commitBand
  split <;> rfl

theorem State.surveyOpen_masts (s : State) : (s.setSite .survey).clearRun.masts = s.masts := by
  simp only [State.masts, State.clearRun, State.setSite, State.post, Table.mapAll, List.filter_map, List.map_map]
  rfl

theorem State.surveyOpen_band (s : State) (hband : s.masts ≠ []) : s.surveyOpen.band = .hold .mastPending ∧
    s.Told s.surveyOpen [.siteChanged .survey s.site, .windBand (.hold .mastPending) s.band none none] := by
  have hmasts : ¬ (s.setSite .survey).clearRun.masts.isEmpty = true := by
    rwa [State.surveyOpen_masts, List.isEmpty_iff]
  rw [State.surveyOpen, State.commitBand, if_neg hmasts]
  exact ⟨rfl, (s.setSite_told .survey).trans rfl (State.told_post { (s.setSite .survey).clearRun with band := _ } _)⟩

theorem State.surveyOpen_calm (s : State) (hband : s.masts = []) : s.surveyOpen.band = .normal ∧
    s.Told s.surveyOpen [.siteChanged .survey s.site] := by
  have hmasts : (s.setSite .survey).clearRun.masts.isEmpty = true := by
    rw [State.surveyOpen_masts, hband]
    rfl
  rw [State.surveyOpen, State.commitBand, if_pos hmasts]
  exact ⟨rfl, s.setSite_told .survey⟩

/-- The poll position wraps to the lowest address, so the survey's first poll goes there (R166). -/
theorem nextFrom_lowest {l : List Nat} (hl : l ≠ []) : nextFrom l (l.head?.getD 0) = l.head? := by
  obtain ⟨a, r, rfl⟩ := List.exists_cons_of_ne_nil hl
  rw [nextFrom, List.head?_cons, Option.getD_some, List.find?_cons_of_pos (by simp)]
  rfl

/-- Every unit of a survey that opens is polled. -/
theorem State.surveyOpen_pollList (s : State) : s.surveyOpen.pollList = s.units.map (·.1) := by
  rw [s.surveyOpen_only]
  simp [State.pollList, State.pollable, State.clearRun, State.setSite, State.post, Table.mapAll, List.filter_map,
    List.map_map, Function.comp_def, UnitRec.fresh]

theorem State.surveyOpen_exchange (s : State) :
    s.surveyOpen.choosePoll.exchange = s.units.head?.map fun p => s.request p.1 .poll := by
  have hlist := s.surveyOpen_pollList
  have hpos : s.surveyOpen.pollPos = (s.units.map (·.1)).head? := by
    rw [s.surveyOpen_only, List.head?_map]
    rfl
  have hrest : s.surveyOpen.restoreList = [] := by rw [s.surveyOpen_only]; rfl
  have hparams : s.surveyOpen.params = s.params := by rw [s.surveyOpen_only]; rfl
  simp only [State.choosePoll, hrest, hlist, hpos]
  cases hu : s.units with
  | nil => rfl
  | cons p us =>
    rw [nextFrom_lowest (by simp)]
    simp [State.startExchange, State.request, hparams]

/-- What COMMIT accepted leaves (R185). -/
theorem State.commitAccepted_eq (s : State) : s.commitAccepted = s.surveyOpen.choosePoll :=
  State.chooseNext_poll (.inr (by
    change s.surveyOpen.cmdQueue = []
    rw [s.surveyOpen_only]
    rfl))

theorem State.surveyOpen_cleared (s : State) : s.RunCleared s.surveyOpen := by
  have honly := s.surveyOpen_only
  have hsite : s.surveyOpen.site = .survey := by rw [honly]; rfl
  refine (s.clearRun_cleared .survey).congr ?_
  rw [honly]

theorem State.choosePoll_only (s : State) : s.choosePoll = { s with
    forced := s.choosePoll.forced, exchange := s.choosePoll.exchange, pollPos := s.choosePoll.pollPos } := by
  unfold State.choosePoll
  split
  · rfl
  · split <;> rfl

/-- A poll chosen with no command queued leaves the count of commands at 0 where it stood there. -/
theorem State.choosePoll_forced (s : State) (h : s.forced = 0) : s.choosePoll.forced = 0 := by
  unfold State.choosePoll
  split
  · rfl
  · split
    · rfl
    · exact h

theorem State.commitAccepted_cleared (s : State) : s.RunCleared s.commitAccepted := by
  have hzero : s.surveyOpen.forced = 0 := by rw [s.surveyOpen_only]; rfl
  have hforced : s.surveyOpen.choosePoll.forced = s.surveyOpen.forced :=
    (s.surveyOpen.choosePoll_forced hzero).trans hzero.symm
  have honly := s.surveyOpen.choosePoll_only
  rw [hforced] at honly
  refine s.surveyOpen_cleared.congr ?_
  rw [s.commitAccepted_eq]
  generalize s.surveyOpen.choosePoll = u at honly ⊢
  rw [honly]

/-- The state from which the survey's first poll is chosen, and what it has told. -/
theorem State.commitAccepted_from (s : State) : s.surveyOpen =
    { s.commitAccepted with exchange := none, pollPos := s.surveyOpen.pollPos } := by
  have hzero : s.surveyOpen.forced = 0 := by rw [s.surveyOpen_only]; rfl
  have hforced : s.surveyOpen.choosePoll.forced = s.surveyOpen.forced :=
    (s.surveyOpen.choosePoll_forced hzero).trans hzero.symm
  have honly := s.surveyOpen.choosePoll_only
  have hidle : s.surveyOpen.exchange = none := by rw [s.surveyOpen_only]; rfl
  rw [hforced] at honly
  rw [s.commitAccepted_eq, honly]
  change _ = { s.surveyOpen with exchange := none }
  rw [← hidle]

/-- What COMMIT accepted leaves, beyond the cleared runtime state (R185). -/
theorem State.commitAccepted_spec (s : State) : s.RunCleared s.commitAccepted ∧ s.commitAccepted.site = .survey ∧
    s.commitAccepted.telescopes = s.telescopes ∧ s.commitAccepted.band = s.surveyOpen.band ∧
    s.commitAccepted.opss = s.surveyOpen.opss ∧
    (s.commitAccepted.exchange = s.units.head?.map fun p => s.request p.1 .poll) ∧
    (s.TablesWf → ∃ w : State, w = { s.commitAccepted with exchange := none, pollPos := w.pollPos } ∧
      w.pollPos = s.units.head?.map (·.1) ∧ w.PollChosen s.commitAccepted) := by
  have honly := s.surveyOpen.choosePoll_only
  rw [← s.commitAccepted_eq] at honly
  refine ⟨s.commitAccepted_cleared, ?_, ?_, ?_, ?_, ?_, fun hwf => ⟨s.surveyOpen, s.commitAccepted_from, ?_, ?_⟩⟩
  · rw [honly, s.surveyOpen_only]
    rfl
  · rw [honly, s.surveyOpen_only]
    rfl
  · rw [honly]
  · rw [honly]
  · rw [s.commitAccepted_eq]
    exact s.surveyOpen_exchange
  · rw [s.surveyOpen_only]
    rfl
  · rw [s.commitAccepted_eq]
    obtain ⟨-, -, -, hunits, -⟩ := hwf
    refine State.choosePoll_pollChosen ?_
    rw [s.surveyOpen_only]
    exact (Table.wf_mapAll s.units fun x => UnitRec.fresh x.typ).trans hunits

end Sys2Proof.Machine

/-! PROOFS. The checks of COMMIT (R184): what each finds, the first that fails, and COMMIT. -/

namespace Sys2Proof.Machine

/-! ## The first record that a check finds -/

/-- A search through a table in its canonical form stops at the lowest key that it finds. -/
theorem Table.findSome?_first {α β : Type} {t : Table α} (h : Table.wf t = true) {g : Nat × α → Option β} {b : β}
    (hb : t.findSome? g = some b) : ∃ p ∈ t, g p = some b ∧ ∀ q ∈ t, q.1 < p.1 → g q = none := by
  obtain ⟨l, p, r, rfl, hp, hl⟩ := List.findSome?_eq_some_iff.mp hb
  refine ⟨p, by simp, hp, fun q hq hlt => ?_⟩
  have hrise : (Table.keys (l ++ p :: r)).Pairwise (· < ·) := (Table.wf_iff _).mp h
  rcases List.mem_append.mp hq with hq | hq
  · exact hl q hq
  · rcases List.mem_cons.mp hq with rfl | hq
    · exact absurd hlt (lt_irrefl _)
    · rw [Table.keys, List.map_append, List.map_cons] at hrise
      have hpr := (List.pairwise_cons.mp (List.pairwise_append.mp hrise).2.1).1 q.1 (List.mem_map_of_mem hq)
      exact absurd hlt hpr.le.not_gt

/-- What a check of step k finds at the subject of class c and number n: nothing where none of its ways fails, and
otherwise the first that fails. -/
def State.FirstAt (s : State) (k : Nat) (c : SubjectClass) (n : Nat) : Option CommitFault → Prop
  | none => ∀ way r, ¬ s.Fails k c n way r
  | some f => f.2 = (c, n) ∧ ∃ way, s.Fails k c n way f.1 ∧ ∀ way' r', s.Fails k c n way' r' → way ≤ way'

/-- What a check of step k finds among the subjects of class c. -/
def State.FirstIn (s : State) (k : Nat) (c : SubjectClass) : Option CommitFault → Prop
  | none => ∀ n way r, ¬ s.Fails k c n way r
  | some f => f.2.1 = c ∧ ∃ way, s.Fails k c f.2.2 way f.1 ∧ ∀ n' way' r', s.Fails k c n' way' r' →
      f.2.2 < n' ∨ f.2.2 = n' ∧ way ≤ way'

/-- What step k finds. -/
def State.FirstOf (s : State) (k : Nat) : Option CommitFault → Prop
  | none => ∀ c n way r, ¬ s.Fails k c n way r
  | some f => ∃ way, s.Fails k f.2.1 f.2.2 way f.1 ∧ ∀ c' n' way' r', s.Fails k c' n' way' r' →
      f.2.1.turn < c'.turn ∨ f.2.1.turn = c'.turn ∧ (f.2.2 < n' ∨ f.2.2 = n' ∧ way ≤ way')

section
variable {s : State} {k : Nat} {c : SubjectClass}

/-- The check of each record of a table, lowest first, is the check of the class. -/
theorem State.firstIn_table {α : Type} {t : Table α} (hwf : Table.wf t = true) {g : Nat × α → Option CommitFault}
    (hat : ∀ p ∈ t, s.FirstAt k c p.1 (g p)) (hin : ∀ n way r, s.Fails k c n way r → ∃ x, (n, x) ∈ t) :
    s.FirstIn k c (t.findSome? g) := by
  cases hf : t.findSome? g with
  | none =>
    intro n way r hfail
    obtain ⟨x, hx⟩ := hin n way r hfail
    have h := hat _ hx
    rw [List.findSome?_eq_none_iff.mp hf _ hx] at h
    exact h way r hfail
  | some f =>
    obtain ⟨p, hp, hg, hbefore⟩ := Table.findSome?_first hwf hf
    have h := hat p hp
    rw [hg] at h
    obtain ⟨hname, way, hfail, hleast⟩ := h
    refine ⟨by rw [hname], way, by rw [hname]; exact hfail, fun n' way' r' hfail' => ?_⟩
    obtain ⟨x, hx⟩ := hin n' way' r' hfail'
    rw [hname]
    rcases Nat.lt_trichotomy p.1 n' with hlt | heq | hgt
    · exact .inl hlt
    · exact .inr ⟨heq, hleast way' r' (heq ▸ hfail')⟩
    · have h := hat _ hx
      rw [hbefore _ hx hgt] at h
      exact absurd hfail' (h way' r')

/-- A step of one class. -/
theorem State.FirstIn.firstOf {o : Option CommitFault} (h : s.FirstIn k c o)
    (honly : ∀ c' n way r, s.Fails k c' n way r → c' = c) : s.FirstOf k o := by
  cases o with
  | none =>
    intro c' n way r hfail
    obtain rfl := honly c' n way r hfail
    exact h n way r hfail
  | some f =>
    obtain ⟨hclass, way, hfail, hleast⟩ := h
    refine ⟨way, by rw [hclass]; exact hfail, fun c' n' way' r' hfail' => ?_⟩
    obtain rfl := honly c' n' way' r' hfail'
    exact .inr ⟨by rw [hclass], hleast n' way' r' hfail'⟩

/-- A step of two classes, one after the other. -/
theorem State.FirstIn.orElse {d : SubjectClass} {o o' : Option CommitFault} (h : s.FirstIn k c o) (h' : s.FirstIn k d o')
    (hturn : c.turn < d.turn) (honly : ∀ c' n way r, s.Fails k c' n way r → c' = c ∨ c' = d) :
    s.FirstOf k (o.orElse fun _ => o') := by
  cases o with
  | none =>
    refine State.FirstIn.firstOf (c := d) h' fun c' n way r hfail => ?_
    refine (honly c' n way r hfail).resolve_left ?_
    rintro rfl
    exact h n way r hfail
  | some f =>
    obtain ⟨hclass, way, hfail, hleast⟩ := h
    refine ⟨way, by rw [hclass]; exact hfail, fun c' n' way' r' hfail' => ?_⟩
    rw [hclass]
    rcases honly c' n' way' r' hfail' with rfl | rfl
    · exact .inr ⟨rfl, hleast n' way' r' hfail'⟩
    · exact .inl hturn
end

/-! ## The steps -/

section
variable {s : State}

theorem State.commit1_first : s.FirstOf 1 s.commit1 := by
  unfold State.commit1
  by_cases h : s.sections = []
  · rw [if_pos (List.isEmpty_iff.mpr h)]
    refine ⟨0, .noSection h, fun c' n' way' r' hfail => ?_⟩
    cases hfail
    exact .inr ⟨rfl, .inr ⟨rfl, le_rfl⟩⟩
  · rw [if_neg (mt List.isEmpty_iff.mp h)]
    intro c n way r hfail
    cases hfail with
    | noSection h' => exact h h'

theorem State.commit9_first : s.FirstOf 9 s.commit9 := by
  unfold State.commit9
  by_cases h : (s.trs.toList.map (·.quota)).sum ≤ Config.authorityPool
  · rw [if_pos h]
    intro c n way r hfail
    cases hfail with
    | quotas h' => exact absurd h (Nat.not_le.mpr h')
  · rw [if_neg h]
    refine ⟨0, .quotas (Nat.not_le.mp h), fun c' n' way' r' hfail => ?_⟩
    cases hfail
    exact .inr ⟨rfl, .inr ⟨rfl, le_rfl⟩⟩

/-- One record of a table. -/
theorem Table.mem_unique {α : Type} {t : Table α} (h : Table.wf t = true) {n : Nat} {x y : α} (hx : (n, x) ∈ t)
    (hy : (n, y) ∈ t) : y = x :=
  Option.some.inj ((Table.find_of_mem h hy).symm.trans (Table.find_of_mem h hx))

/-! ### Records at a unit of their own (steps 4 and 5) -/

/-- The check of one section, point or pad that names an address of a type, which no other may name alike. -/
def State.recordCheck (s : State) (a : Nat) (typ : UnitType) (twice : Bool) (c : SubjectClass) (n : Nat) :
    Option CommitFault :=
  match s.recordFault a typ with
  | some r => some (r, c, n)
  | none => if twice then some (.range, c, n) else none

theorem State.commit4_eq : s.commit4 = s.sections.findSome? fun p =>
    s.recordCheck p.2.defn.detAddr .detector (s.sections.any fun q =>
      decide (q.1 ≠ p.1 ∧ q.2.defn.detAddr = p.2.defn.detAddr ∧ q.2.defn.detSlot = p.2.defn.detSlot)) .trackSection p.1 :=
  rfl

theorem State.commit5_eq : s.commit5 =
    (s.points.findSome? fun p => s.recordCheck p.2.addr .point (s.points.any fun q =>
      decide (q.1 ≠ p.1 ∧ q.2.addr = p.2.addr)) .point p.1).orElse
    fun _ => s.pads.findSome? fun p => s.recordCheck p.2.addr .pad (s.pads.any fun q =>
      decide (q.1 ≠ p.1 ∧ q.2.addr = p.2.addr)) .pad p.1 := rfl

theorem State.recordFault_eq_none {a : Nat} {typ : UnitType} : s.recordFault a typ = none ↔ s.servedBy a typ := by
  unfold State.recordFault State.servedBy
  cases s.unit? a with
  | none => simp
  | some u => by_cases h : u.typ = typ <;> simp [h]

theorem State.recordFault_eq_some {a : Nat} {typ : UnitType} {r : Reason} (h : s.recordFault a typ = some r) :
    r = .unknownId ∧ s.unit? a = none ∨ r = .range ∧ ∃ u, s.unit? a = some u ∧ u.typ ≠ typ := by
  unfold State.recordFault at h
  cases hu : s.unit? a with
  | none =>
    rw [hu] at h
    exact .inl ⟨(Option.some.inj h).symm, rfl⟩
  | some u =>
    rw [hu] at h
    by_cases ht : u.typ = typ
    · simp [ht] at h
    · exact .inr ⟨(Option.some.inj ((if_neg ht).symm.trans h)).symm, u, rfl, ht⟩

theorem State.recordCheck_eq_none {a : Nat} {typ : UnitType} {twice : Bool} {c : SubjectClass} {n : Nat} :
    s.recordCheck a typ twice c n = none ↔ s.servedBy a typ ∧ twice = false := by
  rw [← State.recordFault_eq_none, State.recordCheck]
  cases s.recordFault a typ <;> cases twice <;> simp

theorem State.recordCheck_reason {a : Nat} {typ : UnitType} {twice : Bool} {c : SubjectClass} {n : Nat} {f : CommitFault}
    (h : s.recordCheck a typ twice c n = some f) : f.1 = .unknownId ∨ f.1 = .range := by
  rw [State.recordCheck] at h
  cases hr : s.recordFault a typ with
  | some r =>
    rw [hr] at h
    obtain rfl := Option.some.inj h
    exact (State.recordFault_eq_some hr).imp And.left And.left
  | none =>
    rw [hr] at h
    cases twice with
    | true => exact .inr (by rw [← Option.some.inj h])
    | false => exact nomatch h

/-- The record is judged first, the double naming after it (log 36). -/
theorem State.recordCheck_first {k a : Nat} {typ : UnitType} {twice : Bool} {c : SubjectClass} {n : Nat}
    (hnone : s.unit? a = none → s.Fails k c n 0 .unknownId)
    (hother : ∀ u, s.unit? a = some u → u.typ ≠ typ → s.Fails k c n 0 .range)
    (htwice : twice = true → s.Fails k c n 1 .range)
    (hways : ∀ way r, s.Fails k c n way r → ¬ s.servedBy a typ ∨ twice = true ∧ way = 1) :
    s.FirstAt k c n (s.recordCheck a typ twice c n) := by
  unfold State.recordCheck
  cases hr : s.recordFault a typ with
  | some r =>
    refine ⟨rfl, 0, ?_, fun _ _ _ => Nat.zero_le _⟩
    rcases State.recordFault_eq_some hr with ⟨rfl, hu⟩ | ⟨rfl, u, hu, ht⟩
    · exact hnone hu
    · exact hother u hu ht
  | none =>
    have hserved := State.recordFault_eq_none.mp hr
    cases twice with
    | true =>
      refine ⟨rfl, 1, htwice rfl, fun way' r' hfail => ?_⟩
      rcases hways way' r' hfail with h | ⟨-, rfl⟩
      · exact absurd hserved h
      · exact le_rfl
    | false =>
      intro way r hfail
      rcases hways way r hfail with h | ⟨h, -⟩
      · exact h hserved
      · exact nomatch h

/-- An address without a record, or with one of another type, serves nothing. -/
theorem State.not_servedBy_none {a : Nat} {typ : UnitType} (h : s.unit? a = none) : ¬ s.servedBy a typ := by
  rintro ⟨u, hu, -⟩
  rw [h] at hu
  exact nomatch hu

theorem State.not_servedBy_other {a : Nat} {typ : UnitType} {u : UnitRec} (h : s.unit? a = some u) (ht : u.typ ≠ typ) :
    ¬ s.servedBy a typ := by
  rintro ⟨v, hv, hvt⟩
  rw [h] at hv
  exact ht (Option.some.inj hv ▸ hvt)

theorem State.commit4_first (hwf : Table.wf s.sections = true) : s.FirstOf 4 s.commit4 := by
  rw [State.commit4_eq]
  refine State.FirstIn.firstOf (c := .trackSection) (State.firstIn_table hwf (fun p hp => ?_) fun n way r hfail => ?_)
    fun c' n way r hfail => ?_
  · refine State.recordCheck_first (.sectionUnitNone _ _ hp) (fun u => .sectionUnitOther _ _ u hp) (fun h => ?_)
      fun way r hfail => ?_
    · obtain ⟨⟨m, y⟩, hy, hsame⟩ := List.any_eq_true.mp h
      obtain ⟨hne, haddr, hslot⟩ := of_decide_eq_true hsame
      exact .slotTwice _ _ m y hp hy hne haddr hslot
    · cases hfail with
      | sectionUnitNone _ z hz hno => exact .inl (Table.mem_unique hwf hp hz ▸ State.not_servedBy_none hno)
      | sectionUnitOther _ z v hz hv hno => exact .inl (Table.mem_unique hwf hp hz ▸ State.not_servedBy_other hv hno)
      | slotTwice _ z m y hz hy hne haddr hslot =>
        rw [Table.mem_unique hwf hp hz] at haddr hslot
        exact .inr ⟨List.any_eq_true.mpr ⟨_, hy, decide_eq_true ⟨hne, haddr, hslot⟩⟩, rfl⟩
  · cases hfail <;> exact ⟨_, ‹_ ∈ s.sections›⟩
  · cases hfail <;> rfl

theorem State.commit5_first (hpoints : Table.wf s.points = true) (hpads : Table.wf s.pads = true) :
    s.FirstOf 5 s.commit5 := by
  rw [State.commit5_eq]
  refine State.FirstIn.orElse (c := .point) (d := .pad) (State.firstIn_table hpoints (fun p hp => ?_) fun n way r hfail => ?_)
    (State.firstIn_table hpads (fun p hp => ?_) fun n way r hfail => ?_) (by decide) fun c' n way r hfail => ?_
  · refine State.recordCheck_first (.pointUnitNone _ _ hp) (fun u => .pointUnitOther _ _ u hp) (fun h => ?_)
      fun way r hfail => ?_
    · obtain ⟨⟨m, y⟩, hy, hsame⟩ := List.any_eq_true.mp h
      obtain ⟨hne, haddr⟩ := of_decide_eq_true hsame
      exact .pointUnitTwice _ _ m y hp hy hne haddr
    · cases hfail with
      | pointUnitNone _ z hz hno => exact .inl (Table.mem_unique hpoints hp hz ▸ State.not_servedBy_none hno)
      | pointUnitOther _ z v hz hv hno => exact .inl (Table.mem_unique hpoints hp hz ▸ State.not_servedBy_other hv hno)
      | pointUnitTwice _ z m y hz hy hne haddr =>
        rw [Table.mem_unique hpoints hp hz] at haddr
        exact .inr ⟨List.any_eq_true.mpr ⟨_, hy, decide_eq_true ⟨hne, haddr⟩⟩, rfl⟩
  · cases hfail <;> exact ⟨_, ‹_ ∈ s.points›⟩
  · refine State.recordCheck_first (.padUnitNone _ _ hp) (fun u => .padUnitOther _ _ u hp) (fun h => ?_)
      fun way r hfail => ?_
    · obtain ⟨⟨m, y⟩, hy, hsame⟩ := List.any_eq_true.mp h
      obtain ⟨hne, haddr⟩ := of_decide_eq_true hsame
      exact .padUnitTwice _ _ m y hp hy hne haddr
    · cases hfail with
      | padUnitNone _ z hz hno => exact .inl (Table.mem_unique hpads hp hz ▸ State.not_servedBy_none hno)
      | padUnitOther _ z v hz hv hno => exact .inl (Table.mem_unique hpads hp hz ▸ State.not_servedBy_other hv hno)
      | padUnitTwice _ z m y hz hy hne haddr =>
        rw [Table.mem_unique hpads hp hz] at haddr
        exact .inr ⟨List.any_eq_true.mpr ⟨_, hy, decide_eq_true ⟨hne, haddr⟩⟩, rfl⟩
  · cases hfail <;> exact ⟨_, ‹_ ∈ s.pads›⟩
  · cases hfail <;> simp

/-! ### Links (step 2) -/

theorem State.linkFault_eq_none {n : Nat} {e : EndName} {o : Option TrackLink} :
    s.linkFault n e o = none ↔ ∀ m f, o = some (.to m f) → ∃ y, s.sec? m = some y ∧ y.defn.linkOf f = some (.to n e) := by
  unfold State.linkFault
  split
  next m f =>
    cases hm : s.sec? m with
    | none => simp [secFault, hm]
    | some y =>
      by_cases h : y.defn.linkOf f = some (.to n e) <;> simp [secFault, hm, h]
  next hno => exact iff_of_true rfl fun m f h => absurd h (hno m f)

/-- What a link that fails its check is told. -/
theorem State.linkFault_eq_some {n : Nat} {x : Section} {e : EndName} {g : CommitFault} (hx : (n, x) ∈ s.sections)
    (h : s.linkFault n e (x.defn.linkOf e) = some g) :
    g.2 = (.trackSection, n) ∧ s.Fails 2 .trackSection n e.code.toNat g.1 := by
  unfold State.linkFault at h
  split at h
  next m f hl =>
    cases hm : s.sec? m with
    | none =>
      rw [hm] at h
      obtain rfl := Option.some.inj h
      exact ⟨rfl, .linkToNone n x e m f hx hl hm⟩
    | some y =>
      rw [hm] at h
      by_cases hback : y.defn.linkOf f = some (.to n e)
      · simp [hback] at h
      · obtain rfl := Option.some.inj ((if_neg hback).symm.trans h)
        exact ⟨rfl, .linkNotBack n x e m f y hx hl hm hback⟩
  next => exact nomatch h

/-- A link that fails step 2 fails its check. -/
theorem State.linkFault_of_fails (hwf : Table.wf s.sections = true) {n way : Nat} {x : Section} {r : Reason}
    (hx : (n, x) ∈ s.sections) (h : s.Fails 2 .trackSection n way r) :
    ∃ e : EndName, e.code.toNat = way ∧ s.linkFault n e (x.defn.linkOf e) ≠ none := by
  cases h with
  | linkToNone _ z e m f hz hl hm =>
    rw [Table.mem_unique hwf hx hz] at hl
    refine ⟨e, rfl, fun hnone => ?_⟩
    obtain ⟨y, hy, -⟩ := State.linkFault_eq_none.mp hnone m f hl
    rw [hm] at hy
    exact nomatch hy
  | linkNotBack _ z e m f y hz hl hm hback =>
    rw [Table.mem_unique hwf hx hz] at hl
    refine ⟨e, rfl, fun hnone => ?_⟩
    obtain ⟨w, hw, hwl⟩ := State.linkFault_eq_none.mp hnone m f hl
    rw [hm] at hw
    exact hback (Option.some.inj hw ▸ hwl)

theorem State.commit2_first (hwf : Table.wf s.sections = true) : s.FirstOf 2 s.commit2 := by
  refine State.FirstIn.firstOf (c := .trackSection) (State.firstIn_table hwf (fun p hp => ?_) fun n way r hfail => ?_)
    fun c' n way r hfail => ?_
  · cases hf : [EndName.a, .b, .c].findSome? fun e => s.linkFault p.1 e (p.2.defn.linkOf e) with
    | none =>
      intro way r hfail
      obtain ⟨e, -, hno⟩ := State.linkFault_of_fails hwf hp hfail
      exact hno (List.findSome?_eq_none_iff.mp hf e (by cases e <;> simp))
    | some g =>
      obtain ⟨l, e, l', hl, he, hbefore⟩ := List.findSome?_eq_some_iff.mp hf
      obtain ⟨hname, hfail⟩ := State.linkFault_eq_some hp he
      refine ⟨hname, _, hfail, fun way' r' hfail' => ?_⟩
      obtain ⟨e', rfl, hno⟩ := State.linkFault_of_fails hwf hp hfail'
      have hsorted : ([EndName.a, .b, .c] : List EndName).Pairwise fun e f => e.code.toNat ≤ f.code.toNat := by decide
      have hmem : e' ∈ ([EndName.a, .b, .c] : List EndName) := by cases e' <;> simp
      rw [hl] at hsorted hmem
      rcases List.mem_append.mp hmem with h | h
      · exact absurd (hbefore e' h) hno
      · rcases List.mem_cons.mp h with rfl | h
        · exact le_rfl
        · exact (List.pairwise_cons.mp (List.pairwise_append.mp hsorted).2.1).1 e' h
  · cases hfail <;> exact ⟨_, ‹_ ∈ s.sections›⟩
  · cases hfail <;> rfl

/-! ### Points, pads and units (steps 3, 6, 7 and 8) -/

theorem State.commit3_first (hsecs : Table.wf s.sections = true) (hpoints : Table.wf s.points = true) :
    s.FirstOf 3 s.commit3 := by
  refine State.FirstIn.orElse (c := .trackSection) (d := .point)
    (State.firstIn_table hsecs (fun p hp => ?_) fun n way r hfail => ?_)
    (State.firstIn_table hpoints (fun p hp => ?_) fun n way r hfail => ?_) (by decide) fun c' n way r hfail => ?_
  · split
    next h => exact ⟨rfl, 0, .pointsOfSection _ _ hp h.1 h.2, fun _ _ _ => Nat.zero_le _⟩
    next h =>
      intro way r hfail
      cases hfail with
      | pointsOfSection _ z hz hpoint hcount => exact h ⟨Table.mem_unique hsecs hp hz ▸ hpoint, hcount⟩
  · cases hfail <;> exact ⟨_, ‹_ ∈ s.sections›⟩
  · split
    next h => exact ⟨rfl, 0, .pointOnNone _ _ hp h, fun _ _ _ => Nat.zero_le _⟩
    next x h =>
      by_cases hx : x.defn.isPoint = true
      · rw [if_pos hx]
        intro way r hfail
        cases hfail with
        | pointOnNone _ z hz hno =>
          rw [Table.mem_unique hpoints hp hz, h] at hno
          exact nomatch hno
        | pointOnPlain _ z y hz hy hplain =>
          rw [Table.mem_unique hpoints hp hz, h] at hy
          rw [← Option.some.inj hy, hx] at hplain
          exact nomatch hplain
      · rw [if_neg hx]
        exact ⟨rfl, 0, .pointOnPlain _ _ x hp h (Bool.not_eq_true _ ▸ hx), fun _ _ _ => Nat.zero_le _⟩
  · cases hfail <;> exact ⟨_, ‹_ ∈ s.points›⟩
  · cases hfail <;> simp

theorem State.commit6_first (hwf : Table.wf s.pads = true) : s.FirstOf 6 s.commit6 := by
  refine State.FirstIn.firstOf (c := .pad) (State.firstIn_table hwf (fun p hp => ?_) fun n way r hfail => ?_)
    fun c' n way r hfail => ?_
  · split
    next h => exact ⟨rfl, 0, .padOnNone _ _ hp h, fun _ _ _ => Nat.zero_le _⟩
    next x h =>
      by_cases hx : x.defn.isPoint = true ∨ x.defn.len < p.2.stop
      · rw [if_pos hx]
        exact ⟨rfl, 0, .padPlace _ _ x hp h hx, fun _ _ _ => Nat.zero_le _⟩
      · rw [if_neg hx]
        intro way r hfail
        cases hfail with
        | padOnNone _ z hz hno =>
          rw [Table.mem_unique hwf hp hz, h] at hno
          exact nomatch hno
        | padPlace _ z y hz hy hplace =>
          rw [Table.mem_unique hwf hp hz] at hy hplace
          rw [h] at hy
          exact hx (Option.some.inj hy ▸ hplace)
  · cases hfail <;> exact ⟨_, ‹_ ∈ s.pads›⟩
  · cases hfail <;> rfl

/-- The kinds of entity that name the address a. -/
theorem State.kinds_any (a : Nat) :
    ((s.sections.any fun q => decide (q.2.defn.detAddr = a)) = true ↔ ∃ q ∈ s.sections, q.2.defn.detAddr = a) ∧
    ((s.points.any fun q => decide (q.2.addr = a)) = true ↔ ∃ q ∈ s.points, q.2.addr = a) ∧
    ((s.pads.any fun q => decide (q.2.addr = a)) = true ↔ ∃ q ∈ s.pads, q.2.addr = a) := by
  simp only [List.any_eq_true, decide_eq_true_eq, and_self]

/-- The check of step 8 for the unit at a. -/
def State.kindFault (s : State) (a : Nat) (u : UnitRec) : Prop :=
  let sec := ∃ q ∈ s.sections, q.2.defn.detAddr = a
  let pt := ∃ q ∈ s.points, q.2.addr = a
  let pd := ∃ q ∈ s.pads, q.2.addr = a
  sec ∧ pt ∨ sec ∧ pd ∨ pt ∧ pd ∨ u.typ ≠ .mast ∧ ¬ sec ∧ ¬ pt ∧ ¬ pd

/-- The finding of step 8 at one unit. -/
def State.kindCheck (s : State) (p : Nat × UnitRec) : Option CommitFault :=
  let sec := s.sections.any fun q => decide (q.2.defn.detAddr = p.1)
  let pt := s.points.any fun q => decide (q.2.addr = p.1)
  let pd := s.pads.any fun q => decide (q.2.addr = p.1)
  if (sec && pt) || (sec && pd) || (pt && pd) || (decide (p.2.typ ≠ .mast) && !sec && !pt && !pd) then
    unitFault .range p.1
  else none

theorem State.commit8_eq : s.commit8 = s.units.findSome? s.kindCheck := rfl

theorem State.kindCheck_cases (p : Nat × UnitRec) :
    s.kindFault p.1 p.2 ∧ s.kindCheck p = some (.range, .unit, p.1) ∨ ¬ s.kindFault p.1 p.2 ∧ s.kindCheck p = none := by
  obtain ⟨hsec, hpt, hpd⟩ := s.kinds_any p.1
  unfold State.kindFault State.kindCheck
  dsimp only
  rw [← hsec, ← hpt, ← hpd]
  generalize (s.sections.any fun q => decide (q.2.defn.detAddr = p.1)) = sec
  generalize (s.points.any fun q => decide (q.2.addr = p.1)) = pt
  generalize (s.pads.any fun q => decide (q.2.addr = p.1)) = pd
  by_cases hm : p.2.typ = .mast <;> cases sec <;> cases pt <;> cases pd <;> simp [hm, unitFault]

theorem State.commit8_first (hwf : Table.wf s.units = true) : s.FirstOf 8 s.commit8 := by
  rw [State.commit8_eq]
  refine State.FirstIn.firstOf (c := .unit) (State.firstIn_table hwf (fun p hp => ?_) fun n way r hfail => ?_)
    fun c' n way r hfail => ?_
  · rcases State.kindCheck_cases p with ⟨h, hc⟩ | ⟨h, hc⟩
    · rw [hc]
      exact ⟨rfl, 0, .kindsOfUnit _ _ hp h, fun _ _ _ => Nat.zero_le _⟩
    · rw [hc]
      intro way r hfail
      cases hfail with
      | kindsOfUnit _ z hz hk => exact h (Table.mem_unique hwf hp hz ▸ hk)
  · cases hfail <;> exact ⟨_, ‹_ ∈ s.units›⟩
  · cases hfail <;> rfl

/-- The MAST records' addresses rise. -/
theorem State.masts_pairwise (hwf : Table.wf s.units = true) : s.masts.Pairwise (· < ·) :=
  ((Table.wf_iff _).mp hwf).sublist (List.filter_sublist.map _)

theorem State.mem_masts (a : Nat) : a ∈ s.masts ↔ ∃ x, (a, x) ∈ s.units ∧ x.typ = .mast := by
  simp [State.masts]

theorem State.commit7_first (hwf : Table.wf s.units = true) : s.FirstOf 7 s.commit7 := by
  have hrise := State.masts_pairwise hwf
  have hfails : ∀ c n way r, s.Fails 7 c n way r → c = .unit ∧ way = 0 ∧ n ∈ s.masts ∧ ∃ b ∈ s.masts, b < n := by
    intro c n way r hfail
    cases hfail with
    | secondMast _ x b y hx hmx hy hmy hlt =>
      exact ⟨rfl, rfl, (State.mem_masts _).mpr ⟨x, hx, hmx⟩, b, (State.mem_masts _).mpr ⟨y, hy, hmy⟩, hlt⟩
  unfold State.commit7
  split
  next b a l hm =>
    rw [hm] at hrise hfails
    obtain ⟨hb, hrest⟩ := List.pairwise_cons.mp hrise
    obtain ⟨x, hx, hmx⟩ := (State.mem_masts a).mp (by rw [hm]; simp)
    obtain ⟨y, hy, hmy⟩ := (State.mem_masts b).mp (by rw [hm]; simp)
    refine ⟨0, .secondMast a x b y hx hmx hy hmy (hb a (by simp)), fun c' n' way' r' hfail => ?_⟩
    obtain ⟨rfl, rfl, hn, d, hd, hdn⟩ := hfails c' n' way' r' hfail
    refine .inr ⟨rfl, ?_⟩
    rcases List.mem_cons.mp hn with rfl | hn
    · rcases List.mem_cons.mp hd with rfl | hd
      · exact absurd hdn (lt_irrefl _)
      · exact absurd hdn (hb d hd).le.not_gt
    · rcases List.mem_cons.mp hn with rfl | hn
      · exact .inr ⟨rfl, le_rfl⟩
      · exact .inl ((List.pairwise_cons.mp hrest).1 n' hn)
  next hno =>
    intro c n way r hfail
    obtain ⟨-, -, hn, d, hd, hdn⟩ := hfails c n way r hfail
    match hm : s.masts with
    | [] => simp [hm] at hn
    | [a] =>
      rw [hm, List.mem_singleton] at hn hd
      omega
    | a :: b :: l => exact hno a b l hm

/-! ### All steps -/

/-- The nine checks with their numbers. -/
def State.commitSteps (s : State) : Table (Option CommitFault) :=
  [(1, s.commit1), (2, s.commit2), (3, s.commit3), (4, s.commit4), (5, s.commit5), (6, s.commit6), (7, s.commit7),
    (8, s.commit8), (9, s.commit9)]

theorem State.commitFault_eq : s.commitFault = s.commitSteps.findSome? fun p => p.2.map fun f => (p.1, f) := rfl

theorem State.commitSteps_wf : Table.wf s.commitSteps = true := rfl

theorem State.commitSteps_first (hwf : s.TablesWf) : ∀ p ∈ s.commitSteps, s.FirstOf p.1 p.2 := by
  obtain ⟨hsecs, hpoints, hpads, hunits, -⟩ := hwf
  simp only [State.commitSteps, List.forall_mem_cons, List.not_mem_nil, false_implies, implies_true, and_true]
  exact ⟨State.commit1_first, State.commit2_first hsecs, State.commit3_first hsecs hpoints, State.commit4_first hsecs,
    State.commit5_first hpoints hpads, State.commit6_first hpads, State.commit7_first hunits, State.commit8_first hunits,
    State.commit9_first⟩

theorem State.commitSteps_keys : Table.keys s.commitSteps = [1, 2, 3, 4, 5, 6, 7, 8, 9] := rfl

theorem State.fails_step {k n way : Nat} {c : SubjectClass} {r : Reason} (h : s.Fails k c n way r) :
    ∃ o, (k, o) ∈ s.commitSteps := by
  have hkey : k ∈ Table.keys s.commitSteps := by
    rw [State.commitSteps_keys]
    cases h <;> simp
  obtain ⟨⟨k', o⟩, hp, rfl⟩ := List.mem_map.mp hkey
  exact ⟨o, hp⟩

/-- What a refused COMMIT names is the first failure (R184). -/
theorem State.commitFault_first (hwf : s.TablesWf) {k n : Nat} {r : Reason} {c : SubjectClass}
    (h : s.commitFault = some (k, r, c, n)) : s.FailsFirst k c n r := by
  rw [State.commitFault_eq] at h
  obtain ⟨⟨k', o⟩, hp, hg, hbefore⟩ := Table.findSome?_first State.commitSteps_wf h
  obtain ⟨f, rfl, hf⟩ := Option.map_eq_some_iff.mp hg
  obtain ⟨rfl, rfl⟩ := Prod.mk.inj hf
  obtain ⟨way, hfail, hleast⟩ := State.commitSteps_first hwf _ hp
  refine ⟨way, hfail, fun step' c' n' way' r' hfail' => ?_⟩
  obtain ⟨o, ho⟩ := State.fails_step hfail'
  rcases Nat.lt_trichotomy k' step' with hlt | rfl | hgt
  · exact .inl hlt
  · exact .inr ⟨rfl, hleast c' n' way' r' hfail'⟩
  · have hnone := Option.map_eq_none_iff.mp (hbefore _ ho hgt)
    have hfirst := State.commitSteps_first hwf _ ho
    rw [show o = none from hnone] at hfirst
    exact absurd hfail' (hfirst c' n' way' r')

/-! ### A sound configuration -/

theorem orElse_const_eq_none {α : Type} {o o' : Option α} : (o.orElse fun _ => o') = none ↔ o = none ∧ o' = none := by
  cases o <;> simp

theorem State.commit3_eq_none : s.commit3 = none ↔
    (∀ p ∈ s.sections, p.2.defn.isPoint = true → (s.points.filter fun q => decide (q.2.sec = p.1)).length = 1) ∧
    ∀ q ∈ s.points, ∃ x, s.sec? q.2.sec = some x ∧ x.defn.isPoint = true := by
  rw [State.commit3, orElse_const_eq_none, List.findSome?_eq_none_iff, List.findSome?_eq_none_iff]
  refine and_congr (forall₂_congr fun p _ => ?_) (forall₂_congr fun q _ => ?_)
  · rw [ite_eq_right_iff]
    exact ⟨fun h hp => by_contra fun hc => (nomatch h ⟨hp, hc⟩), fun h ⟨hp, hc⟩ => absurd (h hp) hc⟩
  · cases hq : s.sec? q.2.sec with
    | none => simp [pointFault]
    | some x => cases hx : x.defn.isPoint <;> simp [pointFault, hx]

theorem State.commit6_eq_none : s.commit6 = none ↔
    ∀ p ∈ s.pads, ∃ x, s.sec? p.2.sec = some x ∧ x.defn.isPoint = false ∧ p.2.stop ≤ x.defn.len := by
  rw [State.commit6, List.findSome?_eq_none_iff]
  refine forall₂_congr fun p _ => ?_
  cases hp : s.sec? p.2.sec with
  | none => simp [padFault]
  | some x => simp [padFault]

theorem State.commit7_eq_none : s.commit7 = none ↔ (s.units.filter fun p => decide (p.2.typ = .mast)).length ≤ 1 := by
  rw [State.commit7, ← List.length_map (f := (·.1))]
  change _ ↔ s.masts.length ≤ 1
  match s.masts with
  | [] => simp
  | [a] => simp
  | a :: b :: l => simp [unitFault]

theorem not_two_kinds_iff (a b c m : Prop) :
    ¬ (a ∧ b ∨ a ∧ c ∨ b ∧ c ∨ ¬ m ∧ ¬ a ∧ ¬ b ∧ ¬ c) ↔ ¬ (a ∧ b) ∧ ¬ (a ∧ c) ∧ ¬ (b ∧ c) ∧ (m ∨ a ∨ b ∨ c) := by
  tauto

theorem State.commit8_eq_none : s.commit8 = none ↔ ∀ p ∈ s.units,
    let sec := ∃ q ∈ s.sections, q.2.defn.detAddr = p.1
    let pt := ∃ q ∈ s.points, q.2.addr = p.1
    let pd := ∃ q ∈ s.pads, q.2.addr = p.1
    ¬ (sec ∧ pt) ∧ ¬ (sec ∧ pd) ∧ ¬ (pt ∧ pd) ∧ (p.2.typ = .mast ∨ sec ∨ pt ∨ pd) := by
  rw [State.commit8_eq, List.findSome?_eq_none_iff]
  refine forall₂_congr fun p _ => ?_
  have hkind : s.kindCheck p = none ↔ ¬ s.kindFault p.1 p.2 := by
    rcases State.kindCheck_cases p with ⟨h, hc⟩ | ⟨h, hc⟩
    · rw [hc]
      exact iff_of_false (Option.some_ne_none _) (not_not_intro h)
    · rw [hc]
      exact iff_of_true rfl h
  exact hkind.trans (not_two_kinds_iff ..)

theorem State.recordCheck_at_none {α : Type} {t : Table α} {p : Nat × α} {a : Nat} {typ : UnitType} {c : SubjectClass}
    {P : Nat × α → Prop} [DecidablePred P] :
    s.recordCheck a typ (t.any fun q => decide (q.1 ≠ p.1 ∧ P q)) c p.1 = none ↔
      s.servedBy a typ ∧ ∀ q ∈ t, q.1 ≠ p.1 → ¬ P q := by
  rw [State.recordCheck_eq_none, List.any_eq_false]
  exact and_congr_right' (forall₂_congr fun q _ => by rw [decide_eq_true_iff, not_and])

theorem State.commitFault_none : s.commitFault = none ↔ s.Sound := by
  have hsteps : s.commitFault = none ↔ ∀ p ∈ s.commitSteps, p.2 = none := by
    rw [State.commitFault_eq, List.findSome?_eq_none_iff]
    exact forall₂_congr fun p _ => Option.map_eq_none_iff
  rw [hsteps]
  simp only [State.commitSteps, List.forall_mem_cons, List.not_mem_nil, false_implies, implies_true, and_true]
  have h1 : s.commit1 = none ↔ s.sections ≠ [] := by
    rw [State.commit1, ite_eq_right_iff, List.isEmpty_iff]
    exact ⟨fun h hno => (nomatch h hno), fun h hno => absurd hno h⟩
  have h2 : s.commit2 = none ↔ ∀ p ∈ s.sections, ∀ e m f, p.2.defn.linkOf e = some (.to m f) →
      ∃ y, s.sec? m = some y ∧ y.defn.linkOf f = some (.to p.1 e) := by
    rw [State.commit2, List.findSome?_eq_none_iff]
    refine forall₂_congr fun p _ => ?_
    rw [List.findSome?_eq_none_iff]
    exact ⟨fun h e => State.linkFault_eq_none.mp (h e (by cases e <;> simp)),
      fun h e _ => State.linkFault_eq_none.mpr (h e)⟩
  have h4 : s.commit4 = none ↔ ∀ p ∈ s.sections, s.servedBy p.2.defn.detAddr .detector ∧ ∀ q ∈ s.sections, q.1 ≠ p.1 →
      ¬ (q.2.defn.detAddr = p.2.defn.detAddr ∧ q.2.defn.detSlot = p.2.defn.detSlot) := by
    rw [State.commit4_eq, List.findSome?_eq_none_iff]
    exact forall₂_congr fun p _ => State.recordCheck_at_none
  have h5 : s.commit5 = none ↔
      (∀ p ∈ s.points, s.servedBy p.2.addr .point ∧ ∀ q ∈ s.points, q.1 ≠ p.1 → q.2.addr ≠ p.2.addr) ∧
      ∀ p ∈ s.pads, s.servedBy p.2.addr .pad ∧ ∀ q ∈ s.pads, q.1 ≠ p.1 → q.2.addr ≠ p.2.addr := by
    rw [State.commit5_eq, orElse_const_eq_none, List.findSome?_eq_none_iff, List.findSome?_eq_none_iff]
    exact and_congr (forall₂_congr fun p _ => State.recordCheck_at_none)
      (forall₂_congr fun p _ => State.recordCheck_at_none)
  have h9 : s.commit9 = none ↔ (s.trs.toList.map (·.quota)).sum ≤ 128 := by
    rw [State.commit9, ite_eq_left_iff]
    exact ⟨fun h => by_contra fun hno => (nomatch h hno), fun h hno => absurd h hno⟩
  rw [h1, h2, State.commit3_eq_none, h4, h5, State.commit6_eq_none, State.commit7_eq_none, State.commit8_eq_none, h9]
  constructor
  · rintro ⟨hsome, hlinks, ⟨hps, hpts⟩, hdet, ⟨hpu, hpd⟩, hpads, hmast, hkind, hpool⟩
    exact ⟨hsome, hlinks, hps, hpts, hdet, hpu, hpd, hpads, hmast, hkind, hpool⟩
  · rintro ⟨hsome, hlinks, hps, hpts, hdet, hpu, hpd, hpads, hmast, hkind, hpool⟩
    exact ⟨hsome, hlinks, ⟨hps, hpts⟩, hdet, ⟨hpu, hpd⟩, hpads, hmast, hkind, hpool⟩

/-! ### The step and the reason named -/

theorem State.commitFault_step {k : Nat} {f : CommitFault} (h : s.commitFault = some (k, f)) :
    (k, some f) ∈ s.commitSteps ∧ 1 ≤ k ∧ k ≤ 9 := by
  rw [State.commitFault_eq] at h
  obtain ⟨⟨k', o⟩, hp, hg⟩ := List.exists_of_findSome?_eq_some h
  obtain ⟨g, rfl, hf⟩ := Option.map_eq_some_iff.mp hg
  obtain ⟨rfl, rfl⟩ := Prod.mk.inj hf
  have hkey := List.mem_map_of_mem (f := (·.1)) hp
  rw [show s.commitSteps.map (·.1) = [1, 2, 3, 4, 5, 6, 7, 8, 9] from rfl] at hkey
  simp only [List.mem_cons, List.not_mem_nil, or_false] at hkey
  exact ⟨hp, by omega, by omega⟩

/-- A finding, if any, names UNKNOWN_ID or RANGE. -/
def NamesReason (o : Option CommitFault) : Prop := ∀ f, o = some f → f.1 = .unknownId ∨ f.1 = .range

theorem namesReason_none : NamesReason none := nofun

theorem namesReason_unknownId {c : SubjectClass} {n : Nat} : NamesReason (some (.unknownId, c, n)) := fun _ h =>
  .inl (Option.some.inj h ▸ rfl)

theorem namesReason_range {c : SubjectClass} {n : Nat} : NamesReason (some (.range, c, n)) := fun _ h =>
  .inr (Option.some.inj h ▸ rfl)

theorem NamesReason.findSome {α : Type} {t : List α} {g : α → Option CommitFault} (h : ∀ p, NamesReason (g p)) :
    NamesReason (t.findSome? g) := fun f hf => by
  obtain ⟨p, -, hp⟩ := List.exists_of_findSome?_eq_some hf
  exact h p f hp

theorem NamesReason.orElse {o o' : Option CommitFault} (h : NamesReason o) (h' : NamesReason o') :
    NamesReason (o.orElse fun _ => o') := by
  cases o with
  | none => exact h'
  | some f => exact h

theorem NamesReason.ite {c : Prop} [Decidable c] {o o' : Option CommitFault} (h : NamesReason o) (h' : NamesReason o') :
    NamesReason (if c then o else o') := by
  split
  · exact h
  · exact h'

/-- COMMIT is refused with UNKNOWN_ID or RANGE. -/
theorem State.commitSteps_reason : ∀ p ∈ s.commitSteps, NamesReason p.2 := by
  simp only [State.commitSteps, List.forall_mem_cons, List.not_mem_nil, false_implies, implies_true, and_true]
  refine ⟨.ite namesReason_unknownId namesReason_none, .findSome fun p => .findSome fun e => ?_,
    .orElse (.findSome fun p => .ite namesReason_range namesReason_none) (.findSome fun p => ?_),
    .findSome fun p f => State.recordCheck_reason, .orElse (.findSome fun p f => State.recordCheck_reason)
      (.findSome fun p f => State.recordCheck_reason), .findSome fun p => ?_, ?_,
    .findSome fun p => .ite namesReason_range namesReason_none, .ite namesReason_none namesReason_range⟩
  · unfold State.linkFault
    split
    · split
      · exact namesReason_unknownId
      · exact .ite namesReason_none namesReason_range
    · exact namesReason_none
  · split
    · exact namesReason_unknownId
    · exact .ite namesReason_none namesReason_range
  · split
    · exact namesReason_unknownId
    · exact .ite namesReason_range namesReason_none
  · unfold State.commit7
    split
    · exact namesReason_range
    · exact namesReason_none
end

/-! ## COMMIT -/

theorem exec_commit {s u : State} {l : OpsId} {tag : Byte} (hl : s.OpsReady l) (h : s.commit l tag = u) :
    exec (.commit l tag []) s = .next u := exec_ops_gives (act := State.onCommit) hl rfl rfl h

/-- Settles O35, by the first failure that the checks find, and by the state that an accepted COMMIT leaves. -/
theorem commitResult : Obligations.CommitResult := by
  intro s l tag hl
  refine ⟨fun hsite => exec_commit hl (if_pos hsite), fun hsite hno => ?_, fun hsite hsound => ?_⟩
  · obtain ⟨⟨k, r, c, n⟩, hf⟩ := Option.ne_none_iff_exists'.mp (mt State.commitFault_none.mp hno)
    obtain ⟨hstep, hlow, hhigh⟩ := State.commitFault_step hf
    refine ⟨r, k, n, c, hlow, hhigh, State.commitSteps_reason _ hstep _ rfl, exec_commit hl ?_,
      fun hwf => State.commitFault_first hwf hf⟩
    rw [State.commit, if_neg (not_not_intro hsite), hf]
    rfl
  · obtain ⟨hcleared, hsurvey, htel, hband, hopss, hpoll, hfrom⟩ := s.commitAccepted_spec
    refine ⟨s.commitAccepted, exec_commit hl ?_, hcleared, hsurvey, htel, ⟨fun hmast => ?_, fun hmast => ?_⟩, hpoll, hfrom⟩
    · rw [State.commit, if_neg (not_not_intro hsite), State.commitFault_none.mpr hsound]
      rfl
    · obtain ⟨hb, ht⟩ := s.surveyOpen_band fun h => s.masts_isEmpty.mp (List.isEmpty_iff.mpr h) hmast
      rw [hsite] at ht
      exact ⟨hband.trans hb, fun k => by rw [State.opsPort, hopss]; exact ht k⟩
    · obtain ⟨hb, ht⟩ := s.surveyOpen_calm (List.isEmpty_iff.mp (s.masts_isEmpty.mpr hmast))
      rw [hsite] at ht
      exact ⟨hband.trans hb, fun k => by rw [State.opsPort, hopss]; exact ht k⟩

end Sys2Proof.Machine

/-! PROOFS. RESET FIELDBUS (R191, R167): what the discard of every queued command does, and the poll that follows. -/

namespace Sys2Proof.Machine

/-! ## A clamp watch that fails (R141) -/

theorem State.failWatch_idle {s : State} {n : Nat} (h : ∀ x, s.pad? n = some x → x.watch = .none) : s.failWatch n = s := by
  unfold State.failWatch
  cases hx : s.pad? n with
  | none => rfl
  | some x => exact if_pos (h x hx)

/-- A watch ends, waits for room no more, and is told by CLAMP_FAILED. -/
theorem State.failWatch_spec {s : State} {n : Nat} {x : Pad} (hx : s.pad? n = some x) (hw : x.watch ≠ .none) :
    s.failWatch n = { s with
      padWaiters := s.padWaiters.filter fun w => decide (w ≠ .watch n)
      pads := (s.failWatch n).pads, opss := (s.failWatch n).opss } ∧
    (∀ m, (s.failWatch n).pad? m = if m = n then some { x with watch := .none } else s.pad? m) ∧
    s.Told (s.failWatch n) [.clampFailed n x.clamp (s.telescopeOnPad n)] := by
  have hfail : s.failWatch n = ({ s with padWaiters := s.padWaiters.filter fun w => decide (w ≠ Requester.watch n) }.modPad n
      fun p => { p with watch := .none }).postClampFailed n := by
    unfold State.failWatch
    simp only [hx]
    exact if_neg hw
  have hself : ({ s with padWaiters := s.padWaiters.filter fun w => decide (w ≠ Requester.watch n) }.modPad n
      fun p => { p with watch := .none }).pad? n = some { x with watch := .none } := State.pad_modPad_self hx _
  rw [hfail]
  refine ⟨rfl, fun m => ?_, fun k => ?_⟩
  · by_cases hm : m = n
    · rw [if_pos hm, hm]
      exact hself
    · rw [if_neg hm]
      exact State.pad_modPad_ne _ hm _
  · rw [State.postClampFailed, State.opsPort_post, hself]
    rfl

/-! ## The discard of every queued command -/

/-- The watch of pad n has a command queued or waiting. -/
abbrev State.watchAsked (s : State) (n : Nat) : Prop := (∃ c ∈ s.cmdQueue, c.req = .watch n) ∨ .watch n ∈ s.padWaiters

/-- Between s and m commands of the queue were discarded: a pad differs only in a clamp watch that was asked for, which has
ended, or is queued again. -/
structure State.Discarding (s m : State) : Prop where
  only : m = { s with
    cmdQueue := m.cmdQueue, padWaiters := m.padWaiters, pads := m.pads, walkDue := m.walkDue, opss := m.opss }
  waiters : ∀ n, .watch n ∈ m.padWaiters → .watch n ∈ s.padWaiters
  queue : ∀ c ∈ m.cmdQueue, ∀ n, c.req = .watch n → s.watchAsked n
  pads : ∀ n, m.pad? n = s.pad? n ∨ ∃ x, s.pad? n = some x ∧ s.watchAsked n ∧
    (m.pad? n = some { x with watch := .none } ∨
      m.pad? n = some { x with watch := .queued } ∧ ∃ c ∈ m.cmdQueue, c.req = .watch n)

theorem State.Discarding.refl (s : State) : s.Discarding s :=
  ⟨rfl, fun _ h => h, fun c hc _ hn => .inl ⟨c, hc, hn⟩, fun _ => .inl rfl⟩

section
variable {s m : State}

theorem State.Discarding.trigger (h : s.Discarding m) : s.Discarding m.trigger := by
  obtain ⟨honly, hw, hq, hp⟩ := h
  refine ⟨?_, hw, hq, hp⟩
  rw [State.trigger, honly]

/-- A waiting pad command is offered again. -/
theorem State.Discarding.reofferOne (h : s.Discarding m) (ht : ∀ t : TId, s.transfers[t] = none) {r : Requester}
    (hr : ∀ n, r = .watch n → .watch n ∈ s.padWaiters) : s.Discarding (m.reofferOne r) := by
  obtain ⟨honly, hw, hq, hp⟩ := h
  have htm : m.transfers = s.transfers := by rw [honly]
  by_cases hc : ∃ c, m.PadOffers r c ∧ m.PadRoom c
  · obtain ⟨c, ho, hroom⟩ := hc
    obtain ⟨hnext, hpads⟩ := (m.reofferOne_spec r).1 c ho hroom
    match r, ho, hr, hnext, hpads with
    | .xfer t, ho, _, _, _ =>
      obtain ⟨x, p, hx, -⟩ := ho
      rw [htm, ht t] at hx
      exact nomatch hx
    | .watch n, ho, hr, hnext, hpads =>
      obtain ⟨p, hpn, rfl⟩ := ho
      obtain ⟨htransfers, hpads⟩ := hpads.2 n rfl
      generalize m.reofferOne (.watch n) = u at hnext htransfers hpads ⊢
      have hcmd : u.cmdQueue = m.cmdQueue ++ [⟨.clamp, p.addr, n, .watch n⟩] := by rw [hnext]
      have hwait : u.padWaiters = m.padWaiters.filter fun w => decide (w ≠ .watch n) := by rw [hnext]
      have hasked : s.watchAsked n := .inr (hr n rfl)
      refine ⟨?_, fun k hk => ?_, fun c hc k hck => ?_, fun k => ?_⟩
      · rw [hnext, htransfers, honly]
      · rw [hwait] at hk
        exact hw k (List.mem_of_mem_filter hk)
      · rw [hcmd] at hc
        rcases List.mem_append.mp hc with hc | hc
        · exact hq c hc k hck
        · obtain rfl := List.mem_singleton.mp hc
          obtain rfl := Requester.watch.inj hck
          exact hasked
      · rw [hpads k, hcmd]
        by_cases hk : k = n
        · subst hk
          rw [if_pos rfl, hpn]
          have hnew : ∃ c ∈ m.cmdQueue ++ [(⟨.clamp, p.addr, k, .watch k⟩ : BusCmd)], c.req = .watch k :=
            ⟨_, List.mem_append_right _ (List.mem_singleton_self _), rfl⟩
          rcases hp k with hsame | ⟨x, hx, -, hnone | ⟨hqueued, -⟩⟩
          · exact .inr ⟨p, hsame.symm.trans hpn, hasked, .inr ⟨rfl, hnew⟩⟩
          · obtain rfl := Option.some.inj (hpn.symm.trans hnone)
            exact .inr ⟨x, hx, hasked, .inr ⟨rfl, hnew⟩⟩
          · obtain rfl := Option.some.inj (hpn.symm.trans hqueued)
            exact .inr ⟨x, hx, hasked, .inr ⟨rfl, hnew⟩⟩
        · rw [if_neg hk]
          refine (hp k).imp_right fun ⟨x, hx, ha, h⟩ => ⟨x, hx, ha, h.imp_right fun ⟨hm, c, hc, hck⟩ => ⟨hm, c, ?_, hck⟩⟩
          exact List.mem_append_left _ hc
  · rw [(m.reofferOne_spec r).2 fun c ho hroom => hc ⟨c, ho, hroom⟩]
    exact ⟨honly, hw, hq, hp⟩

theorem State.Discarding.reofferAll (ht : ∀ t : TId, s.transfers[t] = none) : ∀ (rs : List Requester) {m : State},
    s.Discarding m → (∀ r ∈ rs, ∀ n, r = .watch n → .watch n ∈ s.padWaiters) →
    s.Discarding (rs.foldl (fun m r => m.reofferOne r) m)
  | [], _, h, _ => h
  | r :: rs, _, h, hrs => State.Discarding.reofferAll ht rs (h.reofferOne ht (hrs r (List.mem_cons_self ..)))
      fun x hx => hrs x (List.mem_cons_of_mem _ hx)

theorem State.Discarding.commandExit (h : s.Discarding m) (ht : ∀ t : TId, s.transfers[t] = none) :
    s.Discarding m.commandExit := by
  have hall := h.reofferAll ht m.padWaiters fun r hr n hn => h.waiters n (hn ▸ hr)
  unfold State.commandExit
  dsimp only
  split
  · exact hall.trigger
  · exact hall

/-- A command of another owner than a watch leaves the queue. -/
theorem State.Discarding.pop (h : s.Discarding m) {c : BusCmd} {rest : List BusCmd} (hcmd : m.cmdQueue = c :: rest)
    (hc : ∀ n, c.req ≠ .watch n) : s.Discarding { m with cmdQueue := rest } := by
  obtain ⟨honly, hw, hq, hp⟩ := h
  rw [hcmd] at hq hp
  refine ⟨?_, hw, fun d hd => hq d (List.mem_cons_of_mem _ hd), fun k => ?_⟩
  · rw [honly]
  · refine (hp k).imp_right fun ⟨x, hx, ha, h⟩ => ⟨x, hx, ha, h.imp_right fun ⟨hm, d, hd, hdk⟩ => ⟨hm, d, ?_, hdk⟩⟩
    exact (List.mem_cons.mp hd).resolve_left fun hdc => hc k (hdc ▸ hdk)

/-- The CLAMP of a watch leaves the queue, and the watch ends. -/
theorem State.Discarding.popWatch (h : s.Discarding m) {c : BusCmd} {rest : List BusCmd} (hcmd : m.cmdQueue = c :: rest)
    {n : Nat} (hc : c.req = .watch n) : s.Discarding (({ m with cmdQueue := rest } : State).failWatch n) := by
  obtain ⟨honly, hw, hq, hp⟩ := h
  rw [hcmd] at hq hp
  have hasked : s.watchAsked n := hq c (List.mem_cons_self ..) n hc
  have hrest : ∀ k, k ≠ n → ∀ d ∈ c :: rest, d.req = .watch k → d ∈ rest := fun k hk d hd hdk =>
    (List.mem_cons.mp hd).resolve_left fun hdc => hk (Requester.watch.inj (hdk.symm.trans (hdc ▸ hc)))
  have hqueue : ∀ d ∈ rest, ∀ k, d.req = .watch k → s.watchAsked k := fun d hd => hq d (List.mem_cons_of_mem _ hd)
  by_cases hx : ∃ x, m.pad? n = some x ∧ x.watch ≠ .none
  · obtain ⟨x, hx, hwatch⟩ := hx
    obtain ⟨hnext, hpads, -⟩ := State.failWatch_spec (s := { m with cmdQueue := rest }) hx hwatch
    generalize ({ m with cmdQueue := rest } : State).failWatch n = u at hnext hpads ⊢
    have hrestq : u.cmdQueue = rest := by rw [hnext]
    have hwait : u.padWaiters = m.padWaiters.filter fun w => decide (w ≠ .watch n) := by rw [hnext]
    refine ⟨?_, fun k hk => ?_, ?_, fun k => ?_⟩
    · rw [hnext, honly]
    · rw [hwait] at hk
      exact hw k (List.mem_of_mem_filter hk)
    · rw [hrestq]
      exact hqueue
    · rw [hpads k, hrestq]
      by_cases hk : k = n
      · subst hk
        rw [if_pos rfl]
        rcases hp k with hsame | ⟨y, hy, -, hnone | ⟨hqueued, -⟩⟩
        · exact .inr ⟨x, hsame.symm.trans hx, hasked, .inl rfl⟩
        · obtain rfl := Option.some.inj (hx.symm.trans hnone)
          exact absurd rfl hwatch
        · obtain rfl := Option.some.inj (hx.symm.trans hqueued)
          exact .inr ⟨y, hy, hasked, .inl rfl⟩
      · rw [if_neg hk]
        refine (hp k).imp_right fun ⟨y, hy, ha, h⟩ => ⟨y, hy, ha, h.imp_right fun ⟨hm, d, hd, hdk⟩ => ⟨hm, d, ?_, hdk⟩⟩
        exact hrest k hk d hd hdk
  · rw [State.failWatch_idle (s := { m with cmdQueue := rest }) fun x hxm => by_contra fun hwatch => hx ⟨x, hxm, hwatch⟩]
    refine ⟨?_, hw, hqueue, fun k => ?_⟩
    · rw [honly]
    · by_cases hk : k = n
      · subst hk
        rcases hp k with hsame | ⟨y, hy, ha, hnone | ⟨hqueued, -⟩⟩
        · exact .inl hsame
        · exact .inr ⟨y, hy, ha, .inl hnone⟩
        · exact absurd ⟨_, hqueued, Watch.noConfusion⟩ hx
      · refine (hp k).imp_right fun ⟨y, hy, ha, h⟩ => ⟨y, hy, ha, h.imp_right fun ⟨hm, d, hd, hdk⟩ => ⟨hm, d, ?_, hdk⟩⟩
        exact hrest k hk d hd hdk

/-- One command is discarded, and its owner told. -/
def State.discardTold (s : State) (c : BusCmd) : State :=
  match c.req with
  | .tr _ => s.trigger
  | .ops => s.trigger
  | .xfer _ => s
  | .watch p => s.failWatch p

theorem discardAll_cons {n : Nat} {c : BusCmd} {rest : List BusCmd} (h : s.cmdQueue = c :: rest) :
    discardAll (n + 1) s = discardAll n (({ s with cmdQueue := rest } : State).discardTold c).commandExit := by
  rw [discardAll, h]
  rfl

theorem discardAll_nil (n : Nat) (h : s.cmdQueue = []) : discardAll n s = s := by
  cases n with
  | zero =>
    rw [discardAll, ← h]
  | succ n => rw [discardAll, h]

theorem State.Discarding.told (h : s.Discarding m) {c : BusCmd} {rest : List BusCmd} (hcmd : m.cmdQueue = c :: rest) :
    s.Discarding (({ m with cmdQueue := rest } : State).discardTold c) := by
  unfold State.discardTold
  split
  next h1 => exact (h.pop hcmd (by rw [h1]; exact fun _ => Requester.noConfusion)).trigger
  next h1 => exact (h.pop hcmd (by rw [h1]; exact fun _ => Requester.noConfusion)).trigger
  next h1 => exact h.pop hcmd (by rw [h1]; exact fun _ => Requester.noConfusion)
  next h1 => exact h.popWatch hcmd h1

/-- Telling an owner leaves the queue, and adds no waiter. -/
theorem State.discardTold_load (s : State) (c : BusCmd) : (s.discardTold c).load ≤ s.load := by
  unfold State.discardTold
  split
  · exact le_rfl
  · exact le_rfl
  · exact le_rfl
  next p _ =>
    by_cases hx : ∃ x, s.pad? p = some x ∧ x.watch ≠ .none
    · obtain ⟨x, hx, hw⟩ := hx
      rw [State.load, State.load, (State.failWatch_spec hx hw).1]
      exact Nat.add_le_add_left (List.length_filter_le ..) _
    · rw [State.failWatch_idle fun x hxm => by_contra fun hw => hx ⟨x, hxm, hw⟩]

/-- With fuel for what is queued and waits, every command of the queue is discarded. -/
theorem discardAll_discarding (ht : ∀ t : TId, s.transfers[t] = none) : ∀ (n : Nat) {m : State}, m.load ≤ n →
    s.Discarding m → s.Discarding (discardAll n m) ∧ (discardAll n m).cmdQueue = []
  | 0, m, hn, h => by
    have hq : m.cmdQueue = [] := List.length_eq_zero_iff.mp (by unfold State.load at hn; omega)
    rw [discardAll_nil 0 hq]
    exact ⟨h, hq⟩
  | n + 1, m, hn, h => by
    cases hq : m.cmdQueue with
    | nil =>
      rw [discardAll_nil _ hq]
      exact ⟨h, hq⟩
    | cons c rest =>
      rw [discardAll_cons hq]
      refine discardAll_discarding ht n ?_ ((h.told hq).commandExit ht)
      have hload : ({ m with cmdQueue := rest } : State).load + 1 = m.load := by
        simp only [State.load, hq, List.length_cons]
        omega
      have htold := ({ m with cmdQueue := rest } : State).discardTold_load c
      have hexit := (({ m with cmdQueue := rest } : State).discardTold c).load_commandExit
      change State.load (State.commandExit _) ≤ _ at hexit
      omega
end

/-! ## The discard where no pad command waits for room -/

theorem State.commandExit_noWaiters {s : State} (h : s.padWaiters = []) :
    s.commandExit = { s with walkDue := s.walkDue || s.roomWait } := by
  have hexit : s.commandExit = if s.roomWait then s.trigger else s := by
    unfold State.commandExit
    rw [h]
    rfl
  rw [hexit]
  by_cases hr : s.roomWait = true
  · rw [if_pos hr, show (s.walkDue || s.roomWait) = true by rw [hr, Bool.or_true]]
    rfl
  · rw [if_neg hr, show (s.walkDue || s.roomWait) = s.walkDue by rw [Bool.eq_false_of_not_eq_true hr, Bool.or_false]]

/-- The pad whose watch asked for a command. -/
def BusCmd.watch (c : BusCmd) : Option Nat :=
  match c.req with
  | .watch n => some n
  | _ => none

theorem BusCmd.watch_eq_some {c : BusCmd} {n : Nat} : c.watch = some n ↔ c.req = .watch n := by
  unfold BusCmd.watch
  cases h : c.req <;> simp

/-- A throw's discard makes a walk due. -/
def BusCmd.throws (c : BusCmd) : Bool := decide (c.req = .ops ∨ ∃ t, c.req = .tr t)

/-- The notice that ends pad n's watch. -/
def State.watchNotice (s : State) (n : Nat) : NoticeBody :=
  .clampFailed n (((s.pad? n).map (·.clamp)).getD .unknown) (s.telescopeOnPad n)

/-- One command discarded where no pad command waits. -/
theorem State.discardTold_spec {s : State} {c : BusCmd} (hwait : s.padWaiters = [])
    (hx : ∀ n, c.watch = some n → ∃ x, s.pad? n = some x ∧ x.watch ≠ .none) :
    let u := (s.discardTold c).commandExit
    u = { s with walkDue := s.walkDue || c.throws || s.roomWait, pads := u.pads, opss := u.opss } ∧
    (∀ m, u.pad? m = if c.watch = some m then (s.pad? m).map fun x => { x with watch := .none } else s.pad? m) ∧
    s.Told u (c.watch.toList.map s.watchNotice) := by
  have hidle : c.watch = none → s.discardTold c = { s with walkDue := s.walkDue || c.throws } →
      let u := (s.discardTold c).commandExit
      u = { s with walkDue := s.walkDue || c.throws || s.roomWait, pads := u.pads, opss := u.opss } ∧
      (∀ m, u.pad? m = if c.watch = some m then (s.pad? m).map fun x => { x with watch := .none } else s.pad? m) ∧
      s.Told u (c.watch.toList.map s.watchNotice) := fun hno heq => by
    rw [heq, State.commandExit_noWaiters (s := { s with walkDue := s.walkDue || c.throws }) hwait, hno]
    exact ⟨rfl, fun m => rfl, fun k => rfl⟩
  cases hreq : c.req with
  | tr t => exact hidle (by simp [BusCmd.watch, hreq]) (by simp [State.discardTold, hreq, BusCmd.throws, State.trigger])
  | ops => exact hidle (by simp [BusCmd.watch, hreq]) (by simp [State.discardTold, hreq, BusCmd.throws, State.trigger])
  | xfer t => exact hidle (by simp [BusCmd.watch, hreq]) (by simp [State.discardTold, hreq, BusCmd.throws])
  | watch n =>
    have hwatch : c.watch = some n := BusCmd.watch_eq_some.mpr hreq
    obtain ⟨x, hxn, hne⟩ := hx n hwatch
    obtain ⟨honly, hpads, htold⟩ := State.failWatch_spec hxn hne
    have hthrows : c.throws = false := by simp [BusCmd.throws, hreq]
    have htell : s.discardTold c = s.failWatch n := by rw [State.discardTold, hreq]
    have hwait' : (s.failWatch n).padWaiters = [] := by rw [honly, hwait, List.filter_nil]
    rw [htell, State.commandExit_noWaiters hwait', hwatch, hthrows, Bool.or_false]
    refine ⟨?_, fun m => (hpads m).trans ?_, ?_⟩
    · have hsame : (s.padWaiters.filter fun w => decide (w ≠ .watch n)) = s.padWaiters := by rw [hwait]; rfl
      rw [hsame] at honly
      rw [honly]
    · by_cases hm : m = n
      · rw [if_pos hm, if_pos (congrArg some hm.symm), hm, hxn]
        rfl
      · rw [if_neg hm, if_neg fun h => hm (Option.some.inj h).symm]
    · have hnotice : s.watchNotice n = .clampFailed n x.clamp (s.telescopeOnPad n) := by
        rw [State.watchNotice, hxn]
        rfl
      rw [Option.toList_some, List.map_cons, List.map_nil, hnotice]
      exact htold

/-- The discard of a queue whose watches run, each once, while no pad command waits. -/
theorem discardAll_watches : ∀ (n : Nat) {m : State}, m.load ≤ n → m.padWaiters = [] →
    (m.cmdQueue.filterMap BusCmd.watch).Nodup →
    (∀ k ∈ m.cmdQueue.filterMap BusCmd.watch, ∃ x, m.pad? k = some x ∧ x.watch ≠ .none) →
    (discardAll n m).padWaiters = [] ∧
    (∀ k, (discardAll n m).pad? k = (m.pad? k).map fun x =>
      { x with watch := if k ∈ m.cmdQueue.filterMap BusCmd.watch then .none else x.watch }) ∧
    m.Told (discardAll n m) ((m.cmdQueue.filterMap BusCmd.watch).map m.watchNotice) ∧
    (discardAll n m).walkDue = (m.walkDue || m.cmdQueue.any BusCmd.throws || m.roomWait && !m.cmdQueue.isEmpty)
  | n, m, hn, hwait, hnodup, hwatch => by
    cases hq : m.cmdQueue with
    | nil =>
      rw [discardAll_nil _ hq]
      refine ⟨hwait, fun k => ?_, State.told_nil rfl, by simp⟩
      cases m.pad? k <;> simp
    | cons c rest =>
      obtain ⟨n, rfl⟩ : ∃ j, n = j + 1 := ⟨n - 1, by
        simp only [State.load, hq, List.length_cons] at hn
        omega⟩
      rw [hq] at hnodup hwatch
      obtain ⟨honly, hpads, htold⟩ := State.discardTold_spec (s := { m with cmdQueue := rest }) (c := c) hwait fun k hk =>
        hwatch k (by simp [hk])
      rw [discardAll_cons hq]
      generalize (({ m with cmdQueue := rest } : State).discardTold c).commandExit = u at honly hpads htold ⊢
      have hrest : u.cmdQueue = rest := by rw [honly]
      have hwaitu : u.padWaiters = [] := by rw [honly]; exact hwait
      have hne : ∀ k ∈ rest.filterMap BusCmd.watch, c.watch ≠ some k := fun k hk hck => by
        rw [List.filterMap_cons, hck] at hnodup
        exact (List.nodup_cons.mp hnodup).1 hk
      have hsub : (rest.filterMap BusCmd.watch).Sublist ((c :: rest).filterMap BusCmd.watch) :=
        (List.sublist_cons_self ..).filterMap _
      obtain ⟨hwait', hpads', htold', hdue⟩ := discardAll_watches n (m := u)
        (by
          simp only [State.load, hq, List.length_cons, hwait] at hn
          simp only [State.load, hrest, hwaitu]
          omega)
        hwaitu (by rw [hrest]; exact hnodup.sublist hsub)
        (fun k hk => by
          rw [hrest] at hk
          rw [hpads k, if_neg (hne k hk)]
          exact hwatch k (hsub.subset hk))
      rw [hrest] at hpads' htold' hdue
      refine ⟨hwait', fun k => ?_, fun j => ?_, ?_⟩
      · rw [hpads' k, hpads k]
        by_cases hck : c.watch = some k
        · have hk : k ∉ rest.filterMap BusCmd.watch := fun hk => hne k hk hck
          have hin : k ∈ (c :: rest).filterMap BusCmd.watch := by simp [hck]
          rw [if_pos hck]
          simp only [hk, hin, if_true, if_false, Option.map_map]
          rfl
        · have hin : k ∈ (c :: rest).filterMap BusCmd.watch ↔ k ∈ rest.filterMap BusCmd.watch := by simp [hck]
          rw [if_neg hck]
          by_cases hk : k ∈ rest.filterMap BusCmd.watch
          · simp only [hk, hin.mpr hk, if_true]
            rfl
          · simp only [hk, mt hin.mp hk, if_false]
            rfl
      · have hnotice : (rest.filterMap BusCmd.watch).map u.watchNotice = (rest.filterMap BusCmd.watch).map m.watchNotice :=
          List.map_congr_left fun k hk => by
            rw [State.watchNotice, State.watchNotice, hpads k, if_neg (hne k hk), State.telescopeOnPad, honly]
            rfl
        have hfirst : (c :: rest).filterMap BusCmd.watch = c.watch.toList ++ rest.filterMap BusCmd.watch := by
          cases hc : c.watch <;> simp [hc]
        rw [hfirst, List.map_append, ← hnotice]
        exact (State.Told.trans (s := { m with cmdQueue := rest }) htold (by rw [honly]) htold') j
      · rw [hdue, honly, List.any_cons]
        cases m.walkDue <;> cases m.roomWait <;> cases c.throws <;> simp

end Sys2Proof.Machine

/-! PROOFS. RESET FIELDBUS (R191, R167): the units and the polls afterwards, and the command. -/

namespace Sys2Proof.Machine

/-- The bus idle and every queued command discarded (R167). -/
def State.emptied (s : State) : State := discardAll (s.cmdQueue.length + s.padWaiters.length) { s with exchange := none }

/-- A unit's record after the reset of the bus. -/
def UnitRec.afresh (site : SiteState) (x : UnitRec) : UnitRec :=
  ⟨x.typ, if x.st = .silent then .restoring else x.st, 0, false, if x.st = .silent ∧ site = .survey then false else x.surveyed⟩

/-- The records, counts and poll position after the reset of the bus, before the first poll. -/
def State.busAfresh (s : State) : State :=
  { s with
    units := Table.mapAll s.units (UnitRec.afresh s.site), restoreList := [], forced := 0
    pollPos := if s.site = .survey then ((Table.mapAll s.units (UnitRec.afresh s.site)).find? fun p => !p.2.surveyed).map (·.1)
               else s.units.head?.map (·.1) }

theorem Table.head_mapAll {α : Type} (t : Table α) (f : α → α) : (Table.mapAll t f).head?.map (·.1) = t.head?.map (·.1) := by
  cases t <;> rfl

theorem State.resetBus_eq (s : State) : s.resetBus = s.emptied.busAfresh.choosePoll := by
  have hhead := Table.head_mapAll s.emptied.units (UnitRec.afresh s.emptied.site)
  rw [State.busAfresh, ← hhead]
  rfl

theorem State.emptied_discarding {s : State} (ht : ∀ t : TId, s.transfers[t] = none) :
    ({ s with exchange := none } : State).Discarding s.emptied ∧ s.emptied.cmdQueue = [] :=
  discardAll_discarding (s := { s with exchange := none }) ht _ le_rfl (.refl _)

/-- Every unit of a site in RUNNING is polled after the reset of the bus, and the lowest first. -/
theorem State.busAfresh_poll {s : State} (h : s.site = .running) :
    s.busAfresh.choosePoll.exchange = s.units.head?.map fun p => s.request p.1 .poll := by
  have hlist : s.busAfresh.pollList = s.units.map (·.1) := by
    have hall : ∀ p ∈ Table.mapAll s.units (UnitRec.afresh s.site), s.busAfresh.pollable p.2 = true := by
      intro p hp
      obtain ⟨⟨a, x⟩, -, rfl⟩ := List.mem_map.mp hp
      have hst : (UnitRec.afresh s.site x).st ≠ .silent := by
        unfold UnitRec.afresh
        dsimp only
        split
        · exact UnitState.noConfusion
        next hst => exact hst
      simp only [State.pollable, State.busAfresh, h]
      rw [h] at hst
      simp [hst]
    rw [State.pollList]
    change ((Table.mapAll s.units _).filter _).map _ = _
    rw [List.filter_eq_self.mpr hall, Table.mapAll, List.map_map]
    rfl
  have hpos : s.busAfresh.pollPos = (s.units.map (·.1)).head? := by
    rw [List.head?_map]
    exact if_neg (by rw [h]; exact SiteState.noConfusion)
  have hrest : s.busAfresh.restoreList = [] := rfl
  have hreq : ∀ a, s.busAfresh.request a .poll = s.request a .poll := fun _ => rfl
  simp only [State.choosePoll, hrest, hlist, hpos]
  cases hu : s.units with
  | nil => rfl
  | cons p us =>
    rw [nextFrom_lowest (by simp)]
    rfl

/-! ## The command -/

theorem State.resetFieldbusCommand_judged (s : State) (l : OpsId) (tag : Byte) :
    s.resetFieldbusCommand l tag =
      if s.site = .unconfigured then s.reply l tag 0x69 .state []
      else if (∃ t : TId, s.transfers[t] ≠ none) ∨ ∃ p ∈ s.points, p.2.pos = .moving then s.reply l tag 0x69 .state []
      else s.resetBus.reply l tag 0x69 .ok [] := by
  rw [State.resetFieldbusCommand, State.judge_cons (p := s.site = .unconfigured) (by simp),
    State.judge_cons (p := (∃ t : TId, s.transfers[t] ≠ none) ∨ ∃ p ∈ s.points, p.2.pos = .moving) ?_, State.judge_nil]
  · rfl
  · rw [← Bool.not_or, Bool.not_eq_false', Bool.or_eq_true, State.anyTransfer, State.anyMoving, List.any_eq_true,
      List.any_eq_true]
    refine or_congr ⟨fun ⟨t, _, h⟩ => ⟨t, Option.isSome_iff_ne_none.mp h⟩,
      fun ⟨t, h⟩ => ⟨t, mem_allT t, Option.isSome_iff_ne_none.mpr h⟩⟩ ?_
    exact ⟨fun ⟨p, hp, h⟩ => ⟨p, hp, of_decide_eq_true h⟩, fun ⟨p, hp, h⟩ => ⟨p, hp, decide_eq_true h⟩⟩

theorem exec_resetFieldbus {s : State} {l : OpsId} (hl : s.OpsReady l) (tag : Byte) :
    exec (.resetFieldbus l tag [1, 0]) s = .next (s.resetFieldbusCommand l tag) := (exec_reset_ready hl tag [1, 0]).2.1

/-- The reset of the bus on a state whose commands are discarded. -/
theorem State.busAfresh_only {s e : State} {w : List Requester} {p : Table Pad} {d : Bool} {o : Vector OpsPort 2}
    (h : e = { s with exchange := none, cmdQueue := [], padWaiters := w, pads := p, walkDue := d, opss := o }) :
    e.busAfresh = { s with
      units := Table.mapAll s.units (UnitRec.afresh s.site), restoreList := [], cmdQueue := [], forced := 0
      pollPos := if s.site = .survey then
          ((Table.mapAll s.units (UnitRec.afresh s.site)).find? fun p => !p.2.surveyed).map (·.1)
        else s.units.head?.map (·.1)
      exchange := none, walkDue := d, padWaiters := w, pads := p, opss := o } := by
  subst h
  rfl

/-- What an accepted RESET FIELDBUS leaves. -/
theorem State.resetBus_spec {s : State} (hwf : s.TablesWf) (ht : ∀ t : TId, s.transfers[t] = none) :
    let u := s.resetBus
    u = { s with
      units := u.units, restoreList := [], cmdQueue := [], pollPos := u.pollPos, forced := 0, exchange := u.exchange
      walkDue := s.emptied.walkDue, padWaiters := s.emptied.padWaiters, pads := s.emptied.pads, opss := s.emptied.opss } ∧
    (∀ a, u.unit? a = (s.unit? a).map (UnitRec.afresh s.site)) ∧
    (s.site = .running → u.exchange = s.units.head?.map fun p => s.request p.1 .poll) ∧
    (∃ w : State, w = { u with exchange := none, pollPos := w.pollPos } ∧ w.PollChosen u ∧
      w.pollPos = if s.site = .survey then (w.units.find? fun p => !p.2.surveyed).map (·.1)
                  else s.units.head?.map (·.1)) := by
  obtain ⟨hdisc, hempty⟩ := State.emptied_discarding ht
  have honly := hdisc.only
  rw [hempty] at honly
  have hafresh := State.busAfresh_only honly
  have hpoll := s.emptied.busAfresh.choosePoll_only
  rw [s.emptied.busAfresh.choosePoll_forced rfl] at hpoll
  have hunits : s.emptied.units = s.units := by rw [honly]
  have hsite : s.emptied.site = s.site := by rw [honly]
  have hparams : s.emptied.params = s.params := by rw [honly]
  obtain ⟨-, -, -, hwfu, -⟩ := hwf
  rw [s.resetBus_eq]
  refine ⟨?_, fun a => ?_, fun h => ?_, s.emptied.busAfresh, ?_, State.choosePoll_pollChosen ?_, ?_⟩
  · rw [hpoll, hafresh]
  · rw [hpoll, hafresh]
    exact Table.find_mapAll ..
  · rw [State.busAfresh_poll (hsite.trans h), hunits]
    simp only [State.request, hparams]
  · rw [hpoll, hafresh]
  · rw [hafresh]
    exact (Table.wf_mapAll ..).trans hwfu
  · rw [hafresh]

/-- Settles O8, by the discard of the queue, the records afresh and the poll chosen. -/
theorem resetFieldbusResult : Obligations.ResetFieldbusResult := by
  intro s l tag hl
  have hjudged := s.resetFieldbusCommand_judged l tag
  refine ⟨fun h => ?_, fun scope n h => ?_, fun hwf hsite ht hmoving => ?_⟩
  · rw [exec_resetFieldbus hl, hjudged]
    by_cases hu : s.site = .unconfigured
    · rw [if_pos hu]
    · rw [if_neg hu, if_pos (h.resolve_left hu)]
  · rw [(exec_reset_ready hl tag [scope, n]).2.1]
    have h0 : scope ≠ 0 := by
      rintro rfl
      rcases h with ⟨h, -⟩ | h
      · exact absurd h (by decide)
      · exact absurd h (by decide)
    have h1 : ¬ ((scope = 1 ∨ scope = 2) ∧ n = 0) := by
      rintro ⟨h1 | h1, hn⟩
      · rcases h with ⟨-, h⟩ | h
        · exact h hn
        · exact absurd h (by rw [h1]; decide)
      · subst h1
        rcases h with ⟨h, -⟩ | h
        · exact absurd h (by decide)
        · exact absurd h (by decide)
    exact congrArg Host.Outcome.next ((if_neg h0).trans (if_neg h1))
  · obtain ⟨honly, hunits, hrun, hpoll⟩ := State.resetBus_spec hwf ht
    obtain ⟨hdisc, hempty⟩ := State.emptied_discarding ht
    refine ⟨s.resetBus, ?_, ?_, hunits, hrun, hpoll, fun n => ?_, fun hwait => ?_⟩
    · rw [exec_resetFieldbus hl, hjudged, if_neg hsite, if_neg]
      rintro (⟨t, h⟩ | ⟨p, hp, h⟩)
      · exact h (ht t)
      · exact hmoving p hp h
    · rw [honly]
    · have hpads : s.resetBus.pad? n = s.emptied.pad? n := by rw [State.pad?, honly]; rfl
      rw [hpads]
      rcases hdisc.pads n with h | ⟨x, hx, ha, h | ⟨-, c, hc, -⟩⟩
      · exact .inl h
      · by_cases hw : x.watch = .none
        · refine .inl (h.trans ?_)
          rw [← hw]
          exact hx.symm
        · exact .inr ⟨x, hx, hw, ha, h⟩
      · rw [hempty] at hc
        exact absurd hc List.not_mem_nil
    · intro ended hnodup hwatch
      obtain ⟨hw, hp, htold, hdue⟩ := discardAll_watches s.load (m := { s with exchange := none }) le_rfl hwait hnodup hwatch
      refine ⟨?_, fun n => ?_, fun k => ?_, ?_⟩
      · rw [honly]
        exact hw
      · rw [State.pad?, honly]
        exact hp n
      · rw [State.opsPort, honly]
        exact htold k
      · rw [honly]
        exact hdue

end Sys2Proof.Machine

/-! PROOFS. Dropping a reservation (R58), withdrawing a route (R62, R75), and trips (R115). -/

namespace Sys2Proof.Machine

/-! ## A reservation dropped (R58) -/

theorem State.dropSetting_dropped (s : State) (t : TId) : s.Dropped (s.dropSetting t) t := by
  obtain ⟨hsec, honly⟩ := s.dropSettingRaw_spec t
  rcases s.dropSetting_spec t with ⟨hnone, heq⟩ | ⟨hsome, heval⟩
  · exact ⟨fun _ => heq, fun h => absurd hnone h⟩
  · refine ⟨fun h => absurd h hsome, fun _ => ⟨s.dropSettingRaw t, ?_, hsec, heval⟩⟩
    have hdue : (s.walkDue || !(s.settingRun t).isEmpty) = true := by
      rw [Bool.or_eq_true, Bool.not_eq_true', List.isEmpty_eq_false_iff]
      exact .inr hsome
    rw [hdue] at honly
    exact honly

/-- After a reservation is dropped, t holds firmly what it held firmly, and nothing else of its record. -/
theorem State.holdBy_dropSetting_isSome (s : State) (t : TId) {n : Nat} (hn : s.inRecord t n) :
    ((s.dropSetting t).holdBy t n).isSome = decide (s.holdsFirm t n) := by
  rw [State.holdBy_eq, (s.dropSetting_frame t).1 n]
  cases hx : s.sec? n with
  | none => simp [State.holdsFirm, State.holdBy, hx]
  | some x =>
    cases hh : x.hold with
    | none => simp [State.holdsFirm, State.holdBy, hx, hh]
    | some h =>
      by_cases ht : h.holder = t
      · cases hk : h.kind <;> simp [State.holdsFirm, State.holdBy, hx, hh, ht, hk, hn]
      · simp [State.holdsFirm, State.holdBy, hx, hh, ht]

/-! ## A route withdrawn (R62, R75) -/

theorem RouteRecord.followLast_eq (r : RouteRecord) : r.followLast = { r with nextIdx := r.followLast.nextIdx } := by
  unfold RouteRecord.followLast
  split <;> rfl

theorem State.route_dropTail (s : State) (t u : TId) : (s.dropTail t).route u = if u = t then { s.route t with
    entries := (s.route t).entries.filter fun e => (s.holdBy t e.sec).isSome
    nextIdx := ((s.dropTail t).route t).nextIdx } else s.route u := by
  have hself : (s.dropTail t).route t = RouteRecord.followLast { s.route t with
      entries := (s.route t).entries.filter fun e => (s.holdBy t e.sec).isSome } := by
    rw [State.dropTail, State.route_modRoute_self]
  by_cases hu : u = t
  · rw [if_pos hu, hu]
    conv_lhs => rw [hself, RouteRecord.followLast_eq]
    rw [hself]
  · rw [if_neg hu, State.dropTail, State.route_modRoute, if_neg (Ne.symm hu)]

/-- The part of t's route not yet granted was withdrawn between s and u: t leaves the queue, its reservation is dropped,
and its record keeps the entries it holds firmly. -/
structure State.Withdrawn (s u : State) (t : TId) : Prop where
  dropped : ∃ d, ({ s with waiting := s.waiting.filter fun w => decide (w.t ≠ t) } : State).Dropped d t ∧
    u = { d with routes := u.routes }
  holds : ∀ n, u.sec? n = (s.sec? n).map fun x =>
    { x with hold := if s.holdBy t n = some .setting ∧ s.inRecord t n then none else x.hold }
  route : u.route t = { s.route t with
    entries := (s.route t).entries.filter fun e => decide (s.holdsFirm t e.sec), nextIdx := (u.route t).nextIdx }
  record : u.tr t = if s.settingRun t = [] then s.tr t
    else (s.tr t).evaluated (u.stopCauses t) (decide (s.speed t ≤ s.params.overspeedTol))
  port : ∀ v, s.OnlyAuth u v
  only : u = { s with
    sections := u.sections, trs := u.trs, routes := u.routes, tls := u.tls, ceilings := u.ceilings
    waiting := s.waiting.filter fun w => decide (w.t ≠ t), walkDue := s.walkDue || !(s.settingRun t).isEmpty
    opss := u.opss }
  others : ∀ v, v ≠ t → s.SameTransporter u v

theorem State.withdrawRoute_withdrawn (s : State) (t : TId) : s.Withdrawn (s.withdrawRoute t) t := by
  let q := s.leaveQueue t
  obtain ⟨hsec, honly, hport, hothers, hrecord⟩ := q.dropSetting_frame t
  have hsame : s.withdrawRoute t = { q.dropSetting t with routes := (s.withdrawRoute t).routes } := rfl
  have hroute := (q.dropSetting t).route_dropTail t
  have hkept : (q.dropSetting t).route t = s.route t := by rw [honly]; rfl
  have hfilter : ((s.route t).entries.filter fun e => ((q.dropSetting t).holdBy t e.sec).isSome) =
      (s.route t).entries.filter fun e => decide (s.holdsFirm t e.sec) :=
    List.filter_congr fun e he => q.holdBy_dropSetting_isSome t ⟨e, he, rfl⟩
  exact {
    dropped := ⟨_, q.dropSetting_dropped t, hsame⟩
    holds := hsec
    route := by
      have h := hroute t
      rw [if_pos rfl, hkept, hfilter] at h
      exact h
    record := hrecord
    port := hport
    only := by
      rw [hsame, honly]
      rfl
    others := fun v hv => by
      obtain ⟨h1, h2, h3, h4, h5⟩ := hothers v hv
      refine ⟨h1, ?_, h3, h4, h5⟩
      have h := hroute v
      rw [if_neg hv] at h
      exact h.trans h2 }

/-! ## Trips (R115) -/

/-- Between s and u transporter t tripped for the causes cs at once. -/
structure State.TrippedBy (s u : State) (t : TId) (cs : List TripCause) : Prop where
  record : u.tr t = { s.tr t with
    state := .tripped, standSeen := false, trips := (s.tr t).trips.addAll cs
    stop := if s.settingRun t = [] then (s.tr t).stop else u.stopCauses t }
  route : u.route t = { s.route t with
    entries := (s.route t).entries.filter fun e => decide (s.holdsFirm t e.sec), nextIdx := (u.route t).nextIdx
    keep := false, finalOff := ((s.route t).endPos.map (·.off)).getD 0 }
  holds : ∀ n, u.sec? n = (s.sec? n).map fun x =>
    { x with hold := if s.holdBy t n = some .setting ∧ s.inRecord t n then none else x.hold }
  auth : u.AuthCurrent t
  port : s.OnlyAuth u t
  told : s.Told u [.tripped t (TripSet.empty.addAll cs) (u.tr t).trips ((s.tr t).last.map (·.sec))
    ((s.tr t).last.map (·.off))]
  only : u = { s with
    sections := u.sections, trs := u.trs, routes := u.routes, tls := u.tls, ceilings := u.ceilings
    waiting := s.waiting.filter fun w => decide (w.t ≠ t), walkDue := s.walkDue || !(s.settingRun t).isEmpty
    opss := u.opss }
  others : ∀ v, v ≠ t → s.SameTransporter u v

/-- A transporter TRIPPED is told of nothing by an evaluation, and keeps its record but for its stop causes. -/
theorem Transporter.evaluated_tripped {x : Transporter} (h : x.state = .tripped) (c : StopSet) (b : Bool) :
    x.evaluated c b = { x with stop := c } := by
  unfold Transporter.evaluated
  rw [h]
  by_cases hc : x.stop = c
  · rw [if_pos (.inr hc), ← hc]
    exact h ▸ rfl
  · simp [hc]

theorem State.evaluationNotice_tripped {s : State} {t : TId} (h : (s.tr t).state = .tripped) :
    s.evaluationNotice t = [] := by
  unfold State.evaluationNotice
  rw [h]
  simp

/-- A reservation dropped from a transporter TRIPPED is told to nobody. -/
theorem State.Dropped.opss_tripped {s d : State} {t : TId} (h : s.Dropped d t) (ht : (s.tr t).state = .tripped) :
    s.Told d [] := by
  by_cases hs : s.settingRun t = []
  · rw [h.nothing hs]
    exact State.told_nil rfl
  · obtain ⟨m, hm, -, heval⟩ := h.drop hs
    have hmt : (m.tr t).state = .tripped := by rw [hm]; exact ht
    have htold := heval.notices
    rw [List.flatMap_singleton, State.evaluationNotice_tripped hmt] at htold
    intro k
    rw [htold k, hm]
    rfl

/-- The route of a trip ends where the authority ends, its keep mark clear. -/
theorem State.route_endHere (s : State) (t v : TId) : ((s.finalToEnd t).clearKeep t).route v =
    if v = t then { s.route t with finalOff := ((s.route t).endPos.map (·.off)).getD 0, keep := false } else s.route v := by
  by_cases hv : v = t
  · rw [if_pos hv, hv, State.clearKeep, State.route_modRoute_self, State.finalToEnd, State.route_modRoute_self]
  · rw [if_neg hv, State.clearKeep, State.route_modRoute, if_neg (Ne.symm hv), State.finalToEnd, State.route_modRoute,
      if_neg (Ne.symm hv)]

/-- The record of a transporter that trips, its reservation not yet dropped (steps 1 to 3 of R115). -/
def State.marked (s : State) (t : TId) (cs : List TripCause) : State :=
  (s.addTrips t cs).modTr t fun x => { x with state := .tripped, standSeen := false }

theorem State.tr_marked (s : State) (t v : TId) (cs : List TripCause) : (s.marked t cs).tr v = if v = t then { s.tr t with
    state := .tripped, standSeen := false, trips := (s.tr t).trips.addAll cs } else s.tr v := by
  by_cases hv : v = t
  · rw [if_pos hv, hv, State.marked, State.tr_modTr_self, State.addTrips, State.tr_modTr_self]
  · rw [if_neg hv, State.marked, State.tr_modTr, if_neg (Ne.symm hv), State.addTrips, State.tr_modTr, if_neg (Ne.symm hv)]

theorem State.enterTripped_trippedBy (s : State) (t : TId) (cs : List TripCause) :
    s.TrippedBy (s.enterTripped t cs) t cs := by
  have hmarked := s.tr_marked t t cs
  rw [if_pos rfl] at hmarked
  have hw := (s.marked t cs).withdrawRoute_withdrawn t
  generalize hq : (s.marked t cs).withdrawRoute t = w at hw
  have hroute := w.route_endHere t
  obtain ⟨hauth, hformed, hport, hothers⟩ := ((w.finalToEnd t).clearKeep t).formAuth_spec t
  have hu : s.enterTripped t cs = (((w.finalToEnd t).clearKeep t).formAuth t).postTripped t cs := by rw [← hq]; rfl
  rw [hu]
  generalize hf : ((w.finalToEnd t).clearKeep t).formAuth t = f at hauth hformed hport hothers
  have hfw : f = { w with routes := f.routes, tls := f.tls, ceilings := f.ceilings } := by rw [hformed]; rfl
  have hfr : ∀ v, f.route v = ((w.finalToEnd t).clearKeep t).route v := fun v => by rw [State.route, hformed]; rfl
  have htold : s.Told w [] := by
    obtain ⟨d, hdrop, hd⟩ := hw.dropped
    have h := hdrop.opss_tripped (congrArg Transporter.state hmarked)
    rw [hd]
    exact h
  have htr : ∀ v, f.tr v = w.tr v := by rw [hfw]; exact fun _ => rfl
  have hcauses : f.stopCauses = w.stopCauses := by
    rw [hfw]
    exact State.stopCauses_eq rfl rfl rfl rfl rfl
  have hrec : f.tr t = { s.tr t with
      state := .tripped, standSeen := false, trips := (s.tr t).trips.addAll cs
      stop := if s.settingRun t = [] then (s.tr t).stop else f.stopCauses t } := by
    have h := hw.record
    rw [hmarked, Transporter.evaluated_tripped rfl] at h
    rw [htr, h, hcauses]
    change (if s.settingRun t = [] then _ else _) = _
    by_cases hs : s.settingRun t = []
    · rw [if_pos hs, if_pos hs]
    · rw [if_neg hs, if_neg hs]
  exact {
    record := hrec
    route := by
      have h := hw.route
      rw [show (s.marked t cs).route t = s.route t from rfl] at h
      have hft := (hfr t).trans (hroute t)
      rw [if_pos rfl] at hft
      have hsame : (f.postTripped t cs).route t = f.route t := rfl
      rw [hsame, hft, h]
      rfl
    holds := fun n => by
      change f.sec? n = _
      rw [State.sec?, hfw]
      exact hw.holds n
    auth := by
      have hs : f.SameForAuth (f.postTripped t cs) t := ⟨rfl, rfl, fun _ => rfl, rfl, rfl, rfl⟩
      exact hs.authCurrent hauth rfl rfl
    port := by
      have hwport : w.tl t = { s.tl t with auth := (w.tl t).auth } := hw.port t
      have hft : f.tl t = { w.tl t with auth := (f.tl t).auth } := hport
      rw [hwport] at hft
      exact hft
    told := by
      have hlast : (f.tr t).last = (s.tr t).last := by rw [hrec]
      have h := htold.trans (by rw [hw.only]; rfl) (State.told_post w (.tripped t (TripSet.empty.addAll cs) (f.tr t).trips
        ((s.tr t).last.map (·.sec)) ((s.tr t).last.map (·.off))))
      rw [State.postTripped, hlast]
      exact fun k => (congrArg (fun o : Vector OpsPort 2 => State.opsPort { w with opss := o } k) (by rw [hfw]; rfl)).trans (h k)
    only := by
      change { f with opss := _ } = _
      rw [hfw, hw.only]
      rfl
    others := fun v hv => by
      obtain ⟨h1, h2, h3, h4, h5⟩ := hw.others v hv
      obtain ⟨k1, k2, k3, k4, k5⟩ := hothers v hv
      have hmv := s.tr_marked t v cs
      rw [if_neg hv] at hmv
      have hrv := hroute v
      rw [if_neg hv] at hrv
      exact ⟨k1.trans (h1.trans hmv), k2.trans (hrv.trans h2), k3.trans h3, k4.trans h4, k5.trans h5⟩ }

end Sys2Proof.Machine

/-! PROOFS. Obstructions (R84 to R88): the trip, the cut of the authority, and the deferred examination. -/

namespace Sys2Proof.Machine

/-! ## A trip taken (R115) -/

/-- PARKED, AUTHORISED or HELD: a trip is taken, an obstruction met. -/
def TState.upright (x : TState) : Prop := x = .parked ∨ x = .authorised ∨ x = .held

theorem State.TrippedBy.tripTaken {s u : State} {t : TId} {c : TripCause} (h : s.TrippedBy u t [c]) : s.TripTaken u t c where
  record := h.record
  entries := by rw [h.route]
  route := by
    have hr := h.route
    rw [hr]
  holds := h.holds
  waiting := by rw [h.only]
  walk := by rw [h.only]
  auth := h.auth
  port := h.port
  told := h.told
  only := by
    have honly := h.only
    have hwait : u.waiting = s.waiting.filter fun w => decide (w.t ≠ t) := by rw [honly]
    have hwalk : u.walkDue = (s.walkDue || !(s.settingRun t).isEmpty) := by rw [honly]
    rw [← hwait, ← hwalk] at honly
    exact honly
  others := h.others

theorem State.trip_tripTaken {s : State} {t : TId} (h : (s.tr t).state.upright) (c : TripCause) :
    s.TripTaken (s.trip t c) t c := by
  have htrip : s.trip t c = s.enterTripped t [c] := by
    rcases h with h | h | h <;> simp only [State.trip, h]
  rw [htrip]
  exact (s.enterTripped_trippedBy t [c]).tripTaken

/-- An evaluation leaves a transporter upright. -/
theorem Transporter.evaluated_upright {x : Transporter} (h : x.state.upright) (c : StopSet) (b : Bool) :
    (x.evaluated c b).state.upright := by
  unfold Transporter.evaluated
  split
  · exact h
  · split
    · exact .inr (.inr rfl)
    · split
      · exact .inr (.inl rfl)
      · exact h

theorem State.dropSetting_upright {s : State} {t : TId} (h : (s.tr t).state.upright) :
    ((s.dropSetting t).tr t).state.upright := by
  rw [(s.dropSetting_frame t).2.2.2.2]
  split
  · exact h
  · exact Transporter.evaluated_upright h ..

/-! ## The end moved back (R78) -/

/-- Changing several sections alike, by a change that made twice is made once. -/
theorem State.modSec_foldl {f : Section → Section} (hf : ∀ x, f (f x) = f x) : ∀ (es : List Entry) (s : State),
    (∀ n, (es.foldl (fun s e => s.modSec e.sec f) s).sec? n =
      (s.sec? n).map fun x => if n ∈ es.map (·.sec) then f x else x) ∧
    es.foldl (fun s e => s.modSec e.sec f) s = { s with sections := (es.foldl (fun s e => s.modSec e.sec f) s).sections }
  | [], s => ⟨fun n => by simp, rfl⟩
  | e :: es, s => by
    obtain ⟨hsec, honly⟩ := State.modSec_foldl hf es (s.modSec e.sec f)
    rw [List.foldl_cons]
    refine ⟨fun n => ?_, by rw [honly]; rfl⟩
    rw [hsec n]
    by_cases hn : n = e.sec
    · subst hn
      rw [State.sec?, State.modSec, Table.find_adjust_self, Option.map_map]
      refine congrArg (fun g => Option.map g (s.sec? e.sec)) (funext fun x => ?_)
      by_cases hm : e.sec ∈ es.map (·.sec) <;> simp [hm, hf]
    · rw [State.sec?, State.modSec, Table.find_adjust_ne _ _ hn]
      refine congrArg (fun g => Option.map g (s.sec? n)) (funext fun x => ?_)
      by_cases hm : n ∈ es.map (·.sec) <;> simp [hm, hn]

/-- What moving the end back to c does: the number increments, and GRANTED entries beyond c become RELEASE_PENDING. -/
theorem State.moveEnd_spec (s : State) (t : TId) (c : RoutePos) :
    s.moveEnd t c = { s with sections := (s.moveEnd t c).sections, routes := (s.moveEnd t c).routes } ∧
    (∀ v, (s.moveEnd t c).route v = if v = t then
      { s.route t with authNum := nextAuth (s.route t).authNum, endPos := some c } else s.route v) ∧
    ∀ n, (s.moveEnd t c).sec? n = (s.sec? n).map fun x =>
      { x with hold := if s.holdBy t n = some .granted ∧ ∃ e ∈ (s.route t).entries, e.sec = n ∧ c.idx < e.index
          then x.hold.map fun h => { h with kind := .releasePending } else x.hold } := by
  let q := (s.bumpAuth t).modRoute t fun r => { r with endPos := some c }
  let cut := (s.grantedRun t).filter fun e => decide (c.idx < e.index)
  obtain ⟨hsec, honly⟩ := State.modSec_foldl
    (f := fun x => { x with hold := x.hold.map fun h => { h with kind := .releasePending } })
    (fun x => by cases x.hold <;> simp) cut q
  have hmove : s.moveEnd t c = cut.foldl (fun s e => s.modSec e.sec fun x =>
    { x with hold := x.hold.map fun h => { h with kind := .releasePending } }) q := rfl
  have hcut : ∀ n, n ∈ cut.map (·.sec) ↔
      s.holdBy t n = some .granted ∧ ∃ e ∈ (s.route t).entries, e.sec = n ∧ c.idx < e.index := by
    intro n
    simp only [cut, State.grantedRun, State.run, List.mem_map, List.mem_filter, decide_eq_true_eq]
    constructor
    · rintro ⟨e, ⟨⟨he, hg⟩, hlt⟩, rfl⟩
      exact ⟨hg, e, he, rfl, hlt⟩
    · rintro ⟨hg, e, he, rfl, hlt⟩
      exact ⟨e, ⟨⟨he, hg⟩, hlt⟩, rfl⟩
  rw [← hmove] at hsec honly
  refine ⟨by rw [honly]; rfl, fun v => ?_, fun n => ?_⟩
  · rw [State.route, honly]
    change q.route v = _
    by_cases hv : v = t
    · rw [if_pos hv, hv, State.route_modRoute_self, State.bumpAuth, State.route_modRoute_self]
    · rw [if_neg hv, State.route_modRoute, if_neg (Ne.symm hv), State.bumpAuth, State.route_modRoute, if_neg (Ne.symm hv)]
  · rw [hsec n]
    refine congrArg (fun g => Option.map g (s.sec? n)) (funext fun x => ?_)
    by_cases hn : n ∈ cut.map (·.sec)
    · rw [if_pos hn, if_pos ((hcut n).mp hn)]
    · rw [if_neg hn, if_neg (mt (hcut n).mpr hn)]

/-! ## Obstructions (R84, R85) -/

theorem State.cutBack_of_moveEnd (s : State) (t : TId) (c : RoutePos) :
    s.CutBack (((s.moveEnd t c).modRoute t fun r =>
      { r with keep := if !(s.pendingRun t).isEmpty then r.keep else true }).formAuth t) t c := by
  obtain ⟨honly, hroute, hsec⟩ := s.moveEnd_spec t c
  obtain ⟨q, hq⟩ : ∃ q, q = (s.moveEnd t c).modRoute t fun r =>
    { r with keep := if !(s.pendingRun t).isEmpty then r.keep else true } := ⟨_, rfl⟩
  have hqonly : q = { s with sections := (s.moveEnd t c).sections, routes := q.routes } := by
    rw [hq]
    conv_lhs => rw [honly]
    rfl
  have hself := hroute t
  rw [if_pos rfl] at hself
  have hqt : q.route t = { (s.moveEnd t c).route t with
      keep := if !(s.pendingRun t).isEmpty then ((s.moveEnd t c).route t).keep else true } := by
    rw [hq]
    exact State.route_modRoute_self ..
  have htl : ∀ v, q.tl v = s.tl v := fun v => by rw [hqonly]; rfl
  obtain ⟨hauth, hformed, hport, hothers⟩ := q.formAuth_spec t
  rw [← hq]
  exact {
    route := by
      change q.route t = _
      rw [hqt, hself]
      by_cases hp : s.pendingRun t = [] <;> simp [hp]
    holds := fun n => by
      rw [State.sec?, hformed, hqonly]
      exact hsec n
    auth := hauth
    port := by
      have h : (q.formAuth t).tl t = { q.tl t with auth := ((q.formAuth t).tl t).auth } := hport
      rw [htl] at h
      exact h
    only := by
      rw [hformed, hqonly]
    others := fun v hv => by
      obtain ⟨h1, h2, h3, h4, h5⟩ := hothers v hv
      have hqv : q.route v = s.route v := by
        have h := hroute v
        rw [if_neg hv] at h
        rw [hq, State.route_modRoute, if_neg (Ne.symm hv), h]
      have hsame : q.tr v = s.tr v ∧ q.ceilings[v] = s.ceilings[v] ∧ q.transfers[v] = s.transfers[v] := by
        rw [hqonly]
        exact ⟨rfl, rfl, rfl⟩
      obtain ⟨k1, k4, k5⟩ := hsame
      exact ⟨h1.trans k1, h2.trans hqv, h3.trans (htl v), h4.trans k4, h5.trans k5⟩ }

theorem State.obstructAhead_cutBefore {s : State} {t : TId} (h : (s.tr t).state.upright) (e : Entry) :
    s.CutBefore (s.obstructAhead t e.index) t e := by
  have hup := State.dropSetting_upright h
  refine ⟨s.dropSetting t, s.dropSetting_dropped t, fun f hf hok => ?_, fun hno => ?_⟩
  · simp only [State.obstructAhead, hf, hok, if_true]
    exact State.cutBack_of_moveEnd ..
  · have htrip : s.obstructAhead t e.index = (s.dropSetting t).trip t .obstruction := by
      simp only [State.obstructAhead]
      cases hf : (s.dropSetting t).entryAt t (e.index - 1) with
      | none => rfl
      | some f =>
        simp only [hno f hf, Bool.false_eq_true, if_false]
    rw [htrip]
    exact State.trip_tripTaken hup _

theorem TState.upright_ne {x : TState} (h : x.upright) : x ≠ .offline ∧ x ≠ .tripped ∧ x ≠ .transfer := by
  rcases h with rfl | rfl | rfl <;> decide

/-- A GRANTED section's obstruction, its holder upright. -/
theorem State.obstruct_granted {s : State} {n : Nat} {fault : Bool} {h : Hold} (hh : (s.sec? n).bind (·.hold) = some h)
    (hk : h.kind = .granted) (hup : (s.tr h.holder).state.upright) {e : Entry} {f : Nat}
    (he : s.entryOf h.holder n = some e) (hf : (s.route h.holder).front = some f) :
    s.obstruct n fault = if f < e.index then s.obstructAhead h.holder e.index
      else if fault then s.trip h.holder .obstruction else s := by
  rcases hup with hst | hst | hst <;> simp only [State.obstruct, hh, hk, hst, he, hf]

theorem State.obstruct_obstructed (s : State) (n : Nat) (fault : Bool) : s.Obstructed (s.obstruct n fault) n fault where
  unheld h := by simp only [State.obstruct, h]
  setting h hh hk := by
    simp only [State.obstruct, hh, hk]
    exact s.dropSetting_dropped _
  pending h hh hk := by simp only [State.obstruct, hh, hk]
  deferred h hh hk hst := by rcases hst with hst | hst | hst <;> simp only [State.obstruct, hh, hk, hst]
  ahead h e f hh hk hup he hf hlt := by
    rw [State.obstruct_granted hh hk hup he hf, if_pos hlt]
    exact State.obstructAhead_cutBefore hup e
  behind h e f hh hk hup he hf hle := by
    rw [State.obstruct_granted hh hk hup he hf, if_neg (Nat.not_lt.mpr hle)]
    refine ⟨fun hfault => ?_, fun hfault => ?_⟩
    · rw [if_pos hfault]
      exact State.trip_tripTaken hup _
    · rw [if_neg (by rw [hfault]; exact Bool.noConfusion)]

/-! ## The deferred examination (R88) -/

theorem State.pointFaulted_iff (s : State) (n : Nat) : s.pointFaulted n = true ↔ (s.pointOf n).bind (·.2.latch) ≠ none := by
  unfold State.pointFaulted
  cases s.pointOf n with
  | none => simp
  | some p => exact Option.isSome_iff_ne_none

theorem State.examine_first {s : State} {t : TId} {before after : List Entry} {e : Entry}
    (hrun : s.grantedRun t = before ++ e :: after) (hbefore : ∀ b ∈ before, s.deferredAt t b = none) {b : Bool}
    (he : s.deferredAt t e = some b) :
    s.examine t = if b = true then s.trip t .obstruction else s.obstructAhead t e.index := by
  have hfind : (s.grantedRun t).find? (fun e => (s.deferredAt t e).isSome) = some e := by
    rw [hrun, List.find?_append, List.find?_eq_none.mpr fun b hb => by simp [hbefore b hb]]
    simp [he]
  simp only [State.examine, hfind, he, Option.some.injEq]

theorem State.examine_examined {s : State} {t : TId} (h : (s.tr t).state.upright) : s.Examined (s.examine t) t where
  nothing hno := by
    have hfind : (s.grantedRun t).find? (fun e => (s.deferredAt t e).isSome) = none :=
      List.find?_eq_none.mpr fun e he => by simp [hno e he]
    simp only [State.examine, hfind]
  ahead before e after f hrun hbefore hf hlt hcalls := by
    have hdefer : s.deferredAt t e = some false := by
      rw [← State.pointFaulted_iff] at hcalls
      simp only [State.deferredAt, hf]
      rw [if_pos hlt, if_pos hcalls]
    rw [State.examine_first hrun hbefore hdefer, if_neg Bool.false_ne_true]
    exact State.obstructAhead_cutBefore h e
  behind before e after f hrun hbefore hf hle hlatch := by
    have hdefer : s.deferredAt t e = some true := by
      rw [← State.pointFaulted_iff] at hlatch
      simp only [State.deferredAt, hf]
      rw [if_neg (Nat.not_lt.mpr hle), if_pos hlatch]
    rw [State.examine_first hrun hbefore hdefer, if_pos rfl]
    exact State.trip_tripTaken h _

end Sys2Proof.Machine

/-! PROOFS. Releases and their cascade (R68 to R71), and detection changes handed on (R25). -/

namespace Sys2Proof.Machine

/-! ## Tables that keep their form through a kept ground -/

theorem State.sections_wf_of_ground {s u : State} (h : u.ground = s.ground) : Table.wf u.sections = Table.wf s.sections := by
  have he := congrArg (fun x : State => Table.wf x.sections) h
  exact (Table.wf_mapAll u.sections fun x => { x with hold := none }).symm.trans (he.trans (Table.wf_mapAll s.sections fun x => { x with hold := none }))

theorem State.points_wf_of_ground {s u : State} (h : u.ground = s.ground) : Table.wf u.points = Table.wf s.points := by
  have he := congrArg (fun x : State => Table.wf x.points) h
  exact (Table.wf_mapAll u.points fun x => { x with lock := none }).symm.trans (he.trans (Table.wf_mapAll s.points fun x => { x with lock := none }))

/-! ## A point's lock -/

theorem State.pointOf_point {s : State} (hwf : Table.wf s.points = true) {n p : Nat} {x : Point}
    (h : s.pointOf n = some (p, x)) : s.point? p = some x ∧ x.sec = n := by
  obtain ⟨hmem, hsec⟩ := List.mem_of_find?_eq_some h, List.find?_some h
  exact ⟨Table.find_of_mem hwf hmem, of_decide_eq_true hsec⟩

/-- Unlocking the point of section n. -/
theorem State.unlockPoint_spec {s : State} (hwf : Table.wf s.points = true) (t : TId) (n : Nat) :
    s.unlockPoint t n = { s with points := (s.unlockPoint t n).points } ∧
    ∀ p, (s.unlockPoint t n).point? p = (s.point? p).map fun x =>
      { x with lock := if (s.pointOf n).map (·.1) = some p ∧ x.lock = some t then none else x.lock } := by
  cases hp : s.pointOf n with
  | none =>
    have heq : s.unlockPoint t n = s := by simp only [State.unlockPoint, hp]
    rw [heq]
    exact ⟨rfl, fun p => by simp⟩
  | some q =>
    obtain ⟨q, x⟩ := q
    obtain ⟨hx, -⟩ := State.pointOf_point hwf hp
    by_cases hl : x.lock = some t
    · have heq : s.unlockPoint t n = s.modPoint q fun x => { x with lock := none } := by
        simp only [State.unlockPoint, hp, hl, if_true]
      rw [heq]
      refine ⟨rfl, fun p => ?_⟩
      by_cases hpq : p = q
      · subst hpq
        rw [State.point?, State.modPoint, Table.find_adjust_self, show Table.find s.points p = some x from hx, hx]
        simp [hl]
      · rw [State.point?, State.modPoint, Table.find_adjust_ne _ _ hpq]
        simp [Ne.symm hpq, State.point?]
    · have heq : s.unlockPoint t n = s := by simp only [State.unlockPoint, hp, hl, if_false]
      rw [heq]
      refine ⟨rfl, fun p => ?_⟩
      by_cases hpq : q = p
      · subst hpq
        rw [hx]
        simp [hl]
      · simp [hpq]

/-! ## A release (R70) -/

theorem State.unlockPoint_only (s : State) (t : TId) (n : Nat) :
    s.unlockPoint t n = { s with points := (s.unlockPoint t n).points } := by
  unfold State.unlockPoint
  split
  · split <;> rfl
  · rfl

/-- Between s and m entry e of t's record was released (R70), t's stop causes not yet evaluated. -/
structure State.Freed (s m : State) (t : TId) (e : Entry) (cause : ReleaseCause) (kept : Bool) : Prop where
  only : m = { s with sections := m.sections, points := m.points, routes := m.routes, walkDue := true, opss := m.opss }
  sections : ∀ n, m.sec? n = (s.sec? n).map fun x => { x with hold := if n = e.sec then none else x.hold }
  points : Table.wf s.points = true → ∀ p, m.point? p = (s.point? p).map fun x =>
    { x with lock := if (s.pointOf e.sec).map (·.1) = some p ∧ x.lock = some t then none else x.lock }
  route : m.route t = { s.route t with
    entries := if kept then (s.route t).entries else (s.route t).entries.filter fun f => decide (f.index ≠ e.index)
    nextIdx := if kept then (s.route t).nextIdx else (m.route t).nextIdx }
  routes : ∀ v, v ≠ t → m.route v = s.route v
  told : s.Told m [.released t e.sec e.index cause]

theorem State.release_freed (s : State) (t : TId) (e : Entry) (cause : ReleaseCause) (kept : Bool) :
    ∃ m, s.Freed m t e cause kept ∧ m.Evaluated (s.release t e cause kept) [t] := by
  obtain ⟨s1, hs1⟩ : ∃ s1, s1 = (s.setHold e.sec none).unlockPoint t e.sec := ⟨_, rfl⟩
  obtain ⟨s2, hs2⟩ : ∃ s2, s2 = if kept then s1 else s1.modRoute t fun r =>
    { r with entries := r.entries.filter fun f => decide (f.index ≠ e.index) }.followLast := ⟨_, rfl⟩
  have honly1 := (s.setHold e.sec none).unlockPoint_only t e.sec
  rw [← hs1] at honly1
  have hs1only : s1 = { s with sections := s1.sections, points := s1.points } := by
    rw [honly1]
    rfl
  have hs1sec : ∀ n, s1.sec? n = (s.sec? n).map fun x => { x with hold := if n = e.sec then none else x.hold } := fun n => by
    rw [honly1]
    exact s.sec_setHold ..
  have hroute1 : ∀ v, s1.route v = s.route v := fun v => by rw [hs1only]; rfl
  have hs2only : s2 = { s1 with routes := s2.routes } := by
    rw [hs2]
    split <;> rfl
  have hs2self : s2.route t = { s.route t with
      entries := if kept then (s.route t).entries else (s.route t).entries.filter fun f => decide (f.index ≠ e.index)
      nextIdx := if kept then (s.route t).nextIdx else (s2.route t).nextIdx } := by
    cases kept with
    | true =>
      have heq : s2 = s1 := hs2.trans (if_pos rfl)
      rw [heq, hroute1]
      rfl
    | false =>
      have heq : s2 = _ := hs2.trans (if_neg Bool.false_ne_true)
      have hroute : s2.route t = RouteRecord.followLast { s.route t with
          entries := (s.route t).entries.filter fun f => decide (f.index ≠ e.index) } := by
        rw [heq, State.route_modRoute_self, hroute1]
      rw [hroute]
      exact RouteRecord.followLast_eq _
  have hs2ne : ∀ v, v ≠ t → s2.route v = s.route v := fun v hv => by
    rw [hs2]
    split
    · exact hroute1 v
    · rw [State.route_modRoute, if_neg (Ne.symm hv), hroute1]
  have hs2all : s2 = { s with sections := s1.sections, points := s1.points, routes := s2.routes } := by
    rw [hs2only, hs1only]
  have hrel : s.release t e cause kept = ((s2.post (.released t e.sec e.index cause)).evalStop t).trigger := by
    rw [hs2, hs1]
    rfl
  rw [hrel]
  refine ⟨(s2.post (.released t e.sec e.index cause)).trigger, ⟨?_, fun n => ?_, fun hwf p => ?_, hs2self, hs2ne,
    fun k => ?_⟩, ((s2.post _).evalStop_evaluated t).trigger⟩
  · rw [hs2all]
    rfl
  · change s2.sec? n = _
    rw [hs2only]
    exact hs1sec n
  · change s2.point? p = _
    have hpoints := (State.unlockPoint_spec (s := s.setHold e.sec none) hwf t e.sec).2 p
    rw [hs2only]
    rw [← hs1] at hpoints
    exact hpoints
  · change (s2.post _).opsPort k = _
    rw [State.opsPort_post, hs2all]
    rfl

theorem State.release_released {s : State} (hwf : Table.wf s.points = true) (t : TId) (e : Entry) (cause : ReleaseCause)
    (kept : Bool) : s.Released (s.release t e cause kept) t e cause kept := by
  obtain ⟨m, h, heval⟩ := s.release_freed t e cause kept
  exact ⟨m, h.only, h.sections, h.points hwf, h.route, h.routes, h.told, heval⟩

/-! ## The cascade (R68, R69, R71) -/

theorem State.releasable_eq_some {s : State} {t : TId} {e : Entry} : s.releasable t = some e ↔ s.PassesRelease t e := by
  unfold State.releasable State.PassesRelease
  dsimp only
  cases hes : (s.route t).entries with
  | nil => simp
  | cons f fs =>
    simp only [List.head?_cons, Option.some.injEq]
    cases hx : s.sec? f.sec with
    | none =>
      simp only [reduceCtorEq, false_iff]
      rintro ⟨rfl, ⟨x, hx', -⟩, -⟩
      rw [hx] at hx'
      exact nomatch hx'
    | some x =>
      simp only [Option.ite_none_right_eq_some, Option.some.injEq]
      constructor
      · rintro ⟨⟨hhold, hdet, hfront, hne, hend, hst⟩, rfl⟩
        obtain ⟨g, hg⟩ := Option.ne_none_iff_exists'.mp hfront
        exact ⟨rfl, ⟨x, hx, hhold, hdet⟩, ⟨g, hg, fun h => hne (h ▸ hg)⟩, hend, hst⟩
      · rintro ⟨rfl, ⟨y, hy, hhold, hdet⟩, ⟨g, hg, hne⟩, hend, hst⟩
        rw [hx] at hy
        obtain rfl := Option.some.inj hy
        refine ⟨⟨hhold, hdet, ?_, ?_, hend, hst⟩, rfl⟩
        · rw [hg]
          exact Option.some_ne_none _
        · rw [hg]
          exact fun h => hne (Option.some.inj h)

theorem State.releasable_eq_none {s : State} {t : TId} : s.releasable t = none ↔ ∀ e, ¬ s.PassesRelease t e := by
  rw [Option.eq_none_iff_forall_ne_some]
  exact forall_congr' fun e => not_congr State.releasable_eq_some

/-- A release shortens the record. -/
theorem State.Released.length_lt {s u : State} {t : TId} {e : Entry} {cause : ReleaseCause}
    (h : s.Released u t e cause) (he : e ∈ (s.route t).entries) :
    (u.route t).entries.length < (s.route t).entries.length := by
  obtain ⟨m, -, -, -, hroute, -, -, heval⟩ := h
  have hu : u.route t = m.route t := by
    rw [heval.only]
    rfl
  rw [hu, hroute]
  refine List.length_filter_lt_length_iff_exists.mpr ⟨e, he, ?_⟩
  simp

theorem cascadeFrom_cascaded (t : TId) : ∀ (n : Nat) {s : State}, Table.wf s.points = true →
    (s.route t).entries.length ≤ n → ∃ es, State.Cascaded t es s (cascadeFrom t n s)
  | 0, s, _, hn => by
    refine ⟨[], rfl, fun e he => ?_⟩
    have hnil : (s.route t).entries = [] := List.length_eq_zero_iff.mp (Nat.le_zero.mp hn)
    have hhead := he.1
    rw [hnil] at hhead
    exact nomatch hhead
  | n + 1, s, hwf, hn => by
    rw [cascadeFrom]
    cases hr : s.releasable t with
    | none => exact ⟨[], rfl, State.releasable_eq_none.mp hr⟩
    | some e =>
      have hpass := State.releasable_eq_some.mp hr
      have hrel := State.release_released hwf t e .rear false
      have hlt := hrel.length_lt (List.mem_of_mem_head? hpass.1)
      obtain ⟨es, hes⟩ := cascadeFrom_cascaded t n (s := s.release t e .rear false)
        ((State.points_wf_of_ground (State.release_ground ..)).trans hwf) (by omega)
      exact ⟨e :: es, hpass, _, hrel, hes⟩

theorem State.cascade_cascaded {s : State} (hwf : Table.wf s.points = true) (t : TId) :
    ∃ es, State.Cascaded t es s (s.cascade t) := cascadeFrom_cascaded t _ hwf le_rfl

/-! ## A detection change handed on (R25) -/

/-- What a detection change means for the section's hold h, before the release test of the rear. -/
def State.detectionTaken (s : State) (c : DetChange) (h : Hold) : State :=
  match c.after with
  | .occupied =>
    (match h.kind with
     | .granted => s.setHold c.sec (some { h with entered := true })
     | .setting => s.trigger
     | .releasePending => s)
  | .clear => (match h.kind with | .setting => s.trigger | _ => s)
  | _ => s.obstruct c.sec false

theorem State.handDetection_held {s : State} {c : DetChange} {h : Hold} (hh : (s.sec? c.sec).bind (·.hold) = some h) :
    s.handDetection c = (s.detectionTaken c h).cascade h.holder := by
  unfold State.handDetection
  rw [hh]
  rfl

theorem State.handDetection_handedOn {s : State} (hwf : Table.wf s.points = true) (c : DetChange) :
    s.HandedOn (s.handDetection c) c.sec c.after := by
  refine ⟨fun hh => ?_, fun h hh => ?_⟩
  · simp only [State.handDetection, hh]
    rfl
  · obtain ⟨m, hm⟩ : ∃ m, m = s.detectionTaken c h := ⟨_, rfl⟩
    have hhand : s.handDetection c = m.cascade h.holder := by rw [hm, State.handDetection_held hh]
    unfold State.detectionTaken at hm
    have hground : m.ground = s.ground := by
      rw [hm]
      cases c.after <;> cases h.kind <;> simp
    obtain ⟨es, hes⟩ := State.cascade_cascaded ((State.points_wf_of_ground hground).trans hwf) h.holder
    rw [hhand]
    refine ⟨m, es, hes, fun hd hk => ?_, fun hd hk => ?_, fun hd hk => ?_, fun hd hk => ?_, fun hd => ?_⟩
    · have hset : m = s.setHold c.sec (some { h with entered := true }) := by simp only [hm, hd, hk]
      rw [hset]
      exact ⟨rfl, fun k => s.sec_setHold ..⟩
    · rw [hm]
      rcases hd with hd | hd <;> simp only [hd, hk] <;> rfl
    · simp only [hm, hd, hk]
    · rw [hm, hd]
      cases hk' : h.kind with
      | granted => rfl
      | setting => exact absurd hk' hk
      | releasePending => rfl
    · have hob : m = s.obstruct c.sec false := by rcases hd with hd | hd <;> simp only [hm, hd]
      rw [hob]
      exact s.obstruct_obstructed c.sec false

theorem State.handAll_allHandedOn : ∀ (cs : List DetChange) {s : State} (_ : Table.wf s.points = true),
    State.AllHandedOn (cs.map fun c => (c.sec, c.after)) s (cs.foldl State.handDetection s)
  | [], _, _ => rfl
  | c :: cs, _, hwf => ⟨_, State.handDetection_handedOn hwf c, State.handAll_allHandedOn cs
      ((State.points_wf_of_ground (State.handDetection_ground ..)).trans hwf)⟩

end Sys2Proof.Machine

/-! PROOFS. What the operations of the Route Interlock change, and that they only add notices. -/

namespace Sys2Proof.Machine

/-! ## Notices are only added -/

/-- Between s and u notices were posted, at s's clock, and the operations ports changed in no other way. -/
def State.Speaks (s u : State) : Prop := u.clock = s.clock ∧ ∃ bs, s.Told u bs

theorem State.Speaks.of_opss {s u : State} (hc : u.clock = s.clock) (ho : u.opss = s.opss) : s.Speaks u :=
  ⟨hc, [], State.told_nil ho⟩

theorem State.Speaks.refl (s : State) : s.Speaks s := .of_opss rfl rfl

theorem State.Speaks.trans {s m u : State} (h : s.Speaks m) (h' : m.Speaks u) : s.Speaks u := by
  obtain ⟨hc, bs, hbs⟩ := h
  obtain ⟨hc', bs', hbs'⟩ := h'
  exact ⟨hc'.trans hc, _, hbs.trans hc hbs'⟩

theorem State.speaks_post (s : State) (b : NoticeBody) : s.Speaks (s.post b) := ⟨rfl, [b], s.told_post b⟩

/-- A notice once posted stands. -/
theorem OpsPort.notices_addNotice_subset (p : OpsPort) (n m : Notice) (h : m ∈ p.notices) : m ∈ (p.addNotice n).notices := by
  unfold OpsPort.addNotice
  split
  · exact List.mem_append_left _ h
  · exact h

theorem OpsPort.notices_foldl_subset {c : Clock} (m : Notice) : ∀ (bs : List NoticeBody) (p : OpsPort), m ∈ p.notices →
    m ∈ (bs.foldl (fun p b => p.addNotice ⟨c, b⟩) p).notices
  | [], _, h => h
  | b :: bs, p, h => OpsPort.notices_foldl_subset m bs _ (p.notices_addNotice_subset ⟨c, b⟩ m h)

theorem State.Speaks.mem {s u : State} (h : s.Speaks u) {k : OpsId} {n : Notice} (hn : n ∈ (s.opsPort k).notices) :
    n ∈ (u.opsPort k).notices := by
  obtain ⟨-, bs, hbs⟩ := h
  rw [hbs k]
  exact OpsPort.notices_foldl_subset n bs _ hn

/-- Each notice posted raises the number waiting by one at most. -/
theorem OpsPort.notices_foldl_length {c : Clock} : ∀ (bs : List NoticeBody) (p : OpsPort),
    (bs.foldl (fun p b => p.addNotice ⟨c, b⟩) p).notices.length ≤ p.notices.length + bs.length
  | [], _ => le_rfl
  | b :: bs, p => by
    have h := OpsPort.notices_foldl_length (c := c) bs (p.addNotice ⟨c, b⟩)
    have h1 : (p.addNotice ⟨c, b⟩).notices.length ≤ p.notices.length + 1 := by
      unfold OpsPort.addNotice
      split
      · simp
      · exact Nat.le_succ _
    rw [List.foldl_cons, List.length_cons]
    omega

/-- A notice posted to a queue with room for it and those before it stands there. -/
theorem OpsPort.mem_foldl_notices {c : Clock} {b : NoticeBody} : ∀ (bs : List NoticeBody) (p : OpsPort),
    p.notices.length + bs.length ≤ 32 → b ∈ bs →
    (⟨c, b⟩ : Notice) ∈ (bs.foldl (fun p b => p.addNotice ⟨c, b⟩) p).notices
  | [], _, _, hb => absurd hb List.not_mem_nil
  | d :: bs, p, hroom, hb => by
    rw [List.length_cons] at hroom
    rw [List.foldl_cons]
    have hadd : p.addNotice ⟨c, d⟩ = { p with notices := p.notices ++ [⟨c, d⟩] } :=
      if_pos (show p.notices.length < 32 by omega)
    rcases List.mem_cons.mp hb with rfl | hb
    · refine OpsPort.notices_foldl_subset _ bs _ ?_
      rw [hadd]
      exact List.mem_append_right _ (List.mem_singleton_self _)
    · refine OpsPort.mem_foldl_notices bs _ ?_ hb
      rw [hadd, List.length_append, List.length_singleton]
      omega

/-- What is told stands in a queue with room for all of it, and after whatever is told then. -/
theorem State.Told.mem {s m u : State} {bs : List NoticeBody} (h : s.Told m bs) (h' : m.Speaks u) {b : NoticeBody}
    (hb : b ∈ bs) {k : OpsId} (hroom : (s.opsPort k).notices.length + bs.length ≤ 32) :
    (⟨s.clock, b⟩ : Notice) ∈ (u.opsPort k).notices := by
  refine h'.mem ?_
  rw [h k]
  exact OpsPort.mem_foldl_notices bs _ hroom hb

/-! ## The frame of the Route Interlock's operations -/

/-- Between s and u the holdings, records, routes, queue and ports of transporters changed, and notices were posted. -/
structure State.RouteFrame (s u : State) : Prop where
  only : u = { s with
    sections := u.sections, trs := u.trs, routes := u.routes, tls := u.tls, ceilings := u.ceilings
    waiting := u.waiting, walkDue := u.walkDue, opss := u.opss }
  speaks : s.Speaks u

theorem State.RouteFrame.refl (s : State) : s.RouteFrame s := ⟨rfl, .refl s⟩

theorem State.RouteFrame.trans {s m u : State} (h : s.RouteFrame m) (h' : m.RouteFrame u) : s.RouteFrame u :=
  ⟨by rw [h'.only, h.only], h.speaks.trans h'.speaks⟩

theorem State.Evaluated.routeFrame {s u : State} {ts : List TId} (h : s.Evaluated u ts) : s.RouteFrame u :=
  ⟨by rw [h.only], by rw [h.only], _, h.notices⟩

theorem State.Dropped.routeFrame {s u : State} {t : TId} (h : s.Dropped u t) : s.RouteFrame u := by
  by_cases hs : s.settingRun t = []
  · rw [h.nothing hs]
    exact .refl s
  · obtain ⟨m, hm, -, heval⟩ := h.drop hs
    have hsm : s.RouteFrame m := ⟨by rw [hm], .of_opss (by rw [hm]) (by rw [hm])⟩
    exact hsm.trans heval.routeFrame

theorem State.TrippedBy.routeFrame {s u : State} {t : TId} {cs : List TripCause} (h : s.TrippedBy u t cs) :
    s.RouteFrame u := ⟨by rw [h.only], by rw [h.only], _, h.told⟩

theorem State.CutBack.routeFrame {s u : State} {t : TId} {c : RoutePos} (h : s.CutBack u t c) : s.RouteFrame u :=
  ⟨by rw [h.only], .of_opss (by rw [h.only]) (by rw [h.only])⟩

theorem State.trip_routeFrame (s : State) (t : TId) (c : TripCause) : s.RouteFrame (s.trip t c) := by
  unfold State.trip
  split
  · exact (s.enterTripped_trippedBy t [c]).routeFrame
  · exact (s.enterTripped_trippedBy t [c]).routeFrame
  · exact (s.enterTripped_trippedBy t [c]).routeFrame
  · exact ⟨rfl, rfl, _, State.told_post ((s.addTrips t [c]).formAuth t) _⟩
  · exact .refl s
  · exact .refl s

theorem State.obstructAhead_routeFrame (s : State) (t : TId) (k : Nat) : s.RouteFrame (s.obstructAhead t k) := by
  have hdrop := (s.dropSetting_dropped t).routeFrame
  simp only [State.obstructAhead]
  split
  · split
    · exact hdrop.trans (State.cutBack_of_moveEnd ..).routeFrame
    · exact hdrop.trans (State.trip_routeFrame ..)
  · exact hdrop.trans (State.trip_routeFrame ..)

theorem State.obstruct_routeFrame (s : State) (n : Nat) (fault : Bool) : s.RouteFrame (s.obstruct n fault) := by
  have hcut : ∀ (t : TId) (e : Entry) (f : Nat), s.RouteFrame (if f < e.index then s.obstructAhead t e.index
      else if fault then s.trip t .obstruction else s) := fun t e f => by
    split
    · exact State.obstructAhead_routeFrame ..
    · split
      · exact State.trip_routeFrame ..
      · exact .refl s
  unfold State.obstruct
  split
  · exact .refl s
  · dsimp only
    split
    · exact .refl s
    · exact (s.dropSetting_dropped _).routeFrame
    · split
      · exact .refl s
      · exact .refl s
      · exact .refl s
      · split
        · exact hcut ..
        · exact .refl s

theorem State.examine_routeFrame (s : State) (t : TId) : s.RouteFrame (s.examine t) := by
  unfold State.examine
  split
  · split
    · exact State.trip_routeFrame ..
    · exact State.obstructAhead_routeFrame ..
  · exact .refl s

/-! ## Releases and detection changes -/

/-- A release only adds notices. -/
theorem State.release_speaks (s : State) (t : TId) (e : Entry) (cause : ReleaseCause) (kept : Bool) :
    s.Speaks (s.release t e cause kept) := by
  obtain ⟨m, h, heval⟩ := s.release_freed t e cause kept
  have hm : s.Speaks m := ⟨by rw [h.only], _, h.told⟩
  exact hm.trans heval.routeFrame.speaks

theorem cascadeFrom_speaks (t : TId) : ∀ (n : Nat) (s : State), s.Speaks (cascadeFrom t n s)
  | 0, s => .refl s
  | n + 1, s => by
    rw [cascadeFrom]
    split
    · exact (s.release_speaks ..).trans (cascadeFrom_speaks t n _)
    · exact .refl s

theorem State.handDetection_speaks (s : State) (c : DetChange) : s.Speaks (s.handDetection c) := by
  unfold State.handDetection
  split
  · split
    · exact .of_opss rfl rfl
    · exact .refl s
  · refine State.Speaks.trans ?_ (cascadeFrom_speaks ..)
    split
    · split
      · exact .of_opss rfl rfl
      · exact .of_opss rfl rfl
      · exact .refl s
    · split
      · exact .of_opss rfl rfl
      · exact .refl s
    · exact (s.obstruct_routeFrame ..).speaks

theorem State.handAll_speaks : ∀ (cs : List DetChange) (s : State), s.Speaks (cs.foldl State.handDetection s)
  | [], s => .refl s
  | c :: cs, s => (s.handDetection_speaks c).trans (State.handAll_speaks cs _)

end Sys2Proof.Machine

/-! PROOFS. A fault of a point, and the expiries (R30, R34, R61, R135, R141). -/

namespace Sys2Proof.Machine

/-! ## A point faulted (R30 to R34) -/

/-- A running countdown is one that has steps left. -/
theorem cdRunning_iff (c : Option Countdown) : cdRunning c = true ↔ ∃ d, c = some d ∧ 0 < d.steps := by
  cases c <;> simp [cdRunning, Countdown.running]

theorem cdRunning_of_stopped {c : Option Countdown} (h : stopped c) : cdRunning c = false := by
  rw [← Bool.not_eq_true, cdRunning_iff]
  rintro ⟨d, hd, hpos⟩
  exact Nat.ne_of_gt hpos (h d hd)

theorem State.point_modPoint (s : State) {p : Nat} {x : Point} (hx : s.point? p = some x) (f : Point → Point) (q : Nat) :
    (s.modPoint p f).point? q = if q = p then some (f x) else s.point? q := by
  split
  case isTrue h =>
    rw [h]
    exact (Table.find_adjust_self ..).trans (congrArg (Option.map f) hx)
  case isFalse h => exact Table.find_adjust_ne _ _ h

/-- Between s and u point p, whose record is x, was faulted with cause c, its position told by pos and its detail d: where
its latch was clear, it is set, told by POINT_FAULT, and the fault is an obstruction. -/
def State.PointFaulted (s u : State) (p : Nat) (x : Point) (c : FaultCause) (pos : PointPos) (d : Option PointPos) : Prop :=
  ∃ m : State, m = { s with points := m.points, opss := m.opss } ∧
    (∀ q, m.point? q = if q = p then some { x with
      pos := pos, throwCd := none, mover := none, latch := some (x.latch.getD c) } else s.point? q) ∧
    s.Told m (if x.latch = none then [.pointFault p c d] else []) ∧
    (x.latch = none → m.Obstructed u x.sec true ∧ m.RouteFrame u) ∧ (x.latch ≠ none → u = m)

theorem State.faultPoint_pointFaulted {s : State} {p : Nat} {x : Point} (hx : s.point? p = some x) (c : FaultCause)
    (pos : PointPos) (d : Option PointPos) : s.PointFaulted (s.faultPoint p c pos d) p x c pos d := by
  have hpoint : ∀ q, (s.modPoint p fun x =>
      { x with pos := pos, throwCd := none, mover := none, latch := x.latch.orElse fun _ => some c }).point? q =
      if q = p then some { x with pos := pos, throwCd := none, mover := none, latch := some (x.latch.getD c) }
      else s.point? q := fun q => by
    rw [State.point_modPoint s hx]
    cases hl : x.latch <;> rfl
  unfold State.faultPoint
  simp only [hx]
  by_cases hl : x.latch = none
  · rw [if_neg (by simp [hl])]
    refine ⟨(s.modPoint p _).post (.pointFault p c d), rfl, hpoint, ?_, fun _ => ⟨State.obstruct_obstructed .., ?_⟩,
      fun h => absurd hl h⟩
    · rw [if_pos hl]
      exact State.told_post (s.modPoint p _) _
    · exact State.obstruct_routeFrame ..
  · rw [if_pos (Option.isSome_iff_ne_none.mpr hl)]
    refine ⟨_, rfl, hpoint, ?_, fun h => absurd h hl, fun _ => rfl⟩
    rw [if_neg hl]
    exact State.told_nil rfl

/-- The points after a fault. -/
theorem State.PointFaulted.point {s u : State} {p : Nat} {x : Point} {c : FaultCause} {pos : PointPos} {d : Option PointPos}
    (h : s.PointFaulted u p x c pos d) (q : Nat) : u.point? q = if q = p then some { x with
      pos := pos, throwCd := none, mover := none, latch := some (x.latch.getD c) } else s.point? q := by
  obtain ⟨m, -, hpoint, -, hnew, hold⟩ := h
  by_cases hl : x.latch = none
  · rw [← hpoint q, State.point?, (hnew hl).2.only]
    rfl
  · rw [hold hl, hpoint q]

/-- A fault told stands in a queue with room. -/
theorem State.PointFaulted.mem {s u : State} {p : Nat} {x : Point} {c : FaultCause} {pos : PointPos} {d : Option PointPos}
    (h : s.PointFaulted u p x c pos d) (hl : x.latch = none) {k : OpsId} (hroom : (s.opsPort k).notices.length < 32) :
    (⟨s.clock, .pointFault p c d⟩ : Notice) ∈ (u.opsPort k).notices := by
  obtain ⟨m, -, -, htold, hnew, -⟩ := h
  rw [if_pos hl] at htold
  exact htold.mem (hnew hl).2.speaks (List.mem_singleton_self _) hroom

/-! ## The throw countdown (R30) -/

theorem exec_throwTimeout {s : State} (hs : s.resetHold = none) (p : Nat) :
    exec (.throwTimeout p) s = .next (s.throwExpires p) :=
  congrArg Host.Outcome.next (State.live_eq hs _)

theorem State.throwExpires_running {s : State} {p : Nat} {x : Point} {c : Countdown} (hx : s.point? p = some x)
    (hpos : x.pos = .moving) (hcd : x.throwCd = some c) (hc : 0 < c.steps) :
    s.throwExpires p = s.faultPoint p .throwTimeout .unknown (x.cmd.map Blade.pos) := by
  unfold State.throwExpires
  simp only [hx]
  exact if_pos ⟨hpos, (cdRunning_iff _).mpr ⟨c, hcd, hc⟩⟩

theorem State.throwExpires_idle {s : State} {p : Nat} {x : Point} (hx : s.point? p = some x)
    (h : x.pos ≠ .moving ∨ stopped x.throwCd) : s.throwExpires p = s := by
  unfold State.throwExpires
  simp only [hx]
  refine if_neg fun ⟨hpos, hrun⟩ => ?_
  rcases h with h | h
  · exact h hpos
  · exact absurd hrun (by rw [cdRunning_of_stopped h]; exact Bool.false_ne_true)

/-! ## The wait of a pending route (R61) -/

theorem exec_waitExpired {s : State} (hs : s.resetHold = none) (t : TId) :
    exec (.waitExpired t) s = .next (s.waitExpires t) :=
  congrArg Host.Outcome.next (State.live_eq hs _)

theorem State.evaluationNotice_length (s : State) (t : TId) : (s.evaluationNotice t).length ≤ 1 := by
  unfold State.evaluationNotice
  repeat' split
  all_goals simp

/-- A reservation dropped tells one notice at most. -/
theorem State.Dropped.told {s d : State} {t : TId} (h : s.Dropped d t) :
    d.clock = s.clock ∧ ∃ bs, bs.length ≤ 1 ∧ s.Told d bs := by
  refine ⟨h.routeFrame.speaks.1, ?_⟩
  by_cases hs : s.settingRun t = []
  · exact ⟨[], Nat.zero_le _, State.told_nil (by rw [h.nothing hs])⟩
  · obtain ⟨m, hm, -, heval⟩ := h.drop hs
    have htold := heval.notices
    rw [List.flatMap_singleton] at htold
    refine ⟨_, State.evaluationNotice_length m t, ?_⟩
    have hsm : s.Told m [] := State.told_nil (by rw [hm])
    exact hsm.trans (by rw [hm]) htold

/-- The first entry that goes with the tail is the first that is not held firmly. -/
theorem State.tail_head_dropSetting (s : State) (t : TId) : ((s.dropSetting t).tail t).head? =
    (s.route t).entries.find? fun e => decide (¬ s.holdsFirm t e.sec) := by
  have hroute : (s.dropSetting t).route t = s.route t := by rw [(s.dropSetting_frame t).2.1]; rfl
  rw [State.tail, List.head?_filter, hroute]
  refine List.find?_congr fun e he => ?_
  have h := s.holdBy_dropSetting_isSome t ⟨e, he, rfl⟩
  rw [decide_not, ← h]
  cases (s.dropSetting t).holdBy t e.sec <;> rfl

/-- The last refusal of a port is the one just placed. -/
theorem State.tl_refuse_getLast (s : State) (t : TId) (ty : Byte) (r : Reason) :
    ((s.refuse t ty r).tl t).refusals.getLast? = some ⟨ty, r⟩ := by
  rw [State.refuse, State.tl_modTl_self]
  exact List.getLast?_concat ..

/-- A route ended where the authority ends, with a refusal and a notice: nothing else changes. -/
theorem State.ended_told (x : State) (t : TId) (ty : Byte) (r : Reason) (b : NoticeBody) (v : TId) :
    ((((x.finalToEnd t).clearKeep t).refuse t ty r).post b).route v = ((x.finalToEnd t).clearKeep t).route v ∧
    ((((x.finalToEnd t).clearKeep t).refuse t ty r).post b).tr v = x.tr v ∧
    ((((x.finalToEnd t).clearKeep t).refuse t ty r).post b).ceilings[v] = x.ceilings[v] ∧
    ((((x.finalToEnd t).clearKeep t).refuse t ty r).post b).transfers[v] = x.transfers[v] ∧
    ((((x.finalToEnd t).clearKeep t).refuse t ty r).post b).sections = x.sections ∧
    ((((x.finalToEnd t).clearKeep t).refuse t ty r).post b).waiting = x.waiting ∧
    (v ≠ t → ((((x.finalToEnd t).clearKeep t).refuse t ty r).post b).tl v = x.tl v) := by
  refine ⟨rfl, rfl, rfl, rfl, rfl, rfl, fun hv => ?_⟩
  have htl : ((((x.finalToEnd t).clearKeep t).refuse t ty r).post b).tl v = (x.refuse t ty r).tl v := rfl
  rw [htl, State.refuse, State.tl_modTl, if_neg (Ne.symm hv)]

/-- The tail cut and the refusal told, of a route that has left the queue. -/
theorem State.cut_told (d : State) (t : TId) (ty : Byte) (r : Reason) (b : NoticeBody) :
    ((((d.dropTail t).finalToEnd t).clearKeep t).refuse t ty r).post b = { d.refuse t ty r with
      routes := (((((d.dropTail t).finalToEnd t).clearKeep t).refuse t ty r).post b).routes
      opss := (((((d.dropTail t).finalToEnd t).clearKeep t).refuse t ty r).post b).opss } := rfl

/-- The notice told of it comes after what was told. -/
theorem State.cut_notice (d : State) (t : TId) (ty : Byte) (r : Reason) (b : NoticeBody) :
    d.Told (((((d.dropTail t).finalToEnd t).clearKeep t).refuse t ty r).post b) [b] :=
  State.told_post ((((d.dropTail t).finalToEnd t).clearKeep t).refuse t ty r) b

section
variable {s : State} {t : TId}

/-- The notice of a wait that expires. -/
def State.waitNotice (s : State) (t : TId) : NoticeBody :=
  .waitExpired t (((s.route t).entries.find? fun e => decide (¬ s.holdsFirm t e.sec)).map (·.index))

/-- What a wait that expires does. -/
def State.waitGone (s : State) (t : TId) : State :=
  ((((s.withdrawRoute t).finalToEnd t).clearKeep t).refuse t Config.tyRoute .waitExpired).post (s.waitNotice t)

theorem State.waitExpires_running {c : Countdown} (hw : (⟨t, some c⟩ : Waiting) ∈ s.waiting) (hc : 0 < c.steps) :
    s.waitExpires t = s.waitGone t := by
  have hany : (s.waiting.any fun w => decide (w.t = t) && cdRunning w.wait) = true :=
    List.any_eq_true.mpr ⟨_, hw, by simp [cdRunning, Countdown.running, hc]⟩
  have hcut := (s.leaveQueue t).tail_head_dropSetting t
  rw [State.waitExpires, if_pos hany]
  dsimp only
  rw [hcut]
  rfl

theorem State.waitExpires_idle (h : ∀ w ∈ s.waiting, w.t = t → stopped w.wait) : s.waitExpires t = s := by
  refine if_neg fun hany => ?_
  obtain ⟨w, hw, hrun⟩ := List.any_eq_true.mp hany
  rw [Bool.and_eq_true, decide_eq_true_iff, cdRunning_of_stopped (h w hw (by simpa using hrun.1 : w.t = t))] at hrun
  exact Bool.false_ne_true hrun.2

theorem State.route_waitGone (s : State) (t v : TId) : (s.waitGone t).route v = if v = t then { s.route t with
      entries := (s.route t).entries.filter fun e => decide (s.holdsFirm t e.sec)
      nextIdx := ((s.withdrawRoute t).route t).nextIdx, keep := false
      finalOff := ((s.route t).endPos.map (·.off)).getD 0 } else s.route v := by
  have hw := s.withdrawRoute_withdrawn t
  have h := (s.withdrawRoute t).route_endHere t v
  rw [State.waitGone, (State.ended_told ..).1, h]
  split
  · rw [hw.route]
  · next hv => exact (hw.others v hv).2.1

/-- A wait that expires: the route is withdrawn, and both ends are told. -/
theorem State.waitGone_spec (s : State) (t : TId) :
    s.waitGone t = { ((s.leaveQueue t).dropSetting t).refuse t 0x12 .waitExpired with
      routes := (s.waitGone t).routes, opss := (s.waitGone t).opss } ∧
    (s.waitGone t).route t = { s.route t with
      entries := ((s.waitGone t).route t).entries, finalOff := ((s.waitGone t).route t).finalOff
      nextIdx := ((s.waitGone t).route t).nextIdx, keep := false } ∧
    ((s.leaveQueue t).dropSetting t).Told (s.waitGone t) [s.waitNotice t] ∧
    (s.waitGone t).waiting = s.waiting.filter (fun w => decide (w.t ≠ t)) ∧
    ((s.waitGone t).route t).entries = (s.route t).entries.filter (fun e => decide (s.holdsFirm t e.sec)) ∧
    ((s.waitGone t).route t).endPos = (s.route t).endPos ∧ ((s.waitGone t).route t).keep = false ∧
    ((s.waitGone t).route t).finalOff = ((s.route t).endPos.map (·.off)).getD 0 ∧
    (∀ n, (s.waitGone t).sec? n = (s.sec? n).map fun x =>
      { x with hold := if s.holdBy t n = some .setting ∧ s.inRecord t n then none else x.hold }) ∧
    ((s.waitGone t).tl t).refusals.getLast? = some ⟨0x12, .waitExpired⟩ ∧
    (∀ k : OpsId, (s.opsPort k).notices.length + 2 ≤ 32 →
      (⟨s.clock, s.waitNotice t⟩ : Notice) ∈ ((s.waitGone t).opsPort k).notices) ∧
    ∀ v, v ≠ t → s.SameTransporter (s.waitGone t) v := by
  have hw := s.withdrawRoute_withdrawn t
  have hroute := s.route_waitGone t t
  rw [if_pos rfl] at hroute
  have htold : ((s.leaveQueue t).dropSetting t).Told (s.waitGone t) [s.waitNotice t] :=
    State.cut_notice ((s.leaveQueue t).dropSetting t) t Config.tyRoute .waitExpired (s.waitNotice t)
  obtain ⟨-, -, -, -, hsecs, hwaits, -⟩ :=
    State.ended_told (s.withdrawRoute t) t Config.tyRoute .waitExpired (s.waitNotice t) t
  refine ⟨State.cut_told ((s.leaveQueue t).dropSetting t) t Config.tyRoute .waitExpired (s.waitNotice t),
    by rw [hroute], htold, hwaits.trans (congrArg State.waiting hw.only), by rw [hroute],
    by rw [hroute], by rw [hroute], by rw [hroute], fun n => ?_, ?_, fun k hk => ?_, fun v hv => ?_⟩
  · rw [← hw.holds n]
    exact congrArg (Table.find · n) hsecs
  · exact (((s.withdrawRoute t).finalToEnd t).clearKeep t).tl_refuse_getLast t Config.tyRoute .waitExpired
  · obtain ⟨hclock, bs, hlen, hbs⟩ := ((s.leaveQueue t).dropSetting_dropped t).told
    have hall := State.Told.trans (s := s.leaveQueue t) hbs hclock htold
    refine State.Told.mem (s := s.leaveQueue t) hall (.refl _) (List.mem_append_right _ (List.mem_singleton_self _)) ?_
    rw [List.length_append, List.length_singleton]
    exact le_trans (Nat.add_le_add_left (Nat.succ_le_succ hlen) _) hk
  · obtain ⟨h1, h2, h3, h4, h5⟩ := hw.others v hv
    obtain ⟨-, htrs, hceil, hxfer, -, -, htl⟩ :=
      State.ended_told (s.withdrawRoute t) t Config.tyRoute .waitExpired (s.waitNotice t) v
    refine ⟨htrs.trans h1, ?_, (htl hv).trans h3, hceil.trans h4, hxfer.trans h5⟩
    rw [s.route_waitGone t v, if_neg hv]

end

/-! ## The clamp watch and the mast-hold (R141, R135) -/

theorem exec_clampFailed {s : State} (hs : s.resetHold = none) (n : Nat) :
    exec (.clampFailed n) s = .next (s.watchExpires n) :=
  congrArg Host.Outcome.next (State.live_eq hs _)

theorem State.watchExpires_running {s : State} {n : Nat} {x : Pad} {c : Countdown} (hx : s.pad? n = some x)
    (hw : x.watch = .running c) (hc : 0 < c.steps) : s.watchExpires n = s.failWatch n := by
  unfold State.watchExpires
  simp only [hx, hw]
  exact if_pos (decide_eq_true hc)

theorem State.watchExpires_idle {s : State} {n : Nat} {x : Pad} (hx : s.pad? n = some x)
    (h : ∀ c, x.watch = .running c → c.steps = 0) : s.watchExpires n = s := by
  unfold State.watchExpires
  simp only [hx]
  split
  · next c hc => exact if_neg (by simp [Countdown.running, h c hc])
  · rfl

theorem exec_mastLost {s : State} (hs : s.resetHold = none) :
    exec .mastLost s = .next (if s.mastRunning then s.mastExpired else s) :=
  congrArg Host.Outcome.next (State.live_eq hs _)

theorem State.mastRunning_eq (s : State) : s.mastRunning = cdRunning s.mastHold := rfl

/-- What the mast-hold does when it ends: the band is HOLD with MAST_LOST, handed on. -/
theorem State.mastExpired_bandSet (s : State) :
    ({ s with mastHold := some (.load 0) } : State).BandSet s.mastExpired (.hold .mastLost) := setBand_bandSet ..

/-- The band set is the band. -/
theorem State.BandSet.field {s u : State} {b : Band} (h : s.BandSet u b) :
    u.band = b ∧ u.mastHold = s.mastHold := by
  by_cases hsame : s.band = b
  · rw [h.same hsame]
    exact ⟨hsame, rfl⟩
  · by_cases hhold : s.band.isHold = b.isHold
    · by_cases hcrawl : s.band = .normal ∧ b = .caution
      · have honly := (h.crawl hcrawl.1 hcrawl.2).only
        exact ⟨by rw [honly]; rfl, by rw [honly]; rfl⟩
      · rw [h.rest hsame hhold hcrawl]
        exact ⟨rfl, rfl⟩
    · have honly := (h.held hsame hhold).only
      exact ⟨by rw [honly]; rfl, by rw [honly]; rfl⟩

/-- Settles O55: each expiry is judged by its countdown; what it then does is the fault of a point, the withdrawal of a
route, the end of a watch, or a change of the band. -/
theorem expiryResult : Obligations.ExpiryResult := by
  intro s hs
  refine ⟨fun p x hx => ⟨fun c hpos hcd hc => ?_, fun h => ?_⟩, fun t c hw hc => ?_, fun t h => ?_, fun n x hx =>
    ⟨fun c hw hc => ?_, fun h => ?_⟩, fun p hp => ?_, fun n hn => ?_, fun c hcd hc => ?_, fun h => ?_⟩
  · have hf := s.faultPoint_pointFaulted hx .throwTimeout .unknown (x.cmd.map Blade.pos)
    have hpt := hf.point p
    rw [if_pos rfl] at hpt
    refine ⟨_, by rw [exec_throwTimeout hs, State.throwExpires_running hx hpos hcd hc], hpt, fun hl => ?_, fun hl =>
      ⟨fun k hk => hf.mem hl hk, ?_⟩⟩
    · obtain ⟨m, hm, hpoint, htold, -, hold⟩ := hf
      rw [if_neg hl] at htold
      have hopss : m.opss = s.opss := Vector.ext fun i hi => htold ⟨i, hi⟩
      rw [hold hl]
      rw [hopss] at hm
      exact hm
    · obtain ⟨m, hm, hpoint, htold, hnew, -⟩ := hf
      rw [if_pos hl] at htold
      refine ⟨m, hm, fun q => ?_, htold, (hnew hl).1⟩
      rw [hpt]
      exact hpoint q
  · rw [exec_throwTimeout hs, State.throwExpires_idle hx h]
  · exact ⟨_, _, by rw [exec_waitExpired hs, State.waitExpires_running hw hc], (s.leaveQueue t).dropSetting_dropped t,
      s.waitGone_spec t⟩
  · rw [exec_waitExpired hs, State.waitExpires_idle h]
  · obtain ⟨honly, hpad, htold⟩ := State.failWatch_spec hx (by rw [hw]; exact Watch.noConfusion)
    refine ⟨s.failWatch n, by rw [exec_clampFailed hs, State.watchExpires_running hx hw hc], ?_, ?_, fun m hm => ?_, htold⟩
    · have hwaiters : (s.failWatch n).padWaiters = s.padWaiters.filter fun w => decide (w ≠ .watch n) := by rw [honly]
      rw [← hwaiters] at honly
      exact honly
    · rw [hpad n, if_pos rfl]
    · rw [hpad m, if_neg hm]
  · rw [exec_clampFailed hs, State.watchExpires_idle hx h]
  · rw [exec_throwTimeout hs]
    unfold State.throwExpires
    rw [hp]
  · rw [exec_clampFailed hs]
    unfold State.watchExpires
    rw [hn]
  · have hset := s.mastExpired_bandSet
    have hrun : s.mastRunning = true := (cdRunning_iff _).mpr ⟨c, hcd, hc⟩
    refine ⟨s.mastExpired, by rw [exec_mastLost hs, if_pos hrun], hset.field.1, hset.field.2, hset.same, ?_, fun h => ?_⟩
    · rintro ⟨d, hd, hne⟩
      have hrest := hset.rest (by rw [hd]; simpa using hne) (by rw [hd]; rfl) (by rw [hd]; simp)
      rw [hrest]
      exact ⟨rfl, State.told_post { s with mastHold := some (.load 0), band := .hold .mastLost } _⟩
    · have hhold : s.band.isHold = false := by
        cases hb : s.band with
        | hold d => exact absurd hb (h d)
        | normal => rfl
        | caution => rfl
      exact hset.held (h _) (by
        change s.band.isHold ≠ true
        rw [hhold]
        exact Bool.false_ne_true)
  · rw [exec_mastLost hs, State.mastRunning_eq, cdRunning_of_stopped h]
    rfl

end Sys2Proof.Machine

/-! PROOFS. What the operations on one transporter leave of the others, and the pad commands withdrawn or opened. -/

namespace Sys2Proof.Machine

/-! ## Operations on one transporter -/

/-- Between s and u only t, the holdings, the queue and the notices changed, and of t's port the AUTH slot. -/
structure State.OwnFrame (s u : State) (t : TId) : Prop where
  frame : s.RouteFrame u
  port : s.OnlyAuth u t
  others : ∀ v, v ≠ t → s.SameTransporter u v

theorem State.OwnFrame.refl (s : State) (t : TId) : s.OwnFrame s t := ⟨.refl s, rfl, fun _ _ => ⟨rfl, rfl, rfl, rfl, rfl⟩⟩

theorem State.OwnFrame.trans {s m u : State} {t : TId} (h : s.OwnFrame m t) (h' : m.OwnFrame u t) : s.OwnFrame u t := by
  refine ⟨h.frame.trans h'.frame, ?_, fun v hv => ?_⟩
  · have hp : u.tl t = { m.tl t with auth := (u.tl t).auth } := h'.port
    have hm : m.tl t = { s.tl t with auth := (m.tl t).auth } := h.port
    rw [hm] at hp
    exact hp
  · obtain ⟨h1, h2, h3, h4, h5⟩ := h.others v hv
    obtain ⟨k1, k2, k3, k4, k5⟩ := h'.others v hv
    exact ⟨k1.trans h1, k2.trans h2, k3.trans h3, k4.trans h4, k5.trans h5⟩

/-- Changes of holdings, of t's record and route, and of the walk flag. -/
theorem State.OwnFrame.of_only {s u : State} {t : TId} (h : u = { s with
      sections := u.sections, trs := u.trs, routes := u.routes, waiting := u.waiting, walkDue := u.walkDue })
    (htr : ∀ v, v ≠ t → u.tr v = s.tr v) (hroute : ∀ v, v ≠ t → u.route v = s.route v) : s.OwnFrame u t := by
  have hopss : u.opss = s.opss := by rw [h]
  have hclock : u.clock = s.clock := by rw [h]
  have htls : u.tls = s.tls := by rw [h]
  have hceil : u.ceilings = s.ceilings := by rw [h]
  have hxfer : u.transfers = s.transfers := by rw [h]
  refine ⟨⟨?_, .of_opss hclock hopss⟩, ?_, fun v hv => ⟨htr v hv, hroute v hv, ?_, ?_, ?_⟩⟩
  · rw [← hopss, ← htls, ← hceil] at h
    exact h
  · rw [State.OnlyAuth, State.tl, State.tl, htls]
  · rw [State.tl, State.tl, htls]
  · rw [hceil]
  · rw [hxfer]

theorem State.Evaluated.ownFrame {s u : State} {t : TId} (h : s.Evaluated u [t]) : s.OwnFrame u t :=
  ⟨h.routeFrame, h.port t, fun v hv => h.others v (by simpa using hv)⟩

theorem State.Dropped.ownFrame {s u : State} {t : TId} (h : s.Dropped u t) : s.OwnFrame u t := by
  by_cases hs : s.settingRun t = []
  · rw [h.nothing hs]
    exact .refl s t
  · obtain ⟨m, hm, -, heval⟩ := h.drop hs
    have hsm : s.OwnFrame m t := by
      have htr : m.trs = s.trs := by rw [hm]
      have hroutes : m.routes = s.routes := by rw [hm]
      refine .of_only ?_ (fun v _ => ?_) fun v _ => ?_
      · have hwalk : m.walkDue = true := by rw [hm]
        have hwait : m.waiting = s.waiting := by rw [hm]
        rw [← hwalk] at hm
        rw [htr, hroutes, hwait]
        exact hm
      · rw [State.tr, htr]
        rfl
      · rw [State.route, hroutes]
        rfl
    exact hsm.trans heval.ownFrame

theorem State.TrippedBy.ownFrame {s u : State} {t : TId} {cs : List TripCause} (h : s.TrippedBy u t cs) : s.OwnFrame u t :=
  ⟨h.routeFrame, h.port, h.others⟩

theorem State.CutBack.ownFrame {s u : State} {t : TId} {c : RoutePos} (h : s.CutBack u t c) : s.OwnFrame u t :=
  ⟨h.routeFrame, h.port, h.others⟩

theorem State.tr_ne (s : State) {t v : TId} (h : v ≠ t) (f : Transporter → Transporter) : (s.modTr t f).tr v = s.tr v :=
  (State.tr_modTr ..).trans (if_neg (Ne.symm h))

theorem State.route_ne (s : State) {t v : TId} (h : v ≠ t) (f : RouteRecord → RouteRecord) :
    (s.modRoute t f).route v = s.route v := (State.route_modRoute ..).trans (if_neg (Ne.symm h))

theorem State.tl_ne (s : State) {t v : TId} (h : v ≠ t) (f : TlPort → TlPort) : (s.modTl t f).tl v = s.tl v :=
  (State.tl_modTl ..).trans (if_neg (Ne.symm h))

theorem State.modTr_ownFrame (s : State) (t : TId) (f : Transporter → Transporter) : s.OwnFrame (s.modTr t f) t :=
  .of_only rfl (fun _ hv => s.tr_ne hv f) fun _ _ => rfl

theorem State.modRoute_ownFrame (s : State) (t : TId) (f : RouteRecord → RouteRecord) : s.OwnFrame (s.modRoute t f) t :=
  .of_only rfl (fun _ _ => rfl) fun _ hv => s.route_ne hv f

theorem State.formAuth_ownFrame (s : State) (t : TId) : s.OwnFrame (s.formAuth t) t := by
  obtain ⟨-, honly, hport, hothers⟩ := s.formAuth_spec t
  exact ⟨⟨by rw [honly], .of_opss (by rw [honly]) (by rw [honly])⟩, hport, hothers⟩

theorem State.post_ownFrame (s : State) (b : NoticeBody) (t : TId) : s.OwnFrame (s.post b) t :=
  ⟨⟨rfl, s.speaks_post b⟩, rfl, fun _ _ => ⟨rfl, rfl, rfl, rfl, rfl⟩⟩

theorem State.dropSetting_ownFrame (s : State) (t : TId) : s.OwnFrame (s.dropSetting t) t := (s.dropSetting_dropped t).ownFrame

theorem State.trip_ownFrame (s : State) (t : TId) (c : TripCause) : s.OwnFrame (s.trip t c) t := by
  unfold State.trip
  split
  · exact (s.enterTripped_trippedBy t [c]).ownFrame
  · exact (s.enterTripped_trippedBy t [c]).ownFrame
  · exact (s.enterTripped_trippedBy t [c]).ownFrame
  · exact ((s.modTr_ownFrame t _).trans (State.formAuth_ownFrame _ t)).trans (State.post_ownFrame ..)
  · exact .refl s t
  · exact .refl s t

theorem State.obstructAhead_ownFrame (s : State) (t : TId) (k : Nat) : s.OwnFrame (s.obstructAhead t k) t := by
  have hdrop := s.dropSetting_ownFrame t
  simp only [State.obstructAhead]
  split
  · split
    · exact hdrop.trans (State.cutBack_of_moveEnd ..).ownFrame
    · exact hdrop.trans (State.trip_ownFrame ..)
  · exact hdrop.trans (State.trip_ownFrame ..)

theorem State.examine_ownFrame (s : State) (t : TId) : s.OwnFrame (s.examine t) t := by
  unfold State.examine
  split
  · split
    · exact State.trip_ownFrame ..
    · exact State.obstructAhead_ownFrame ..
  · exact .refl s t

/-! ## PARKED under the deferred examination -/

theorem State.trip_of_upright {s : State} {t : TId} (h : (s.tr t).state.upright) (c : TripCause) :
    s.trip t c = s.enterTripped t [c] := by
  rcases h with h | h | h <;> simp only [State.trip, h]

theorem State.trip_state {s : State} {t : TId} (h : (s.tr t).state.upright) (c : TripCause) :
    ((s.trip t c).tr t).state = .tripped := by
  rw [State.trip_of_upright h, (s.enterTripped_trippedBy t [c]).record]

theorem Transporter.evaluated_parked {x : Transporter} (h : x.state = .parked) (c : StopSet) (b : Bool) :
    (x.evaluated c b).state = .parked := by
  unfold Transporter.evaluated
  split
  · exact h
  · rw [if_neg (by simp [h]), if_neg (by simp [h])]
    exact h

theorem State.dropSetting_parked {s : State} {t : TId} (h : (s.tr t).state = .parked) :
    ((s.dropSetting t).tr t).state = .parked := by
  rw [(s.dropSetting_frame t).2.2.2.2]
  split
  · exact h
  · exact Transporter.evaluated_parked h ..

theorem State.obstructAhead_parked {s : State} {t : TId} (h : (s.tr t).state = .parked) (k : Nat) :
    ((s.obstructAhead t k).tr t).state = .parked ∨ ((s.obstructAhead t k).tr t).state = .tripped := by
  have hdrop := State.dropSetting_parked h
  simp only [State.obstructAhead]
  split
  · split
    · refine .inl ?_
      have honly := (State.cutBack_of_moveEnd (s.dropSetting t) t ((s.dropSetting t).exitBoundary ‹_›)).only
      rw [State.tr, honly]
      exact hdrop
    · exact .inr (State.trip_state (.inl hdrop) _)
  · exact .inr (State.trip_state (.inl hdrop) _)

theorem State.examine_parked {s : State} {t : TId} (h : (s.tr t).state = .parked) :
    ((s.examine t).tr t).state = .parked ∨ ((s.examine t).tr t).state = .tripped := by
  unfold State.examine
  split
  · split
    · exact .inr (State.trip_state (.inl h) _)
    · exact State.obstructAhead_parked h _
  · exact .inl h

/-! ## Pad commands withdrawn (R153, R154) and watches opened (R141) -/

/-- What an exit leaves of the pads, and whose commands it may add. -/
structure State.ExitPads (s u : State) : Prop where
  pads : ∀ n, (u.pad? n).map (fun p => { p with watch := .none }) = (s.pad? n).map fun p => { p with watch := .none }
  queue : ∀ c ∈ u.cmdQueue, c ∈ s.cmdQueue ∨ c.req ∈ s.padWaiters
  waiters : ∀ r ∈ u.padWaiters, r ∈ s.padWaiters

theorem State.ExitPads.refl (s : State) : s.ExitPads s := ⟨fun _ => rfl, fun _ h => .inl h, fun _ h => h⟩

theorem State.ExitPads.trans {s m u : State} (h : s.ExitPads m) (h' : m.ExitPads u) : s.ExitPads u :=
  ⟨fun n => (h'.pads n).trans (h.pads n), fun c hc => (h'.queue c hc).elim (h.queue c) fun hr => .inr (h.waiters _ hr),
    fun r hr => h.waiters r (h'.waiters r hr)⟩

theorem State.PadOffers.req {s : State} {r : Requester} {c : BusCmd} (h : s.PadOffers r c) : c.req = r := by
  cases r with
  | xfer t =>
    obtain ⟨x, p, -, -, rfl⟩ := h
    rfl
  | watch n =>
    obtain ⟨p, -, rfl⟩ := h
    rfl
  | tr t => exact h.elim
  | ops => exact h.elim

theorem State.PadOwnerTold.pads_unwatched {s u : State} {r : Requester} {f : Transfer → Transfer} {w : Watch}
    (h : s.PadOwnerTold u r f w) (hr : ∀ t, r ≠ .tr t) (ho : r ≠ .ops) (n : Nat) :
    (u.pad? n).map (fun p => { p with watch := .none }) = (s.pad? n).map fun p => { p with watch := .none } := by
  cases r with
  | xfer t => rw [State.pad?, (h.1 t rfl).1]; rfl
  | watch k =>
    rw [(h.2 k rfl).2 n]
    split
    · cases s.pad? n <;> rfl
    · rfl
  | tr t => exact absurd rfl (hr t)
  | ops => exact absurd rfl ho

/-- The offers made again are to those that waited at the start. -/
theorem State.reofferOne_exitPads {z s : State} {r : Requester} (hr : r ∈ z.padWaiters) (h : z.ExitPads s) :
    z.ExitPads (s.reofferOne r) := by
  have hspec := s.reofferOne_spec r
  by_cases hc : ∃ c, s.PadOffers r c ∧ s.PadRoom c
  · obtain ⟨c, ho, hroom⟩ := hc
    obtain ⟨honly, htold⟩ := hspec.1 c ho hroom
    have hqueue : (s.reofferOne r).cmdQueue = s.cmdQueue ++ [c] := by rw [honly]
    have hwait : (s.reofferOne r).padWaiters = s.padWaiters.filter fun w => decide (w ≠ r) := by rw [honly]
    have hpads := htold.pads_unwatched (fun t ht => by subst ht; exact ho) fun ht => by subst ht; exact ho
    refine ⟨fun n => (hpads n).trans (h.pads n), fun d hd => ?_, fun q hq => ?_⟩
    · rw [hqueue, List.mem_append, List.mem_singleton] at hd
      refine hd.elim (h.queue d) fun hd => .inr ?_
      rw [hd, ho.req]
      exact hr
    · rw [hwait] at hq
      exact h.waiters q (List.mem_of_mem_filter hq)
  · rw [hspec.2 fun c ho hroom => hc ⟨c, ho, hroom⟩]
    exact h

theorem State.reofferAll_exitPads {z : State} : ∀ (rs : List Requester) {s : State}, (∀ r ∈ rs, r ∈ z.padWaiters) →
    z.ExitPads s → z.ExitPads (rs.foldl (fun s r => s.reofferOne r) s)
  | [], _, _, h => h
  | r :: rs, _, hrs, h => State.reofferAll_exitPads rs (fun q hq => hrs q (List.mem_cons_of_mem _ hq))
      (State.reofferOne_exitPads (hrs r (List.mem_cons_self ..)) h)

theorem State.commandExit_exitPads (s : State) : s.ExitPads s.commandExit := by
  have h := State.reofferAll_exitPads s.padWaiters (fun _ h => h) (State.ExitPads.refl s)
  unfold State.commandExit
  dsimp only
  generalize s.padWaiters.foldl (fun s r => s.reofferOne r) s = m at h
  split
  · exact ⟨h.pads, h.queue, h.waiters⟩
  · exact h

/-- What is left when pad commands come or go. -/
structure State.PadFrame (s w : State) : Prop where
  only : w = { s with
    cmdQueue := w.cmdQueue, padWaiters := w.padWaiters, transfers := w.transfers, pads := w.pads, walkDue := w.walkDue
    opss := w.opss }
  pads : ∀ n, (w.pad? n).map (fun p => { p with watch := .none }) = (s.pad? n).map fun p => { p with watch := .none }

theorem State.withdrawPad_spec (s : State) (t : TId) :
    s.PadWithdrawn (s.withdrawPad (.xfer t)) t ∧ s.PadFrame (s.withdrawPad (.xfer t)) ∧
    (s.withdrawPad (.xfer t)).opss = s.opss ∧ ∀ c ∈ (s.withdrawPad (.xfer t)).cmdQueue, c.req ≠ .xfer t := by
  obtain ⟨z, hz⟩ : ∃ z : State, z = { s with padWaiters := s.padWaiters.filter fun r => decide (r ≠ .xfer t) } := ⟨_, rfl⟩
  by_cases hany : ∃ c ∈ s.cmdQueue, c.req = .xfer t
  · have hw : s.withdrawPad (.xfer t) =
        ({ z with cmdQueue := s.cmdQueue.filter fun c => decide (c.req ≠ .xfer t) } : State).commandExit := by
      rw [hz, State.withdrawPad]
      obtain ⟨c, hc, hreq⟩ := hany
      exact if_pos (List.any_eq_true.mpr ⟨c, hc, decide_eq_true hreq⟩)
    obtain ⟨y, hy⟩ : ∃ y : State, y = { z with cmdQueue := s.cmdQueue.filter fun c => decide (c.req ≠ .xfer t) } := ⟨_, rfl⟩
    rw [← hy] at hw
    have hspec := y.commandExit_spec
    have hframe := y.commandExit_exitFrame.only
    have hpads := y.commandExit_exitPads
    rw [hw]
    refine ⟨⟨fun hno => ?_, fun _ => ?_⟩, ⟨?_, fun n => ?_⟩, ?_, fun c hc => ?_⟩
    · obtain ⟨c, hc, hreq⟩ := hany
      exact absurd hreq (hno c hc)
    · rw [hy, hz] at hspec
      rw [hy, hz]
      exact hspec
    · have hopss : y.commandExit.opss = s.opss := by rw [hframe, hy, hz]
      rw [hopss, hframe, hy, hz]
    · rw [hpads.pads n, hy, hz]
      rfl
    · rw [hframe, hy, hz]
    · rcases hpads.queue c hc with h | h
      · rw [hy] at h
        simpa using (List.mem_filter.mp h).2
      · rw [hy, hz] at h
        simpa using (List.mem_filter.mp h).2
  · have hno : ∀ c ∈ s.cmdQueue, c.req ≠ .xfer t := fun c hc hreq => hany ⟨c, hc, hreq⟩
    have hw : s.withdrawPad (.xfer t) = z := by
      rw [hz, State.withdrawPad]
      refine if_neg fun h => ?_
      obtain ⟨c, hc, hreq⟩ := List.any_eq_true.mp h
      exact hno c hc (of_decide_eq_true hreq)
    rw [hw, hz]
    exact ⟨⟨fun _ => rfl, fun h => absurd h hany⟩, ⟨rfl, fun _ => rfl⟩, rfl, hno⟩

theorem State.openWatch_opened (s : State) (n : Nat) : s.WatchOpened (s.openWatch n) n := by
  refine ⟨fun hn => ?_, fun p hp => ?_⟩
  · have hc : s.padCommand (.watch n) = none := by rw [State.padCommand, hn]; rfl
    rw [State.openWatch, State.offerPad]
    simp only [hc]
  · dsimp only
    rw [State.openWatch_eq hp]
    by_cases hok : s.offerOk [⟨.clamp, p.addr, n, .watch n⟩] = true
    · rw [if_pos hok, if_pos hok, if_pos hok, if_pos hok]
      refine ⟨rfl, fun m => ?_⟩
      split
      · next hm =>
          rw [hm]
          exact State.pad_modPad_self (s := s.enqueue _) hp _
      · next hm => exact State.pad_modPad_ne (s.enqueue _) hm _
    · rw [if_neg hok, if_neg hok, if_neg hok, if_neg hok]
      refine ⟨rfl, fun m => ?_⟩
      split
      · next hm =>
          rw [hm]
          exact State.pad_modPad_self (s := { s with padWaiters := s.padWaiters ++ [Requester.watch n] }) hp _
      · next hm => exact State.pad_modPad_ne _ hm _

theorem State.WatchOpened.padFrame {s w : State} {n : Nat} (h : s.WatchOpened w n) :
    s.PadFrame w ∧ w.opss = s.opss ∧ w.telescopes = s.telescopes ∧ w.transfers = s.transfers := by
  cases hp : s.pad? n with
  | none =>
    rw [h.1 hp]
    exact ⟨⟨rfl, fun _ => rfl⟩, rfl, rfl, rfl⟩
  | some p =>
    obtain ⟨honly, hpads⟩ := h.2 p hp
    refine ⟨⟨?_, fun m => ?_⟩, by rw [honly], by rw [honly], by rw [honly]⟩
    · rw [honly]
    · rw [hpads m]
      split
      · next hm => rw [hm, hp]; rfl
      · rfl

end Sys2Proof.Machine

/-! PROOFS. Transfers aborted (R151 to R154), with a cause that is a trip and with one that is not. -/

namespace Sys2Proof.Machine

/-! ## The end of an aborted transfer (steps 1 to 5 of R153 and R154) -/

/-- Step 1: the pad command withdrawn, the clamp watch opened, or CLAMP_FAILED told. -/
def State.preEnd (s : State) (t : TId) (x : Transfer) (c : AbortCause) : State :=
  if x.loadMoving then s.withdrawPad (.xfer t)
  else if x.unclampSent then if c = .unitSilent then s.postClampFailed x.pad else s.openWatch x.pad
  else s.withdrawPad (.xfer t)

/-- Steps 2 to 5, from w. -/
def State.endAborted (w : State) (t : TId) (x : Transfer) (c : AbortCause) : State :=
  (((((if x.loadMoving then w.setLoc x.tel (.indeterminate x.pad t) else w).modPad x.pad fun p =>
    { p with st := if x.loadMoving then .blocked else .occupied x.tel }).setTransfer t none).placeXfer t
    (.xend (if x.loadMoving then .abortedIndeterminate else .abortedClean) x.pad)).post
    (.transferAborted t x.pad x.kind x.stage c (if x.loadMoving then .abortedIndeterminate else .abortedClean)))

theorem State.abort_moving {s : State} {t : TId} {x : Transfer} (hx : s.transfers[t] = some x) (hm : x.loadMoving = true)
    (c : AbortCause) :
    s.abort t c = ((s.preEnd t x c).endAborted t x c).enterTripped t (.transfer :: c.trip.toList) := by
  simp only [State.abort, hx, hm, if_true, State.preEnd, State.endAborted, State.abortIndeterminate]

theorem State.abort_clean_trip {s : State} {t : TId} {x : Transfer} (hx : s.transfers[t] = some x)
    (hm : x.loadMoving = false) {c : AbortCause} {k : TripCause} (hc : c.trip = some k) :
    s.abort t c = ((s.preEnd t x c).endAborted t x c).enterTripped t [k] := by
  simp only [State.abort, hx, hm, Bool.false_eq_true, if_false, State.preEnd, State.endAborted, State.abortClean, hc]

theorem State.abort_clean_park {s : State} {t : TId} {x : Transfer} (hx : s.transfers[t] = some x)
    (hm : x.loadMoving = false) {c : AbortCause} (hc : c.trip = none) :
    s.abort t c = ((s.preEnd t x c).endAborted t x c).parkFromTransfer t := by
  simp only [State.abort, hx, hm, Bool.false_eq_true, if_false, State.preEnd, State.endAborted, State.abortClean, hc]

/-- The notice of step 1. -/
def State.endNotices (s : State) (x : Transfer) (c : AbortCause) : List NoticeBody :=
  if x.unclampSent = true ∧ x.loadMoving = false ∧ c = .unitSilent then
    [.clampFailed x.pad (((s.pad? x.pad).map (·.clamp)).getD .unknown) (s.telescopeOnPad x.pad)] else []

/-- Step 1, for the cases of the transfer. -/
theorem State.preEnd_spec (s : State) (t : TId) (x : Transfer) (c : AbortCause) :
    (x.unclampSent = false ∨ x.loadMoving = true → s.PadWithdrawn (s.preEnd t x c) t ∧
      ∀ d ∈ (s.preEnd t x c).cmdQueue, d.req ≠ .xfer t) ∧
    (x.unclampSent = true → x.loadMoving = false →
      (c = .unitSilent → s.preEnd t x c = { s with opss := (s.preEnd t x c).opss } ∧
        s.Told (s.preEnd t x c)
          [.clampFailed x.pad (((s.pad? x.pad).map (·.clamp)).getD .unknown) (s.telescopeOnPad x.pad)]) ∧
      (c ≠ .unitSilent → s.WatchOpened (s.preEnd t x c) x.pad)) ∧
    s.PadFrame (s.preEnd t x c) ∧ s.Told (s.preEnd t x c) (s.endNotices x c) := by
  obtain ⟨hdrawn, hframe, hopss, hqueue⟩ := s.withdrawPad_spec t
  by_cases hm : x.loadMoving = true
  · have hpre : s.preEnd t x c = s.withdrawPad (.xfer t) := if_pos hm
    rw [hpre, State.endNotices, if_neg (by simp [hm])]
    exact ⟨fun _ => ⟨hdrawn, hqueue⟩, fun _ h => absurd hm (by simp [h]), hframe, State.told_nil hopss⟩
  · rw [Bool.not_eq_true] at hm
    by_cases hu : x.unclampSent = true
    · by_cases hc : c = .unitSilent
      · have hpre : s.preEnd t x c = s.postClampFailed x.pad := by
          rw [State.preEnd, if_neg (by simp [hm]), if_pos hu, if_pos hc]
        rw [hpre, State.endNotices, if_pos ⟨hu, hm, hc⟩]
        exact ⟨fun h => absurd h (by simp [hm, hu]), fun _ _ => ⟨fun _ => ⟨rfl, State.told_post s _⟩, fun h => absurd hc h⟩,
          ⟨rfl, fun _ => rfl⟩, State.told_post s _⟩
      · have hpre : s.preEnd t x c = s.openWatch x.pad := by
          rw [State.preEnd, if_neg (by simp [hm]), if_pos hu, if_neg hc]
        have hopen := s.openWatch_opened x.pad
        rw [hpre, State.endNotices, if_neg (by simp [hc])]
        exact ⟨fun h => absurd h (by simp [hm, hu]), fun _ _ => ⟨fun h => absurd h hc, fun _ => hopen⟩, hopen.padFrame.1,
          State.told_nil hopen.padFrame.2.1⟩
    · rw [Bool.not_eq_true] at hu
      have hpre : s.preEnd t x c = s.withdrawPad (.xfer t) := by
        rw [State.preEnd, if_neg (by simp [hm]), if_neg (by simp [hu])]
      rw [hpre, State.endNotices, if_neg (by simp [hu])]
      exact ⟨fun _ => ⟨hdrawn, hqueue⟩, fun h => absurd h (by simp [hu]), hframe, State.told_nil hopss⟩

/-- Steps 2 to 5 of an abort. -/
theorem State.endAborted_spec (w : State) (t : TId) (x : Transfer) (c : AbortCause) :
    w.endAborted t x c = { w with
      pads := (w.endAborted t x c).pads, telescopes := (w.endAborted t x c).telescopes
      transfers := w.transfers.set t none, tls := (w.endAborted t x c).tls, opss := (w.endAborted t x c).opss } ∧
    (∀ q, (w.endAborted t x c).pad? q = if q = x.pad then
      (w.pad? q).map fun p => { p with st := if x.loadMoving then .blocked else .occupied x.tel } else w.pad? q) ∧
    (x.loadMoving = false → (w.endAborted t x c).telescopes = w.telescopes) ∧
    (x.loadMoving = true → ∀ k, (w.endAborted t x c).locOf k =
      if k = x.tel then some (.indeterminate x.pad t) else w.locOf k) ∧
    (w.endAborted t x c).tl t = { w.tl t with
      xfer := some (.xend (if x.loadMoving then .abortedIndeterminate else .abortedClean) x.pad) } ∧
    (∀ v, v ≠ t → (w.endAborted t x c).tl v = w.tl v) ∧
    w.Told (w.endAborted t x c) [.transferAborted t x.pad x.kind x.stage c
      (if x.loadMoving then .abortedIndeterminate else .abortedClean)] := by
  obtain ⟨z, hz⟩ : ∃ z, z = if x.loadMoving then w.setLoc x.tel (.indeterminate x.pad t) else w := ⟨_, rfl⟩
  have hzonly : z = { w with telescopes := z.telescopes } := by
    rw [hz]
    split <;> rfl
  have hend : w.endAborted t x c = ((((z.modPad x.pad fun p =>
      { p with st := if x.loadMoving then .blocked else .occupied x.tel }).setTransfer t none).placeXfer t
      (.xend (if x.loadMoving then .abortedIndeterminate else .abortedClean) x.pad)).post
      (.transferAborted t x.pad x.kind x.stage c (if x.loadMoving then .abortedIndeterminate else .abortedClean))) := by
    rw [hz, State.endAborted]
  have htl : ∀ v, (w.endAborted t x c).tl v = (z.modTl t fun p => { p with
      xfer := some (.xend (if x.loadMoving then .abortedIndeterminate else .abortedClean) x.pad) }).tl v := by
    rw [hend]
    exact fun _ => rfl
  have hztl : ∀ v, z.tl v = w.tl v := fun v => by rw [hzonly]; rfl
  have htel : (w.endAborted t x c).telescopes = z.telescopes := by rw [hend]; rfl
  refine ⟨?_, fun q => ?_, fun hm => ?_, fun hm k => ?_, ?_, fun v hv => ?_, fun k => ?_⟩
  · rw [hend]
    clear htl hend hz htel
    generalize z.telescopes = tels at hzonly
    subst hzonly
    rfl
  · have hpads : (w.endAborted t x c).pad? q = (w.modPad x.pad fun p =>
        { p with st := if x.loadMoving then .blocked else .occupied x.tel }).pad? q := by
      rw [hend, hzonly]
      rfl
    rw [hpads]
    by_cases hq : q = x.pad
    · rw [if_pos hq, hq]
      exact Table.find_adjust_self ..
    · rw [if_neg hq]
      exact State.pad_modPad_ne _ hq _
  · rw [htel, hz, if_neg (by simp [hm])]
  · have hloc : (w.endAborted t x c).locOf k = (w.setLoc x.tel (.indeterminate x.pad t)).locOf k := by
      rw [State.locOf, htel, hz, if_pos hm]
      rfl
    rw [hloc]
    by_cases hk : k = x.tel
    · rw [if_pos hk, hk, State.locOf_setLoc_self]
    · rw [if_neg hk, State.locOf_setLoc_ne _ hk]
  · rw [htl, State.tl_modTl_self, hztl]
  · rw [htl, State.tl_ne _ hv, hztl]
  · rw [hend, State.opsPort_post, hzonly]
    rfl

/-- What an abort has done when its transfer has ended. -/
structure State.AbortEnd (s m : State) (t : TId) (x : Transfer) (c : AbortCause) : Prop where
  ended : s.TransferEnded m t x c
  only : m = { s with
    pads := m.pads, telescopes := m.telescopes, transfers := m.transfers, tls := m.tls, walkDue := m.walkDue
    cmdQueue := m.cmdQueue, padWaiters := m.padWaiters, opss := m.opss }
  gone : m.transfers[t] = none
  pad : (m.pad? x.pad).map (·.st) = (s.pad? x.pad).map fun _ => if x.loadMoving then .blocked else .occupied x.tel
  readings : ∀ q, (m.pad? q).map (fun p => (p.silent, p.clamp, p.load)) = (s.pad? q).map fun p => (p.silent, p.clamp, p.load)
  slot : m.tl t = { s.tl t with
    xfer := some (.xend (if x.loadMoving then .abortedIndeterminate else .abortedClean) x.pad) }
  others : ∀ v, v ≠ t → m.tl v = s.tl v
  settled : x.loadMoving = false → m.telescopes = s.telescopes
  unsettled : x.loadMoving = true → ∀ k, m.locOf k = if k = x.tel then some (.indeterminate x.pad t) else s.locOf k
  told : s.Told m (s.endNotices x c ++ [.transferAborted t x.pad x.kind x.stage c
    (if x.loadMoving then .abortedIndeterminate else .abortedClean)])
  withdrawn : x.unclampSent = false ∨ x.loadMoving = true → ∀ d ∈ m.cmdQueue, d.req ≠ .xfer t
  watched : x.unclampSent = true → x.loadMoving = false →
    (m.pad? x.pad).map (·.watch) = (s.pad? x.pad).map fun p =>
      if c = .unitSilent then p.watch
      else if s.offerOk [⟨.clamp, p.addr, x.pad, .watch x.pad⟩] then .queued else .waiting

theorem State.abortEnd (s : State) (t : TId) (x : Transfer) (c : AbortCause) :
    s.AbortEnd ((s.preEnd t x c).endAborted t x c) t x c := by
  obtain ⟨hdrawn, hwatch, hframe, htold⟩ := s.preEnd_spec t x c
  generalize s.preEnd t x c = w at hdrawn hwatch hframe htold
  obtain ⟨honly, hpads, hsame, hmoved, hslot, hothers, htold'⟩ := w.endAborted_spec t x c
  generalize w.endAborted t x c = m at honly hpads hsame hmoved hslot hothers htold'
  have hwonly := hframe.only
  have htel : w.telescopes = s.telescopes := by rw [hwonly]
  have htl : ∀ v, w.tl v = s.tl v := fun v => by rw [hwonly]; rfl
  have hloc : ∀ k, w.locOf k = s.locOf k := fun k => by rw [State.locOf, State.locOf, htel]
  rw [htl] at hslot
  exact {
    ended := ⟨w, fun h => (hdrawn h).1, hwatch, honly, hpads, fun h => (hsame h).trans htel,
      fun h k => by rw [hmoved h k, hloc], hslot, fun v hv => (hothers v hv).trans (htl v), htold'⟩
    only := by
      have hq : m.cmdQueue = w.cmdQueue := by rw [honly]
      have hp : m.padWaiters = w.padWaiters := by rw [honly]
      have hd : m.walkDue = w.walkDue := by rw [honly]
      have hx : m.transfers = w.transfers.set t none := by rw [honly]
      rw [hq, hp, hd, hx, honly, hwonly]
    gone := by
      have hx : m.transfers = w.transfers.set t none := by rw [honly]
      rw [hx]
      exact upd_get_self w.transfers t fun _ => none
    pad := by
      have hst := hframe.pads x.pad
      rw [hpads, if_pos rfl]
      cases hw : w.pad? x.pad with
      | none => cases hs : s.pad? x.pad with
        | none => rfl
        | some p => rw [hw, hs] at hst; simp at hst
      | some q => cases hs : s.pad? x.pad with
        | none => rw [hw, hs] at hst; simp at hst
        | some p => rfl
    readings := fun q => by
      have hst := congrArg (Option.map fun p : Pad => (p.silent, p.clamp, p.load)) (hframe.pads q)
      rw [Option.map_map, Option.map_map] at hst
      refine Eq.trans ?_ hst
      rw [hpads]
      split
      · rw [Option.map_map]
        rfl
      · rfl
    slot := hslot
    others := fun v hv => (hothers v hv).trans (htl v)
    settled := fun h => (hsame h).trans htel
    unsettled := fun h k => by rw [hmoved h k, hloc]
    told := State.Told.trans htold (by rw [hwonly]) htold'
    withdrawn := fun h => by
      have hq : m.cmdQueue = w.cmdQueue := by rw [honly]
      rw [hq]
      exact (hdrawn h).2
    watched := fun hu hm => by
      obtain ⟨hsilent, hopen⟩ := hwatch hu hm
      have hkeep : (m.pad? x.pad).map (·.watch) = (w.pad? x.pad).map (·.watch) := by
        rw [hpads, if_pos rfl]
        cases w.pad? x.pad <;> rfl
      rw [hkeep]
      by_cases hc : c = .unitSilent
      · obtain ⟨hw, -⟩ := hsilent hc
        have hpad : w.pad? x.pad = s.pad? x.pad := by rw [State.pad?, hw]; rfl
        rw [hpad]
        simp only [if_pos hc]
      · simp only [if_neg hc]
        obtain ⟨hnone, hsome⟩ := hopen hc
        cases hp : s.pad? x.pad with
        | none => rw [hnone hp, hp]; rfl
        | some p =>
          rw [(hsome p hp).2 x.pad, if_pos rfl]
          rfl }

/-! ## What follows the end -/

/-- What all aborts share, when t's own state was then settled. -/
theorem State.AbortEnd.settle {s m u : State} {t : TId} {x : Transfer} {c : AbortCause} (h : s.AbortEnd m t x c)
    (hu : m.OwnFrame u t) :
    u.transfers[t] = none ∧
    (u.tl t = { s.tl t with
      auth := (u.tl t).auth
      xfer := some (.xend (if x.loadMoving then .abortedIndeterminate else .abortedClean) x.pad) }) ∧
    (∀ q, u.pad? q = m.pad? q) ∧ u.telescopes = m.telescopes ∧ u.cmdQueue = m.cmdQueue ∧
    u = { s with
      sections := u.sections, pads := u.pads, telescopes := u.telescopes, transfers := u.transfers, trs := u.trs
      routes := u.routes, tls := u.tls, ceilings := u.ceilings, waiting := u.waiting, walkDue := u.walkDue
      cmdQueue := u.cmdQueue, padWaiters := u.padWaiters, opss := u.opss } ∧
    ∀ v, v ≠ t → u.tr v = s.tr v ∧ u.route v = s.route v ∧ u.tl v = s.tl v ∧ u.ceilings[v] = s.ceilings[v] := by
  have huonly := hu.frame.only
  have hmonly := h.only
  have hpads : u.pads = m.pads := by rw [huonly]
  have htels : u.telescopes = m.telescopes := by rw [huonly]
  have hxfer : u.transfers = m.transfers := by rw [huonly]
  have hq : u.cmdQueue = m.cmdQueue := by rw [huonly]
  have hwaiters : u.padWaiters = m.padWaiters := by rw [huonly]
  refine ⟨by rw [hxfer, h.gone], ?_, fun q => by rw [State.pad?, hpads]; rfl, htels, hq, ?_, fun v hv => ?_⟩
  · have hp : u.tl t = { m.tl t with auth := (u.tl t).auth } := hu.port
    rw [h.slot] at hp
    exact hp
  · rw [hpads, htels, hxfer, hq, hwaiters, huonly, hmonly]
  · obtain ⟨h1, h2, h3, h4, -⟩ := hu.others v hv
    have hm : m.tr v = s.tr v ∧ m.route v = s.route v ∧ m.ceilings[v] = s.ceilings[v] := by
      rw [hmonly]
      exact ⟨rfl, rfl, rfl⟩
    exact ⟨h1.trans hm.1, h2.trans hm.2.1, h3.trans (h.others v hv), h4.trans hm.2.2⟩

/-- The deferred examination sees sections, points and routes alone. -/
theorem State.nothingDeferred_congr {s m : State} {t : TId} (hsec : m.sections = s.sections) (hpt : m.points = s.points)
    (hroute : m.route t = s.route t) (h : s.nothingDeferred t) : m.nothingDeferred t := by
  have hsec' : m.sec? = s.sec? := by
    funext n
    rw [State.sec?, hsec]
    rfl
  have hrun : m.grantedRun t = s.grantedRun t := by
    rw [State.grantedRun, State.run, hroute, State.holdBy_congr hsec]
    rfl
  have hdefer : m.deferredAt t = s.deferredAt t := by
    funext e
    have hpoint : m.pointFaulted e.sec = s.pointFaulted e.sec := by
      simp only [State.pointFaulted, State.pointOf, hpt]
    have hdet : m.detOf e.sec = s.detOf e.sec := by rw [State.detOf, hsec']; rfl
    unfold State.deferredAt
    rw [hroute, hdet, hpoint]
  rw [State.nothingDeferred, hrun, hdefer]
  exact h

theorem State.parkFromTransfer_eq (m : State) (t : TId) : ∃ y,
    ({ m with trs := m.trs.set t { m.tr t with state := .parked } } : State).Examined y t ∧
    m.OwnFrame y t ∧ ((y.tr t).state = .parked ∨ (y.tr t).state = .tripped) ∧
    (m.nothingDeferred t → y = { m with trs := m.trs.set t { m.tr t with state := .parked } }) ∧
    m.parkFromTransfer t = if (y.tr t).state = .tripped then y else y.formAuth t := by
  obtain ⟨p, hp⟩ : ∃ p : State, p = m.modTr t fun x => { x with state := .parked } := ⟨_, rfl⟩
  have hset : ({ m with trs := m.trs.set t { m.tr t with state := .parked } } : State) = p := by rw [hp]; rfl
  have hst : (p.tr t).state = .parked := by rw [hp, State.tr_modTr_self]
  have hexam := State.examine_examined (s := p) (t := t) (.inl hst)
  rw [hset]
  refine ⟨p.examine t, hexam, ?_, State.examine_parked hst, fun h => ?_, by rw [hp]; rfl⟩
  · have hmp : m.OwnFrame p t := by rw [hp]; exact m.modTr_ownFrame t _
    exact hmp.trans (p.examine_ownFrame t)
  · exact hexam.nothing (State.nothingDeferred_congr (by rw [hp]; rfl) (by rw [hp]; rfl) (by rw [hp]; rfl) h)

/-- Every transfer aborted for a cause that is no trip. -/
theorem State.abort_aborted {s : State} {t : TId} {x : Transfer} (hx : s.transfers[t] = some x) {c : AbortCause}
    (hc : c.trip = none) : s.Aborted (s.abort t c) t x c := by
  have hend := s.abortEnd t x c
  obtain ⟨m, hm⟩ : ∃ m, m = (s.preEnd t x c).endAborted t x c := ⟨_, rfl⟩
  rw [← hm] at hend
  have hmonly := hend.only
  have hmtr : ∀ v, m.tr v = s.tr v := fun v => by rw [hmonly]; rfl
  have hmroute : ∀ v, m.route v = s.route v := fun v => by rw [hmonly]; rfl
  have hmclock : m.clock = s.clock := by rw [hmonly]
  cases hmov : x.loadMoving with
  | true =>
    obtain ⟨u, hu⟩ : ∃ u, u = s.abort t c := ⟨_, rfl⟩
    have habort : u = m.enterTripped t [.transfer] := by rw [hu, State.abort_moving hx hmov, hc, ← hm]; rfl
    have htrip := m.enterTripped_trippedBy t [.transfer]
    rw [← habort] at htrip
    rw [← hu]
    obtain ⟨hgone, hslot, hpads, htels, hqueue, honly, hothers⟩ := hend.settle htrip.ownFrame
    have hloc : ∀ k, u.locOf k = m.locOf k := fun k => by rw [State.locOf, htels]; rfl
    have hpad := hend.pad
    have htold := hend.told.trans hmclock htrip.told
    rw [hmtr, State.endNotices, if_neg (by simp [hmov])] at htold
    simp only [hmov, if_true] at hpad htold
    exact {
      gone := hgone
      slot := hslot
      clean := fun h => absurd hmov (by simp [h])
      indeterminate := fun _ => by
        refine ⟨by rw [hloc, hend.unsettled hmov, if_pos rfl], fun k hk => by rw [hloc, hend.unsettled hmov, if_neg hk],
          by rw [hpads, hpad], by rw [htrip.record], by rw [htrip.record, hmtr]; rfl, htrip.auth, by rw [htrip.route], ?_⟩
        exact htold
      ended := ⟨m, hend.ended, fun h => absurd hmov (by simp [h]), fun _ => htrip.tripTaken⟩
      withdrawn := fun h => by rw [hqueue]; exact hend.withdrawn h
      watched := fun _ h => absurd hmov (by simp [h])
      only := honly
      others := hothers }
  | false =>
    obtain ⟨u, hu⟩ : ∃ u, u = s.abort t c := ⟨_, rfl⟩
    have habort : u = m.parkFromTransfer t := by rw [hu, State.abort_clean_park hx hmov hc, ← hm]
    obtain ⟨y, hexam, hyframe, hyst, hnone, hpark⟩ := m.parkFromTransfer_eq t
    rw [← habort] at hpark
    rw [← hu]
    have huframe : m.OwnFrame u t := by
      rw [hpark]
      split
      · exact hyframe
      · exact hyframe.trans (y.formAuth_ownFrame t)
    have hust : (u.tr t).state = (y.tr t).state := by
      rw [hpark]
      split <;> rfl
    obtain ⟨hgone, hslot, hpads, htels, hqueue, honly, hothers⟩ := hend.settle huframe
    have hpad := hend.pad
    simp only [hmov, Bool.false_eq_true, if_false] at hpad
    have htold := hend.told
    simp only [hmov, Bool.false_eq_true, if_false, State.endNotices, true_and] at htold
    exact {
      gone := hgone
      slot := hslot
      clean := fun _ => by
        refine ⟨htels.trans (hend.settled hmov), by rw [hpads, hpad], by rw [hust]; exact hyst, fun hno => ?_⟩
        have hy := hnone (State.nothingDeferred_congr (by rw [hmonly]) (by rw [hmonly]) (hmroute t) hno)
        have hstate : (y.tr t).state = .parked := by
          have h : y.tr t = { m.tr t with state := .parked } := by
            rw [hy]
            exact upd_get_self m.trs t fun x => { x with state := .parked }
          rw [h]
        have hform : u = y.formAuth t := by rw [hpark, if_neg (by rw [hstate]; exact TState.noConfusion)]
        refine ⟨by rw [hust, hstate], by rw [hform]; exact (y.formAuth_spec t).1, ?_⟩
        intro k
        rw [hform, ← htold k, hy]
        rfl
      indeterminate := fun h => absurd hmov (by simp [h])
      ended := ⟨m, hend.ended, fun _ => ⟨y, hexam, hpark⟩, fun h => absurd hmov (by simp [h])⟩
      withdrawn := fun h => by rw [hqueue]; exact hend.withdrawn h
      watched := fun h h' => by rw [hpads]; exact hend.watched h h'
      only := honly
      others := hothers }

end Sys2Proof.Machine

/-! PROOFS. Aborts told by commands and countdowns (R148 to R154), and trips that abort a transfer (R116). -/

namespace Sys2Proof.Machine

/-! ## Trips in TRANSFER (R116) -/

theorem AbortCause.trip_of_abort {c : TripCause} {a : AbortCause} (h : c.abort = some a) : a.trip = some c := by
  cases c <;> cases h <;> rfl

/-- The order in which causes join a set does not matter. -/
theorem TripSet.addAll_transfer (z : TripSet) (c : TripCause) :
    z.addAll [.transfer, c] = { z.insert c with transfer := true } := by
  cases c <;> rfl

/-- The reservation of t depends on the holdings and its route alone. -/
theorem State.settingRun_congr {s m : State} {t : TId} (hsec : m.sections = s.sections) (hroute : m.route t = s.route t) :
    m.settingRun t = s.settingRun t := by
  rw [State.settingRun, State.run, hroute, State.holdBy_congr hsec]
  rfl

/-- Every transfer aborted by a trip. -/
theorem State.abort_transferTripped {s : State} {t : TId} {x : Transfer} (hx : s.transfers[t] = some x) {c : TripCause}
    {a : AbortCause} (hc : c.abort = some a) : s.TransferTripped (s.abort t a) t x c a := by
  have htrip := AbortCause.trip_of_abort hc
  have ha : a ≠ .unitSilent := fun h => by rw [h] at htrip; exact nomatch htrip
  have hend := s.abortEnd t x a
  obtain ⟨m, hm⟩ : ∃ m, m = (s.preEnd t x a).endAborted t x a := ⟨_, rfl⟩
  rw [← hm] at hend
  obtain ⟨cs, hcs⟩ : ∃ cs : List TripCause, cs = if x.loadMoving then [.transfer, c] else [c] := ⟨_, rfl⟩
  obtain ⟨u, hu⟩ : ∃ u, u = s.abort t a := ⟨_, rfl⟩
  have habort : u = m.enterTripped t cs := by
    rw [hu, hcs, hm]
    by_cases hmov : x.loadMoving = true
    · rw [State.abort_moving hx hmov, htrip, if_pos hmov]
      rfl
    · rw [State.abort_clean_trip hx (Bool.not_eq_true _ ▸ hmov) htrip, if_neg hmov]
  have hadd : ∀ z : TripSet, z.addAll cs =
      if x.loadMoving then { z.insert c with transfer := true } else z.insert c := fun z => by
    rw [hcs]
    split
    · exact z.addAll_transfer c
    · rfl
  have htripped := m.enterTripped_trippedBy t cs
  rw [← habort] at htripped
  have hmonly := hend.only
  have hmtr : m.tr t = s.tr t := by rw [hmonly]; rfl
  have hmroute : m.route t = s.route t := by rw [hmonly]; rfl
  have hmsec : m.sections = s.sections := by rw [hmonly]
  have hmhold := State.holdBy_congr hmsec
  have hmrun := State.settingRun_congr hmsec hmroute
  have hmwait : m.waiting = s.waiting := by rw [hmonly]
  have hrecord := htripped.record
  have hroute := htripped.route
  have hholds := htripped.holds
  have htold := hend.told.trans (by rw [hmonly]) htripped.told
  rw [hmtr, hmrun, hadd] at hrecord
  simp only [State.holdsFirm, hmroute, hmhold] at hroute
  simp only [State.inRecord, hmroute, hmhold, State.sec?, hmsec] at hholds
  rw [hmtr, hadd, State.endNotices, if_neg (by simp [ha]), List.nil_append] at htold
  obtain ⟨hgone, hslot, hpads, htels, hqueue, honly, hothers⟩ := hend.settle htripped.ownFrame
  have hloc : ∀ k, u.locOf k = m.locOf k := fun k => by rw [State.locOf, htels]; rfl
  have hpad := hend.pad
  rw [← hpads] at hpad
  rw [← hu]
  exact {
    record := hrecord
    route := ⟨by rw [hroute], by rw [hroute], by rw [hroute]⟩
    holds := hholds
    waiting := by
      have hw : u.waiting = m.waiting.filter fun w => decide (w.t ≠ t) := by rw [htripped.only]
      rw [hw, hmwait]
    gone := hgone
    slot := hslot
    auth := htripped.auth
    clean := fun hmov => by
      simp only [hmov, Bool.false_eq_true, if_false] at hpad htold
      exact ⟨htels.trans (hend.settled hmov), hpad, htold⟩
    indeterminate := fun hmov => by
      have hl := fun k => (hloc k).trans (hend.unsettled hmov k)
      simp only [hmov, if_true] at hpad htold
      exact ⟨(hl x.tel).trans (if_pos rfl), fun k hk => (hl k).trans (if_neg hk), hpad, htold⟩
    ended := by
      refine ⟨m, hend.ended, fun hmov => ?_, fun hmov => ?_⟩
      · rw [hcs, if_neg (by simp [hmov])] at htripped
        exact htripped.tripTaken
      · have h := htripped.routeFrame.only
        exact h
    withdrawn := fun h => by rw [hqueue]; exact hend.withdrawn h
    watched := fun h h' => by
      have hw := hend.watched h h'
      simp only [if_neg ha] at hw
      rw [hpads]
      exact hw
    only := honly
    others := hothers }

/-- A trip cause of a transporter in TRANSFER aborts its transfer. -/
theorem State.tripAny_transfer {s : State} {t : TId} (hst : (s.tr t).state = .transfer) {c : TripCause} {a : AbortCause}
    (hc : c.abort = some a) : s.tripAny t c = s.abort t a := by
  rw [State.tripAny, if_pos hst, hc]

theorem State.tripAny_trip {s : State} {t : TId} (hst : (s.tr t).state ≠ .transfer) (c : TripCause) :
    s.tripAny t c = s.trip t c := if_neg hst

/-! ## XFER_ABORT, the stage countdown, STEP failed (R148 to R151) -/

theorem tid?_self {t : TId} {n : Nat} (h : n = t.val) : tid? n = some t := by
  subst h
  exact (dif_pos t.isLt).trans rfl

theorem exec_stageTimeout {s : State} (hs : s.resetHold = none) (t : TId) :
    exec (.stageTimeout t) s = .next (s.stageExpires t) :=
  congrArg Host.Outcome.next (State.live_eq hs _)

theorem exec_xferAbort {s : State} {l : OpsId} (hl : s.OpsReady l) (tag n : Byte) :
    exec (.xferAbort l tag [n]) s = .next (s.xferAbort l tag n.toNat) :=
  exec_ops_gives (act := State.onXferAbort) hl rfl rfl rfl

theorem State.stageExpires_some {s : State} {t : TId} {x : Transfer} (hx : s.transfers[t] = some x) :
    s.stageExpires t = if cdRunning x.cd then s.abort t .timeout else s := by
  unfold State.stageExpires
  rw [hx]

theorem State.xferAbort_unknown {s : State} (hrun : s.site = .running) (l : OpsId) (tag : Byte) {n : Nat} (h : 6 ≤ n) :
    s.xferAbort l tag n = s.reply l tag 0x5E .unknownId [] := by
  have hn : tid? n = none := dif_neg (Nat.not_lt.mpr h)
  unfold State.xferAbort
  rw [hn]
  exact State.judge_unknownId hrun l tag 0x5E

theorem State.xferAbort_judged {s : State} (hrun : s.site = .running) (l : OpsId) (tag : Byte) {n : Nat} {t : TId}
    (h : n = t.val) : s.xferAbort l tag n = s.judge l tag 0x5E [(decide ((s.tr t).state = .transfer), .state)]
      (fun s => s.abort t .operations) (fun _ => s.abortOutcome t) := by
  unfold State.xferAbort
  rw [tid?_self h]
  exact State.judge_running hrun l tag 0x5E _ _ _

theorem exec_stepFailed {s : State} {t : TId} (hq : s.Quiet (.tl t)) :
    exec (.stepResult t [1]) s = .next ((s.reloadSupervision t).stepRequest t false) :=
  (exec_tl_quiet (act := State.onStepResult) (ty := Config.tyStep) (p := [1]) hq rfl rfl).trans rfl

theorem State.transfers_reloadSupervision (s : State) (t : TId) : (s.reloadSupervision t).transfers = s.transfers := by
  unfold State.reloadSupervision
  split <;> rfl

/-- Settles O30: the four ways to an abort, each to State.abort_aborted. -/
theorem abortResult : Obligations.AbortResult := by
  intro s t
  refine ⟨fun x hx => ⟨fun l tag n hl hrun hn hst => ?_, fun c hs hcd hc => ?_, fun hs hcd => ?_, fun hq hstage => ?_⟩,
    fun hs hx => ?_, fun l tag n hl hrun => ⟨fun hn => ?_, fun hn hst => ?_⟩⟩
  · refine ⟨_, State.abort_aborted hx rfl, ?_⟩
    rw [exec_xferAbort hl, State.xferAbort_judged hrun l tag hn, State.judge_accepted (by rw [decide_eq_true hst]; rfl)]
    have hdata : s.abortOutcome t = [if x.loadMoving then 1 else 0] := by
      unfold State.abortOutcome
      rw [hx]
      cases hm : x.loadMoving <;> simp [Transfer.abortOutcome, hm] <;> rfl
    rw [hdata]
  · refine ⟨_, State.abort_aborted hx rfl, ?_⟩
    rw [exec_stageTimeout hs, State.stageExpires_some hx, if_pos ((cdRunning_iff _).mpr ⟨c, hcd, hc⟩)]
  · rw [exec_stageTimeout hs, State.stageExpires_some hx, cdRunning_of_stopped fun d hd => ?_]
    · rfl
    · rcases hcd with h | ⟨c, h, hzero⟩
      · exact nomatch h ▸ hd
      · exact Option.some.inj (h.symm.trans hd) ▸ hzero
  · have hx' : (s.reloadSupervision t).transfers[t] = some x := by rw [s.transfers_reloadSupervision t]; exact hx
    refine ⟨_, State.abort_aborted hx' rfl, ?_⟩
    have hjacks : x.stage.jacks = true := by rcases hstage with h | h <;> rw [h] <;> rfl
    rw [exec_stepFailed hq]
    unfold State.stepRequest
    rw [hx']
    exact congrArg _ (if_pos hjacks)
  · rw [exec_stageTimeout hs]
    unfold State.stageExpires
    rw [hx]
  · rw [exec_xferAbort hl, State.xferAbort_unknown hrun l tag hn]
  · rw [exec_xferAbort hl, State.xferAbort_judged hrun l tag hn, State.judge_refused (r := .state)]
    rw [decide_eq_false hst]
    rfl

/-! ## The supervision countdown (R110) -/

theorem exec_supervisionExpiry {s : State} (hs : s.resetHold = none) (t : TId) :
    exec (.supervisionExpiry t) s = .next (s.supervisionExpires t) :=
  congrArg Host.Outcome.next (State.live_eq hs _)

/-- A trip while TRIPPED joins the causes. -/
theorem State.trip_tripped {s : State} {t : TId} (hst : (s.tr t).state = .tripped) (c : TripCause) :
    s.trip t c = ((s.addTrips t [c]).formAuth t).postTripped t [c] := by
  simp only [State.trip, hst]

/-- Settles O56: by the state in which the countdown ends. -/
theorem supervisionExpiryResult : Obligations.SupervisionExpiryResult := by
  intro s t hs
  dsimp only
  obtain ⟨s1, hs1⟩ : ∃ s1 : State, s1 = { s with
    trs := s.trs.set t { s.tr t with superv := some (.load 0), awaitingFix := false } } := ⟨_, rfl⟩
  rw [← hs1]
  have htr : s1.tr t = { s.tr t with superv := some (.load 0), awaitingFix := false } := by
    rw [hs1]
    exact upd_get_self s.trs t fun x => { x with superv := some (.load 0), awaitingFix := false }
  have hexpires : ((s.tr t).state ≠ .offline ∧ ∃ c, (s.tr t).superv = some c ∧ 0 < c.steps) →
      exec (.supervisionExpiry t) s = .next (s1.tripAny t .link) := fun ⟨hst, hrun⟩ => by
    rw [exec_supervisionExpiry hs, hs1]
    exact congrArg _ (if_pos ⟨hst, (cdRunning_iff _).mpr hrun⟩)
  refine ⟨fun hno => ?_, fun hrun hup => ?_, fun hrun hst => ?_, fun x hrun hst hx => ?_⟩
  · rw [exec_supervisionExpiry hs]
    refine congrArg _ (if_neg fun ⟨hst, hcd⟩ => hno ⟨hst, (cdRunning_iff _).mp hcd⟩)
  · have hup' : (s1.tr t).state.upright := by rw [htr]; exact hup
    refine ⟨_, hexpires hrun, ?_⟩
    rw [State.tripAny_trip (TState.upright_ne hup').2.2]
    exact State.trip_tripTaken hup' _
  · have hst' : (s1.tr t).state = .tripped := by rw [htr]; exact hst
    have htrip : s1.tripAny t .link = ((s1.addTrips t [.link]).formAuth t).postTripped t [.link] := by
      rw [State.tripAny_trip (by rw [hst']; exact TState.noConfusion), State.trip_tripped hst']
    refine ⟨_, hexpires hrun, ?_⟩
    rw [htrip]
    obtain ⟨m, hm⟩ : ∃ m, m = s1.addTrips t [.link] := ⟨_, rfl⟩
    obtain ⟨hauth, hformed, hport, hothers⟩ := m.formAuth_spec t
    have hmtr : m.tr t = { s1.tr t with trips := { (s.tr t).trips with link := true } } := by
      rw [hm, State.addTrips, State.tr_modTr_self, htr]
      rfl
    have hmonly : m = { s with trs := m.trs } := by rw [hm, hs1]; rfl
    rw [← hm]
    have hutr : ((m.formAuth t).postTripped t [.link]).tr t = m.tr t := rfl
    have hothers' : ∀ v, v ≠ t → m.tr v = s.tr v := fun v hv => by
      rw [hm, State.addTrips, State.tr_ne _ hv, hs1]
      exact s.tr_ne hv fun x => { x with superv := some (.load 0), awaitingFix := false }
    refine ⟨hutr.trans hmtr, hauth, ?_, ?_, ?_, fun v hv => ?_⟩
    · have hp : (m.formAuth t).tl t = { m.tl t with auth := ((m.formAuth t).tl t).auth } := hport
      have hmtl : m.tl t = s.tl t := by rw [hmonly]; rfl
      rw [hmtl] at hp
      exact hp
    · have htold := (m.formAuth t).told_post
        (.tripped t { TripSet.empty with link := true } (m.tr t).trips ((m.tr t).last.map (·.sec)) ((m.tr t).last.map (·.off)))
      have hlast : (m.tr t).last = (s.tr t).last := by rw [hmtr, htr]
      rw [hutr, ← hlast]
      intro k
      have hk : (m.formAuth t).opsPort k = s.opsPort k := by rw [hformed, hmonly]; rfl
      have hclock : (m.formAuth t).clock = s.clock := by rw [hformed, hmonly]
      rw [← hk, ← hclock]
      exact htold k
    · have hpost : (m.formAuth t).postTripped t [.link] = { m.formAuth t with
        opss := ((m.formAuth t).postTripped t [.link]).opss } := rfl
      rw [hpost, hformed, hmonly]
    · obtain ⟨h1, h2, h3, h4, h5⟩ := hothers v hv
      have hm' : m.route v = s.route v ∧ m.tl v = s.tl v ∧ m.ceilings[v] = s.ceilings[v] ∧
          m.transfers[v] = s.transfers[v] := by
        rw [hmonly]
        exact ⟨rfl, rfl, rfl, rfl⟩
      obtain ⟨k2, k3, k4, k5⟩ := hm'
      exact ⟨h1.trans (hothers' v hv), h2.trans k2, h3.trans k3, h4.trans k4, h5.trans k5⟩
  · have hst' : (s1.tr t).state = .transfer := by rw [htr]; exact hst
    have hx' : s1.transfers[t] = some x := by rw [hs1]; exact hx
    refine ⟨_, hexpires hrun, ?_⟩
    rw [State.tripAny_transfer hst' rfl]
    exact State.abort_transferTripped hx' rfl

end Sys2Proof.Machine

/-! PROOFS. What marking a unit surveyed and choosing the next exchange leave alone (R163, R166), and the good replies of
MAST and POINT units (R26 to R33, R133). -/

namespace Sys2Proof.Machine

/-! ## What a choice tells owners -/

/-- The unit at a is SILENT. -/
abbrev State.silentAt (s : State) (a : Nat) : Prop := ∃ v, s.unit? a = some v ∧ v.st = .silent

/-- Between s and u commands left the queue of s, and others that wait joined it: an owner is told only of a command it had
queued or waiting. -/
structure State.ChoiceOwners (s u : State) : Prop where
  queue : ∀ c ∈ u.cmdQueue, c ∈ s.cmdQueue ∨ c.req ∈ s.padWaiters ∧ c.func.blade = none ∧ ¬ s.silentAt c.addr
  waiters : ∀ r ∈ u.padWaiters, r ∈ s.padWaiters
  pads : ∀ n, (u.pad? n).map (fun p => { p with watch := .none }) = (s.pad? n).map fun p => { p with watch := .none }
  watch : ∀ n, (∀ c ∈ s.cmdQueue, c.req ≠ .watch n) → .watch n ∉ s.padWaiters → u.pad? n = s.pad? n
  stage : ∀ t : TId, u.transfers[t].map (·.stage) = s.transfers[t].map (·.stage)
  transfer : ∀ t : TId, (∀ c ∈ s.cmdQueue, c.req ≠ .xfer t) → .xfer t ∉ s.padWaiters → u.transfers[t] = s.transfers[t]
  point : ∀ p, (∀ c ∈ s.cmdQueue, c.func.blade = none ∨ c.entity ≠ p) → u.point? p = s.point? p
  walk : s.walkDue = true → u.walkDue = true
  latched : ∀ p x, s.point? p = some x → x.latch ≠ none → u.point? p = some x
  silent : ∀ a, s.silentAt a → u.silentAt a

theorem State.ChoiceOwners.refl (s : State) : s.ChoiceOwners s :=
  ⟨fun _ h => .inl h, fun _ h => h, fun _ => rfl, fun _ _ _ => rfl, fun _ => rfl, fun _ _ _ => rfl, fun _ _ => rfl, id, fun _ _ h _ => h, fun _ h => h⟩

theorem State.ChoiceOwners.trans {s m u : State} (h : s.ChoiceOwners m) (h' : m.ChoiceOwners u) : s.ChoiceOwners u where
  queue c hc := by
    rcases h'.queue c hc with hc | ⟨hr, hb, hs⟩
    · exact h.queue c hc
    · exact .inr ⟨h.waiters _ hr, hb, fun hs' => hs (h.silent _ hs')⟩
  waiters r hr := h.waiters r (h'.waiters r hr)
  pads n := (h'.pads n).trans (h.pads n)
  watch n hq hw := by
    refine (h'.watch n (fun c hc => ?_) fun hr => hw (h.waiters _ hr)).trans (h.watch n hq hw)
    rcases h.queue c hc with hc | ⟨hr, -, -⟩
    · exact hq c hc
    · exact fun hreq => hw (hreq ▸ hr)
  stage t := (h'.stage t).trans (h.stage t)
  transfer t hq hw := by
    refine (h'.transfer t (fun c hc => ?_) fun hr => hw (h.waiters _ hr)).trans (h.transfer t hq hw)
    rcases h.queue c hc with hc | ⟨hr, -, -⟩
    · exact hq c hc
    · exact fun hreq => hw (hreq ▸ hr)
  point p hq := by
    refine (h'.point p fun c hc => ?_).trans (h.point p hq)
    rcases h.queue c hc with hc | ⟨-, hb, -⟩
    · exact hq c hc
    · exact .inl hb
  walk hw := h'.walk (h.walk hw)
  latched p x hx hl := h'.latched p x (h.latched p x hx hl) hl
  silent a ha := h'.silent a (h.silent a ha)

/-- What the owner of a pad command is told touches a stage's command or a watch alone. -/
theorem State.PadOwnerTold.choiceOwners {s m u : State} {r : Requester} {f : Transfer → Transfer} {w : Watch}
    (h : s.ChoiceOwners m) (htold : m.PadOwnerTold u r f w) (hf : ∀ x, (f x).stage = x.stage)
    (hr : (∃ c ∈ s.cmdQueue, c.req = r) ∨ r ∈ s.padWaiters) (hkind : (∃ t, r = .xfer t) ∨ ∃ n, r = .watch n)
    (hq : ∀ c ∈ u.cmdQueue, c ∈ s.cmdQueue ∨ c.req ∈ s.padWaiters ∧ c.func.blade = none ∧ ¬ s.silentAt c.addr)
    (hw : ∀ r ∈ u.padWaiters, r ∈ s.padWaiters) (hpt : u.points = m.points) (hd : u.walkDue = m.walkDue)
    (hu : u.units = m.units) :
    s.ChoiceOwners u := by
  have hasked : ∀ q, (∀ c ∈ s.cmdQueue, c.req ≠ q) → q ∉ s.padWaiters → r ≠ q := fun q hc hn hreq =>
    hr.elim (fun ⟨c, hmem, hc'⟩ => hc c hmem (hc'.trans hreq)) fun hmem => hn (hreq ▸ hmem)
  have hpoint : ∀ p, (∀ c ∈ s.cmdQueue, c.func.blade = none ∨ c.entity ≠ p) → u.point? p = s.point? p := fun p hp => by
    rw [State.point?, hpt]
    exact h.point p hp
  have hlatched : ∀ p x, s.point? p = some x → x.latch ≠ none → u.point? p = some x := fun p x hx hl => by
    rw [State.point?, hpt]
    exact h.latched p x hx hl
  have hsilent : ∀ a, s.silentAt a → u.silentAt a := fun a ha => by
    obtain ⟨v, hv, hst⟩ := h.silent a ha
    exact ⟨v, by rw [State.unit?, hu]; exact hv, hst⟩
  rcases hkind with ⟨t, rfl⟩ | ⟨n, rfl⟩
  · obtain ⟨hpads, hxfer⟩ := htold.1 t rfl
    have hpad : ∀ k, u.pad? k = m.pad? k := fun k => by rw [State.pad?, hpads]; rfl
    refine ⟨hq, hw, fun k => by rw [hpad]; exact h.pads k, fun k hk hk' => by rw [hpad]; exact h.watch k hk hk', fun v => ?_,
      fun v hv hv' => ?_, hpoint, fun hs => by rw [hd]; exact h.walk hs, hlatched, hsilent⟩
    · rw [← h.stage v, hxfer v]
      split
      · rw [Option.map_map]
        exact congrArg (Option.map · m.transfers[v]) (funext hf)
      · rfl
    · rw [hxfer v, if_neg fun hvt => hasked _ hv hv' (by rw [hvt])]
      exact h.transfer v hv hv'
  · obtain ⟨hxfers, hpad⟩ := htold.2 n rfl
    refine ⟨hq, hw, fun k => ?_, fun k hk hk' => ?_, fun v => by rw [hxfers]; exact h.stage v,
      fun v hv hv' => by rw [hxfers]; exact h.transfer v hv hv', hpoint, fun hs => by rw [hd]; exact h.walk hs, hlatched, hsilent⟩
    · rw [← h.pads k, hpad k]
      split
      · rw [Option.map_map]
        rfl
      · rfl
    · rw [hpad k, if_neg fun hkn => hasked _ hk hk' (by rw [hkn])]
      exact h.watch k hk hk'

theorem State.PadOffers.kind {s : State} {r : Requester} {c : BusCmd} (h : s.PadOffers r c) :
    (∃ t, r = .xfer t) ∨ ∃ n, r = .watch n := by
  cases r with
  | xfer t => exact .inl ⟨t, rfl⟩
  | watch n => exact .inr ⟨n, rfl⟩
  | tr t => exact h.elim
  | ops => exact h.elim

theorem State.ChoiceOwners.reofferOne {s m : State} (h : s.ChoiceOwners m) {r : Requester} (hr : r ∈ s.padWaiters) :
    s.ChoiceOwners (m.reofferOne r) := by
  have hspec := m.reofferOne_spec r
  by_cases hc : ∃ c, m.PadOffers r c ∧ m.PadRoom c
  · obtain ⟨c, ho, hroom⟩ := hc
    obtain ⟨honly, htold⟩ := hspec.1 c ho hroom
    have hqueue : (m.reofferOne r).cmdQueue = m.cmdQueue ++ [c] := by rw [honly]
    have hwait : (m.reofferOne r).padWaiters = m.padWaiters.filter fun w => decide (w ≠ r) := by rw [honly]
    refine htold.choiceOwners h (fun _ => rfl) (.inr hr) ho.kind (fun d hd => ?_) (fun q hq => ?_) (by rw [honly])
      (by rw [honly]) (by rw [honly])
    · rw [hqueue, List.mem_append, List.mem_singleton] at hd
      refine hd.elim (h.queue d) fun hd => .inr ?_
      rw [hd, ho.req]
      refine ⟨hr, BusFunc.blade_of_pad ho.func, fun hs => ?_⟩
      obtain ⟨v, hv, hst⟩ := h.silent _ hs
      obtain ⟨-, v', hv', -, hst'⟩ := hroom
      exact hst' (Option.some.inj (hv.symm.trans hv') ▸ hst)
    · rw [hwait] at hq
      exact h.waiters q (List.mem_of_mem_filter hq)
  · rw [hspec.2 fun c ho hroom => hc ⟨c, ho, hroom⟩]
    exact h

theorem State.ChoiceOwners.reofferAll {s : State} : ∀ (rs : List Requester) {m : State}, (∀ r ∈ rs, r ∈ s.padWaiters) →
    s.ChoiceOwners m → s.ChoiceOwners (rs.foldl (fun s r => s.reofferOne r) m)
  | [], _, _, h => h
  | r :: rs, _, hrs, h => State.ChoiceOwners.reofferAll rs (fun q hq => hrs q (List.mem_cons_of_mem _ hq))
      (h.reofferOne (hrs r (List.mem_cons_self ..)))

theorem State.ChoiceOwners.trigger {s m : State} (h : s.ChoiceOwners m) : s.ChoiceOwners m.trigger :=
  ⟨h.queue, h.waiters, h.pads, h.watch, h.stage, h.transfer, h.point, fun _ => rfl, h.latched, h.silent⟩

theorem State.ChoiceOwners.commandExit {s m : State} (h : s.ChoiceOwners m) : s.ChoiceOwners m.commandExit := by
  have hall := State.ChoiceOwners.reofferAll m.padWaiters (fun r hr => h.waiters r hr) h
  unfold State.commandExit
  dsimp only
  split
  · exact hall.trigger
  · exact hall

/-- The oldest command leaves the queue. -/
theorem State.ChoiceOwners.pop {s : State} {c : BusCmd} {rest : List BusCmd} (hq : s.cmdQueue = c :: rest) :
    s.ChoiceOwners { s with cmdQueue := rest } :=
  ⟨fun _ hd => .inl (hq ▸ List.mem_cons_of_mem _ hd), fun _ h => h, fun _ => rfl, fun _ _ _ => rfl, fun _ => rfl,
    fun _ _ _ => rfl, fun _ _ => rfl, id, fun _ _ h _ => h, fun _ h => h⟩

theorem State.ChoiceOwners.tellSent {s m : State} (h : s.ChoiceOwners m) {c : BusCmd} (hc : c ∈ s.cmdQueue)
    (hsend : ¬ (c.func.blade.isSome = true ∧ s.sendTest c = false)) : s.ChoiceOwners (m.tellSent c) := by
  have honly := m.tellSent_only c
  have hqueue : (m.tellSent c).cmdQueue = m.cmdQueue := by rw [honly]
  have hwait : (m.tellSent c).padWaiters = m.padWaiters := by rw [honly]
  have hdue : (m.tellSent c).walkDue = m.walkDue := by rw [honly]
  have hunits : (m.tellSent c).units = m.units := by rw [honly]
  have hthrow : m.tellSent c = m.throwSent c → s.ChoiceOwners (m.tellSent c) := fun ht => by
    have hpads : (m.throwSent c).pads = m.pads ∧ (m.throwSent c).transfers = m.transfers := by
      unfold State.throwSent
      split <;> exact ⟨rfl, rfl⟩
    rw [ht] at hqueue hwait hdue hunits ⊢
    refine ⟨fun d hd => h.queue d (hqueue ▸ hd), fun r hr => h.waiters r (hwait ▸ hr), fun n => ?_, fun n hn hn' => ?_,
      fun t => by rw [hpads.2]; exact h.stage t, fun t ht ht' => by rw [hpads.2]; exact h.transfer t ht ht', fun p hp => ?_,
      fun hs => by rw [hdue]; exact h.walk hs, fun p x hx hl => ?_, fun a ha => ?_⟩
    · rw [State.pad?, hpads.1]
      exact h.pads n
    · rw [State.pad?, hpads.1]
      exact h.watch n hn hn'
    · rw [← h.point p hp]
      cases hb : c.func.blade with
      | none => simp only [State.throwSent, hb]
      | some b =>
        rw [m.point_throwSent hb, if_neg]
        rintro rfl
        rcases hp c hc with hp | hp
        · exact nomatch hb.symm.trans hp
        · exact hp rfl
    · rw [← h.latched p x hx hl]
      cases hb : c.func.blade with
      | none => simp only [State.throwSent, hb]
      | some b =>
        rw [m.point_throwSent hb, if_neg]
        rintro rfl
        have hmay : s.sendTest c = true := by
          by_contra hno
          exact hsend ⟨by rw [hb]; rfl, Bool.eq_false_iff.mpr hno⟩
        obtain ⟨y, -, hy, -, -, hlatch, -⟩ := (s.sendTest_iff c).mp hmay
        exact hl (Option.some.inj (hx.symm.trans hy) ▸ hlatch)
    · obtain ⟨v, hv, hst⟩ := h.silent a ha
      exact ⟨v, by rw [State.unit?, hunits]; exact hv, hst⟩
  have htold : ∀ (f : Transfer → Transfer) (w : Watch), m.PadOwnerTold (m.tellSent c) c.req f w → (∀ x, (f x).stage = x.stage) →
      ((∃ t, c.req = .xfer t) ∨ ∃ n, c.req = .watch n) → (m.tellSent c).points = m.points →
      s.ChoiceOwners (m.tellSent c) := fun f w ht hf hk hpt =>
    ht.choiceOwners h hf (.inl ⟨c, hc, rfl⟩) hk (fun d hd => h.queue d (hqueue ▸ hd)) (fun r hr => h.waiters r (hwait ▸ hr))
      hpt hdue hunits
  cases hreq : c.req with
  | tr t => exact hthrow (by rw [State.tellSent, hreq])
  | ops => exact hthrow (by rw [State.tellSent, hreq])
  | xfer t =>
    have hsent : m.tellSent c = m.setTransfer t ((m.transfers[t]).map fun x => { x with
        cmd := .sent, cd := some m.clampLoad, unclampSent := x.unclampSent || decide (c.func = .unclamp) }) := by
      rw [State.tellSent, hreq]
    refine htold (fun x => { x with
        cmd := .sent, cd := some m.clampLoad, unclampSent := x.unclampSent || decide (c.func = .unclamp) }) .none
      ⟨fun v hv => ?_, fun n hn => ?_⟩ (fun _ => rfl) (.inl ⟨t, hreq⟩) (by rw [hsent]; rfl)
    · cases hreq.symm.trans hv
      rw [hsent]
      refine ⟨rfl, fun v => ?_⟩
      split
      · next hv => subst hv; exact upd_get_self ..
      · next hv => exact upd_get_ne _ _ _ _ (Ne.symm hv)
    · exact nomatch hreq.symm.trans hn
  | watch n =>
    have hsent : m.tellSent c = m.modPad n fun p => { p with watch := .running m.clampLoad } := by
      rw [State.tellSent, hreq]
    refine htold id (.running m.clampLoad) ⟨fun v hv => ?_, fun k hk => ?_⟩ (fun _ => rfl) (.inr ⟨n, hreq⟩) (by rw [hsent]; rfl)
    · exact nomatch hreq.symm.trans hv
    · cases hreq.symm.trans hk
      rw [hsent]
      refine ⟨rfl, fun q => ?_⟩
      split
      · next hq => subst hq; exact Table.find_adjust_self ..
      · next hq => exact Table.find_adjust_ne _ _ hq

/-- Fields of the polls do not concern owners. -/
theorem State.ChoiceOwners.polls {s m : State} (h : s.ChoiceOwners m) (f : Nat) (e : Option Exchange) (p : Option Nat) :
    s.ChoiceOwners { m with forced := f, exchange := e, pollPos := p } :=
  ⟨h.queue, h.waiters, h.pads, h.watch, h.stage, h.transfer, h.point, h.walk, h.latched, h.silent⟩

theorem State.choosePoll_choiceOwners (s : State) : s.ChoiceOwners s.choosePoll := by
  unfold State.choosePoll
  split
  · exact (State.ChoiceOwners.refl s).polls ..
  · split
    · exact (State.ChoiceOwners.refl s).polls ..
    · exact (State.ChoiceOwners.refl s).polls ..

theorem State.chooseNext_choiceOwners (s : State) : s.ChoiceOwners s.chooseNext := by
  by_cases hpoll : 4 ≤ s.forced ∨ s.cmdQueue = []
  · rw [State.chooseNext_poll hpoll]
    exact s.choosePoll_choiceOwners
  obtain ⟨hf, hne⟩ := not_or.mp hpoll
  obtain ⟨c, rest, hq⟩ := List.exists_cons_of_ne_nil hne
  have hf : s.forced < 4 := Nat.not_le.mp hf
  have hexit := (State.ChoiceOwners.pop hq).commandExit
  by_cases hd : c.func.blade.isSome = true ∧ s.sendTest c = false
  · have hload : ({ s with cmdQueue := rest } : State).load + 1 = s.load := by
      simp only [State.load, hq, List.length_cons]
      omega
    have hcount := ({ s with cmdQueue := rest } : State).load_commandExit
    rw [State.chooseNext_discard hf hq hd]
    exact hexit.trigger.trans (State.chooseNext_choiceOwners _)
  · rw [State.chooseNext_sent hf hq hd]
    exact (hexit.tellSent (by rw [hq]; exact List.mem_cons_self ..) hd).polls ..
termination_by s.load
decreasing_by omega

/-! ## The unit surveyed, and the next exchange -/

theorem State.markSurveyed_frame (s : State) (a : Nat) : s.markSurveyed a = { s with
      units := (s.markSurveyed a).units, site := (s.markSurveyed a).site, pollPos := (s.markSurveyed a).pollPos
      lines := (s.markSurveyed a).lines, opss := (s.markSurveyed a).opss } ∧ s.Speaks (s.markSurveyed a) ∧
    (s.site ≠ .survey → s.markSurveyed a = s) ∧ ∀ b, s.silentAt b → (s.markSurveyed a).silentAt b := by
  have hsilent : ∀ b, s.silentAt b → (s.modUnit a fun u => { u with surveyed := true }).silentAt b := fun b hb => by
    obtain ⟨v, hv, hst⟩ := hb
    by_cases hba : b = a
    · subst hba
      exact ⟨_, State.unit_modUnit_self hv _, hst⟩
    · exact ⟨v, (s.unit_modUnit_ne hba _).trans hv, hst⟩
  obtain ⟨s2, hs2⟩ : ∃ s2, s2 = ({ s.modUnit a fun u => { u with surveyed := true } with
    site := .running, pollPos := (s.modUnit a fun u => { u with surveyed := true }).lowestUnit } : State).post
    (.siteChanged .running .survey) := ⟨_, rfl⟩
  have h2 : s2 = { s with units := s2.units, site := s2.site, pollPos := s2.pollPos, opss := s2.opss } := by rw [hs2]; rfl
  have hspeaks : s.Speaks s2 := by
    have hpost := ({ s.modUnit a fun u => { u with surveyed := true } with
      site := .running, pollPos := (s.modUnit a fun u => { u with surveyed := true }).lowestUnit } : State).speaks_post
      (.siteChanged .running .survey)
    rw [hs2]
    exact (State.Speaks.of_opss (s := s) rfl rfl).trans hpost
  obtain ⟨honly, -, htold⟩ := s2.enterRunning_spec (by rw [hs2]; rfl)
  have hclock : s2.enterRunning.clock = s2.clock := by rw [honly]
  have hspeaks' := hspeaks.trans ⟨hclock, _, htold⟩
  have hmark : s.markSurveyed a = if s.site ≠ .survey then s
      else if (s.modUnit a fun u => { u with surveyed := true }).unsurveyed = 0 then s2.enterRunning
      else s.modUnit a fun u => { u with surveyed := true } := by rw [hs2]; rfl
  have hsilent2 : ∀ b, s.silentAt b → s2.enterRunning.silentAt b := fun b hb => by
    rw [State.silentAt, State.unit?, honly, hs2]
    exact hsilent b hb
  generalize s.markSurveyed a = u at hmark
  generalize s2.enterRunning = e at honly htold hspeaks' hmark hclock hsilent2
  have he : e = { s with units := e.units, site := e.site, pollPos := e.pollPos, lines := e.lines, opss := e.opss } := by
    have h1 : e.units = s2.units := by rw [honly]
    have h3 : e.site = s2.site := by rw [honly]
    have h4 : e.pollPos = s2.pollPos := by rw [honly]
    rw [h1, h3, h4, honly, h2]
  rw [hmark]
  split
  · exact ⟨rfl, .refl s, fun _ => rfl, fun _ h => h⟩
  · next hsite =>
    split
    · exact ⟨he, hspeaks', fun h => absurd h hsite, hsilent2⟩
    · exact ⟨rfl, .of_opss rfl rfl, fun h => absurd h hsite, hsilent⟩

/-- Between y and u a unit was surveyed and the next exchange chosen. -/
structure State.Settled (y u : State) : Prop where
  only : u = { y with
    units := u.units, site := u.site, pollPos := u.pollPos, lines := u.lines, opss := u.opss
    cmdQueue := u.cmdQueue, padWaiters := u.padWaiters, transfers := u.transfers, pads := u.pads, walkDue := u.walkDue
    points := u.points, forced := u.forced, exchange := u.exchange }
  speaks : y.Speaks u
  owners : y.ChoiceOwners u
  survey : y.site ≠ .survey → u.site = y.site ∧ u.lines = y.lines

theorem State.settled (y : State) (a : Nat) : y.Settled (y.markSurveyed a).chooseNext := by
  obtain ⟨hmark, hspeaks, hsame, hsilent⟩ := y.markSurveyed_frame a
  generalize y.markSurveyed a = m at hmark hspeaks hsame hsilent
  have hframe := m.chooseNext_frame
  have howners := m.chooseNext_choiceOwners
  generalize m.chooseNext = u at hframe howners
  unfold State.ChoiceFrame at hframe
  refine ⟨?_, ?_, ?_, fun h => ?_⟩
  · have h1 : u.units = m.units := by rw [hframe]
    have h2 : u.site = m.site := by rw [hframe]
    have h3 : u.lines = m.lines := by rw [hframe]
    have h4 : u.opss = m.opss := by rw [hframe]
    rw [h1, h2, h3, h4, hframe, hmark]
  · exact hspeaks.trans (.of_opss (by rw [hframe]) (by rw [hframe]))
  · refine State.ChoiceOwners.trans ?_ howners
    rw [hmark] at hsilent ⊢
    exact ⟨fun _ h => .inl h, fun _ h => h, fun _ => rfl, fun _ _ _ => rfl, fun _ => rfl, fun _ _ _ => rfl, fun _ _ => rfl, id,
      fun _ _ h _ => h, hsilent⟩
  · have h2 : u.site = m.site := by rw [hframe]
    have h3 : u.lines = m.lines := by rw [hframe]
    rw [h2, h3, hsame h]
    exact ⟨rfl, rfl⟩

end Sys2Proof.Machine

/-! PROOFS. The good replies of MAST and POINT units (R26 to R33, R133). -/

namespace Sys2Proof.Machine

theorem State.AwaitsReply.typed {s : State} {a gap : Nat} {v : UnitRec} {rs : List Nat} {y : UnitType}
    (h : s.AwaitsReply a v rs gap) (hy : v.typ = y) : ∃ w, s.UnitHeard w a v ∧
      exec (.fieldbusGoodReply (replyChars a y rs gap)) s = .next (((w.deliver a y rs).markSurveyed a).chooseNext) := by
  subst hy
  exact exec_goodReply h

theorem State.UnitHeard.speaks {s w : State} {a : Nat} {v : UnitRec} (h : s.UnitHeard w a v) : s.Speaks w :=
  ⟨by rw [h.only], _, h.told⟩

/-! ## MAST (R133) -/

/-- A change of band in which HOLD is entered or left evaluates every transporter. -/
theorem State.BandSet.current {s u : State} {b : Band} (h : s.BandSet u b) (hne : b.isHold ≠ s.band.isHold) (t : TId)
    (ht : (s.tr t).state ≠ .offline) : (u.tr t).stop = u.stopCauses t := by
  have hband : s.band ≠ b := fun e => hne (by rw [e])
  have heval := h.held hband (Ne.symm hne)
  have hcauses : u.stopCauses = ({ s with band := b }.post (.windBand b s.band s.gust s.mean)).stopCauses := by
    rw [heval.only]
    exact State.stopCauses_eq rfl rfl rfl rfl rfl
  rw [hcauses, heval.record t (mem_allT t)]
  unfold Transporter.evaluated
  split
  · next hcond => exact hcond.resolve_left ht
  · split
    · rfl
    · split <;> rfl

/-- Outside the band and what it calls for, a change of band keeps the state. -/
theorem State.BandSet.only {s u : State} {b : Band} (h : s.BandSet u b) :
    u = { s with band := b, trs := u.trs, tls := u.tls, ceilings := u.ceilings, opss := u.opss } := by
  by_cases hsame : s.band = b
  · subst hsame
    rw [h.same rfl]
  · by_cases hhold : s.band.isHold = b.isHold
    · by_cases hcrawl : s.band = .normal ∧ b = .caution
      · rw [(h.crawl hcrawl.1 hcrawl.2).only]
        rfl
      · rw [h.rest hsame hhold hcrawl]
        rfl
    · rw [(h.held hsame hhold).only]
      rfl

/-- A changed band is told first. -/
theorem State.BandSet.told {s u : State} {b : Band} (h : s.BandSet u b) (hne : s.band ≠ b) :
    ∃ bs, s.Told u (.windBand b s.band s.gust s.mean :: bs) := by
  have hpost : s.Told ({ s with band := b }.post (.windBand b s.band s.gust s.mean)) [.windBand b s.band s.gust s.mean] :=
    State.told_post { s with band := b } _
  by_cases hhold : s.band.isHold = b.isHold
  · by_cases hcrawl : s.band = .normal ∧ b = .caution
    · have hr := (h.crawl hcrawl.1 hcrawl.2).only
      exact ⟨[], hpost.trans rfl (State.told_nil (by rw [hr]))⟩
    · rw [h.rest hne hhold hcrawl]
      exact ⟨[], hpost⟩
  · exact ⟨_, hpost.trans rfl (h.held hne hhold).notices⟩

/-- The notice of a changed band stands where there is room for it. -/
theorem State.BandSet.mem {s u : State} {b : Band} (h : s.BandSet u b) (hne : s.band ≠ b) {k : OpsId}
    (hroom : (s.opsPort k).notices.length < 32) :
    (⟨s.clock, .windBand b s.band s.gust s.mean⟩ : Notice) ∈ (u.opsPort k).notices := by
  obtain ⟨bs, hbs⟩ := h.told hne
  rw [hbs k, List.foldl_cons]
  refine OpsPort.notices_foldl_subset _ bs _ ?_
  have hadd : (s.opsPort k).addNotice ⟨s.clock, .windBand b s.band s.gust s.mean⟩ = { s.opsPort k with
      notices := (s.opsPort k).notices ++ [⟨s.clock, .windBand b s.band s.gust s.mean⟩] } := if_pos hroom
  rw [hadd]
  exact List.mem_append_right _ (List.mem_singleton_self _)

/-- Settles O52: the unit is heard, its readings stored, the band set by setBand_bandSet; surveying and choosing then leave
band and causes alone. -/
theorem mastReading : Obligations.MastReading := by
  intro s a gap mh ml gh gl v h hv
  dsimp only
  obtain ⟨w, hw, hexec⟩ := h.typed hv
  obtain ⟨z, hz⟩ : ∃ z : State, z = { w with
    gust := some (min (256 * gh + gl) 6000), mean := some (min (256 * mh + ml) 6000), mastHold := none } := ⟨_, rfl⟩
  have hwonly := hw.only
  have hwband : w.band = s.band := by rw [hwonly]
  have hwparams : w.params = s.params := by rw [hwonly]
  have hdeliver : w.deliver a .mast [mh, ml, gh, gl] = z.setBand (bandAfter s.params s.band (min (256 * gh + gl) 6000)) := by
    rw [hz, ← hwband, ← hwparams]
    rfl
  have hset := State.setBand_bandSet z (bandAfter s.params s.band (min (256 * gh + gl) 6000))
  rw [hdeliver] at hexec
  have hsettled := (z.setBand (bandAfter s.params s.band (min (256 * gh + gl) 6000))).settled a
  have hband : bandAfter s.params s.band (min (256 * gh + gl) 6000) =
      if s.band.isHold = true then
        if s.params.windResume < min (256 * gh + gl) 6000 then .hold .gust
        else if s.params.windCaution ≤ min (256 * gh + gl) 6000 then .caution else .normal
      else if s.params.windHold ≤ min (256 * gh + gl) 6000 then .hold .gust
      else if s.params.windCaution ≤ min (256 * gh + gl) 6000 then .caution else .normal := rfl
  rw [← hband]
  generalize bandAfter s.params s.band (min (256 * gh + gl) 6000) = b at hset hexec hsettled
  generalize hy : z.setBand b = y at hset hexec hsettled
  generalize hu : (y.markSurveyed a).chooseNext = u at hexec hsettled
  have hyonly := hset.only
  have huonly := hsettled.only
  have hzband : z.band = s.band := by rw [hz, ← hwband]
  have hmean : u.mean = some (min (256 * mh + ml) 6000) := by rw [huonly, hyonly, hz]
  refine ⟨u, hexec, by rw [huonly, hyonly, hz], hmean, by rw [huonly, hyonly, hz], by rw [huonly, hyonly],
    fun t hsite ht hne => ?_, fun k hne hroom => ?_, w, y, ?_, ?_, ?_, hu.symm⟩
  · have hzt : (z.tr t).state ≠ .offline := by
      rw [hz, State.tr, hwonly]
      exact ht
    have hcur := hset.current (by rw [hzband]; exact hne) t hzt
    have hysite : y.site ≠ .survey := by rw [hyonly, hz, hwonly]; exact hsite
    obtain ⟨h1, h2⟩ := hsettled.survey hysite
    have hcauses : u.stopCauses = y.stopCauses :=
      State.stopCauses_eq (by rw [huonly]) (by rw [huonly]) h2 h1 (by rw [huonly])
    have htr : u.tr t = y.tr t := by rw [huonly]; rfl
    rw [hcauses, htr, hcur]
  · have hzroom : (z.opsPort k).notices.length < 32 := by
      have hport : z.opsPort k = w.opsPort k := by rw [hz]; rfl
      rw [hport, hw.told k]
      refine lt_of_le_of_lt (OpsPort.notices_foldl_length _ _) ?_
      split <;> simp <;> omega
    have hmem := hset.mem (by rw [hzband]; exact hne) hzroom
    have hclock : z.clock = s.clock := by rw [hz, hwonly]
    have hnotice : (NoticeBody.windBand b z.band z.gust z.mean) = .windBand b s.band (some (min (256 * gh + gl) 6000)) u.mean := by
      rw [hzband, hmean, hz]
    rw [hclock, hnotice] at hmem
    exact hsettled.speaks.mem hmem
  · have hlist : w.restoreList = if v.st = .restoring then s.restoreList.filter (fun b => decide (b ≠ a)) else s.restoreList := by
      rw [hwonly]
    rw [hlist]
    exact hwonly
  · have htold := hw.told
    rw [hv] at htold
    exact htold
  · rw [← hz]
    exact hset

/-! ## POINT (R26 to R33) -/

theorem State.point_of_pointAt {s : State} (hwf : Table.wf s.points = true) {a p : Nat} {x : Point}
    (h : s.pointAt a = some (p, x)) : s.point? p = some x := Table.find_of_mem hwf (List.mem_of_find?_eq_some h)

/-- The blade reading of a byte, and the position it gives. -/
theorem bladeReading_eq (b : Nat) :
    bladeReading b = (if b = 1 then some .normal else if b = 2 then some .reverse else none) ∧
    bladePos (bladeReading b) = if b = 1 then .normal else if b = 2 then .reverse else .unknown := by
  unfold bladeReading
  refine ⟨rfl, ?_⟩
  split
  · rfl
  · split <;> rfl

/-- Between w and y a blade reading r was taken in for point p, whose record is x. -/
structure State.BladeTaken (w y : State) (p : Nat) (x : Point) (r : Option Blade) : Prop where
  latched : x.latch ≠ none → y = w.modPoint p fun x => { x with pos := bladePos r }
  done : x.latch = none → x.pos = .moving → r = x.cmd → r ≠ none →
    y = ((w.modPoint p fun x => { x with pos := bladePos r, throwCd := none, mover := none }).post
      (.pointSet p (bladePos r))).trigger
  moving : x.latch = none → x.pos = .moving → ¬ (r = x.cmd ∧ r ≠ none) → y = w
  found : x.latch = none → x.pos = .unknown → r ≠ none → y = w.modPoint p fun x => { x with pos := bladePos r }
  unread : x.latch = none → x.pos = .unknown → r = none → y = w
  kept : x.latch = none → x.pos = .normal ∨ x.pos = .reverse → bladePos r = x.pos → y = w
  lost : x.latch = none → x.pos = .normal ∨ x.pos = .reverse → bladePos r ≠ x.pos →
    y = w.faultPoint p .lostPosition (bladePos r) (some (bladePos r))

theorem State.pointReading_taken {w : State} {p : Nat} {x : Point} (hx : w.point? p = some x) (r : Option Blade) :
    w.BladeTaken (w.pointReading p r) p x r := by
  have hlatch : x.latch = none → x.latch.isSome = false := fun h => by rw [h]; rfl
  constructor
  case latched =>
    intro hl
    simp only [State.pointReading, hx, Option.isSome_iff_ne_none.mpr hl, if_true]
  case done =>
    intro hl hp hr hne
    simp only [State.pointReading, hx, hlatch hl, hp, Bool.false_eq_true, if_false]
    exact if_pos ⟨hr, hne⟩
  case moving =>
    intro hl hp hr
    simp only [State.pointReading, hx, hlatch hl, hp, Bool.false_eq_true, if_false]
    exact if_neg hr
  case found =>
    intro hl hp hr
    simp only [State.pointReading, hx, hlatch hl, hp, Bool.false_eq_true, if_false]
    exact if_neg hr
  case unread =>
    intro hl hp hr
    simp only [State.pointReading, hx, hlatch hl, hp, Bool.false_eq_true, if_false]
    exact if_pos hr
  case kept =>
    intro hl hp hr
    rcases hp with hp | hp <;> simp only [State.pointReading, hx, hlatch hl, hp, Bool.false_eq_true, if_false] <;>
      exact if_pos (hr.trans hp)
  case lost =>
    intro hl hp hr
    rcases hp with hp | hp <;> simp only [State.pointReading, hx, hlatch hl, hp, Bool.false_eq_true, if_false] <;>
      exact if_neg (hp ▸ hr)

/-- The reading completes a throw. -/
def Point.bladeDone (x : Point) (r : Option Blade) : Bool :=
  decide (x.latch = none ∧ x.pos = .moving ∧ r ≠ none ∧ r = x.cmd)

/-- The reading tells a lost position. -/
def Point.bladeLost (x : Point) (r : Option Blade) : Bool :=
  decide (x.latch = none ∧ (x.pos = .normal ∨ x.pos = .reverse) ∧ bladePos r ≠ x.pos)

/-- The record after the reading. -/
def Point.bladeRecord (x : Point) (r : Option Blade) : Point :=
  if x.latch ≠ none then { x with pos := bladePos r }
  else if x.pos = .moving then if x.bladeDone r then { x with pos := bladePos r, throwCd := none, mover := none } else x
  else if x.bladeLost r then { x with pos := bladePos r, throwCd := none, mover := none, latch := some .lostPosition }
  else { x with pos := bladePos r }

/-- A reading in the form in which the point's own change comes before what the Route Interlock makes of it. -/
structure State.BladeRead (w m y : State) (p : Nat) (x : Point) (r : Option Blade) : Prop where
  only : m = { w with points := m.points, opss := m.opss, walkDue := w.walkDue || x.bladeDone r }
  point : ∀ q, m.point? q = if q = p then some (x.bladeRecord r) else w.point? q
  told : w.Told m (if x.bladeDone r then [.pointSet p (bladePos r)]
    else if x.bladeLost r then [.pointFault p .lostPosition (some (bladePos r))] else [])
  lost : x.bladeLost r = true → m.Obstructed y x.sec true ∧ m.RouteFrame y
  quiet : x.bladeLost r = false → y = m

/-- A reading that only writes the record. -/
theorem State.BladeRead.of_point {w y : State} {p : Nat} {x : Point} {r : Option Blade}
    (hy : y = { w with points := y.points }) (hpoint : ∀ q, y.point? q = if q = p then some (x.bladeRecord r) else w.point? q)
    (hdone : x.bladeDone r = false) (hlost : x.bladeLost r = false) : w.BladeRead y y p x r where
  only := by
    rw [hdone, Bool.or_false]
    have hopss : y.opss = w.opss := by rw [hy]
    rw [hopss]
    exact hy
  point := hpoint
  told := by
    rw [hdone, hlost]
    exact State.told_nil (by rw [hy])
  lost h := absurd h (by rw [hlost]; exact Bool.false_ne_true)
  quiet _ := rfl

/-- A record that stays. -/
theorem State.point_kept {w : State} {p : Nat} {x : Point} (hx : w.point? p = some x) (q : Nat) :
    w.point? q = if q = p then some x else w.point? q := by
  split
  · next h => rw [h, hx]
  · rfl

/-- A reading for a point in NORMAL or REVERSE. -/
theorem State.pointReading_settled {w : State} {p : Nat} {x : Point} (hx : w.point? p = some x) {r : Option Blade}
    (h : w.BladeTaken (w.pointReading p r) p x r) (hl : x.latch = none) (hp : x.pos = .normal ∨ x.pos = .reverse) :
    ∃ m, w.BladeRead m (w.pointReading p r) p x r := by
  have hmoving : x.pos ≠ .moving := by rcases hp with hp | hp <;> rw [hp] <;> exact PointPos.noConfusion
  have hdone : x.bladeDone r = false := decide_eq_false fun ⟨_, hm, _⟩ => hmoving hm
  by_cases hr : bladePos r = x.pos
  · have hlost : x.bladeLost r = false := decide_eq_false fun ⟨_, _, hne⟩ => hne hr
    have hrec : x.bladeRecord r = x := by
      rw [Point.bladeRecord, if_neg (not_not_intro hl), if_neg hmoving, if_neg (by rw [hlost]; exact Bool.false_ne_true), hr]
    refine ⟨_, .of_point (by rw [h.kept hl hp hr]) (fun q => ?_) hdone hlost⟩
    rw [h.kept hl hp hr, hrec]
    exact State.point_kept hx q
  · have hlost : x.bladeLost r = true := decide_eq_true ⟨hl, hp, hr⟩
    have hrec : x.bladeRecord r = { x with
        pos := bladePos r, throwCd := none, mover := none, latch := some .lostPosition } := by
      rw [Point.bladeRecord, if_neg (not_not_intro hl), if_neg hmoving, if_pos hlost]
    obtain ⟨m, hm, hpoint, htold, hnew, -⟩ :=
      w.faultPoint_pointFaulted hx .lostPosition (bladePos r) (some (bladePos r))
    rw [← h.lost hl hp hr] at hnew
    refine ⟨m, ?_, fun q => ?_, ?_, fun _ => hnew hl, fun e => absurd hlost (by rw [e]; exact Bool.false_ne_true)⟩
    · rw [hdone, Bool.or_false]
      exact hm
    · rw [hpoint q, hrec, hl]
      rfl
    · rw [if_pos hl] at htold
      rw [hdone, hlost]
      exact htold

theorem State.pointReading_read {w : State} {p : Nat} {x : Point} (hx : w.point? p = some x) (r : Option Blade) :
    ∃ m, w.BladeRead m (w.pointReading p r) p x r := by
  have h := State.pointReading_taken hx r
  by_cases hl : x.latch = none
  · cases hp : x.pos with
    | moving =>
      have hlost : x.bladeLost r = false := by simp [Point.bladeLost, hp]
      by_cases hr : r = x.cmd ∧ r ≠ none
      · have hdone : x.bladeDone r = true := decide_eq_true ⟨hl, hp, hr.2, hr.1⟩
        refine ⟨w.pointReading p r, ?_, fun q => ?_, ?_, fun e => absurd e (by rw [hlost]; exact Bool.false_ne_true), fun _ => rfl⟩
        · rw [h.done hl hp hr.1 hr.2, hdone, Bool.or_true]
          rfl
        · have hrec : x.bladeRecord r = { x with pos := bladePos r, throwCd := none, mover := none } := by
            rw [Point.bladeRecord, if_neg (not_not_intro hl), if_pos hp, if_pos hdone]
          rw [h.done hl hp hr.1 hr.2, hrec]
          exact State.point_modPoint w hx _ q
        · rw [hdone, h.done hl hp hr.1 hr.2]
          exact State.told_post (w.modPoint p _) _
      · have hdone : x.bladeDone r = false := decide_eq_false fun ⟨_, _, h1, h2⟩ => hr ⟨h2, h1⟩
        have hrec : x.bladeRecord r = x := by
          rw [Point.bladeRecord, if_neg (not_not_intro hl), if_pos hp, if_neg (by rw [hdone]; exact Bool.false_ne_true)]
        refine ⟨_, .of_point (by rw [h.moving hl hp hr]) (fun q => ?_) hdone hlost⟩
        rw [h.moving hl hp hr, hrec]
        exact State.point_kept hx q
    | unknown =>
      have hdone : x.bladeDone r = false := by simp [Point.bladeDone, hp]
      have hlost : x.bladeLost r = false := by simp [Point.bladeLost, hp]
      have hrec : x.bladeRecord r = { x with pos := bladePos r } := by
        rw [Point.bladeRecord, if_neg (not_not_intro hl), if_neg (by rw [hp]; exact PointPos.noConfusion),
          if_neg (by rw [hlost]; exact Bool.false_ne_true)]
      by_cases hr : r = none
      · refine ⟨_, .of_point (by rw [h.unread hl hp hr]) (fun q => ?_) hdone hlost⟩
        have hsame : x.bladeRecord r = x := by
          rw [hrec, hr]
          have hpos : bladePos none = x.pos := hp.symm
          rw [hpos]
        rw [h.unread hl hp hr, hsame]
        exact State.point_kept hx q
      · refine ⟨_, .of_point (by rw [h.found hl hp hr]; rfl) (fun q => ?_) hdone hlost⟩
        rw [h.found hl hp hr, hrec]
        exact State.point_modPoint w hx _ q
    | normal => exact State.pointReading_settled hx h hl (.inl hp)
    | reverse => exact State.pointReading_settled hx h hl (.inr hp)
  · have hdone : x.bladeDone r = false := by simp [Point.bladeDone, hl]
    have hlost : x.bladeLost r = false := by simp [Point.bladeLost, hl]
    refine ⟨_, .of_point (by rw [h.latched hl]; rfl) (fun q => ?_) hdone hlost⟩
    rw [h.latched hl, Point.bladeRecord, if_pos hl]
    exact State.point_modPoint w hx _ q

/-- The state marked surveyed and the next exchange chosen keep a point for which no throw is queued. -/
theorem State.Settled.point {y u : State} (h : y.Settled u) {p : Nat}
    (hq : ∀ c ∈ y.cmdQueue, c.func.blade = none ∨ c.entity ≠ p) : u.point? p = y.point? p := h.owners.point p hq

/-- Settles O51: the unit is heard, the reading taken in (BladeRead), and the rest leaves the point alone. -/
theorem pointReading : Obligations.PointReading := by
  intro s a gap b p v x h hv hwf hat
  dsimp only
  obtain ⟨w, hw, hexec⟩ := h.typed hv
  have hwonly := hw.only
  have hx : w.point? p = some x := by
    rw [hwonly]
    exact State.point_of_pointAt hwf.2.1 hat
  have hdeliver : w.deliver a .point [b] = w.pointReading p (bladeReading b) := by
    have hwat : w.pointAt a = some (p, x) := by rw [hwonly]; exact hat
    unfold State.deliver State.pointReply
    simp only [hwat]
  obtain ⟨hreading, hpos⟩ := bladeReading_eq b
  rw [← hreading, ← hpos]
  generalize bladeReading b = r at hdeliver
  obtain ⟨m, hread⟩ := State.pointReading_read hx r
  rw [hdeliver] at hexec
  have hsettled := (w.pointReading p r).settled a
  generalize w.pointReading p r = y at hread hexec hsettled
  generalize hu : (y.markSurveyed a).chooseNext = u at hexec hsettled
  have htold : s.Told m ((if v.st = .restoring then [.unitBack a .point] else []) ++
      if x.bladeDone r then [.pointSet p (bladePos r)]
      else if x.bladeLost r then [.pointFault p .lostPosition (some (bladePos r))] else []) := by
    have hback := hw.told
    rw [hv] at hback
    exact hback.trans (by rw [hwonly]) hread.told
  have hyframe : m.RouteFrame y := by
    cases hlost : x.bladeLost r with
    | true => exact (hread.lost hlost).2
    | false => rw [hread.quiet hlost]; exact .refl m
  have hmonly := hread.only
  have hunit := hw.unit
  rw [hv] at hunit
  have hmunit : ∀ c, m.unit? c = w.unit? c := fun c => by rw [hmonly]; rfl
  have hroom : ∀ k : OpsId, (s.opsPort k).notices.length + 2 ≤ 32 → ∀ c ∈ (if x.bladeDone r then [NoticeBody.pointSet p (bladePos r)]
      else if x.bladeLost r then [.pointFault p .lostPosition (some (bladePos r))] else []),
      (⟨s.clock, c⟩ : Notice) ∈ (u.opsPort k).notices := fun k hk c hc => by
    refine htold.mem (hyframe.speaks.trans hsettled.speaks) (List.mem_append_right _ hc) ?_
    refine le_trans (Nat.add_le_add_left ?_ _) hk
    rw [List.length_append]
    refine Nat.add_le_add (b := 1) (d := 1) ?_ ?_
    · split <;> simp
    · split
      · simp
      · split <;> simp
  refine ⟨u, m, y, hexec, ?_, by rw [hmunit]; exact hunit, fun c hc => by rw [hmunit]; exact hw.units c hc,
    fun q => ?_, htold, fun hlost => (hread.lost hlost).1, hread.quiet, hu.symm, fun hq => ?_, fun k hk => ⟨fun hdone => ?_, fun hlost => ?_⟩⟩
  · have hmu : m.units = w.units := by rw [hmonly]
    have hdue : m.walkDue = (s.walkDue || x.bladeDone r) := by rw [hmonly, hwonly]
    rw [hmu, hmonly, hwonly]
    rfl
  · rw [hread.point q, hwonly]
    rfl
  · rw [hsettled.point (p := p) ?_]
    · have hyp : y.point? p = m.point? p := by rw [hyframe.only]; rfl
      rw [hyp, hread.point, if_pos rfl]
      rfl
    · have hqueue : y.cmdQueue = s.cmdQueue := by rw [hyframe.only, hmonly, hwonly]
      rw [hqueue]
      exact hq
  · have hdone' : x.bladeDone r = true := hdone
    refine ⟨hroom k hk _ (by rw [if_pos hdone']; exact List.mem_singleton_self _), hsettled.owners.walk ?_⟩
    have hlost : x.bladeLost r = false := by
      have hmoving := (of_decide_eq_true hdone').2.1
      simp [Point.bladeLost, hmoving]
    rw [hread.quiet hlost, hmonly, hdone', Bool.or_true]
  · have hlost' : x.bladeLost r = true := hlost
    refine hroom k hk _ ?_
    have hdone : x.bladeDone r = false := by
      have hpos := (of_decide_eq_true hlost').2.1
      rcases hpos with hpos | hpos <;> simp [Point.bladeDone, hpos]
    rw [hdone, if_neg Bool.false_ne_true, if_pos hlost']
    exact List.mem_singleton_self _

end Sys2Proof.Machine

/-! PROOFS. The stages of a transfer (R148 to R150), and the good replies of PAD units (R138). -/

namespace Sys2Proof.Machine

/-! ## Stages begun (R148) -/

theorem State.setTransfer_setTransfer (s : State) (t : TId) (x y : Option Transfer) :
    (s.setTransfer t x).setTransfer t y = s.setTransfer t y := by
  simp only [State.setTransfer, upd, Vector.set_set]

/-- The pad command of a transfer is queued, or it waits for room. -/
theorem State.offerPad_xfer {s : State} {t : TId} {x : Transfer} {p : Pad} (hx : s.transfers[t] = some x)
    (hp : s.pad? x.pad = some p) {c : BusCmd}
    (hc : c = ⟨match x.kind with | .lift => .unclamp | .place => .clamp, p.addr, x.pad, .xfer t⟩) :
    s.offerPad (.xfer t) =
      if s.offerOk [c] then { s.setTransfer t (some { x with cmd := .queued }) with cmdQueue := s.cmdQueue ++ [c] }
      else { s.setTransfer t (some { x with cmd := .waiting }) with padWaiters := s.padWaiters ++ [.xfer t] } := by
  have hcmd : s.padCommand (.xfer t) = some c := by
    unfold State.padCommand
    simp only [hx, hp, hc]
    rfl
  have hqueued : (s.enqueue [c]).markQueued (.xfer t) =
      { s.setTransfer t (some { x with cmd := .queued }) with cmdQueue := s.cmdQueue ++ [c] } := by
    have h : ((s.enqueue [c]).transfers[t]).map (fun x => { x with cmd := StageCmd.queued }) =
        some { x with cmd := .queued } := by
      change (s.transfers[t]).map _ = _
      rw [hx]
      rfl
    unfold State.markQueued
    simp only [h]
    rfl
  have hwaits : ({ s with padWaiters := s.padWaiters ++ [Requester.xfer t] } : State).setTransfer t
      ((({ s with padWaiters := s.padWaiters ++ [Requester.xfer t] } : State).transfers[t]).map fun x =>
        { x with cmd := .waiting }) =
      { s.setTransfer t (some { x with cmd := .waiting }) with padWaiters := s.padWaiters ++ [.xfer t] } := by
    have h : (({ s with padWaiters := s.padWaiters ++ [Requester.xfer t] } : State).transfers[t]).map
        (fun x => { x with cmd := StageCmd.waiting }) = some { x with cmd := .waiting } := by
      change (s.transfers[t]).map _ = _
      rw [hx]
      rfl
    rw [h]
    rfl
  unfold State.offerPad
  rw [hcmd]
  dsimp only
  rw [hqueued, hwaits]

/-- UNCLAMP or CLAMP begun: its pad command is queued, or it waits for room. -/
theorem State.beginStage_pad {s : State} {t : TId} {x : Transfer} {p : Pad} (hp : s.pad? x.pad = some p) {g : Stage}
    (hg : g = .unclamp ∨ g = .clamp) {c : BusCmd}
    (hc : c = ⟨match x.kind with | .lift => .unclamp | .place => .clamp, p.addr, x.pad, .xfer t⟩) :
    s.beginStage t x g =
      if s.offerOk [c] then
        { s with transfers := s.transfers.set t (some { x with stage := g, cmd := .queued, cd := none })
                 cmdQueue := s.cmdQueue ++ [c] }
      else
        { s with transfers := s.transfers.set t (some { x with stage := g, cmd := .waiting, cd := none })
                 padWaiters := s.padWaiters ++ [.xfer t] } := by
  obtain ⟨m, hm⟩ : ∃ m, m = s.setTransfer t (some { x with stage := g, cmd := .none, cd := none }) := ⟨_, rfl⟩
  have hbegin : s.beginStage t x g = m.offerPad (.xfer t) := by
    rw [hm]
    rcases hg with rfl | rfl <;> rfl
  have hmx : m.transfers[t] = some { x with stage := g, cmd := .none, cd := none } := by
    rw [hm]
    exact upd_get_self s.transfers t fun _ => _
  have hmonly : m = { s with transfers := m.transfers } := by rw [hm]; rfl
  have hmp : m.pad? x.pad = some p := by rw [hmonly]; exact hp
  have hblade : c.func.blade = none := by
    rw [hc]
    cases x.kind <;> rfl
  have hok : m.offerOk [c] = s.offerOk [c] :=
    State.offerOk_pad_congr hblade (by rw [hmonly]) (by rw [hmonly])
  have hset : ∀ y, m.setTransfer t y = s.setTransfer t y := fun y => by rw [hm, State.setTransfer_setTransfer]
  have hq : m.cmdQueue = s.cmdQueue := by rw [hmonly]
  have hw : m.padWaiters = s.padWaiters := by rw [hmonly]
  rw [hbegin, State.offerPad_xfer hmx hmp hc, hok, hset, hset, hq, hw]
  rfl

/-! ## STEP (R149) -/

theorem exec_stepResult {s : State} {t : TId} (hq : s.Quiet (.tl t)) (b : Byte) :
    exec (.stepResult t [b]) s = .next ((s.reloadSupervision t).onStepResult t [b]) :=
  exec_tl_quiet (act := State.onStepResult) (ty := Config.tyStep) (p := [b]) hq rfl rfl

theorem State.params_reloadSupervision (s : State) (t : TId) : (s.reloadSupervision t).params = s.params := by
  unfold State.reloadSupervision
  split <;> rfl

theorem State.onStepResult_coded {s : State} {t : TId} {b : Byte} {failed : Bool} (h : flagOf b = some failed) :
    s.onStepResult t [b] = s.stepRequest t (!failed) := by
  simp only [State.onStepResult, h]

theorem State.stepRequest_idle {s : State} {t : TId} (h : ∀ x, s.transfers[t] = some x → x.stage ≠ .raise ∧ x.stage ≠ .lower)
    (b : Bool) : s.stepRequest t b = s.refuse t 0x15 .state := by
  unfold State.stepRequest
  cases hx : s.transfers[t] with
  | none => rfl
  | some x =>
    have hjacks : x.stage.jacks = false := by
      obtain ⟨h1, h2⟩ := h x hx
      cases hs : x.stage <;> simp_all [Stage.jacks]
    exact if_neg (by rw [hjacks]; exact Bool.false_ne_true)

theorem State.stepRequest_done {s : State} {t : TId} {x : Transfer} (hx : s.transfers[t] = some x)
    (h : x.kind = .lift ∧ x.stage = .raise ∨ x.kind = .place ∧ x.stage = .lower) :
    s.stepRequest t true = s.setTransfer t (some { x with
      stage := .confirm, cmd := .none, cd := some (.load (10 * s.params.confirmTime)) }) := by
  have hjacks : x.stage.jacks = true := by rcases h with ⟨-, hs⟩ | ⟨-, hs⟩ <;> rw [hs] <;> rfl
  have hend : s.endStage t x = s.beginStage t x .confirm := by
    rcases h with ⟨hk, hs⟩ | ⟨hk, hs⟩ <;> unfold State.endStage <;> rw [hk, hs]
  unfold State.stepRequest
  rw [hx]
  exact (if_pos hjacks).trans hend

/-! ## Good replies of PAD units (R138) -/

theorem clampReading_opened (n : Nat) : clampReading n = .opened ↔ n = 1 := by
  unfold clampReading
  split
  · simp [*]
  · split <;> simp [*]

theorem clampReading_closed (n : Nat) : clampReading n = .closed ↔ n = 2 := by
  unfold clampReading
  split
  · simp [*]
  · split <;> simp [*]

theorem loadReading_empty (n : Nat) : loadReading n = .empty ↔ n = 1 := by
  unfold loadReading
  repeat' split
  all_goals simp [*]

theorem loadReading_loaded (n : Nat) : loadReading n = .loaded ↔ n = 2 := by
  unfold loadReading
  repeat' split
  all_goals simp [*]

theorem loadReading_unknown (n : Nat) : loadReading n = .unknown ↔ n = 0 ∨ 4 ≤ n := by
  unfold loadReading
  repeat' split
  all_goals simp_all
  omega

/-- What a transfer makes of known readings: its stage ends, or nothing happens. -/
theorem State.transferReply_known {w : State} {t : TId} {x : Transfer} (hx : w.transfers[t] = some x) {clamp load : Nat}
    (hload : 1 ≤ load ∧ load ≤ 3) :
    w.transferReply t (clampReading clamp) (loadReading load) =
      if x.kind = .lift ∧ x.stage = .unclamp ∧ x.cmd = .sent ∧ clamp = 1 then w.beginStage t x .raise
      else if x.kind = .place ∧ x.stage = .confirm ∧ load = 2 then w.beginStage t x .clamp
      else if x.kind = .lift ∧ x.stage = .confirm ∧ load = 1 ∨
        x.kind = .place ∧ x.stage = .clamp ∧ x.cmd = .sent ∧ clamp = 2 then w.completeTransfer t x
      else w := by
  have hknown : loadReading load ≠ .unknown := fun h => by
    have := (loadReading_unknown load).mp h
    omega
  unfold State.transferReply
  rw [hx]
  dsimp only
  rw [if_neg hknown]
  cases hk : x.kind <;> cases hs : x.stage <;>
    simp [State.endStage, hk, hs, clampReading_opened, clampReading_closed, loadReading_empty, loadReading_loaded]

theorem State.transferReply_unknown {w : State} {t : TId} {x : Transfer} (hx : w.transfers[t] = some x) {load : Nat}
    (hload : load = 0 ∨ 4 ≤ load) (c : Clamp) :
    w.transferReply t c (loadReading load) = w.abort t .loadUnknown := by
  unfold State.transferReply
  rw [hx]
  exact if_pos ((loadReading_unknown load).mpr hload)

/-- The readings written into the pad. -/
def Pad.read (p : Pad) (clamp load : Nat) : Pad :=
  { p with clamp := clampReading clamp, load := loadReading load, silent := false
           watch := match p.watch with
             | .running cd => if clampReading clamp = .closed then .none else .running cd
             | w => w }

theorem State.pad_of_padAt {s : State} (hwf : Table.wf s.pads = true) {a n : Nat} {p : Pad}
    (h : s.padAt a = some (n, p)) : s.pad? n = some p ∧ p.addr = a :=
  ⟨Table.find_of_mem hwf (List.mem_of_find?_eq_some h), by simpa using List.find?_some h⟩

/-- A PAD unit that is heard has its readings written. -/
theorem State.UnitHeard.padRead {s h : State} {a n : Nat} {v : UnitRec} {p : Pad} (hh : s.UnitHeard h a v)
    (hv : v.typ = .pad) (hp : s.pad? n = some p) (clamp load : Nat) :
    s.PadRead (h.modPad n fun p => p.read clamp load) a n v p clamp load := by
  have honly := hh.only
  have hunit := hh.unit
  rw [hv] at hunit
  have hhp : h.pad? n = some p := by rw [honly]; exact hp
  have htold := hh.told
  rw [hv] at htold
  have hread : p.read clamp load = { p with
      clamp := if clamp = 1 then .opened else if clamp = 2 then .closed else .travel
      load := if load = 1 then .empty else if load = 2 then .loaded else if load = 3 then .unsure else .unknown
      silent := false
      watch :=
        match p.watch with
        | .running c => if clamp = 2 then .none else .running c
        | w => w } := by
    unfold Pad.read
    cases p.watch <;> simp only [clampReading_closed] <;> rfl
  obtain ⟨w, hw⟩ : ∃ w, w = h.modPad n fun p => p.read clamp load := ⟨_, rfl⟩
  have hwonly : w = { h with pads := w.pads } := by rw [hw]; rfl
  have hlist : h.restoreList = if v.st = .restoring then s.restoreList.filter (fun b => decide (b ≠ a))
      else s.restoreList := by rw [honly]
  rw [← hw]
  exact {
    only := by
      have hu : w.units = h.units := by rw [hwonly]
      have ho : w.opss = h.opss := by rw [hwonly]
      rw [hu, ho, hwonly, honly]
    unit := by
      have hu : w.unit? a = h.unit? a := by rw [hwonly]; rfl
      rw [hu]
      exact hunit
    units := fun b hb => by
      have hu : w.unit? b = h.unit? b := by rw [hwonly]; rfl
      rw [hu]
      exact hh.units b hb
    pad := by
      rw [hw, State.pad_modPad_self hhp]
      exact (congrArg some hread).trans rfl
    pads := fun m hm => by
      rw [hw, State.pad_modPad_ne _ hm, honly]
      rfl
    told := fun k => by
      have ho : w.opsPort k = h.opsPort k := by rw [hwonly]; rfl
      rw [ho]
      exact htold k }

/-- A PAD unit's readings reach its pad, and the transfer there. -/
theorem State.deliver_pad {s h : State} {a n : Nat} {v : UnitRec} {p : Pad} (hh : s.UnitHeard h a v)
    (hat : s.padAt a = some (n, p)) (clamp load : Nat) :
    (∀ t, p.st = .transfer t → h.deliver a .pad [clamp, load] =
      (h.modPad n fun p => p.read clamp load).transferReply t (clampReading clamp) (loadReading load)) ∧
    ((∀ t, p.st ≠ .transfer t) → h.deliver a .pad [clamp, load] = h.modPad n fun p => p.read clamp load) := by
  have hhat : h.padAt a = some (n, p) := by rw [hh.only]; exact hat
  have hdel : h.deliver a .pad [clamp, load] = h.padReply a (clampReading clamp) (loadReading load) := rfl
  rw [hdel]
  unfold State.padReply
  rw [hhat]
  dsimp only
  split
  · next t ht =>
    refine ⟨fun v hv => ?_, fun hno => absurd ht (hno t)⟩
    cases ht.symm.trans hv
    rfl
  · next hno => exact ⟨fun t ht => absurd ht (hno t), fun _ => rfl⟩

end Sys2Proof.Machine

/-! PROOFS. Transfers completed (R150), and the stages of a transfer as its pad's unit replies (R148). -/

namespace Sys2Proof.Machine

/-! ## Completion (R150) -/

/-- The state of a completed transfer before its transporter parks (steps 1 to 4 of R150). -/
def State.completed (w : State) (t : TId) (x : Transfer) : State :=
  ((((match x.kind with
    | .lift => (w.setLoc x.tel (.onTransporter t)).modPad x.pad fun p => { p with st := .vacant }
    | .place => (w.setLoc x.tel (.onPad x.pad)).modPad x.pad fun p =>
      { p with st := .occupied x.tel, reserv := none }).setTransfer t none).placeXfer t (.xend .done x.pad)).post
    (.transferDone t x.pad x.kind x.tel))

theorem State.completeTransfer_eq (w : State) (t : TId) (x : Transfer) :
    w.completeTransfer t x = (w.completed t x).parkFromTransfer t := rfl

/-- What a completed transfer leaves, before its transporter parks. -/
structure State.Completed (w m : State) (t : TId) (x : Transfer) : Prop where
  only : m = { w with
    telescopes := m.telescopes, pads := m.pads, transfers := w.transfers.set t none, tls := m.tls, opss := m.opss }
  loc : m.locOf x.tel = some (if x.kind = .lift then .onTransporter t else .onPad x.pad)
  locs : ∀ k, k ≠ x.tel → m.locOf k = w.locOf k
  pad : m.pad? x.pad = (w.pad? x.pad).map fun q =>
    if x.kind = .lift then { q with st := .vacant } else { q with st := .occupied x.tel, reserv := none }
  pads : ∀ q, q ≠ x.pad → m.pad? q = w.pad? q
  slot : m.tl t = { w.tl t with xfer := some (.xend .done x.pad) }
  slots : ∀ o, o ≠ t → m.tl o = w.tl o
  told : w.Told m [.transferDone t x.pad x.kind x.tel]

/-- A transfer record closed, with a message in the slot and a notice. -/
theorem State.transferClosed (z : State) (t : TId) (m : XferMsg) (b : NoticeBody) :
    ((z.setTransfer t none).placeXfer t m).post b = { z with
      transfers := z.transfers.set t none, tls := (((z.setTransfer t none).placeXfer t m).post b).tls
      opss := (((z.setTransfer t none).placeXfer t m).post b).opss } ∧
    (((z.setTransfer t none).placeXfer t m).post b).tl t = { z.tl t with xfer := some m } ∧
    (∀ o, o ≠ t → (((z.setTransfer t none).placeXfer t m).post b).tl o = z.tl o) ∧
    z.Told (((z.setTransfer t none).placeXfer t m).post b) [b] :=
  ⟨rfl, State.tl_modTl_self z t fun p => { p with xfer := some m }, fun _ ho => z.tl_ne ho fun p => { p with xfer := some m },
    State.told_post ((z.setTransfer t none).placeXfer t m) b⟩

/-- A completion whose register and pad entries are written as l and f. -/
theorem State.completed_of {w : State} {t : TId} {x : Transfer} {l : Location} {f : Pad → Pad}
    (hl : l = if x.kind = .lift then .onTransporter t else .onPad x.pad)
    (hf : ∀ q, f q = if x.kind = .lift then { q with st := .vacant } else { q with st := .occupied x.tel, reserv := none })
    (hm : w.completed t x = (((((w.setLoc x.tel l).modPad x.pad f).setTransfer t none).placeXfer t (.xend .done x.pad)).post
      (.transferDone t x.pad x.kind x.tel))) : w.Completed (w.completed t x) t x := by
  obtain ⟨z, hz⟩ : ∃ z, z = (w.setLoc x.tel l).modPad x.pad f := ⟨_, rfl⟩
  have hzonly : z = { w with telescopes := z.telescopes, pads := z.pads } := by rw [hz]; rfl
  have hzloc : ∀ k, z.locOf k = (w.setLoc x.tel l).locOf k := by rw [hz]; exact fun _ => rfl
  have hzpad : ∀ q, z.pad? q = (w.modPad x.pad f).pad? q := by rw [hz]; exact fun _ => rfl
  have hztl : ∀ o, z.tl o = w.tl o := by rw [hz]; exact fun _ => rfl
  obtain ⟨honly, hslot, hslots, htold⟩ := z.transferClosed t (.xend .done x.pad) (.transferDone t x.pad x.kind x.tel)
  rw [← hz] at hm
  rw [← hm] at honly hslot hslots htold
  generalize w.completed t x = m at honly hslot hslots htold
  have hloc : ∀ k, m.locOf k = (w.setLoc x.tel l).locOf k := fun k => by rw [← hzloc, honly]; rfl
  have hpad : ∀ q, m.pad? q = (w.modPad x.pad f).pad? q := fun q => by rw [← hzpad, honly]; rfl
  exact {
    only := by
      have h1 : m.telescopes = z.telescopes := by rw [honly]
      have h2 : m.pads = z.pads := by rw [honly]
      rw [h1, h2, honly]
      clear hm hz hzloc hzpad hztl honly hslot hslots htold hloc hpad h1 h2
      generalize z.telescopes = tels, z.pads = pads at hzonly
      subst hzonly
      rfl
    loc := by rw [hloc, ← hl, State.locOf_setLoc_self]
    locs := fun k hk => by rw [hloc, State.locOf_setLoc_ne w hk l]
    pad := by
      rw [hpad]
      exact (Table.find_adjust_self ..).trans (congrArg (Option.map · (w.pad? x.pad)) (funext hf))
    pads := fun q hq => (hpad q).trans (w.pad_modPad_ne hq f)
    slot := by rw [hslot, hztl]
    slots := fun o ho => (hslots o ho).trans (hztl o)
    told := fun k => by
      have h1 : z.opsPort k = w.opsPort k := by rw [hzonly]; rfl
      have h2 : z.clock = w.clock := by rw [hzonly]
      rw [← h1, ← h2]
      exact htold k }

theorem State.completed_spec (w : State) (t : TId) (x : Transfer) : w.Completed (w.completed t x) t x := by
  cases hk : x.kind with
  | lift =>
    refine State.completed_of (l := .onTransporter t) (f := fun p => { p with st := .vacant }) (by rw [hk]; rfl)
      (fun q => by rw [hk]; rfl) ?_
    unfold State.completed
    rw [hk]
  | place =>
    refine State.completed_of (l := .onPad x.pad) (f := fun p => { p with st := .occupied x.tel, reserv := none })
      (by rw [hk]; rfl) (fun q => by rw [hk]; rfl) ?_
    unfold State.completed
    rw [hk]

/-- What the choice of the next exchange leaves of what an AUTH reads. -/
theorem State.Settled.authCurrent {y u : State} (h : y.Settled u) {t : TId} (hc : y.AuthCurrent t) : u.AuthCurrent t := by
  have honly := h.only
  have hsame : y.SameForAuth u t := by
    rw [honly]
    exact ⟨rfl, rfl, fun _ => rfl, rfl, rfl, rfl⟩
  exact hsame.authCurrent hc (by rw [honly]; rfl) (by rw [honly])

/-- Settles O44. STEP by the stage it finds; a PAD unit's reply by what its readings make of the transfer
(transferReply_known), surveying and choosing leaving stage, slot, register and pad alone. -/
theorem transferStages : Obligations.TransferStages := by
  refine ⟨fun s t b hq => ⟨fun hb => ?_, fun hb hidle => ?_, fun x hx hst => ?_⟩, ?_, ?_⟩
  · have hflag : flagOf b = none := by
      unfold flagOf
      rw [if_neg fun h => by subst h; simp at hb, if_neg fun h => by subst h; simp at hb]
    rw [exec_stepResult hq]
    simp only [State.onStepResult, hflag]
    rfl
  · have hx : ∀ x, (s.reloadSupervision t).transfers[t] = some x → x.stage ≠ .raise ∧ x.stage ≠ .lower := fun x hx =>
      hidle x (by rw [s.transfers_reloadSupervision t] at hx; exact hx)
    obtain ⟨f, hflag⟩ := flagOf_of_eq (byte_of_le_one hb)
    rw [exec_stepResult hq, State.onStepResult_coded hflag, State.stepRequest_idle hx]
  · have hx' : (s.reloadSupervision t).transfers[t] = some x := by rw [s.transfers_reloadSupervision t]; exact hx
    have hset : upd (s.reloadSupervision t).transfers t (fun _ => some { x with
        stage := .confirm, cmd := .none, cd := some (.load (10 * s.params.confirmTime)) }) = s.transfers.set t (some { x with
        stage := .confirm, cmd := .none, cd := some (.load (10 * s.params.confirmTime)) }) := by
      rw [s.transfers_reloadSupervision t]
      rfl
    rw [exec_stepResult hq, State.onStepResult_coded (failed := false) rfl, Bool.not_false, State.stepRequest_done hx' hst,
      s.params_reloadSupervision t, State.setTransfer, hset]
  · intro s t a gap clamp load n v p x h hv hat hst hxpad hx hwf
    obtain ⟨hd, hheard, hexec⟩ := h.typed hv
    obtain ⟨hp, haddr⟩ := State.pad_of_padAt hwf.2.2.1 hat
    have hread := hheard.padRead hv hp clamp load
    rw [(State.deliver_pad hheard hat clamp load).1 t hst] at hexec
    generalize hd.modPad n (fun p => p.read clamp load) = w at hexec hread
    have hwonly := hread.only
    have hwx : w.transfers[t] = some x := by rw [hwonly]; exact hx
    have hwq : w.cmdQueue = s.cmdQueue := by rw [hwonly]
    have hww : w.padWaiters = s.padWaiters := by rw [hwonly]
    have hparams : w.params = s.params := by rw [hwonly]
    subst hxpad
    have hraise : w.beginStage t x .raise = { w with
        transfers := w.transfers.set t (some { x with
          stage := .raise, cmd := .none, cd := some (.load (10 * s.params.jackTime)), loadMoving := true })
        tls := (w.beginStage t x .raise).tls } := by
      rw [← hparams]
      rfl
    have hclamp : x.kind = .place → w.beginStage t x .clamp =
        if w.offerOk [⟨.clamp, a, x.pad, .xfer t⟩] then
          { w with transfers := w.transfers.set t (some { x with stage := .clamp, cmd := .queued, cd := none })
                   cmdQueue := w.cmdQueue ++ [⟨.clamp, a, x.pad, .xfer t⟩] }
        else { w with
          transfers := w.transfers.set t (some { x with stage := .clamp, cmd := .waiting, cd := none })
          padWaiters := w.padWaiters ++ [.xfer t] } := fun hk => by
      refine State.beginStage_pad hread.pad (.inr rfl) ?_
      rw [hk]
      exact congrArg (BusCmd.mk .clamp · x.pad (.xfer t)) haddr.symm
    have hsettled := (w.transferReply t (clampReading clamp) (loadReading load)).settled a
    obtain ⟨u, hu⟩ : ∃ u, u = ((w.transferReply t (clampReading clamp) (loadReading load)).markSurveyed a).chooseNext :=
      ⟨_, rfl⟩
    rw [← hu] at hexec hsettled
    refine ⟨u, w, hexec, hread, fun hload => ?_, fun h1 h3 => ?_, fun hqueue hwait h1 h3 => ?_⟩
    · rw [State.transferReply_unknown hwx hload] at hu
      exact ⟨_, State.abort_aborted hwx rfl, hu⟩
    · rw [State.transferReply_known hwx ⟨h1, h3⟩] at hu
      refine ⟨fun n1 n2 n3 => ?_, fun hun => ?_, fun hlo => ?_, fun hdone => ?_⟩
      · rw [if_neg n1, if_neg n2, if_neg n3] at hu
        exact hu
      · rw [if_pos hun] at hu
        exact ⟨_, hraise, State.tl_modTl_self w t _, fun o ho => w.tl_ne ho _, hu⟩
      · rw [if_neg fun hun => by simp [hun.1] at hlo, if_pos hlo, hclamp hlo.1] at hu
        exact hu
      · have n1 : ¬ (x.kind = .lift ∧ x.stage = .unclamp ∧ x.cmd = .sent ∧ clamp = 1) := fun hun => by
          simp [hun.1, hun.2.1] at hdone
        have n2 : ¬ (x.kind = .place ∧ x.stage = .confirm ∧ load = 2) := fun hlo => by
          simp [hlo.1, hlo.2.1] at hdone
        rw [if_neg n1, if_neg n2, if_pos hdone, State.completeTransfer_eq] at hu
        have hcomp := w.completed_spec t x
        generalize w.completed t x = m at hu hcomp
        obtain ⟨y, hexam, -, -, -, hpark⟩ := m.parkFromTransfer_eq t
        have hmtr : m.tr t = w.tr t := by rw [hcomp.only]; rfl
        refine ⟨{ m with trs := m.trs.set t { m.tr t with state := .parked } }, y, ?_, hcomp.loc, hcomp.locs, hcomp.pad,
          hcomp.pads, hcomp.slot, hcomp.slots, hcomp.told, hexam, ?_⟩
        · have htrs : m.trs = w.trs := by rw [hcomp.only]
          have hxs : m.transfers = w.transfers.set t none := by rw [hcomp.only]
          have hmonly := hcomp.only
          rw [← hmtr, ← htrs, ← hxs]
          rw [← hxs] at hmonly
          generalize m.trs.set t { m.tr t with state := .parked } = trs
          rw [hmonly]
        · rw [← hpark]
          exact hu
    · rw [State.transferReply_known hwx ⟨h1, h3⟩] at hsettled
      have honly := hsettled.only
      refine ⟨fun hun => ?_, fun hlo => ?_, fun hdone => ?_⟩
      · rw [if_pos hun] at hsettled honly
        generalize hb : w.beginStage t x .raise = b at hsettled honly hraise
        have hbx : b.transfers[t] = some { x with
            stage := .raise, cmd := .none, cd := some (.load (10 * s.params.jackTime)), loadMoving := true } := by
          rw [hraise]
          exact upd_get_self w.transfers t fun _ => _
        have hbq : b.cmdQueue = s.cmdQueue := by rw [hraise, hwq]
        have hbw : b.padWaiters = s.padWaiters := by rw [hraise, hww]
        refine ⟨(hsettled.owners.transfer t (by rw [hbq]; exact hqueue) (by rw [hbw]; exact hwait)).trans hbx, ?_⟩
        have htl : u.tl t = b.tl t := by rw [honly]; rfl
        rw [htl, ← hb]
        exact congrArg TlPort.xfer (State.tl_modTl_self w t _)
      · rw [if_neg fun hun => by simp [hun.1] at hlo, if_pos hlo, hclamp hlo.1] at hsettled
        have hstage := hsettled.owners.stage t
        rw [hstage]
        split
        · exact congrArg (Option.map _) (upd_get_self w.transfers t fun _ => _)
        · exact congrArg (Option.map _) (upd_get_self w.transfers t fun _ => _)
      · have n1 : ¬ (x.kind = .lift ∧ x.stage = .unclamp ∧ x.cmd = .sent ∧ clamp = 1) := fun hun => by
          simp [hun.1, hun.2.1] at hdone
        have n2 : ¬ (x.kind = .place ∧ x.stage = .confirm ∧ load = 2) := fun hlo => by
          simp [hlo.1, hlo.2.1] at hdone
        rw [if_neg n1, if_neg n2, if_pos hdone, State.completeTransfer_eq] at hsettled honly
        have hcomp := w.completed_spec t x
        generalize w.completed t x = m at hsettled honly hcomp
        obtain ⟨y, -, hyframe, -, hnone, hpark⟩ := m.parkFromTransfer_eq t
        have hzframe : m.OwnFrame (m.parkFromTransfer t) t := by
          rw [hpark]
          split
          · exact hyframe
          · exact hyframe.trans (y.formAuth_ownFrame t)
        have hauth : y.tr t = { m.tr t with state := .parked } →
            ((m.parkFromTransfer t).tr t).state = .parked ∧ (m.parkFromTransfer t).AuthCurrent t := fun hy => by
          rw [hpark, if_neg (by rw [hy]; exact TState.noConfusion)]
          exact ⟨congrArg Transporter.state hy, (y.formAuth_spec t).1⟩
        generalize m.parkFromTransfer t = z at hsettled honly hzframe hauth
        have hzonly := hzframe.frame.only
        have hmonly := hcomp.only
        have hzq : z.cmdQueue = s.cmdQueue := by rw [hzonly, hmonly, hwq]
        have hzw : z.padWaiters = s.padWaiters := by rw [hzonly, hmonly, hww]
        have hutl : u.tl t = z.tl t := by rw [honly]; rfl
        have hport : z.tl t = { m.tl t with auth := (z.tl t).auth } := hzframe.port
        have hpads := hsettled.owners.pads x.pad
        have hzpad : z.pad? x.pad = m.pad? x.pad := by rw [hzonly]; rfl
        rw [hzpad, hcomp.pad, hread.pad] at hpads
        refine ⟨?_, by rw [hutl, hport, hcomp.slot], ?_, ?_, fun hk => ?_, fun hno => ?_⟩
        · rw [hsettled.owners.transfer t (by rw [hzq]; exact hqueue) (by rw [hzw]; exact hwait), hzonly, hmonly]
          exact upd_get_self w.transfers t fun _ => none
        · have hloc : u.locOf x.tel = m.locOf x.tel := by rw [honly, hzonly]; rfl
          rw [hloc, hcomp.loc]
        · have h := congrArg (Option.map Pad.st) hpads
          rw [Option.map_map] at h
          refine h.trans ?_
          by_cases hk : x.kind = .lift <;> simp [hk]
        · have h := congrArg (Option.map Pad.reserv) hpads
          rw [Option.map_map] at h
          refine h.trans ?_
          simp [hk]
        · have hmno : m.nothingDeferred t := by
            refine State.nothingDeferred_congr (s := s) ?_ ?_ ?_ hno
            · rw [hmonly, hwonly]
            · rw [hmonly, hwonly]
            · rw [hmonly, hwonly]; rfl
          obtain ⟨hstate, hcur⟩ := hauth (by
            rw [hnone hmno]
            exact upd_get_self m.trs t fun x => { x with state := .parked })
          refine ⟨?_, hsettled.authCurrent hcur⟩
          have hutr : u.tr t = z.tr t := by rw [honly]; rfl
          rw [hutr, hstate]
  · intro s a gap clamp load n v p h hv hat hwf hst
    obtain ⟨hd, hheard, hexec⟩ := h.typed hv
    obtain ⟨hp, -⟩ := State.pad_of_padAt hwf.2.2.1 hat
    have hread := hheard.padRead hv hp clamp load
    rw [(State.deliver_pad hheard hat clamp load).2 hst] at hexec
    generalize hd.modPad n (fun p => p.read clamp load) = w at hexec hread
    have hwonly := hread.only
    refine ⟨_, w, hexec, hread, rfl, fun hqueue hwait => ?_⟩
    refine (w.settled a).owners.watch n ?_ ?_
    · have hwq : w.cmdQueue = s.cmdQueue := by rw [hwonly]
      rw [hwq]
      exact hqueue
    · have hww : w.padWaiters = s.padWaiters := by rw [hwonly]
      rw [hww]
      exact hwait

end Sys2Proof.Machine

/-! PROOFS. TRANSFER (R146, R147). -/

namespace Sys2Proof.Machine

/-! ## Requests judged in order -/

/-- The check at the head is judged before the others, told by the condition p under which it fails. -/
theorem State.judgeTl_cons {ok : Bool} {p : Prop} [Decidable p] (hp : ok = false ↔ p) (s : State) (t : TId)
    (ty : Byte) (r : Reason) (checks : List (Bool × Reason)) (act : State → State) :
    s.judgeTl t ty ((ok, r) :: checks) act = if p then s.refuse t ty r else s.judgeTl t ty checks act := by
  cases ok with
  | false => rw [if_pos (hp.mp rfl)]; rfl
  | true => rw [if_neg fun h => Bool.noConfusion (hp.mpr h)]; rfl

theorem State.judgeTl_nil (s : State) (t : TId) (ty : Byte) (act : State → State) : s.judgeTl t ty [] act = act s := rfl

/-- Reloading the supervision countdown touches that countdown alone. -/
theorem State.reloadSupervision_spec (s : State) (t : TId) :
    s.reloadSupervision t = { s with trs := (s.reloadSupervision t).trs } ∧
    (s.reloadSupervision t).tr t = { s.tr t with superv := ((s.reloadSupervision t).tr t).superv } ∧
    (∀ v, v ≠ t → (s.reloadSupervision t).tr v = s.tr v) ∧
    ((s.tr t).state ≠ .offline → ((s.reloadSupervision t).tr t).superv = some (.load (s.tr t).supervision)) := by
  unfold State.reloadSupervision
  split
  · next h => exact ⟨rfl, rfl, fun _ _ => rfl, fun hn => absurd h hn⟩
  · refine ⟨rfl, ?_, fun v hv => s.tr_ne hv _, fun _ => ?_⟩
    · rw [State.tr_modTr_self]
    · rw [State.tr_modTr_self]

/-! ## The route withdrawn of a transporter PARKED -/

theorem Transporter.evaluated_of_parked {x : Transporter} (h : x.state = .parked) (c : StopSet) (b : Bool) :
    x.evaluated c b = { x with stop := c } := by
  unfold Transporter.evaluated
  by_cases hc : x.stop = c
  · rw [if_pos (.inr hc), ← hc]
  · rw [if_neg (by simp [h, hc]), if_neg (by simp [h]), if_neg (by simp [h])]

theorem State.evaluationNotice_parked {s : State} {t : TId} (h : (s.tr t).state = .parked) :
    s.evaluationNotice t = [] := by
  unfold State.evaluationNotice
  rw [h]
  simp

/-- Told of nothing, the operations ports are as before. -/
theorem State.Told.opss_nil {s u : State} (h : s.Told u []) : u.opss = s.opss := Vector.ext fun i hi => h ⟨i, hi⟩

/-- A reservation dropped from a transporter PARKED is told to nobody. -/
theorem State.Dropped.opss_parked {s d : State} {t : TId} (h : s.Dropped d t) (ht : (s.tr t).state = .parked) :
    d.opss = s.opss := by
  by_cases hs : s.settingRun t = []
  · rw [h.nothing hs]
  · obtain ⟨m, hm, -, heval⟩ := h.drop hs
    have hmt : (m.tr t).state = .parked := by rw [hm]; exact ht
    have htold := heval.notices
    rw [List.flatMap_singleton, State.evaluationNotice_parked hmt] at htold
    rw [State.Told.opss_nil htold, hm]

/-- With no run pending, what is held firmly is granted. -/
theorem State.firm_eq_granted {s : State} {t : TId} (h : s.pendingRun t = []) :
    (s.route t).entries.filter (fun e => decide (s.holdsFirm t e.sec)) = s.grantedRun t := by
  refine List.filter_congr fun e he => ?_
  have hno : s.holdBy t e.sec ≠ some .releasePending := fun hp => by
    have hmem : e ∈ s.pendingRun t := List.mem_filter.mpr ⟨he, decide_eq_true hp⟩
    rw [h] at hmem
    exact List.not_mem_nil hmem
  simp [State.holdsFirm, hno]

/-! ## The checks (R146) -/

theorem xferKindOf_eq {b : Byte} (h : b.toNat ≤ 1) : xferKindOf b = some (if b = 0 then .lift else .place) := by
  rcases byte_of_le_one h with rfl | rfl <;> rfl

theorem xferKindOf_none {b : Byte} (h : 1 < b.toNat) : xferKindOf b = none := by
  unfold xferKindOf
  rw [if_neg fun e => by subst e; simp at h, if_neg fun e => by subst e; simp at h]

theorem State.transferState_eq_false {s : State} {t : TId} :
    s.transferState t = false ↔ ¬ (s.site = .running ∧ (s.tr t).state = .parked ∧ s.pendingRun t = []) := by
  rw [← Bool.not_eq_true, not_iff_not]
  simp [State.transferState, State.running, and_assoc]

theorem State.aligned_eq_false {s : State} {t : TId} {x : Pad} : s.aligned t x = false ↔
    (s.tr t).last.map (fun r => decide (r.sec = x.sec ∧ r.off ≤ x.stop + x.tol ∧ x.stop ≤ r.off + x.tol)) ≠ some true := by
  unfold State.aligned
  cases (s.tr t).last <;> simp

/-- TRANSFER of a good kind for a pad defined, by its checks in their order. -/
theorem State.transferRequest_judged {s : State} {t : TId} {n : Nat} {kind : Byte} {x : Pad} (hn : n < 80)
    (hx : s.pad? n = some x) (hkind : kind.toNat ≤ 1) :
    let lift := kind = 0
    s.transferRequest t n kind =
      if ¬ (s.site = .running ∧ (s.tr t).state = .parked ∧ s.pendingRun t = []) then s.refuse t 0x14 .state
      else if s.speed t ≠ 0 then s.refuse t 0x14 .moving
      else if (s.tr t).last.map (fun r => decide (r.sec = x.sec ∧ r.off ≤ x.stop + x.tol ∧ x.stop ≤ r.off + x.tol)) ≠
          some true then s.refuse t 0x14 .alignment
      else if x.silent = true then s.refuse t 0x14 .unitSilent
      else if lift ∧ (s.telescopeAt t ≠ none ∨ s.loadSensed t = true) ∨ ¬ lift ∧ s.carried t = none then
        s.refuse t 0x14 .loadMismatch
      else if lift ∧ s.xferTelescope t x .lift = none ∨
          ¬ lift ∧ ¬ (x.st = .vacant ∧ (x.reserv = none ∨ x.reserv = s.carried t)) ∨ x.watch ≠ .none then
        s.refuse t 0x14 .padState
      else if x.load ≠ (if lift then .loaded else .empty) then s.refuse t 0x14 .loadMismatch
      else if lift ∧ 16 ≤ s.cmdQueue.length then s.refuse t 0x14 .state
      else s.transferAccepted t n x (if lift then .lift else .place) := by
  dsimp only
  have hin : s.padIn n = some x := State.padIn_some hn hx
  unfold State.transferRequest
  rw [hin, xferKindOf_eq hkind]
  dsimp only
  unfold State.transferChecks
  rw [State.judgeTl_cons State.transferState_eq_false, State.judgeTl_cons (p := s.speed t ≠ 0) (by simp),
    State.judgeTl_cons State.aligned_eq_false, State.judgeTl_cons (p := x.silent = true) (by simp),
    State.judgeTl_cons (p := kind = 0 ∧ (s.telescopeAt t ≠ none ∨ s.loadSensed t = true) ∨ ¬ kind = 0 ∧ s.carried t = none) ?load,
    State.judgeTl_cons (p := kind = 0 ∧ s.xferTelescope t x .lift = none ∨
          ¬ kind = 0 ∧ ¬ (x.st = .vacant ∧ (x.reserv = none ∨ x.reserv = s.carried t)) ∨ x.watch ≠ .none) ?pad,
    State.judgeTl_cons (p := x.load ≠ (if kind = 0 then .loaded else .empty)) ?reading,
    State.judgeTl_cons (p := kind = 0 ∧ 16 ≤ s.cmdQueue.length) ?room, State.judgeTl_nil]
  · rfl
  case load =>
    by_cases hk : kind = 0
    · simp only [hk, if_true, not_true, false_and, or_false, true_and]
      cases s.telescopeAt t <;> simp
    · simp only [hk, if_false, not_false_iff, false_and, false_or, true_and]
      cases s.carried t <;> simp
  case pad =>
    by_cases hk : kind = 0
    · simp only [hk, if_true, not_true, false_and, true_and]
      cases s.xferTelescope t x .lift <;> simp [Pad.unwatched]
    · simp only [hk, if_false, not_false_iff, false_and, false_or, true_and, Pad.unwatched,
        Bool.and_eq_false_iff, decide_eq_false_iff_not, ne_eq]
  case reading =>
    by_cases hk : kind = 0 <;> simp only [hk, if_true, if_false, decide_eq_false_iff_not, ne_eq]
  case room =>
    by_cases hk : kind = 0
    · simp only [hk, if_true, true_and, decide_eq_false_iff_not, Nat.not_lt]
      rfl
    · simp only [hk, if_false, false_and, Bool.true_eq_false]

/-! ## Acceptance (R147) -/

/-- Before the first stage: the route ahead is withdrawn, and pad and transporter are in TRANSFER. -/
def State.transferReady (s : State) (t : TId) (n : Nat) : State :=
  (((s.withdrawRoute t).finalToEnd t).modPad n fun x => { x with st := .transfer t }).modTr t fun x =>
    { x with state := .transfer }

structure State.TransferReady (s m : State) (t : TId) (n : Nat) (x : Pad) : Prop where
  only : m = { s with
    pads := m.pads, trs := m.trs, tls := m.tls, ceilings := m.ceilings, sections := m.sections, routes := m.routes
    waiting := s.waiting.filter fun w => decide (w.t ≠ t), walkDue := s.walkDue || !(s.settingRun t).isEmpty }
  pad : ∀ p, m.pad? p = if p = n then some { x with st := .transfer t } else s.pad? p
  route : m.route t = { s.route t with
    entries := s.grantedRun t, finalOff := ((s.route t).endPos.map (·.off)).getD 0, nextIdx := (m.route t).nextIdx }
  record : m.tr t = { s.tr t with
    state := .transfer, stop := if s.settingRun t = [] then (s.tr t).stop else m.stopCauses t }
  holds : ∀ k, m.sec? k = (s.sec? k).map fun y =>
    { y with hold := if s.holdBy t k = some .setting ∧ s.inRecord t k then none else y.hold }
  port : s.OnlyAuth m t
  others : ∀ v, v ≠ t → s.SameTransporter m v

theorem State.transferReady_spec {s : State} {t : TId} {n : Nat} {x : Pad} (hst : (s.tr t).state = .parked)
    (hp : s.pendingRun t = []) (hx : s.pad? n = some x) : s.TransferReady (s.transferReady t n) t n x := by
  have hw := s.withdrawRoute_withdrawn t
  unfold State.transferReady
  generalize s.withdrawRoute t = w at hw
  have hwonly := hw.only
  have hopss : w.opss = s.opss := by
    obtain ⟨d, hdrop, hd⟩ := hw.dropped
    rw [hd]
    exact hdrop.opss_parked hst
  have hroute := hw.route
  rw [State.firm_eq_granted hp] at hroute
  have hrecord := hw.record
  rw [Transporter.evaluated_of_parked hst] at hrecord
  obtain ⟨m, hm⟩ : ∃ m, m = ((w.finalToEnd t).modPad n fun x => { x with st := .transfer t }).modTr t fun x =>
    { x with state := .transfer } := ⟨_, rfl⟩
  have hmonly : m = { w with pads := m.pads, trs := m.trs, routes := m.routes } := by rw [hm]; rfl
  have hmpad : ∀ p, m.pad? p = (w.modPad n fun x => { x with st := .transfer t }).pad? p := by rw [hm]; exact fun _ => rfl
  have hmtr : m.tr t = { w.tr t with state := .transfer } := by rw [hm, State.tr_modTr_self]; rfl
  have hmroute : m.route t = { w.route t with finalOff := ((w.route t).endPos.map (·.off)).getD 0 } := by
    rw [hm]
    exact State.route_modRoute_self ..
  have hcauses : m.stopCauses = w.stopCauses := by
    rw [hmonly]
    exact State.stopCauses_eq rfl rfl rfl rfl rfl
  have hwx : w.pad? n = some x := by rw [hwonly]; exact hx
  have hmtl : ∀ v, m.tl v = w.tl v := fun v => by rw [hmonly]; rfl
  rw [← hm]
  exact {
    only := by
      have h1 : m.tls = w.tls := by rw [hmonly]
      have h2 : m.ceilings = w.ceilings := by rw [hmonly]
      have h3 : m.sections = w.sections := by rw [hmonly]
      rw [h1, h2, h3]
      rw [hopss] at hwonly
      generalize m.pads = a, m.trs = b, m.routes = c at hmonly
      rw [hmonly]
      clear hmonly hm hmpad hmtr hmroute hcauses hmtl h1 h2 h3 hroute hrecord hw hwx hopss
      generalize w.sections = z1, w.trs = z2, w.routes = z3, w.tls = z4, w.ceilings = z5 at hwonly
      subst hwonly
      rfl
    pad := fun p => by
      rw [hmpad p]
      split
      · next h => rw [h]; exact State.pad_modPad_self hwx _
      · next h =>
        rw [State.pad_modPad_ne _ h, hwonly]
        rfl
    route := by rw [hmroute, hroute]
    record := by
      rw [hmtr, hrecord, hcauses]
      split <;> rfl
    holds := fun k => by
      have h : m.sec? k = w.sec? k := by rw [hmonly]; rfl
      rw [h]
      exact hw.holds k
    port := by
      have h : w.tl t = { s.tl t with auth := (w.tl t).auth } := hw.port t
      rw [← hmtl] at h
      exact h
    others := fun v hv => by
      obtain ⟨h1, h2, h3, h4, h5⟩ := hw.others v hv
      have k1 : m.tr v = w.tr v := by
        rw [hm, State.tr_ne _ hv]
        rfl
      have k2 : m.route v = w.route v := by
        rw [hm]
        exact w.route_ne hv _
      have k : m.ceilings[v] = w.ceilings[v] ∧ m.transfers[v] = w.transfers[v] := by
        rw [hmonly]
        exact ⟨rfl, rfl⟩
      exact ⟨k1.trans h1, k2.trans h2, (hmtl v).trans h3, k.1.trans h4, k.2.trans h5⟩ }

/-- The stage a transfer begins with. -/
def XferKind.firstStage : XferKind → Stage
  | .lift => .unclamp
  | .place => .lower

theorem State.transferAccepted_eq {s : State} {t : TId} {n k : Nat} {x : Pad} {kind : XferKind}
    (hk : s.xferTelescope t x kind = some k) : s.transferAccepted t n x kind = (((s.transferReady t n).beginStage t
      ⟨n, kind, k, .unclamp, .none, false, none, false⟩ kind.firstStage).formAuth t) := by
  unfold State.transferAccepted
  rw [hk]
  cases kind <;> rfl

/-- The telescope a LIFT takes is the one on its pad. -/
theorem State.st_of_xferTelescope {s : State} {t : TId} {x : Pad} {k : Nat} (h : s.xferTelescope t x .lift = some k) :
    x.st = .occupied k := by
  unfold State.xferTelescope at h
  dsimp only at h
  split at h
  · next j hj => rw [hj, Option.some.inj h]
  · exact nomatch h

/-- What the first stage does: the record, the command queue and its waiters, or the slot. -/
structure State.FirstStage (m b : State) (t : TId) : Prop where
  only : b = { m with transfers := b.transfers, cmdQueue := b.cmdQueue, padWaiters := b.padWaiters, tls := b.tls }
  slot : b.tl t = { m.tl t with xfer := (b.tl t).xfer }
  slots : ∀ v, v ≠ t → b.tl v = m.tl v
  transfers : ∀ v, v ≠ t → b.transfers[v] = m.transfers[v]

theorem State.firstStage_lift {m : State} {t : TId} {n k : Nat} {x : Pad} (hx : m.pad? n = some x) :
    m.FirstStage (m.beginStage t ⟨n, .lift, k, .unclamp, .none, false, none, false⟩ .unclamp) t ∧
    m.beginStage t ⟨n, .lift, k, .unclamp, .none, false, none, false⟩ .unclamp =
      if m.offerOk [⟨.unclamp, x.addr, n, .xfer t⟩] then
        { m with transfers := m.transfers.set t (some ⟨n, .lift, k, .unclamp, .queued, false, none, false⟩)
                 cmdQueue := m.cmdQueue ++ [⟨.unclamp, x.addr, n, .xfer t⟩] }
      else
        { m with transfers := m.transfers.set t (some ⟨n, .lift, k, .unclamp, .waiting, false, none, false⟩)
                 padWaiters := m.padWaiters ++ [.xfer t] } := by
  have hstage := State.beginStage_pad (s := m) (t := t) (x := ⟨n, .lift, k, .unclamp, .none, false, none, false⟩) (p := x)
    hx (g := .unclamp) (.inl rfl) (c := ⟨.unclamp, x.addr, n, .xfer t⟩) rfl
  refine ⟨?_, hstage⟩
  rw [hstage]
  split
  · exact ⟨rfl, rfl, fun _ _ => rfl, fun v hv => upd_get_ne m.transfers t v (fun _ => _) (Ne.symm hv)⟩
  · exact ⟨rfl, rfl, fun _ _ => rfl, fun v hv => upd_get_ne m.transfers t v (fun _ => _) (Ne.symm hv)⟩

theorem State.firstStage_place {m : State} {t : TId} {n k : Nat} :
    m.FirstStage (m.beginStage t ⟨n, .place, k, .unclamp, .none, false, none, false⟩ .lower) t ∧
    (m.beginStage t ⟨n, .place, k, .unclamp, .none, false, none, false⟩ .lower).transfers =
      m.transfers.set t (some ⟨n, .place, k, .lower, .none, false, some (.load (10 * m.params.jackTime)), true⟩) ∧
    (m.beginStage t ⟨n, .place, k, .unclamp, .none, false, none, false⟩ .lower).cmdQueue = m.cmdQueue ∧
    (m.beginStage t ⟨n, .place, k, .unclamp, .none, false, none, false⟩ .lower).padWaiters = m.padWaiters ∧
    ((m.beginStage t ⟨n, .place, k, .unclamp, .none, false, none, false⟩ .lower).tl t).xfer = some (.xgo .lower n) := by
  have hself := State.tl_modTl_self m t fun p => { p with xfer := some (.xgo .lower n) }
  refine ⟨⟨rfl, ?_, fun v hv => m.tl_ne hv fun p => { p with xfer := some (.xgo .lower n) },
    fun v hv => upd_get_ne m.transfers t v (fun _ => _) (Ne.symm hv)⟩, rfl, rfl, rfl, congrArg TlPort.xfer hself⟩
  exact hself.trans (congrArg (fun y => { m.tl t with xfer := y }) (congrArg TlPort.xfer hself).symm)

theorem exec_transfer {s : State} {t : TId} (hq : s.Quiet (.tl t)) (n kind : Byte) :
    exec (.transfer t [n, kind]) s = .next ((s.reloadSupervision t).transferRequest t n.toNat kind) :=
  exec_tl_quiet (act := State.onTransfer) (ty := Config.tyTransfer) (p := [n, kind]) hq rfl rfl

/-- What holds after an acceptance, for either kind. -/
theorem State.transfer_accepted {r m b : State} {t : TId} {n : Nat} {x : Pad} (hready : r.TransferReady m t n x)
    (hstage : m.FirstStage b t) : let u := b.formAuth t
    (u.tr t).state = .transfer ∧ (u.tr t).last = (r.tr t).last ∧ u.AuthCurrent t ∧
    u.pad? n = some { x with st := .transfer t } ∧ (∀ p, p ≠ n → u.pad? p = r.pad? p) ∧
    (u.tl t).xfer = (b.tl t).xfer ∧ u.transfers = b.transfers ∧ u.cmdQueue = b.cmdQueue ∧ u.padWaiters = b.padWaiters ∧
    u.route t = { r.route t with
      entries := r.grantedRun t, finalOff := ((r.route t).endPos.map (·.off)).getD 0, nextIdx := (u.route t).nextIdx } ∧
    u.tr t = { r.tr t with
      state := .transfer, stop := if r.settingRun t = [] then (r.tr t).stop else u.stopCauses t } ∧
    u.tl t = { r.tl t with auth := (u.tl t).auth, xfer := (u.tl t).xfer } ∧
    (∀ k, u.sec? k = (r.sec? k).map fun y =>
      { y with hold := if r.holdBy t k = some .setting ∧ r.inRecord t k then none else y.hold }) ∧
    u.walkDue = (r.walkDue || !(r.settingRun t).isEmpty) ∧
    u.waiting = r.waiting.filter (fun w => decide (w.t ≠ t)) ∧
    u = { r with pads := u.pads, transfers := u.transfers, trs := u.trs, tls := u.tls, ceilings := u.ceilings
                 cmdQueue := u.cmdQueue, padWaiters := u.padWaiters, sections := u.sections, routes := u.routes
                 waiting := u.waiting, walkDue := u.walkDue } ∧
    ∀ v, v ≠ t → r.SameTransporter u v := by
  dsimp only
  obtain ⟨hauth, hform, hport, hothers⟩ := b.formAuth_spec t
  generalize b.formAuth t = u at hauth hform hport hothers
  have hb := hstage.only
  have hm := hready.only
  have hub : u = { m with
      transfers := u.transfers, cmdQueue := u.cmdQueue, padWaiters := u.padWaiters, tls := u.tls, ceilings := u.ceilings } := by
    have h1 : u.transfers = b.transfers := by rw [hform]
    have h2 : u.cmdQueue = b.cmdQueue := by rw [hform]
    have h3 : u.padWaiters = b.padWaiters := by rw [hform]
    rw [h1, h2, h3, hform, hb]
  have hutr : u.tr t = m.tr t := by rw [hub]; rfl
  have huroute : u.route t = m.route t := by rw [hub]; rfl
  have hcauses : u.stopCauses = m.stopCauses := by
    rw [hub]
    exact State.stopCauses_eq rfl rfl rfl rfl rfl
  have hupad : ∀ p, u.pad? p = m.pad? p := fun p => by rw [hub]; rfl
  have hutl : u.tl t = { b.tl t with auth := (u.tl t).auth } := hport
  have hmtl : m.tl t = { r.tl t with auth := (m.tl t).auth } := hready.port
  have hbtl : b.tl t = { m.tl t with xfer := (b.tl t).xfer } := hstage.slot
  have hrec := hready.record
  rw [← hutr, ← hcauses] at hrec
  have hroute := hready.route
  rw [← huroute] at hroute
  have hxferslot : (u.tl t).xfer = (b.tl t).xfer := by rw [hutl]
  refine ⟨by rw [hrec], by rw [hrec], hauth, ?_, fun p hp => ?_, hxferslot, by rw [hform], by rw [hform], by rw [hform],
    hroute, hrec, ?_, fun k => ?_, by rw [hub, hm], by rw [hub, hm], ?_, fun v hv => ?_⟩
  · rw [hupad, hready.pad, if_pos rfl]
  · rw [hupad, hready.pad, if_neg hp]
  · rw [hxferslot]
    rw [hbtl, hmtl] at hutl
    exact hutl
  · have h : u.sec? k = m.sec? k := by rw [hub]; rfl
    rw [h]
    exact hready.holds k
  · have h1 : u.pads = m.pads := by rw [hub]
    have h2 : u.trs = m.trs := by rw [hub]
    have h3 : u.sections = m.sections := by rw [hub]
    have h4 : u.routes = m.routes := by rw [hub]
    have h5 : u.waiting = m.waiting := by rw [hub]
    have h6 : u.walkDue = m.walkDue := by rw [hub]
    rw [h1, h2, h3, h4, h5, h6, hub]
    clear h1 h2 h3 h4 h5 h6 hub hutr huroute hcauses hupad hutl hmtl hbtl hrec hroute hxferslot hauth hform hport hothers hb hready
      hstage
    generalize m.pads = a1, m.trs = a2, m.tls = a3, m.ceilings = a4, m.sections = a5, m.routes = a6 at hm
    subst hm
    rfl
  · obtain ⟨h1, h2, h3, h4, h5⟩ := hothers v hv
    obtain ⟨k1, k2, k3, k4, k5⟩ := hready.others v hv
    have hbv : b.tr v = m.tr v ∧ b.route v = m.route v ∧ b.ceilings[v] = m.ceilings[v] := by
      rw [hb]
      exact ⟨rfl, rfl, rfl⟩
    exact ⟨(h1.trans hbv.1).trans k1, (h2.trans hbv.2.1).trans k2, (h3.trans (hstage.slots v hv)).trans k3,
      (h4.trans hbv.2.2).trans k4, (h5.trans (hstage.transfers v hv)).trans k5⟩

/-- Settles O43: the checks of R146 in their order (transferRequest_judged), then R147 for either kind. -/
theorem transferResult : Obligations.TransferResult := by
  intro s t n kind hq
  dsimp only
  obtain ⟨honly, hrec, hothers, -⟩ := s.reloadSupervision_spec t
  have hexec := exec_transfer hq n kind
  generalize s.reloadSupervision t = r at honly hrec hothers hexec
  have hsite : r.site = s.site := by rw [honly]
  have hstate : (r.tr t).state = (s.tr t).state := by rw [hrec]
  have hlast : (r.tr t).last = (s.tr t).last := by rw [hrec]
  have hsecs : r.sections = s.sections := by rw [honly]
  have hroute : r.route t = s.route t := by rw [honly]; rfl
  have hhold : r.holdBy = s.holdBy := State.holdBy_congr hsecs
  have hpend : r.pendingRun t = s.pendingRun t := by rw [State.pendingRun, State.run, hroute, hhold]; rfl
  have hgrant : r.grantedRun t = s.grantedRun t := by rw [State.grantedRun, State.run, hroute, hhold]; rfl
  have hset : r.settingRun t = s.settingRun t := State.settingRun_congr hsecs hroute
  have hpad : ∀ p, r.pad? p = s.pad? p := fun p => by rw [honly]; rfl
  have hspeed : r.speed t = s.speed t := by rw [State.speed, hlast]; rfl
  have hsensed : r.loadSensed t = s.loadSensed t := by rw [State.loadSensed, hlast]; rfl
  have htel : r.telescopes = s.telescopes := by rw [honly]
  have hat : r.telescopeAt t = s.telescopeAt t := by rw [State.telescopeAt, htel]; rfl
  have hcarried : r.carried t = s.carried t := by rw [State.carried, htel]; rfl
  have hqueue : r.cmdQueue = s.cmdQueue := by rw [honly]
  have hopen : ∀ {checks : List (Bool × Reason)} {act : State → State},
      ¬ (s.site = .running ∧ (s.tr t).state = .parked ∧ s.pendingRun t = []) →
      r.judgeTl t 0x14 ((r.transferState t, .state) :: checks) act = r.refuse t 0x14 .state := fun h =>
    State.judgeTl_first (State.transferState_eq_false.mpr (by rw [hsite, hstate, hpend]; exact h)) ..
  have hpass : ∀ {checks : List (Bool × Reason)} {act : State → State},
      s.site = .running ∧ (s.tr t).state = .parked ∧ s.pendingRun t = [] →
      r.judgeTl t 0x14 ((r.transferState t, .state) :: checks) act = r.judgeTl t 0x14 checks act := fun h => by
    rw [State.judgeTl_cons State.transferState_eq_false, if_neg (by rw [hsite, hstate, hpend]; exact not_not_intro h)]
  refine ⟨fun hno => ?_, fun hyes hunknown => ?_, fun x hyes hn hx => ?_⟩
  · rw [hexec]
    refine congrArg _ ?_
    unfold State.transferRequest
    split
    · exact hopen hno
    · split
      · exact hopen hno
      · exact hopen hno
  · have hin : r.padIn n.toNat = none := State.padIn_none (by rw [hpad]; exact hunknown)
    rw [hexec]
    refine congrArg _ ?_
    unfold State.transferRequest
    rw [hin]
    exact (hpass hyes).trans (State.judgeTl_first rfl ..)
  · have hin : r.padIn n.toNat = some x := State.padIn_some hn (by rw [hpad]; exact hx)
    by_cases hkind : 1 < kind.toNat
    · rw [if_pos hkind, hexec]
      refine congrArg _ ?_
      unfold State.transferRequest
      rw [hin, xferKindOf_none hkind]
      exact (hpass hyes).trans (State.judgeTl_first rfl ..)
    rw [if_neg hkind]
    have hrx : r.pad? n.toNat = some x := by rw [hpad]; exact hx
    have hjudged := State.transferRequest_judged (t := t) hn hrx (Nat.not_lt.mp hkind)
    have hlift : r.xferTelescope t x .lift = none ↔ (match x.st with | .occupied _ => false | _ => true) = true := by
      unfold State.xferTelescope
      cases x.st <;> simp
    dsimp only at hjudged
    rw [hsite, hstate, hpend, if_neg (not_not_intro hyes), hspeed, hlast, hat, hsensed, hcarried, hqueue] at hjudged
    by_cases h1 : s.speed t ≠ 0
    · rw [if_pos h1, hexec, hjudged, if_pos h1]
    rw [if_neg h1] at hjudged ⊢
    by_cases h2 : (s.tr t).last.map (fun r => decide (r.sec = x.sec ∧ r.off ≤ x.stop + x.tol ∧ x.stop ≤ r.off + x.tol)) ≠
      some true
    · rw [if_pos h2, hexec, hjudged, if_pos h2]
    rw [if_neg h2] at hjudged ⊢
    by_cases h3 : x.silent = true
    · rw [if_pos h3, hexec, hjudged, if_pos h3]
    rw [if_neg h3] at hjudged ⊢
    by_cases h4 : kind = 0 ∧ (s.telescopeAt t ≠ none ∨ s.loadSensed t = true) ∨ ¬ kind = 0 ∧ s.carried t = none
    · rw [if_pos h4, hexec, hjudged, if_pos h4]
    rw [if_neg h4] at hjudged ⊢
    by_cases h5 : kind = 0 ∧ r.xferTelescope t x .lift = none ∨
          ¬ kind = 0 ∧ ¬ (x.st = .vacant ∧ (x.reserv = none ∨ x.reserv = s.carried t)) ∨ x.watch ≠ .none
    · rw [if_pos (by rw [hlift] at h5; exact h5), hexec, hjudged, if_pos h5]
    rw [if_neg h5] at hjudged
    rw [if_neg (by rw [hlift] at h5; exact h5)]
    by_cases h6 : x.load ≠ (if kind = 0 then .loaded else .empty)
    · rw [if_pos h6, hexec, hjudged, if_pos h6]
    rw [if_neg h6] at hjudged ⊢
    by_cases h7 : kind = 0 ∧ 16 ≤ s.cmdQueue.length
    · rw [if_pos h7, hexec, hjudged, if_pos h7]
    rw [if_neg h7] at hjudged ⊢
    have hready := State.transferReady_spec (s := r) (t := t) (n := n.toNat) (by rw [hstate]; exact hyes.2.1)
      (by rw [hpend]; exact hyes.2.2) hrx
    have hrtl : ∀ v, r.tl v = s.tl v := fun v => by rw [honly]; rfl
    have hsame : ∀ {u : State} {v : TId}, v ≠ t → r.SameTransporter u v → s.SameTransporter u v := fun hv hu => by
      obtain ⟨k1, k2, k3, k4, k5⟩ := hu
      refine ⟨k1.trans (hothers _ hv), ?_, k3.trans (hrtl _), ?_, ?_⟩
      · rw [k2, honly]; rfl
      · rw [k4, honly]
      · rw [k5, honly]
    have hunits : r.units = s.units := by rw [honly]
    have hwaiters : r.padWaiters = s.padWaiters := by rw [honly]
    obtain ⟨m, hm⟩ : ∃ m, m = r.transferReady t n.toNat := ⟨_, rfl⟩
    rw [← hm] at hready
    have hmonly := hready.only
    have hmqueue : m.cmdQueue = s.cmdQueue := by rw [hmonly, hqueue]
    have hmwaiters : m.padWaiters = s.padWaiters := by rw [hmonly, hwaiters]
    suffices hall : ∃ (b : State) (k : Nat), m.FirstStage b t ∧
        r.transferAccepted t n.toNat x (if kind = 0 then .lift else .place) = b.formAuth t ∧
        (kind = 0 → x.st = .occupied k ∧ (b.tl t).xfer = (s.tl t).xfer ∧
          if s.offerOk [⟨.unclamp, x.addr, n.toNat, .xfer t⟩] then
            b.transfers[t] = some ⟨n.toNat, .lift, k, .unclamp, .queued, false, none, false⟩ ∧
              b.cmdQueue = s.cmdQueue ++ [⟨.unclamp, x.addr, n.toNat, .xfer t⟩] ∧ b.padWaiters = s.padWaiters
          else b.transfers[t] = some ⟨n.toNat, .lift, k, .unclamp, .waiting, false, none, false⟩ ∧
            b.cmdQueue = s.cmdQueue ∧ b.padWaiters = s.padWaiters ++ [.xfer t]) ∧
        (¬ kind = 0 → s.carried t = some k ∧ (b.tl t).xfer = some (.xgo .lower n.toNat) ∧
          b.transfers[t] = some ⟨n.toNat, .place, k, .lower, .none, false, some (.load (10 * s.params.jackTime)), true⟩ ∧
          b.cmdQueue = s.cmdQueue ∧ b.padWaiters = s.padWaiters) by
      obtain ⟨b, k, hstage, heq, hl, hp⟩ := hall
      obtain ⟨u1, u2, u3, u4, u5, u6, u7, u8, u9, u10, u11, u12, u13, u14, u15, u16, u17⟩ :=
        State.transfer_accepted hready hstage
      have hexec' := hexec.trans (congrArg Host.Outcome.next (hjudged.trans heq))
      generalize b.formAuth t = u at u1 u2 u3 u4 u5 u6 u7 u8 u9 u10 u11 u12 u13 u14 u15 u16 u17 hexec'
      have hxt : u.transfers[t] = b.transfers[t] := by rw [u7]
      refine ⟨u, k, hexec', u1, u2.trans hlast, u3, u4, fun p hp => (u5 p hp).trans (hpad p), ?_, ?_, ?_, ?_, ?_, ?_, ?_, ?_,
        ?_, fun v hv => (hsame hv (u17 v hv)).2.2.2.2, ?_, ?_, fun v hv => hsame hv (u17 v hv)⟩
      · intro hk
        rw [u6, u8, u9, hxt]
        exact hl hk
      · intro hk
        rw [u6, u8, u9, hxt]
        exact hp hk
      · rw [u10, hgrant]
      · rw [u10, hroute]
      · have h := u10
        rw [hroute] at h
        rw [h]
      · have hstop : (r.tr t).stop = (s.tr t).stop := by rw [hrec]
        rw [hset, hstop] at u11
        exact u11
      · have h := u12
        rw [hrtl] at h
        exact h
      · intro p
        have h := u13 p
        simp only [State.inRecord, hroute, hhold] at h
        have hsec : r.sec? p = s.sec? p := by rw [State.sec?, hsecs]; rfl
        rw [hsec] at h
        exact h
      · have hdue : r.walkDue = s.walkDue := by rw [honly]
        rw [u14, hset, hdue]
      · have hwait : r.waiting = s.waiting := by rw [honly]
        rw [u15, hwait]
      · rw [u16, honly]
    by_cases hk : kind = 0
    · obtain ⟨k, hk'⟩ : ∃ k, r.xferTelescope t x .lift = some k := by
        cases hx' : r.xferTelescope t x .lift with
        | none => exact absurd (Or.inl ⟨hk, hx'⟩) h5
        | some k => exact ⟨k, rfl⟩
      have hocc : x.st = .occupied k := State.st_of_xferTelescope hk'
      have hmx : m.pad? n.toNat = some { x with st := .transfer t } := by rw [hready.pad, if_pos rfl]
      obtain ⟨hstage, hb⟩ := State.firstStage_lift (t := t) (k := k) hmx
      have hok : m.offerOk [⟨.unclamp, x.addr, n.toNat, .xfer t⟩] = s.offerOk [⟨.unclamp, x.addr, n.toNat, .xfer t⟩] :=
        State.offerOk_pad_congr rfl hmqueue (by rw [hmonly, hunits])
      refine ⟨_, k, hstage, by rw [if_pos hk, State.transferAccepted_eq hk', ← hm]; rfl, fun _ => ⟨hocc, ?_, ?_⟩,
        fun h => absurd hk h⟩
      · have hmtl : m.tl t = { r.tl t with auth := (m.tl t).auth } := hready.port
        rw [hb]
        have hsx : (m.tl t).xfer = (s.tl t).xfer := by rw [hmtl, hrtl]
        split <;> exact hsx
      · rw [hb, ← hok]
        split
        · exact ⟨upd_get_self m.transfers t fun _ => _, by rw [hmqueue], hmwaiters⟩
        · exact ⟨upd_get_self m.transfers t fun _ => _, hmqueue, by rw [hmwaiters]⟩
    · obtain ⟨k, hk'⟩ : ∃ k, s.carried t = some k := by
        cases hx' : s.carried t with
        | none => exact absurd (Or.inr ⟨hk, hx'⟩) h4
        | some k => exact ⟨k, rfl⟩
      obtain ⟨hstage, b1, b2, b3, b4⟩ := State.firstStage_place (m := m) (t := t) (n := n.toNat) (k := k)
      have hjack : m.params = s.params := by rw [hmonly, honly]
      rw [hjack] at b1
      have hplace : r.xferTelescope t x .place = some k := hcarried.trans hk'
      refine ⟨_, k, hstage, by rw [if_neg hk, State.transferAccepted_eq hplace, ← hm]; rfl, fun h => absurd h hk,
        fun _ => ⟨hk', b4, ?_, b2.trans hmqueue, b3.trans hmwaiters⟩⟩
      rw [b1]
      exact upd_get_self m.transfers t fun _ => _

end Sys2Proof.Machine

/-! PROOFS. Detector readings (R18 to R25). -/

namespace Sys2Proof.Machine

/-! ## Detections set -/

/-- A section whose detection becomes d at time c, stamped if that is a change (R23). -/
def Section.timed (x : Section) (d : Detection) (c : Clock) : Section :=
  { x with det := d, capture := if d = x.det then x.capture else c }

theorem State.detOf_some {s : State} {n : Nat} {x : Section} (h : s.sec? n = some x) : s.detOf n = x.det := by
  rw [State.detOf, h]
  rfl

theorem State.setDet_spec {s : State} {n : Nat} {x : Section} (hx : s.sec? n = some x) (d : Detection) :
    (s.setDet n d).1 = { s with sections := (s.setDet n d).1.sections } ∧
    (∀ m, (s.setDet n d).1.sec? m = if m = n then some (x.timed d s.clock) else s.sec? m) ∧
    (s.setDet n d).2 = if s.detOf n = d then [] else [⟨n, s.detOf n, d⟩] := by
  rw [State.detOf_some hx]
  unfold State.setDet
  simp only [hx]
  by_cases hd : x.det = d
  · simp only [if_pos hd]
    refine ⟨trivial, fun m => ?_, trivial⟩
    split
    · next hm => rw [hm, hx, Section.timed, if_pos hd.symm, ← hd]
    · rfl
  · simp only [if_neg hd]
    refine ⟨rfl, fun m => ?_, trivial⟩
    split
    · next hm =>
      rw [hm, Section.timed, if_neg (Ne.symm hd)]
      exact (Table.find_adjust_self ..).trans (congrArg (Option.map _) hx)
    · next hm => exact Table.find_adjust_ne _ _ hm

/-- Several detections applied to different sections: each is set, and the changes are those of the state before. -/
theorem State.applyDets_spec : ∀ (ns : List (Nat × Detection)) (s : State), (ns.map (·.1)).Nodup →
    (∀ p ∈ ns, (s.sec? p.1).isSome) →
    (s.applyDets ns).1 = { s with sections := (s.applyDets ns).1.sections } ∧
    (∀ p ∈ ns, (s.applyDets ns).1.sec? p.1 = (s.sec? p.1).map fun x => x.timed p.2 s.clock) ∧
    (∀ n, n ∉ ns.map (·.1) → (s.applyDets ns).1.sec? n = s.sec? n) ∧
    (s.applyDets ns).2 = ns.filterMap fun p => if s.detOf p.1 = p.2 then none else some ⟨p.1, s.detOf p.1, p.2⟩
  | [], s, _, _ => ⟨rfl, fun _ h => absurd h List.not_mem_nil, fun _ _ => rfl, rfl⟩
  | (n, d) :: ns, s, hnd, hdef => by
    rw [List.map_cons, List.nodup_cons] at hnd
    obtain ⟨hn, hnd⟩ := hnd
    obtain ⟨x, hx⟩ := Option.isSome_iff_exists.mp (hdef (n, d) (List.mem_cons_self ..))
    obtain ⟨honly, hsec, hchange⟩ := State.setDet_spec hx d
    have happly : s.applyDets ((n, d) :: ns) =
        (((s.setDet n d).1.applyDets ns).1, (s.setDet n d).2 ++ ((s.setDet n d).1.applyDets ns).2) := rfl
    generalize (s.setDet n d).1 = m at honly hsec happly
    have hother : ∀ p ∈ ns, m.sec? p.1 = s.sec? p.1 := fun p hp => by
      have hne : p.1 ≠ n := fun h => hn (List.mem_map.mpr ⟨p, hp, h⟩)
      rw [hsec]
      exact if_neg hne
    obtain ⟨ionly, iset, ikept, ichange⟩ := State.applyDets_spec ns m hnd fun p hp => by
      rw [hother p hp]
      exact hdef p (List.mem_cons_of_mem _ hp)
    have hclock : m.clock = s.clock := by rw [honly]
    rw [happly]
    refine ⟨?_, fun p hp => ?_, fun k hk => ?_, ?_⟩
    · dsimp only
      rw [ionly, honly]
    · rcases List.mem_cons.mp hp with rfl | hp
      · dsimp only
        rw [ikept n hn, hsec, if_pos rfl, hx]
        rfl
      · dsimp only
        rw [iset p hp, hother p hp, hclock]
    · rw [List.map_cons, List.mem_cons, not_or] at hk
      dsimp only
      rw [ikept k hk.2, hsec, if_neg hk.1]
    · dsimp only
      rw [ichange, hchange, List.filterMap_cons]
      have hrest : (ns.filterMap fun p => if m.detOf p.1 = p.2 then none else some (DetChange.mk p.1 (m.detOf p.1) p.2)) =
          ns.filterMap fun p => if s.detOf p.1 = p.2 then none else some ⟨p.1, s.detOf p.1, p.2⟩ :=
        List.filterMap_congr fun p hp => by
          have hdet : m.detOf p.1 = s.detOf p.1 := by rw [State.detOf, hother p hp]; rfl
          rw [hdet]
      rw [hrest]
      dsimp only
      split <;> rfl

/-! ## The sections of a unit (R7) -/

theorem State.mem_sectionsOf {s : State} (hwf : Table.wf s.sections = true) {a i n : Nat} :
    (i, n) ∈ s.sectionsOf a ↔ i < 4 ∧ ∃ x, s.sec? n = some x ∧ x.defn.detAddr = a ∧ x.defn.detSlot = i := by
  simp only [State.sectionsOf, List.mem_flatMap, List.mem_range, List.mem_map, List.mem_filter, decide_eq_true_eq,
    Prod.exists, Prod.mk.injEq]
  constructor
  · rintro ⟨j, hj, k, x, ⟨hmem, ha, hs⟩, rfl, rfl⟩
    exact ⟨hj, x, Table.find_of_mem hwf hmem, ha, hs⟩
  · rintro ⟨hi, x, hx, ha, hs⟩
    exact ⟨i, hi, n, x, ⟨Table.mem_of_find hx, ha, hs⟩, rfl, rfl⟩

/-- No section stands twice. -/
theorem State.sectionsOf_nodup {s : State} (hwf : Table.wf s.sections = true) (a : Nat) :
    ((s.sectionsOf a).map (·.2)).Nodup := by
  rw [State.sectionsOf, List.map_flatMap, List.nodup_flatMap]
  refine ⟨fun i _ => ?_, List.nodup_range.imp fun {i j} hij => ?_⟩
  · rw [List.map_map]
    exact ((List.filter_sublist (l := s.sections)).map Prod.fst).nodup (Table.keys_nodup hwf)
  · rw [Function.onFun, List.disjoint_left]
    intro n hi hj
    simp only [List.map_map, List.mem_map, List.mem_filter, decide_eq_true_eq, Function.comp_apply, Prod.exists] at hi hj
    obtain ⟨k, x, ⟨hx, -, hsx⟩, rfl⟩ := hi
    obtain ⟨k', y, ⟨hy, -, hsy⟩, hk⟩ := hj
    rw [Table.mem_unique hwf (hk ▸ hy) hx] at hsx
    exact hij (hsx.symm.trans hsy)

/-- New detections, given by g, for the sections of a unit. -/
def State.newDets (s : State) (a : Nat) (g : Nat × Nat → Detection) : List (Nat × Detection) :=
  (s.sectionsOf a).map fun p => (p.2, g p)

/-- The detections of a unit's sections applied. -/
theorem State.applyNewDets_spec {s : State} (hwf : Table.wf s.sections = true) (a : Nat) (g : Nat × Nat → Detection) :
    (s.applyDets (s.newDets a g)).1 = { s with sections := (s.applyDets (s.newDets a g)).1.sections } ∧
    (∀ n x, s.sec? n = some x → x.defn.detAddr = a → x.defn.detSlot < 4 →
      (s.applyDets (s.newDets a g)).1.sec? n = some (x.timed (g (x.defn.detSlot, n)) s.clock)) ∧
    (∀ n, (∀ x, s.sec? n = some x → x.defn.detAddr ≠ a ∨ 4 ≤ x.defn.detSlot) →
      (s.applyDets (s.newDets a g)).1.sec? n = s.sec? n) ∧
    (s.applyDets (s.newDets a g)).2 = (s.sectionsOf a).filterMap fun p =>
      if s.detOf p.2 = g p then none else some ⟨p.2, s.detOf p.2, g p⟩ := by
  have hmap : (s.newDets a g).map (·.1) = (s.sectionsOf a).map (·.2) := by rw [State.newDets, List.map_map]; rfl
  obtain ⟨honly, hset, hkept, hchange⟩ := State.applyDets_spec (s.newDets a g) s (by rw [hmap]; exact s.sectionsOf_nodup hwf a)
    fun p hp => by
      obtain ⟨⟨i, n⟩, hq, rfl⟩ := List.mem_map.mp hp
      obtain ⟨-, x, hx, -⟩ := (State.mem_sectionsOf hwf).mp hq
      exact Option.isSome_iff_exists.mpr ⟨x, hx⟩
  refine ⟨honly, fun n x hx ha hs => ?_, fun n hno => hkept n ?_, ?_⟩
  · have hmem : (n, g (x.defn.detSlot, n)) ∈ s.newDets a g :=
      List.mem_map.mpr ⟨(x.defn.detSlot, n), (State.mem_sectionsOf hwf).mpr ⟨hs, x, hx, ha, rfl⟩, rfl⟩
    have h := hset _ hmem
    dsimp only at h
    rw [h, hx]
    rfl
  · rw [hmap]
    intro hmem
    obtain ⟨⟨i, k⟩, hq, rfl⟩ := List.mem_map.mp hmem
    obtain ⟨hi, x, hx, ha, hs⟩ := (State.mem_sectionsOf hwf).mp hq
    rcases hno x hx with h | h
    · exact h ha
    · exact absurd hi (by omega)
  · rw [hchange, State.newDets, List.filterMap_map]
    rfl

/-- What is handed on are the changes of the unit's sections. -/
theorem State.newDets_changes {s w : State} {a : Nat} {g : Nat × Nat → Detection} {cs : List DetChange}
    (hcs : cs = (s.sectionsOf a).filterMap fun p => if s.detOf p.2 = g p then none else some ⟨p.2, s.detOf p.2, g p⟩)
    (hw : ∀ p ∈ s.sectionsOf a, w.detOf p.2 = g p) :
    cs.map (fun c => (c.sec, c.after)) = (s.sectionsOf a).filterMap fun p =>
      if w.detOf p.2 = s.detOf p.2 then none else some (p.2, w.detOf p.2) := by
  rw [hcs, List.map_filterMap]
  refine List.filterMap_congr fun p hp => ?_
  rw [hw p hp]
  by_cases h : s.detOf p.2 = g p
  · rw [if_pos h, if_pos h.symm]
    rfl
  · rw [if_neg h, if_neg (Ne.symm h)]
    rfl

/-! ## The notices of a detector reply (R20, R24) -/

/-- The notices a change of detection calls for. -/
def State.detNotices (s : State) (c : DetChange) : List NoticeBody :=
  if c.after = .disturbed then [.sectionDisturbed c.sec c.before]
  else if c.after = .occupied ∧ (s.sec? c.sec).bind (·.hold) = none ∧ s.site = .running then
    [.unexpectedOccupancy c.sec c.before]
  else []

theorem State.postDetection_eq (s : State) (c : DetChange) : s.postDetection c = (s.detNotices c).foldl State.post s := by
  unfold State.postDetection State.detNotices
  split
  · rfl
  · split <;> rfl

theorem State.postDetections_eq : ∀ (cs : List DetChange) (s : State),
    cs.foldl State.postDetection s = (cs.flatMap s.detNotices).foldl State.post s
  | [], _ => rfl
  | c :: cs, s => by
    have honly := State.postAll_only (s.detNotices c) s
    have hsame : (s.postDetection c).detNotices = s.detNotices := by
      rw [State.postDetection_eq, honly]
      rfl
    rw [List.foldl_cons, State.postDetections_eq cs, hsame, List.flatMap_cons, List.foldl_append, State.postDetection_eq]

theorem State.detNotices_length (s : State) (c : DetChange) : (s.detNotices c).length ≤ 1 := by
  unfold State.detNotices
  split
  · exact le_rfl
  · split
    · exact le_rfl
    · exact Nat.zero_le _

theorem List.length_flatMap_le {α β : Type} {f : α → List β} (h : ∀ a, (f a).length ≤ 1) : ∀ l : List α,
    (l.flatMap f).length ≤ l.length
  | [] => le_rfl
  | a :: l => by
    have h1 := List.length_flatMap_le h l
    have h2 := h a
    rw [List.flatMap_cons, List.length_append, List.length_cons]
    omega

end Sys2Proof.Machine

/-! PROOFS. The good reply of a DETECTOR unit (R18 to R25). -/

namespace Sys2Proof.Machine

/-- The detection each of a unit's sections takes from the readings. -/
def State.readDet (s : State) (rs : List Nat) (p : Nat × Nat) : Detection :=
  Detection.read (s.detOf p.2) (((rs.map detReading)[p.1]?).getD .disturbed)

theorem State.detectorReply_eq (s : State) (a : Nat) (rs : List Nat) :
    s.detectorReply a (rs.map detReading) =
      ((s.applyDets (s.newDets a (s.readDet rs))).2.foldl State.handDetection
        (((s.applyDets (s.newDets a (s.readDet rs))).2.flatMap
          (s.applyDets (s.newDets a (s.readDet rs))).1.detNotices).foldl State.post
            (s.applyDets (s.newDets a (s.readDet rs))).1)) := by
  rw [← State.postDetections_eq]
  rfl

theorem State.readDet_of {s : State} {rs : List Nat} {n r : Nat} {x : Section} (hx : s.sec? n = some x)
    (hr : rs[x.defn.detSlot]? = some r) : s.readDet rs (x.defn.detSlot, n) =
      if x.det = .disturbed then .disturbed else if r = 0 then .clear else if r = 1 then .occupied else .disturbed := by
  have hget : (rs.map detReading)[x.defn.detSlot]? = some (detReading r) := by rw [List.getElem?_map, hr]; rfl
  rw [State.readDet, State.detOf_some hx, hget]
  rfl

/-- The Route Interlock changes no more of a section than its hold. -/
theorem State.sec_of_ground {s t : State} (h : t.ground = s.ground) {n : Nat} {x : Section} (hx : s.sec? n = some x) :
    ∃ y, t.sec? n = some { x with hold := y } := by
  have hg := State.ground_sec h n
  rw [hx] at hg
  cases hy : t.sec? n with
  | none => rw [hy] at hg; exact nomatch hg
  | some y =>
    rw [hy, Option.map_some, Option.map_some, Option.some.injEq, Prod.mk.injEq, Prod.mk.injEq] at hg
    obtain ⟨h1, h2, h3⟩ := hg
    exact ⟨y.hold, by rw [← h1, ← h2, ← h3]⟩

/-- A unit's record is marked in SURVEY. -/
theorem State.unit_settled {y : State} {a : Nat} {v : UnitRec} (hwf : Table.wf y.units = true) (hv : y.unit? a = some v) :
    (y.markSurveyed a).chooseNext.unit? a = some { v with surveyed := v.surveyed || decide (y.site = .survey) } := by
  obtain ⟨hout, hin⟩ := State.markSurveyed_spec hwf hv
  have hunits : (y.markSurveyed a).chooseNext.units = (y.markSurveyed a).units := by
    rw [(y.markSurveyed a).chooseNext_frame]
  rw [State.unit?, hunits]
  by_cases hs : y.site = .survey
  · rw [decide_eq_true hs, Bool.or_true]
    exact (hin hs).1
  · rw [hout hs, decide_eq_false hs, Bool.or_false]
    exact hv

/-- Where the units' keys are as in a canonical table, the table is canonical. -/
theorem Table.wf_of_keys {α β : Type} {t : Table α} {u : Table β} (h : Table.keys u = Table.keys t) (hwf : Table.wf t = true) :
    Table.wf u = true := by
  rw [Table.wf_iff] at hwf ⊢
  rw [h]
  exact hwf

/-- Settles O50: the unit is heard, the detections applied (applyNewDets_spec) and told (postDetections_eq), and the changes
handed on by handAll_allHandedOn. -/
theorem detectorReading : Obligations.DetectorReading := by
  intro s a gap r0 r1 r2 r3 v hreply hv hwf
  obtain ⟨h, hheard, hexec⟩ := hreply.typed hv
  have hhonly := hheard.only
  have hhsec : ∀ n, h.sec? n = s.sec? n := fun n => by rw [hhonly]; rfl
  have hhwf : Table.wf h.sections = true := by rw [hhonly]; exact hwf.1
  have hhof : h.sectionsOf a = s.sectionsOf a := by rw [hhonly]; rfl
  have hhdet : ∀ n, h.detOf n = s.detOf n := fun n => by rw [State.detOf, hhsec]; rfl
  have hhsite : h.site = s.site := by rw [hhonly]
  have hhclock : h.clock = s.clock := by rw [hhonly]
  obtain ⟨rs, hrs⟩ : ∃ rs, rs = [r0, r1, r2, r3] := ⟨_, rfl⟩
  obtain ⟨zonly, zset, zkept, zchange⟩ := State.applyNewDets_spec hhwf a (h.readDet rs)
  have hdeliver := h.detectorReply_eq a rs
  obtain ⟨z, hz⟩ : ∃ z, z = (h.applyDets (h.newDets a (h.readDet rs))).1 := ⟨_, rfl⟩
  obtain ⟨cs, hcs⟩ : ∃ cs, cs = (h.applyDets (h.newDets a (h.readDet rs))).2 := ⟨_, rfl⟩
  rw [← hz] at zonly zset zkept hdeliver
  rw [← hcs] at zchange hdeliver
  have wonly := State.postAll_only (cs.flatMap z.detNotices) z
  have wtold := State.postAll_told (cs.flatMap z.detNotices) z
  generalize (cs.flatMap z.detNotices).foldl State.post z = w at wonly wtold hdeliver
  have hwz : ∀ n, w.sec? n = z.sec? n := fun n => by rw [wonly]; rfl
  have hclock : w.clock = s.clock := by rw [wonly, zonly, hhclock]
  have hground := State.handAll_ground cs w
  have hhanded := State.handAll_allHandedOn cs (s := w) (by rw [wonly, zonly, hhonly]; exact hwf.2.1)
  have hspeaks := State.handAll_speaks cs w
  have hdel : h.deliver a .detector [r0, r1, r2, r3] = cs.foldl State.handDetection w := by
    rw [← hdeliver, hrs]
    rfl
  rw [hdel] at hexec
  generalize cs.foldl State.handDetection w = y at hground hhanded hspeaks hexec
  have hsettled := y.settled a
  have hunit := hheard.unit
  rw [hv] at hunit
  have hyunits : y.units = h.units := by rw [State.ground_units hground, wonly, zonly]
  have hysite : y.site = s.site := by rw [State.ground_site hground, wonly, zonly, hhsite]
  have hyunit := State.unit_settled (y := y) (a := a) (v := _)
    (by rw [hyunits]; exact Table.wf_of_keys hheard.keys hwf.2.2.2.1) (by rw [State.unit?, hyunits]; exact hunit)
  rw [hysite] at hyunit
  generalize hu : (y.markSurveyed a).chooseNext = u at hexec hsettled hyunit
  have huonly := hsettled.only
  have htold : s.Told w ((if v.st = .restoring then [.unitBack a .detector] else []) ++ cs.flatMap z.detNotices) := by
    have hback := hheard.told
    rw [hv] at hback
    have hwtold : h.Told w (cs.flatMap z.detNotices) := fun k => by
      have h1 : z.opsPort k = h.opsPort k := by rw [zonly]; rfl
      have h2 : z.clock = h.clock := by rw [zonly]
      rw [← h1, ← h2]
      exact wtold k
    exact hback.trans hhclock hwtold
  have hmem : ∀ (k : OpsId) (b : NoticeBody), (s.opsPort k).notices.length + (s.sectionsOf a).length < 32 →
      b ∈ cs.flatMap z.detNotices → (⟨s.clock, b⟩ : Notice) ∈ (u.opsPort k).notices := fun k b hk hb => by
    refine htold.mem (hspeaks.trans hsettled.speaks) (List.mem_append_right _ hb) ?_
    have h1 := List.length_flatMap_le z.detNotices_length cs
    have h2 : cs.length ≤ (s.sectionsOf a).length := by
      rw [zchange, hhof]
      exact List.length_filterMap_le ..
    have h3 : (if v.st = .restoring then [NoticeBody.unitBack a .detector] else []).length ≤ 1 := by split <;> simp
    rw [List.length_append]
    omega
  have hset : ∀ n x r, s.sec? n = some x → x.defn.detAddr = a → rs[x.defn.detSlot]? = some r →
      h.readDet rs (x.defn.detSlot, n) =
        (if x.det = .disturbed then .disturbed else if r = 0 then .clear else if r = 1 then .occupied else .disturbed) ∧
      z.sec? n = some (x.timed (h.readDet rs (x.defn.detSlot, n)) s.clock) ∧ (x.defn.detSlot, n) ∈ s.sectionsOf a := by
    intro n x r hx ha hr
    have hlt : x.defn.detSlot < 4 := by
      obtain ⟨hlt, -⟩ := List.getElem?_eq_some_iff.mp hr
      rw [hrs] at hlt
      exact hlt
    refine ⟨State.readDet_of ((hhsec n).trans hx) hr, ?_, (State.mem_sectionsOf hwf.1).mpr ⟨hlt, x, hx, ha, rfl⟩⟩
    rw [← hhclock]
    exact zset n x ((hhsec n).trans hx) ha hlt
  have hkept : ∀ n x, s.sec? n = some x → x.defn.detAddr ≠ a ∨ 4 ≤ x.defn.detSlot → z.sec? n = some x := by
    intro n x hx hno
    rw [zkept n fun x' hx' => Option.some.inj (((hhsec n).symm.trans hx').symm.trans hx) ▸ hno, hhsec, hx]
  have husec : ∀ n x, z.sec? n = some x → ∃ hold, u.sec? n = some { x with hold := hold } := fun n x hx => by
    obtain ⟨hold, hy⟩ := State.sec_of_ground hground ((hwz n).trans hx)
    refine ⟨hold, ?_⟩
    rw [← hy, huonly]
    rfl
  have hfixed : ∀ n, (z.sec? n).map (fun z => (z.defn, z.hold)) = (s.sec? n).map fun z => (z.defn, z.hold) := fun n => by
    rw [← hhsec]
    by_cases hserved : ∃ x, h.sec? n = some x ∧ x.defn.detAddr = a ∧ x.defn.detSlot < 4
    · obtain ⟨x, hx, ha, hlt⟩ := hserved
      rw [zset n x hx ha hlt, hx]
      rfl
    · rw [zkept n fun x hx => ?_]
      by_contra hboth
      rw [not_or, not_not, Nat.not_le] at hboth
      exact hserved ⟨x, hx, hboth⟩
  have hzhold : ∀ n, (z.sec? n).bind (·.hold) = (s.sec? n).bind (·.hold) := fun n => by
    have hf := congrArg (fun o : Option (SectionDef × Option Hold) => o.bind (·.2)) (hfixed n)
    rw [Option.bind_map, Option.bind_map] at hf
    exact hf
  have hchanges : cs.map (fun c => (c.sec, c.after)) = (s.sectionsOf a).filterMap fun p =>
      if w.detOf p.2 = s.detOf p.2 then none else some (p.2, w.detOf p.2) := by
    have hall := State.newDets_changes (s := h) (w := w) zchange fun p hp => by
      obtain ⟨hi, x, hx, ha, hs⟩ := (State.mem_sectionsOf hhwf).mp hp
      rw [State.detOf_some ((hwz p.2).trans (zset p.2 x hx ha (hs ▸ hi))), hs]
      rfl
    rw [hall, hhof]
    simp only [hhdet]
  have hnotices : cs.flatMap z.detNotices = ((s.sectionsOf a).filterMap fun p =>
      if w.detOf p.2 = s.detOf p.2 then none else some (p.2, w.detOf p.2)).flatMap fun c =>
        if c.2 = .disturbed then [.sectionDisturbed c.1 (s.detOf c.1)]
        else if c.2 = .occupied ∧ (s.sec? c.1).bind (·.hold) = none ∧ s.site = .running then
          [.unexpectedOccupancy c.1 (s.detOf c.1)]
        else [] := by
    rw [← hchanges, List.flatMap_map]
    refine List.flatMap_congr fun c hc => ?_
    have hbefore : c.before = s.detOf c.sec := by
      rw [zchange] at hc
      obtain ⟨p, -, hp⟩ := List.mem_filterMap.mp hc
      split at hp
      · exact nomatch hp
      · rw [← Option.some.inj hp, ← hhdet]
    have hzsite : z.site = s.site := by rw [zonly, hhsite]
    rw [State.detNotices, hbefore, hzhold, hzsite]
  refine ⟨u, hexec, hyunit, fun hr => ?_, fun hr k hk => ?_, fun n x hx => ⟨fun hno => ?_, ?_⟩, w, y, ?_,
    fun b hb => ?_, ?_, fun n => ?_, fun n x hx => ⟨fun hno => ?_, fun r ha hr => ?_⟩, ?_, hu.symm⟩
  · have hlist : u.restoreList = s.restoreList.filter fun b => decide (b ≠ a) := by
      have h1 : u.restoreList = y.restoreList := by rw [huonly]
      rw [h1, State.ground_restoreList hground, wonly, zonly, hhonly]
      exact if_pos hr
    rw [hlist]
    exact fun hmem => by simpa using (List.mem_filter.mp hmem).2
  · have hback := hheard.told
    rw [hv, if_pos hr] at hback
    have hrest : h.Speaks u := by
      have hhw : h.Speaks w := by
        refine ⟨by rw [wonly, zonly], cs.flatMap z.detNotices, fun j => ?_⟩
        have h1 : z.opsPort j = h.opsPort j := by rw [zonly]; rfl
        have h2 : z.clock = h.clock := by rw [zonly]
        rw [← h1, ← h2]
        exact wtold j
      exact (hhw.trans hspeaks).trans hsettled.speaks
    exact State.Told.mem hback hrest (List.mem_singleton_self _) hk
  · exact husec n x (hkept n x hx hno)
  · intro i r ha hi hr
    subst hi
    rw [← hrs] at hr
    obtain ⟨hdet, hzsec, hmemof⟩ := hset n x r hx ha hr
    dsimp only
    rw [← hdet]
    refine ⟨husec n _ hzsec, fun k hk => ?_⟩
    have hin : x.det ≠ h.readDet rs (x.defn.detSlot, n) →
        (⟨n, x.det, h.readDet rs (x.defn.detSlot, n)⟩ : DetChange) ∈ cs := fun hne => by
      rw [zchange, hhof]
      refine List.mem_filterMap.mpr ⟨(x.defn.detSlot, n), hmemof, ?_⟩
      rw [State.detOf_some ((hhsec n).trans hx)]
      exact if_neg hne
    refine ⟨fun hne hd => ?_, fun hne hd hhold hrun => ?_⟩
    · refine hmem k _ hk (List.mem_flatMap.mpr ⟨_, hin (by rw [hd]; exact hne), ?_⟩)
      rw [State.detNotices, if_pos hd]
      exact List.mem_singleton_self _
    · refine hmem k _ hk (List.mem_flatMap.mpr ⟨_, hin (by rw [hd]; exact hne), ?_⟩)
      have hzhold : (z.sec? n).bind (·.hold) = none := by
        rw [hzsec]
        exact hhold
      have hzrun : z.site = .running := by rw [zonly, hhsite]; exact hrun
      rw [State.detNotices, if_neg (by rw [hd]; exact Detection.noConfusion), if_pos ⟨hd, hzhold, hzrun⟩]
      exact List.mem_singleton_self _
  · have h1 : w.units = h.units := by rw [wonly, zonly]
    have h2 : w.sections = z.sections := by rw [wonly]
    rw [h1, h2, wonly, zonly, hhonly]
  · have h1 : w.unit? b = h.unit? b := by rw [wonly, zonly]; rfl
    rw [h1]
    exact hheard.units b hb
  · rw [← hnotices]
    exact htold
  · rw [hwz]
    exact hfixed n
  · rw [State.detOf_some ((hwz n).trans (hkept n x hx hno))]
  · obtain ⟨hdet, hzsec, -⟩ := hset n x r hx ha (by rw [hrs]; exact hr)
    rw [State.detOf_some ((hwz n).trans hzsec), ← hdet]
    rfl
  · rw [← hchanges]
    exact hhanded

end Sys2Proof.Machine

/-! PROOFS. Misses, and the silence of a unit (R159, R161): handed on by the unit's type, its commands discarded. -/

namespace Sys2Proof.Machine

/-! ## What follows a silence keeps -/

/-- Between s and u the Route Interlock acted and commands were offered: a point that was faulted stays as it is, and so do
detections and the readings of pads. -/
structure State.AfterSilence (s u : State) : Prop where
  only : u = { s with
    sections := u.sections, points := u.points, trs := u.trs, routes := u.routes, tls := u.tls, ceilings := u.ceilings
    waiting := u.waiting, walkDue := u.walkDue, opss := u.opss, cmdQueue := u.cmdQueue, padWaiters := u.padWaiters
    transfers := u.transfers, pads := u.pads }
  speaks : s.Speaks u
  sections : ∀ n, (u.sec? n).map (fun x => (x.det, x.capture)) = (s.sec? n).map fun x => (x.det, x.capture)
  faulted : ∀ p x, s.point? p = some x → x.latch ≠ none → x.pos = .unknown → x.throwCd = none → x.mover = none →
    u.point? p = some x
  pads : ∀ n, (u.pad? n).map (fun x => (x.silent, x.clamp, x.load)) = (s.pad? n).map fun x => (x.silent, x.clamp, x.load)

theorem State.AfterSilence.refl (s : State) : s.AfterSilence s := ⟨rfl, .refl s, fun _ => rfl, fun _ _ h _ _ _ _ => h, fun _ => rfl⟩

theorem State.AfterSilence.trans {s m u : State} (h : s.AfterSilence m) (h' : m.AfterSilence u) : s.AfterSilence u where
  only := by rw [h'.only, h.only]
  speaks := h.speaks.trans h'.speaks
  sections n := (h'.sections n).trans (h.sections n)
  faulted p x hx hl hp hc hm := h'.faulted p x (h.faulted p x hx hl hp hc hm) hl hp hc hm
  pads n := (h'.pads n).trans (h.pads n)

/-- A change of pads that is one of watches keeps their readings. -/
theorem Pad.readings_of_watch {o o' : Option Pad} (h : o'.map (fun p => { p with watch := .none }) =
    o.map fun p => { p with watch := .none }) :
    o'.map (fun x => (x.silent, x.clamp, x.load)) = o.map fun x => (x.silent, x.clamp, x.load) := by
  have hm := congrArg (Option.map fun x : Pad => (x.silent, x.clamp, x.load)) h
  rw [Option.map_map, Option.map_map] at hm
  exact hm

/-- An exit from the queue tells owners of pad commands alone. -/
theorem State.commandExit_afterSilence (s : State) : s.AfterSilence s.commandExit := by
  have honly := s.commandExit_exitFrame.only
  have howners := (State.ChoiceOwners.refl s).commandExit
  generalize s.commandExit = u at honly howners
  refine ⟨by rw [honly], .of_opss (by rw [honly]) (by rw [honly]), fun n => by rw [honly]; rfl,
    fun p x hx hl _ _ _ => howners.latched p x hx hl, fun n => Pad.readings_of_watch (howners.pads n)⟩

/-- Sections whose ground is the same have the same detection. -/
theorem State.timed_of_ground {s u : State} (h : u.ground = s.ground) (n : Nat) :
    (u.sec? n).map (fun x => (x.det, x.capture)) = (s.sec? n).map fun x => (x.det, x.capture) := by
  have hg := congrArg (Option.map fun y : SectionDef × Detection × Clock => y.2) (State.ground_sec h n)
  rw [Option.map_map, Option.map_map] at hg
  exact hg

/-- The silence of a point told to the Route Interlock. -/
theorem State.faultPoint_silenced (s : State) (p : Nat) :
    s.PointSilenced (s.faultPoint p .unitSilent .unknown none) p := by
  refine ⟨fun h => ?_, fun x hx => ?_⟩
  · unfold State.faultPoint
    simp only [h]
  · obtain ⟨m, hm, hpoint, htold, hnew, hold⟩ := State.faultPoint_pointFaulted hx .unitSilent .unknown none
    exact ⟨m, hm, hpoint, htold, fun h => (hnew h).1, hold⟩

theorem State.faultPoint_timed (s : State) (p n : Nat) :
    ((s.faultPoint p .unitSilent .unknown none).sec? n).map (fun x => (x.det, x.capture)) =
      (s.sec? n).map fun x => (x.det, x.capture) := by
  unfold State.faultPoint
  split
  · rfl
  · dsimp only
    split
    · rfl
    · exact State.timed_of_ground (State.obstruct_ground ..) n

theorem State.faultPoint_afterSilence (s : State) (p : Nat) :
    s.AfterSilence (s.faultPoint p .unitSilent .unknown none) := by
  cases hx : s.point? p with
  | none =>
    rw [(s.faultPoint_silenced p).1 hx]
    exact .refl s
  | some x =>
    have hfault := State.faultPoint_pointFaulted hx .unitSilent .unknown none
    have hall := hfault.point
    obtain ⟨m, hm, -, htold, hnew, hold⟩ := hfault
    have hground := s.faultPoint_timed p
    have hframe : m.RouteFrame (s.faultPoint p .unitSilent .unknown none) := by
      by_cases hl : x.latch = none
      · exact (hnew hl).2
      · rw [hold hl]
        exact .refl m
    have hsm : s.Speaks m := ⟨by rw [hm], _, htold⟩
    generalize s.faultPoint p .unitSilent .unknown none = u at *
    have hfonly := hframe.only
    refine ⟨?_, hsm.trans hframe.speaks, fun n => ?_, fun q y hy hl hpos hcd hmv => ?_, fun n => ?_⟩
    · have h1 : u.points = m.points := by rw [hfonly]
      rw [h1, hfonly, hm]
    · exact hground n
    · rw [hall q]
      split
      · next hq =>
        subst hq
        cases hx.symm.trans hy
        obtain ⟨c, hc⟩ := Option.ne_none_iff_exists'.mp hl
        rw [← hpos, ← hcd, ← hmv, hc]
        exact congrArg some (by rw [Option.getD_some, ← hc])
      · exact hy
    · rw [hfonly, hm]
      rfl

/-! ## The commands of a silent unit discarded -/

theorem discardSilent_nil {a : Nat} : ∀ (n : Nat) {s : State}, (∀ c ∈ s.cmdQueue, c.addr ≠ a) → discardSilent a n s = s
  | 0, _, _ => rfl
  | n + 1, s, h => by
    have hnone : s.cmdQueue.find? (fun c => decide (c.addr = a)) = none :=
      List.find?_eq_none.mpr fun c hc => by simpa using h c hc
    unfold discardSilent
    simp only [hnone]

theorem discardSilent_cons {a n : Nat} {s : State} {c : BusCmd}
    (h : s.cmdQueue.find? (fun c => decide (c.addr = a)) = some c) :
    discardSilent a (n + 1) s = discardSilent a n (if c.func.blade.isSome
      then ({ s with cmdQueue := s.cmdQueue.erase c } : State).faultPoint c.entity .unitSilent .unknown none
      else { s with cmdQueue := s.cmdQueue.erase c }).commandExit := by
  conv_lhs => unfold discardSilent
  simp only [h]

theorem State.faultPoint_load (s : State) (p : Nat) : (s.faultPoint p .unitSilent .unknown none).load = s.load := by
  cases hx : s.point? p with
  | none => rw [(s.faultPoint_silenced p).1 hx]
  | some x =>
    obtain ⟨m, hm, -, -, hnew, hold⟩ := State.faultPoint_pointFaulted hx .unitSilent .unknown none
    have hframe : m.RouteFrame (s.faultPoint p .unitSilent .unknown none) := by
      by_cases hl : x.latch = none
      · exact (hnew hl).2
      · rw [hold hl]
        exact .refl m
    rw [hframe.only, hm]
    rfl

/-- The commands of a silent unit, discarded one after another. -/
theorem discardSilent_discarded (a : Nat) : ∀ (n : Nat) (s : State), s.load ≤ n →
    (∃ cs, State.Discarded a cs s (discardSilent a n s)) ∧ s.AfterSilence (discardSilent a n s) ∧
    ∀ c ∈ (discardSilent a n s).cmdQueue, c.addr ≠ a := by
  intro n
  induction n with
  | zero =>
    intro s hn
    have hq : s.cmdQueue = [] := List.eq_nil_of_length_eq_zero (by simp only [State.load] at hn; omega)
    have hnone : ∀ c ∈ s.cmdQueue, c.addr ≠ a := by rw [hq]; exact nofun
    exact ⟨⟨[], rfl, hnone⟩, .refl s, hnone⟩
  | succ n ih =>
    intro s hn
    cases hf : s.cmdQueue.find? (fun c => decide (c.addr = a)) with
    | none =>
      have hnone : ∀ c ∈ s.cmdQueue, c.addr ≠ a := fun c hc => by simpa using List.find?_eq_none.mp hf c hc
      rw [discardSilent_nil _ hnone]
      exact ⟨⟨[], rfl, hnone⟩, .refl s, hnone⟩
    | some c =>
      rw [discardSilent_cons hf]
      have hmem := List.mem_of_find?_eq_some hf
      obtain ⟨e, he⟩ : ∃ e : State, e = { s with cmdQueue := s.cmdQueue.erase c } := ⟨_, rfl⟩
      have hse : s.AfterSilence e := by
        rw [he]
        exact ⟨rfl, .of_opss rfl rfl, fun _ => rfl, fun _ _ h _ _ _ _ => h, fun _ => rfl⟩
      have heload : e.load + 1 = s.load := by
        have := List.length_erase_of_mem hmem
        have := List.length_pos_of_mem hmem
        rw [he]
        simp only [State.load]
        omega
      have hdone : e.AfterSilence (e.faultPoint c.entity .unitSilent .unknown none) := e.faultPoint_afterSilence _
      obtain ⟨m, hm⟩ : ∃ m, m = if c.func.blade.isSome then e.faultPoint c.entity .unitSilent .unknown none else e := ⟨_, rfl⟩
      have hem : e.AfterSilence m ∧ m.load = e.load ∧ (c.func.blade = none → m = e) ∧
          (c.func.blade ≠ none → e.PointSilenced m c.entity) := by
        by_cases hb : c.func.blade.isSome
        · rw [if_pos hb] at hm
          have hne := Option.isSome_iff_ne_none.mp hb
          rw [hm]
          exact ⟨hdone, e.faultPoint_load _, fun h => absurd h hne, fun _ => e.faultPoint_silenced _⟩
        · rw [if_neg hb] at hm
          rw [hm]
          exact ⟨.refl e, rfl, fun _ => rfl, fun h => absurd (Option.isSome_iff_ne_none.mpr h) hb⟩
      rw [← he, ← hm]
      obtain ⟨hafter, hload, hquiet, hthrow⟩ := hem
      have hle := m.commandExit_count
      obtain ⟨⟨cs, hcs⟩, hrest, hgone⟩ := ih m.commandExit (by
        simp only [State.load] at hle hload heload hn ⊢
        omega)
      rw [he] at hquiet hthrow
      exact ⟨⟨c :: cs, hf, m, _, hquiet, hthrow, m.commandExit_spec, hcs⟩,
        ((hse.trans hafter).trans m.commandExit_afterSilence).trans hrest, hgone⟩

/-! ## The silence handed on -/

/-- Between w and h the silence was handed on, the bus left alone. -/
structure State.Handed (w h : State) : Prop where
  units : h.units = w.units
  restore : h.restoreList = w.restoreList
  site : h.site = w.site
  speaks : w.Speaks h

theorem State.Handed.refl (s : State) : s.Handed s := ⟨rfl, rfl, rfl, .refl s⟩

theorem State.Handed.trans {s m u : State} (h : s.Handed m) (h' : m.Handed u) : s.Handed u :=
  ⟨h'.units.trans h.units, h'.restore.trans h.restore, h'.site.trans h.site, h.speaks.trans h'.speaks⟩

theorem State.Handed.of_settings {w h : State} (hs : h.settings = w.settings) (hspeaks : w.Speaks h) : w.Handed h :=
  ⟨State.settings_units hs, State.settings_restoreList hs, State.settings_site hs, hspeaks⟩

theorem State.detectorSilent_handed {w : State} (hwf : Table.wf w.sections = true) (hpt : Table.wf w.points = true)
    (a : Nat) : w.SilenceHanded (w.detectorSilent a) a .detector ∧ w.Handed (w.detectorSilent a) ∧
    ∀ n x, w.sec? n = some x → x.defn.detAddr = a → x.defn.detSlot ≤ 3 →
      ((w.detectorSilent a).sec? n).map (fun z => (z.det, z.capture)) =
        some (.unknown, if x.det = .unknown then x.capture else w.clock) := by
  obtain ⟨honly, hset, hkept, hchange⟩ := State.applyNewDets_spec hwf a fun _ => .unknown
  have hsilent : w.detectorSilent a = (w.applyDets (w.newDets a fun _ => .unknown)).2.foldl State.handDetection
    (w.applyDets (w.newDets a fun _ => .unknown)).1 := rfl
  have hsettings := w.detectorSilent_settings a
  generalize (w.applyDets (w.newDets a fun _ => .unknown)).1 = m at honly hset hkept hsilent
  generalize (w.applyDets (w.newDets a fun _ => .unknown)).2 = cs at hchange hsilent
  have hground := State.handAll_ground cs m
  have hhanded := State.handAll_allHandedOn cs (s := m) (by rw [honly]; exact hpt)
  have hspeaks := State.handAll_speaks cs m
  rw [← hsilent] at hground hhanded hspeaks
  have hof : ∀ p ∈ w.sectionsOf a, m.detOf p.2 = .unknown := fun p hp => by
    obtain ⟨hi, x, hx, ha, hs⟩ := (State.mem_sectionsOf hwf).mp hp
    rw [State.detOf_some (hset p.2 x hx ha (hs ▸ hi))]
    rfl
  have hchanges := State.newDets_changes hchange hof
  have htimed : ∀ x : Section, x.timed .unknown w.clock =
      { x with det := .unknown, capture := if x.det = .unknown then x.capture else w.clock } := fun x => by
    rw [Section.timed]
    simp only [eq_comm]
  refine ⟨⟨m, honly, fun n => ?_, ?_⟩, .of_settings hsettings ((State.Speaks.of_opss (by rw [honly]) (by rw [honly])).trans hspeaks),
    fun n x hx ha hs => ?_⟩
  · cases hx : w.sec? n with
    | none => rw [hkept n (fun x h => nomatch hx.symm.trans h), hx]; rfl
    | some x =>
      rw [Option.map_some]
      split
      · next hserved => rw [hset n x hx hserved.1 (Nat.lt_succ_of_le hserved.2), htimed]
      · next hno =>
        rw [hkept n fun y hy => ?_, hx]
        cases hx.symm.trans hy
        omega
  · have hlist : (w.sectionsOf a).filterMap (fun p => if w.detOf p.2 = .unknown then none else some (p.2, .unknown)) =
        cs.map fun c => (c.sec, c.after) := by
      rw [hchanges]
      refine List.filterMap_congr fun p hp => ?_
      rw [hof p hp]
      simp only [eq_comm]
    rw [hlist]
    exact hhanded
  · rw [State.timed_of_ground hground, hset n x hx ha (Nat.lt_succ_of_le hs), htimed]
    rfl

theorem State.pointSilent_handed {w : State} (hwf : Table.wf w.points = true) (a : Nat) :
    w.SilenceHanded (w.pointSilent a) a .point ∧ w.Handed (w.pointSilent a) ∧
    ∀ p x, w.pointAt a = some (p, x) →
      w.PointFaulted (w.pointSilent a) p x .unitSilent .unknown none := by
  unfold State.pointSilent
  cases hat : w.pointAt a with
  | none => exact ⟨⟨fun _ => rfl, fun _ _ h => nomatch hat.symm.trans h⟩, .refl w, fun _ _ h => nomatch h⟩
  | some px =>
    obtain ⟨p, x⟩ := px
    dsimp only
    refine ⟨⟨fun h => (nomatch hat.symm.trans h), fun q y hq => ?_⟩, ?_, fun q y hq => ?_⟩
    · cases hat.symm.trans hq
      exact w.faultPoint_silenced p
    · exact .of_settings (w.faultPoint_settings ..) (w.faultPoint_afterSilence p).speaks
    · cases Option.some.inj hq
      exact State.faultPoint_pointFaulted (State.point_of_pointAt hwf hat) ..

/-- A transporter parked out of its transfer: the frame. -/
theorem State.parkFromTransfer_routeFrame (m : State) (t : TId) : m.RouteFrame (m.parkFromTransfer t) := by
  obtain ⟨y, -, hframe, -, -, heq⟩ := m.parkFromTransfer_eq t
  rw [heq]
  split
  · exact hframe.frame
  · exact (hframe.trans (y.formAuth_ownFrame t)).frame

/-- A transfer aborted: pads keep their readings, and the bus is left alone. -/
theorem State.abort_handed (s : State) (t : TId) :
    s.Handed (s.abort t .unitSilent) ∧ ∀ q, ((s.abort t .unitSilent).pad? q).map (fun p => (p.silent, p.clamp, p.load)) =
      (s.pad? q).map fun p => (p.silent, p.clamp, p.load) := by
  cases hx : s.transfers[t] with
  | none =>
    have hsame : s.abort t .unitSilent = s := by
      unfold State.abort
      simp only [hx]
    rw [hsame]
    exact ⟨.refl s, fun _ => rfl⟩
  | some x =>
    have hend := s.abortEnd t x .unitSilent
    have hframe : ((s.preEnd t x .unitSilent).endAborted t x .unitSilent).RouteFrame (s.abort t .unitSilent) := by
      cases hm : x.loadMoving with
      | true =>
        rw [State.abort_moving hx hm]
        exact (State.enterTripped_trippedBy ..).routeFrame
      | false =>
        rw [State.abort_clean_park hx hm rfl]
        exact State.parkFromTransfer_routeFrame ..
    have hsettings := State.settings_of_ground (s.abort_ground t .unitSilent)
    generalize (s.preEnd t x .unitSilent).endAborted t x .unitSilent = m at hend hframe
    generalize s.abort t .unitSilent = u at hframe hsettings
    have hspeaks : s.Speaks m := ⟨by rw [hend.only], _, hend.told⟩
    refine ⟨.of_settings hsettings (hspeaks.trans hframe.speaks), fun q => ?_⟩
    rw [← hend.readings q, hframe.only]
    rfl

/-- The pad of a silent unit, before its transfer is aborted. -/
theorem State.padSilenced_spec {w : State} {n : Nat} {x : Pad} (hx : w.pad? n = some x) :
    let m := (w.modPad n fun p => { p with silent := true, clamp := .unknown, load := .unknown }).failWatch n
    m = { w with pads := m.pads, padWaiters := m.padWaiters, opss := m.opss } ∧
    m.pad? n = some { x with silent := true, clamp := .unknown, load := .unknown, watch := .none } ∧
    (∀ q, q ≠ n → m.pad? q = w.pad? q) ∧
    m.padWaiters = (if x.watch = .none then w.padWaiters else w.padWaiters.filter fun r => decide (r ≠ .watch n)) ∧
    w.Told m (if x.watch = .none then [] else [.clampFailed n .unknown (w.telescopeOnPad n)]) := by
  obtain ⟨z, hz⟩ : ∃ z, z = w.modPad n fun p => { p with silent := true, clamp := .unknown, load := .unknown } := ⟨_, rfl⟩
  have hzonly : z = { w with pads := z.pads } := by rw [hz]; rfl
  have hself : z.pad? n = some { x with silent := true, clamp := .unknown, load := .unknown } := hz ▸ State.pad_modPad_self hx _
  have hne : ∀ q, q ≠ n → z.pad? q = w.pad? q := fun q hq => hz ▸ State.pad_modPad_ne _ hq _
  rw [← hz]
  dsimp only
  by_cases hwatch : x.watch = .none
  · rw [State.failWatch_idle fun y hy => by cases hself.symm.trans hy; exact hwatch, if_pos hwatch, if_pos hwatch, hself, hwatch]
    exact ⟨by rw [hzonly], rfl, hne, by rw [hzonly], State.told_nil (by rw [hzonly])⟩
  · obtain ⟨honly, hpads, htold⟩ := State.failWatch_spec hself hwatch
    generalize z.failWatch n = m at honly hpads htold
    rw [if_neg hwatch, if_neg hwatch]
    refine ⟨by rw [honly, hzonly], by rw [hpads, if_pos rfl], fun q hq => by rw [hpads, if_neg hq, hne q hq],
      by rw [honly, hzonly], ?_⟩
    have htel : z.telescopeOnPad n = w.telescopeOnPad n := by rw [hzonly]; rfl
    have hops : ∀ k, z.opsPort k = w.opsPort k := fun k => by rw [hzonly]; rfl
    have hclock : z.clock = w.clock := by rw [hzonly]
    intro k
    have h := htold k
    rw [htel, hops, hclock] at h
    exact h

theorem State.padSilent_handed {w : State} (hwf : Table.wf w.pads = true) (a : Nat) :
    w.SilenceHanded (w.padSilent a) a .pad ∧ w.Handed (w.padSilent a) ∧
    ∀ n x, w.padAt a = some (n, x) →
      ((w.padSilent a).pad? n).map (fun z => (z.silent, z.clamp, z.load)) = some (true, .unknown, .unknown) := by
  cases hat : w.padAt a with
  | none =>
    have hsame : w.padSilent a = w := by
      unfold State.padSilent
      simp only [hat]
    rw [hsame]
    exact ⟨⟨fun _ => rfl, fun _ _ h => nomatch hat.symm.trans h⟩, .refl w, fun _ _ h => nomatch h⟩
  | some nx =>
    obtain ⟨n, x⟩ := nx
    obtain ⟨hx, -⟩ := State.pad_of_padAt hwf hat
    have hsp := State.padSilenced_spec hx
    obtain ⟨m, hm⟩ : ∃ m, m = (w.modPad n fun p => { p with silent := true, clamp := .unknown, load := .unknown }).failWatch n :=
      ⟨_, rfl⟩
    have hxfer : ∀ t, x.st = .transfer t → w.padSilent a = m.abort t .unitSilent := fun t h => by
      unfold State.padSilent
      simp only [hat, h, hm]
    have hrest : (∀ t, x.st ≠ .transfer t) → w.padSilent a = m := fun h => by
      unfold State.padSilent
      simp only [hat, hm]
    rw [← hm] at hsp
    dsimp only at hsp
    generalize w.padSilent a = u at hxfer hrest
    obtain ⟨honly, hself, hothers, hwaiters, htold⟩ := hsp
    have hwm : w.Handed m := ⟨by rw [honly], by rw [honly], by rw [honly], by rw [honly], _, htold⟩
    have hreadings : (m.pad? n).map (fun z => (z.silent, z.clamp, z.load)) = some (true, .unknown, .unknown) := by
      rw [hself]
      rfl
    have hxfers : m.transfers = w.transfers := by rw [honly]
    have hsilenced : w.PadSilenced u n x := by
      refine ⟨m, honly, hself, hothers, hwaiters, htold, hrest, fun t ht => ⟨fun hno => ?_, fun y hy => ?_⟩⟩
      · rw [hxfer t ht]
        unfold State.abort
        rw [hxfers, hno]
      · rw [hxfer t ht]
        exact State.abort_aborted (by rw [hxfers]; exact hy) rfl
    have hmu : m.Handed u ∧ (u.pad? n).map (fun z => (z.silent, z.clamp, z.load)) = some (true, .unknown, .unknown) := by
      by_cases ht : ∃ t, x.st = .transfer t
      · obtain ⟨t, ht⟩ := ht
        obtain ⟨hhanded, hread⟩ := m.abort_handed t
        rw [hxfer t ht]
        exact ⟨hhanded, (hread n).trans hreadings⟩
      · rw [hrest fun t h => ht ⟨t, h⟩]
        exact ⟨.refl m, hreadings⟩
    refine ⟨⟨fun h => (nomatch hat.symm.trans h), fun k y hk => ?_⟩, hwm.trans hmu.1, fun k y hk => ?_⟩
    · cases hat.symm.trans hk
      exact hsilenced
    · cases Option.some.inj hk
      exact hmu.2

theorem State.mastSilent_handed (w : State) (a : Nat) :
    w.SilenceHanded w.mastSilent a .mast ∧ w.Handed w.mastSilent ∧
    (w.band ≠ .hold .mastLost → w.mastHold = none →
      if w.params.mastHold = 0 then w.mastSilent.band = .hold .mastLost
      else w.mastSilent.band = w.band ∧ w.mastSilent.mastHold = some (.load (10 * w.params.mastHold))) := by
  have hrun : w.mastRunning = true ↔ ∃ c, w.mastHold = some c ∧ 0 < c.steps := by
    rw [State.mastRunning_eq, cdRunning_iff]
  have hset := w.mastExpired_bandSet
  unfold State.mastSilent
  split
  · next h =>
    rw [hrun] at h
    refine ⟨⟨fun _ => rfl, fun hc hb => absurd h (not_or.mpr ⟨hc, hb⟩)⟩, .refl w, fun hb hm => ?_⟩
    rcases h with ⟨c, hc, -⟩ | h
    · exact nomatch hm.symm.trans hc
    · exact absurd h hb
  · next h =>
    rw [hrun] at h
    split
    · next hz =>
      have honly := hset.only
      refine ⟨⟨fun hc => absurd hc h, fun _ _ => ⟨fun _ => hset, fun hne => absurd hz hne⟩⟩, ?_, fun _ _ => ?_⟩
      · have hspeaks : w.Speaks w.mastExpired := by
          by_cases hb : ({ w with mastHold := some (Countdown.load 0) } : State).band = .hold .mastLost
          · rw [hset.same hb]
            exact .of_opss rfl rfl
          · obtain ⟨bs, hbs⟩ := hset.told hb
            exact ⟨by rw [honly], _, hbs⟩
        exact ⟨by rw [honly], by rw [honly], by rw [honly], hspeaks⟩
      · exact hset.field.1
    · next hz =>
      refine ⟨⟨fun hc => absurd hc h, fun _ _ => ⟨fun h => absurd h hz, fun _ => rfl⟩⟩, ⟨rfl, rfl, rfl, .of_opss rfl rfl⟩, fun _ _ => ?_⟩
      exact ⟨rfl, rfl⟩

/-! ## Three misses -/

theorem exec_fieldbusMiss {s : State} (hs : s.resetHold = none) : exec .fieldbusMiss s = .next s.miss :=
  congrArg Host.Outcome.next (State.live_eq hs _)

/-- The unit that becomes SILENT (R161 steps 1 and 2). -/
def State.silenced (s : State) (a : Nat) (v : UnitRec) (f : BusFunc) : State :=
  { s.modUnit a fun u => { u with st := .silent, retries := 0, restorePending := false } with
    restoreList := s.restoreList.filter fun b => decide (b ≠ a) }.post (.unitSilent a v.typ f)

theorem State.silenced_spec {s : State} {a : Nat} {v : UnitRec} (hv : s.unit? a = some v) (f : BusFunc) :
    s.Silenced (s.silenced a v f) a v f ∧ Table.keys (s.silenced a v f).units = Table.keys s.units :=
  ⟨⟨rfl, State.unit_modUnit_self hv _, fun _ hb => s.unit_modUnit_ne hb _,
    State.told_post ({ s.modUnit a fun u => { u with st := .silent, retries := 0, restorePending := false } with
      restoreList := s.restoreList.filter fun b => decide (b ≠ a) } : State) _⟩, Table.keys_adjust ..⟩

theorem State.silence_eq (s : State) (a : Nat) (v : UnitRec) (f : BusFunc) :
    s.silence a v f = ((discardSilent a ((s.silenced a v f).handSilence a v.typ).load
      ((s.silenced a v f).handSilence a v.typ)).markSurveyed a).chooseNext := rfl

/-- The silence handed on, whatever the type. -/
theorem State.handSilence_handed {w : State} (hsec : Table.wf w.sections = true) (hpt : Table.wf w.points = true)
    (hpad : Table.wf w.pads = true) (a : Nat) (k : UnitType) :
    w.SilenceHanded (w.handSilence a k) a k ∧ w.Handed (w.handSilence a k) := by
  cases k with
  | detector => exact ⟨(State.detectorSilent_handed hsec hpt a).1, (State.detectorSilent_handed hsec hpt a).2.1⟩
  | point => exact ⟨(State.pointSilent_handed hpt a).1, (State.pointSilent_handed hpt a).2.1⟩
  | pad => exact ⟨(State.padSilent_handed hpad a).1, (State.padSilent_handed hpad a).2.1⟩
  | mast => exact ⟨(w.mastSilent_handed a).1, (w.mastSilent_handed a).2.1⟩

/-- What surveying and choosing keep of what a silence left. -/
theorem State.Settled.pads {y u : State} (h : y.Settled u) (n : Nat) :
    (u.pad? n).map (fun x => (x.silent, x.clamp, x.load)) = (y.pad? n).map fun x => (x.silent, x.clamp, x.load) :=
  Pad.readings_of_watch (h.owners.pads n)

/-- Settles O53: a unit below two misses is asked again; the third miss hands the silence on by type, discards the unit's
commands (discardSilent_discarded) and goes on, which keeps what the silence wrote (AfterSilence, Settled). -/
theorem missResult : Obligations.MissResult := by
  intro s hs
  rw [exec_fieldbusMiss hs]
  refine ⟨fun hno => ?_, fun x v hx hv => ⟨fun hlt => ?_, fun hge hwf => ?_⟩⟩
  · unfold State.miss
    rw [hno]
  · refine ⟨_, rfl, ?_⟩
    have hmiss : s.miss = (s.modUnit x.addr fun u => { u with retries := u.retries + 1 }).startExchange x.addr x.func := by
      unfold State.miss
      simp only [hx, hv]
      exact if_pos hlt
    rw [hmiss]
    exact ⟨rfl, State.unit_modUnit_self hv _, fun a ha => s.unit_modUnit_ne ha _⟩
  · have hmiss : s.miss = s.silence x.addr v x.func := by
      unfold State.miss
      simp only [hx, hv]
      exact if_neg (Nat.not_lt.mpr hge)
    rw [hmiss, State.silence_eq]
    obtain ⟨hsilenced, hkeys⟩ := State.silenced_spec hv x.func
    generalize s.silenced x.addr v x.func = w at hsilenced hkeys
    have hwonly := hsilenced.only
    have hsec : Table.wf w.sections = true := by rw [hwonly]; exact hwf.1
    have hpt : Table.wf w.points = true := by rw [hwonly]; exact hwf.2.1
    have hpad : Table.wf w.pads = true := by rw [hwonly]; exact hwf.2.2.1
    obtain ⟨hhand, hhanded⟩ := State.handSilence_handed hsec hpt hpad x.addr v.typ
    obtain ⟨h, hh⟩ : ∃ h, h = w.handSilence x.addr v.typ := ⟨_, rfl⟩
    rw [← hh] at hhand hhanded ⊢
    obtain ⟨⟨cs, hcs⟩, hafter, hgone⟩ := discardSilent_discarded x.addr h.load h le_rfl
    generalize discardSilent x.addr h.load h = y at hcs hafter hgone
    have hyunits : y.units = w.units := by rw [hafter.only]; exact hhanded.units
    have hyunit : y.unit? x.addr = some ⟨v.typ, .silent, 0, false, v.surveyed⟩ := by
      rw [State.unit?, hyunits]
      exact hsilenced.unit
    have hysite : y.site = s.site := by rw [hafter.only]; exact hhanded.site.trans (by rw [hwonly])
    have hsettled := y.settled x.addr
    have hunit := State.unit_settled (y := y) (a := x.addr)
      (by rw [hyunits]; exact Table.wf_of_keys hkeys hwf.2.2.2.1) hyunit
    rw [hysite] at hunit
    generalize hu : (y.markSurveyed x.addr).chooseNext = u at hsettled hunit
    have huonly := hsettled.only
    have hwu : w.Speaks u := (hhanded.speaks.trans hafter.speaks).trans hsettled.speaks
    refine ⟨u, w, h, y, cs, rfl, hsilenced, hhand, hcs, hu.symm, hunit, ?_, fun c hc ha => ?_, fun k hk => ?_,
      fun ht n z hz ha hsl => ?_, fun ht p z hz => ⟨?_, fun k hl hk => ?_⟩, fun ht n z hz => ?_, fun ht hb hm => ?_⟩
    · have hlist : u.restoreList = s.restoreList.filter fun b => decide (b ≠ x.addr) := by
        rw [huonly, hafter.only]
        exact hhanded.restore.trans (by rw [hwonly])
      rw [hlist]
      exact fun hmem => by simpa using (List.mem_filter.mp hmem).2
    · rcases hsettled.owners.queue c hc with hc | ⟨-, -, hs⟩
      · exact hgone c hc ha
      · exact hs ⟨_, by rw [ha]; exact hyunit, rfl⟩
    · exact State.Told.mem hsilenced.told hwu (List.mem_singleton_self _) hk
    · rw [ht] at hh
      have hz' : w.sec? n = some z := by rw [hwonly]; exact hz
      have hdone := (State.detectorSilent_handed hsec hpt x.addr).2.2 n z hz' ha hsl
      have hclock : w.clock = s.clock := by rw [hwonly]
      have hus : u.sections = y.sections := by rw [huonly]
      rw [State.sec?, hus, ← hclock, ← hdone]
      exact (hafter.sections n).trans (by rw [hh]; rfl)
    · rw [ht] at hh
      have hz' : w.pointAt x.addr = some (p, z) := by rw [hwonly]; exact hz
      have hfault := (State.pointSilent_handed hpt x.addr).2.2 p z hz'
      have hp := hfault.point p
      rw [if_pos rfl] at hp
      have hhp : h.point? p = some { z with
          pos := .unknown, throwCd := none, mover := none, latch := some (z.latch.getD .unitSilent) } := by
        rw [hh]
        exact hp
      exact hsettled.owners.latched p _ (hafter.faulted p _ hhp (Option.some_ne_none _) rfl rfl rfl) (Option.some_ne_none _)
    · rw [ht] at hh
      have hz' : w.pointAt x.addr = some (p, z) := by rw [hwonly]; exact hz
      obtain ⟨m, -, -, htold, hnew, -⟩ := (State.pointSilent_handed hpt x.addr).2.2 p z hz'
      rw [if_pos hl] at htold
      have hmh : m.Speaks h := by
        rw [hh]
        exact (hnew hl).2.speaks
      have hall := State.Told.trans (s := s) hsilenced.told (by rw [hwonly]) htold
      exact State.Told.mem hall ((hmh.trans hafter.speaks).trans hsettled.speaks)
        (List.mem_append_right _ (List.mem_singleton_self _)) (by simpa using hk)
    · rw [ht] at hh
      have hz' : w.padAt x.addr = some (n, z) := by rw [hwonly]; exact hz
      have hdone := (State.padSilent_handed hpad x.addr).2.2 n z hz'
      rw [hsettled.pads, hafter.pads, hh]
      exact hdone
    · rw [ht] at hh
      have hband : w.band = s.band := by rw [hwonly]
      have hhold : w.mastHold = s.mastHold := by rw [hwonly]
      have hparams : w.params = s.params := by rw [hwonly]
      have hdone := (w.mastSilent_handed x.addr).2.2 (hband ▸ hb) (hhold.trans hm)
      have hub : u.band = h.band ∧ u.mastHold = h.mastHold := by
        rw [huonly, hafter.only]
        exact ⟨rfl, rfl⟩
      rw [hub.1, hub.2, hh, ← hparams, ← hband]
      exact hdone

end Sys2Proof.Machine

/-! PROOFS. Several releases in a row (R70), and a transporter taken OFFLINE (R119, R120). -/

namespace Sys2Proof.Machine

/-! ## Several releases (R70) -/

/-- A table keeps which point a section has through a kept ground. -/
theorem State.pointOf_of_ground {s u : State} (h : u.ground = s.ground) (n : Nat) :
    (u.pointOf n).map (·.1) = (s.pointOf n).map (·.1) := by
  have hmask : ∀ z : State, (z.pointOf n).map (·.1) = (z.ground.points.find? fun p => decide (p.2.sec = n)).map (·.1) := fun z => by
    have hpoints : z.ground.points = z.points.map fun p => (p.1, { p.2 with lock := none }) := rfl
    rw [hpoints, List.find?_map, Option.map_map]
    rfl
  rw [hmask, hmask, h]

/-- PARKED and TRIPPED transporters are evaluated without a word. -/
def TState.quiet (x : TState) : Prop := x = .parked ∨ x = .tripped

theorem Transporter.evaluated_quiet {x : Transporter} (h : x.state.quiet) (c : StopSet) (b : Bool) :
    x.evaluated c b = { x with stop := c } := by
  rcases h with h | h
  · exact Transporter.evaluated_of_parked h c b
  · unfold Transporter.evaluated
    by_cases hc : x.stop = c
    · rw [if_pos (.inr hc), ← hc]
    · rw [if_neg (by simp [h, hc]), if_neg (by simp [h]), if_neg (by simp [h])]

theorem State.evaluationNotice_quiet {s : State} {t : TId} (h : (s.tr t).state.quiet) : s.evaluationNotice t = [] := by
  unfold State.evaluationNotice
  rcases h with h | h <;> simp [h]

/-- Between s and u the entries es of t's record were released with one cause: what became of holds, locks and the record,
and what was told, whatever the evaluations of t's stop causes did. -/
structure State.RunReleased (s u : State) (t : TId) (es : List Entry) (cause : ReleaseCause) (kept : Bool) : Prop where
  ground : u.ground = s.ground
  holds : ∀ n, u.sec? n = (s.sec? n).map fun x => { x with hold := if n ∈ es.map (·.sec) then none else x.hold }
  locks : Table.wf s.points = true → ∀ p, u.point? p = (s.point? p).map fun x =>
    { x with lock := if (∃ e ∈ es, (s.pointOf e.sec).map (·.1) = some p) ∧ x.lock = some t then none else x.lock }
  route : u.route t = { s.route t with
    entries := if kept then (s.route t).entries else (s.route t).entries.filter fun f => decide (f.index ∉ es.map (·.index))
    nextIdx := (u.route t).nextIdx }
  port : s.OnlyAuth u t
  others : ∀ v, v ≠ t → s.SameTransporter u v
  only : u = { s with
    sections := u.sections, points := u.points, trs := u.trs, routes := u.routes, tls := u.tls, ceilings := u.ceilings
    walkDue := s.walkDue || !es.isEmpty, opss := u.opss }
  told : ∃ bs, s.Told u bs ∧ bs.length ≤ 2 * es.length ∧ ∀ e ∈ es, .released t e.sec e.index cause ∈ bs
  quiet : (s.tr t).state.quiet → u.tr t = { s.tr t with stop := (u.tr t).stop } ∧
    s.Told u (es.map fun e => .released t e.sec e.index cause)

theorem State.RunReleased.nil (s : State) (t : TId) (cause : ReleaseCause) (kept : Bool) :
    s.RunReleased s t [] cause kept where
  ground := rfl
  holds n := by cases s.sec? n <;> simp
  locks _ p := by cases s.point? p <;> simp
  route := by cases kept <;> simp
  port := rfl
  others _ _ := ⟨rfl, rfl, rfl, rfl, rfl⟩
  only := by rw [List.isEmpty_nil, Bool.not_true, Bool.or_false]
  told := ⟨[], State.told_nil rfl, Nat.le_refl _, fun _ h => absurd h List.not_mem_nil⟩
  quiet _ := ⟨rfl, State.told_nil rfl⟩

theorem State.RunReleased.speaks {s u : State} {t : TId} {es : List Entry} {cause : ReleaseCause} {kept : Bool}
    (h : s.RunReleased u t es cause kept) : s.Speaks u := by
  obtain ⟨bs, hbs, -⟩ := h.told
  exact ⟨by rw [h.only], bs, hbs⟩

/-- An evaluation leaves no transporter but one OFFLINE so. -/
theorem Transporter.evaluated_ne_offline {x : Transporter} (h : x.state ≠ .offline) (c : StopSet) (b : Bool) :
    (x.evaluated c b).state ≠ .offline ∧ (x.evaluated c b).stop = c := by
  unfold Transporter.evaluated
  split
  · next hc => exact ⟨h, hc.resolve_left h⟩
  · split
    · exact ⟨nofun, rfl⟩
    · split
      · exact ⟨nofun, rfl⟩
      · exact ⟨h, rfl⟩

theorem State.evaluationNotice_le_one (s : State) (t : TId) : (s.evaluationNotice t).length ≤ 1 := by
  unfold State.evaluationNotice
  split
  · exact Nat.zero_le _
  · split
    · exact Nat.le_refl _
    · split
      · exact Nat.le_refl _
      · exact Nat.zero_le _

/-- One release before others. -/
theorem State.RunReleased.cons {s z m u : State} {t : TId} {e : Entry} {es : List Entry} {cause : ReleaseCause} {kept : Bool}
    (h : s.Freed z t e cause kept) (heval : z.Evaluated m [t]) (hground : m.ground = s.ground)
    (h' : m.RunReleased u t es cause kept) : s.RunReleased u t (e :: es) cause kept := by
  have hmonly := heval.only
  have hz := h.only
  have hmsec : ∀ n, m.sec? n = z.sec? n := fun n => by rw [hmonly]; rfl
  have hmpoint : ∀ p, m.point? p = z.point? p := fun p => by rw [hmonly]; rfl
  have hmroute : ∀ v, m.route v = z.route v := fun v => by rw [hmonly]; rfl
  have hmall : m = { s with
      sections := m.sections, points := m.points, trs := m.trs, routes := m.routes, tls := m.tls, ceilings := m.ceilings
      walkDue := true, opss := m.opss } := by rw [hmonly, hz]
  have hclock : m.clock = s.clock := by rw [hmall]
  have hsm := h.told.trans (by rw [hz]) heval.notices
  have hztr : z.tr t = s.tr t := by rw [hz]; rfl
  have hmtr := heval.record t (List.mem_singleton_self _)
  rw [hztr] at hmtr
  exact {
    ground := h'.ground.trans hground
    holds := fun n => by
      rw [h'.holds n, hmsec, h.sections, Option.map_map]
      refine Option.map_congr fun x _ => ?_
      by_cases hn : n = e.sec <;> simp [hn]
    locks := fun hwf p => by
      rw [h'.locks ((State.points_wf_of_ground hground).trans hwf) p, hmpoint, h.points hwf, Option.map_map]
      refine Option.map_congr fun x _ => ?_
      have hof : ∀ f : Entry, (m.pointOf f.sec).map (·.1) = (s.pointOf f.sec).map (·.1) := fun f => State.pointOf_of_ground hground _
      simp only [Function.comp, hof, List.mem_cons, exists_eq_or_imp]
      refine congrArg (fun l => { x with lock := l }) ?_
      obtain ⟨l, hl⟩ : ∃ l, l = if (s.pointOf e.sec).map (·.1) = some p ∧ x.lock = some t then none else x.lock := ⟨_, rfl⟩
      rw [← hl]
      by_cases hp : (s.pointOf e.sec).map (·.1) = some p ∧ x.lock = some t
      · rw [if_pos hp] at hl
        rw [hl, if_neg (fun h => nomatch h.2), if_pos ⟨.inl hp.1, hp.2⟩]
      · rw [if_neg hp] at hl
        rw [hl]
        by_cases hq : (∃ f ∈ es, (s.pointOf f.sec).map (·.1) = some p) ∧ x.lock = some t
        · rw [if_pos hq, if_pos ⟨.inr hq.1, hq.2⟩]
        · rw [if_neg hq, if_neg fun h => h.1.elim (fun h1 => hp ⟨h1, h.2⟩) fun h1 => hq ⟨h1, h.2⟩]
    route := by
      have h1 := h'.route
      rw [hmroute, h.route] at h1
      rw [h1]
      cases kept with
      | true => simp
      | false =>
        simp only [Bool.false_eq_true, if_false, List.filter_filter, List.map_cons, List.mem_cons, not_or]
        have hfun : (fun a : Entry => decide (a.index ∉ es.map (·.index)) && decide (a.index ≠ e.index)) =
            fun f => decide (¬ f.index = e.index ∧ f.index ∉ es.map (·.index)) := funext fun f => by
          rw [Bool.and_comm, ← Bool.decide_and]
        rw [hfun]
    port := by
      have h1 : u.tl t = { m.tl t with auth := (u.tl t).auth } := h'.port
      have h2 : m.tl t = { z.tl t with auth := (m.tl t).auth } := heval.port t
      have h3 : z.tl t = s.tl t := by rw [hz]; rfl
      rw [h3] at h2
      rw [h2] at h1
      exact h1
    others := fun v hv => by
      obtain ⟨a1, a2, a3, a4, a5⟩ := h'.others v hv
      obtain ⟨b1, b2, b3, b4, b5⟩ := heval.others v (by rw [List.mem_singleton]; exact hv)
      have c1 : z.tr v = s.tr v ∧ z.tl v = s.tl v ∧ z.ceilings[v] = s.ceilings[v] ∧ z.transfers[v] = s.transfers[v] := by
        rw [hz]
        exact ⟨rfl, rfl, rfl, rfl⟩
      exact ⟨a1.trans (b1.trans c1.1), a2.trans (b2.trans (h.routes v hv)), a3.trans (b3.trans c1.2.1),
        a4.trans (b4.trans c1.2.2.1), a5.trans (b5.trans c1.2.2.2)⟩
    only := by
      have h1 := h'.only
      have h2 : m.walkDue = true := by rw [hmall]
      rw [h2] at h1
      rw [h1, hmall]
      simp
    told := by
      obtain ⟨bs, hbs, hlen, hmem⟩ := h'.told
      refine ⟨_, State.Told.trans (s := s) hsm hclock hbs, ?_, fun f hf => ?_⟩
      · have := z.evaluationNotice_le_one t
        simp only [List.length_append, List.flatMap_singleton, List.length_cons, List.length_nil]
        omega
      · rcases List.mem_cons.mp hf with rfl | hf
        · exact List.mem_append_left _ (List.mem_append_left _ (List.mem_singleton_self _))
        · exact List.mem_append_right _ (hmem f hf)
    quiet := fun hq => by
      have hnone : z.evaluationNotice t = [] := State.evaluationNotice_quiet (by rw [hztr]; exact hq)
      rw [Transporter.evaluated_quiet hq] at hmtr
      rw [List.flatMap_singleton, hnone] at hsm
      obtain ⟨hu, htold⟩ := h'.quiet (by rw [hmtr]; exact hq)
      exact ⟨by rw [hu, hmtr], State.Told.trans (s := s) hsm hclock htold⟩ }

theorem State.releaseAll_runReleased (t : TId) (cause : ReleaseCause) (kept : Bool) : ∀ (es : List Entry) (s : State),
    s.RunReleased (s.releaseAll t es cause kept) t es cause kept
  | [], s => .nil s t cause kept
  | e :: es, s => by
    obtain ⟨z, hfreed, heval⟩ := s.release_freed t e cause kept
    exact .cons hfreed heval (s.release_ground t e cause kept) (State.releaseAll_runReleased t cause kept es _)

/-- Releases leave the stop causes of a transporter in service as they are present. -/
theorem State.release_current {s : State} {t : TId} (h : (s.tr t).state ≠ .offline) (e : Entry) (cause : ReleaseCause)
    (kept : Bool) : ((s.release t e cause kept).tr t).state ≠ .offline ∧
      ((s.release t e cause kept).tr t).stop = (s.release t e cause kept).stopCauses t := by
  obtain ⟨z, hfreed, heval⟩ := s.release_freed t e cause kept
  have hztr : z.tr t = s.tr t := by rw [hfreed.only]; rfl
  have hcauses : (s.release t e cause kept).stopCauses = z.stopCauses := by
    rw [heval.only]
    exact State.stopCauses_eq rfl rfl rfl rfl rfl
  rw [hcauses, heval.record t (List.mem_singleton_self _), hztr]
  exact Transporter.evaluated_ne_offline h ..

theorem State.releaseAll_current {t : TId} {cause : ReleaseCause} {kept : Bool} : ∀ (es : List Entry) {s : State},
    (s.tr t).state ≠ .offline → (s.tr t).stop = s.stopCauses t →
    ((s.releaseAll t es cause kept).tr t).state ≠ .offline ∧
      ((s.releaseAll t es cause kept).tr t).stop = (s.releaseAll t es cause kept).stopCauses t
  | [], _, h, hc => ⟨h, hc⟩
  | e :: es, s, h, _ =>
    have hrel := State.release_current h e cause kept
    State.releaseAll_current es hrel.1 hrel.2

theorem State.releaseAll_releasedAll {t : TId} {cause : ReleaseCause} {kept : Bool} : ∀ (es : List Entry) {s : State},
    Table.wf s.points = true → State.ReleasedAll t cause kept es s (s.releaseAll t es cause kept)
  | [], _, _ => rfl
  | e :: es, s, hwf => ⟨_, State.release_released hwf t e cause kept,
      State.releaseAll_releasedAll es ((State.points_wf_of_ground (s.release_ground t e cause kept)).trans hwf)⟩

/-! ## OFFLINE (R119) -/

/-- What t's holds are after its route is withdrawn. -/
theorem State.Withdrawn.holdBy {s w : State} {t : TId} (h : s.Withdrawn w t) (n : Nat) :
    w.holdBy t n = if s.holdBy t n = some .setting ∧ s.inRecord t n then none else s.holdBy t n := by
  have hn := h.holds n
  by_cases hset : s.holdBy t n = some .setting ∧ s.inRecord t n
  · simp only [if_pos hset] at hn ⊢
    rw [State.holdBy, hn]
    cases s.sec? n <;> rfl
  · simp only [if_neg hset] at hn ⊢
    have hsame : w.sec? n = s.sec? n := by
      rw [hn]
      cases s.sec? n <;> rfl
    rw [State.holdBy, hsame]
    rfl

/-- After its route is withdrawn, t's held entries are those it held firmly. -/
theorem State.Withdrawn.heldRun {s w : State} {t : TId} (h : s.Withdrawn w t) :
    w.heldRun t = (s.route t).entries.filter fun e => decide (s.holdsFirm t e.sec) := by
  rw [State.heldRun, h.route]
  dsimp only
  rw [List.filter_eq_self]
  intro e he
  obtain ⟨-, hfirm⟩ := List.mem_filter.mp he
  have hfirm := of_decide_eq_true hfirm
  rw [h.holdBy, if_neg fun hset => ?_]
  · rcases hfirm with hf | hf <;> rw [hf] <;> rfl
  · rcases hfirm with hf | hf <;> rw [hf] at hset <;> exact nomatch hset.1

/-- Withdrawing the route of a PARKED or TRIPPED transporter is told by no notice. -/
theorem State.Withdrawn.quiet {s w : State} {t : TId} (h : s.Withdrawn w t) (hst : (s.tr t).state.quiet) :
    w.tr t = { s.tr t with stop := (w.tr t).stop } ∧ w.clock = s.clock ∧ s.Told w [] := by
  refine ⟨?_, by rw [h.only], ?_⟩
  · rw [h.record]
    split
    · rfl
    · rw [Transporter.evaluated_quiet hst]
  · obtain ⟨d, hd, hw⟩ := h.dropped
    have hsd : s.Told d [] := by
      by_cases hs : ({ s with waiting := s.waiting.filter fun w => decide (w.t ≠ t) } : State).settingRun t = []
      · rw [hd.nothing hs]
        exact State.told_nil rfl
      · obtain ⟨m, hm, -, heval⟩ := hd.drop hs
        have hmt : (m.tr t).state.quiet := by rw [hm]; exact hst
        have hn := heval.notices
        rw [List.flatMap_singleton, State.evaluationNotice_quiet hmt] at hn
        intro k
        have hk := hn k
        rw [hm] at hk
        exact hk
    rw [hw]
    exact hsd

/-- A transporter out of service: its record and route are emptied, and AUTH is formed. -/
theorem State.emptied_spec (m : State) (t : TId) :
    let u := ((m.modRoute t fun _ => .empty).modTr t Transporter.offline).formAuth t
    u = { m with routes := u.routes, trs := u.trs, tls := u.tls, ceilings := u.ceilings } ∧
    u.tr t = (m.tr t).offline ∧ u.route t = .empty ∧
    u.tl t = { m.tl t with auth := some ⟨0, none, 0, 0, 0, .stand, .empty, .empty⟩ } ∧ u.ceilings[t] = 0 ∧
    ∀ v, v ≠ t → m.SameTransporter u v := by
  obtain ⟨w, hw⟩ : ∃ w, w = (m.modRoute t fun _ => .empty).modTr t Transporter.offline := ⟨_, rfl⟩
  obtain ⟨⟨hauth, hceil⟩, honly, hport, hothers⟩ := w.formAuth_spec t
  have hwonly : w = { m with routes := w.routes, trs := w.trs } := by rw [hw]; rfl
  have hwtr : w.tr t = (m.tr t).offline := by rw [hw, State.tr_modTr_self]; rfl
  have hwroute : w.route t = .empty := by
    rw [hw]
    exact State.route_modRoute_self ..
  have hutr : (w.formAuth t).tr t = w.tr t := by rw [honly]; rfl
  have huroute : (w.formAuth t).route t = w.route t := by rw [honly]; rfl
  rw [← hw]
  dsimp only
  generalize w.formAuth t = u at *
  have hzero : u.ceilingNow t = 0 := by
    rw [State.ceilingNow, hutr, hwtr]
    exact if_neg nofun
  rw [hzero] at hauth hceil
  refine ⟨by rw [honly, hwonly], hutr.trans hwtr, huroute.trans hwroute, ?_, hceil, fun v hv => ?_⟩
  · have hport : u.tl t = { w.tl t with auth := (u.tl t).auth } := hport
    have hwtl : w.tl t = m.tl t := by rw [hwonly]; rfl
    rw [hport, hauth, hwtl, State.authNow, huroute, hutr, hwroute, hwtr]
    rfl
  · obtain ⟨a1, a2, a3, a4, a5⟩ := hothers v hv
    refine ⟨a1.trans ?_, a2.trans ?_, a3.trans (by rw [hwonly]; rfl), a4.trans (by rw [hwonly]), a5.trans (by rw [hwonly])⟩
    · rw [hw, State.tr_modTr, if_neg (Ne.symm hv)]
      rfl
    · rw [hw]
      exact (State.route_modRoute ..).trans (if_neg (Ne.symm hv))

theorem State.goOffline_wentOffline {s : State} {t : TId} (hwf : Table.wf s.points = true) (hst : (s.tr t).state.quiet)
    (cause : ReleaseCause) : s.WentOffline (s.goOffline t cause) t cause := by
  have hw := s.withdrawRoute_withdrawn t
  obtain ⟨hwtr, hwclock, hwtold⟩ := hw.quiet hst
  have hrun := hw.heldRun
  have hgo : s.goOffline t cause = ((((s.withdrawRoute t).releaseAll t ((s.withdrawRoute t).heldRun t) cause false).modRoute t
    fun _ => .empty).modTr t Transporter.offline).formAuth t := rfl
  rw [hrun] at hgo
  generalize s.withdrawRoute t = w at *
  have hwonly := hw.only
  obtain ⟨es, hes⟩ : ∃ es, es = (s.route t).entries.filter fun e => decide (s.holdsFirm t e.sec) := ⟨_, rfl⟩
  have hmem : ∀ n, n ∈ es.map (·.sec) ↔ s.holdsFirm t n ∧ s.inRecord t n := fun n => by
    rw [hes]
    simp only [List.mem_map, List.mem_filter, decide_eq_true_eq]
    constructor
    · rintro ⟨e, ⟨he, hf⟩, rfl⟩
      exact ⟨hf, e, he, rfl⟩
    · rintro ⟨hf, e, he, rfl⟩
      exact ⟨e, ⟨he, hf⟩, rfl⟩
  rw [← hes] at hgo
  have hrel := w.releaseAll_runReleased t cause false es
  have hground := w.releaseAll_ground t es cause false
  generalize w.releaseAll t es cause false = m at *
  obtain ⟨hmtr, hmtold⟩ := hrel.quiet (by rw [hwtr]; exact hst)
  have hlocks := hrel.locks (by rw [hwonly]; exact hwf)
  obtain ⟨honly, htr, hroute, htl, hceil, hothers⟩ := m.emptied_spec t
  rw [← hgo] at honly htr hroute htl hceil hothers
  generalize s.goOffline t cause = u at *
  have husec : ∀ n, u.sec? n = m.sec? n := fun n => by rw [honly]; rfl
  have hupoint : ∀ p, u.point? p = m.point? p := fun p => by rw [honly]; rfl
  have hwpoint : ∀ p, w.point? p = s.point? p := fun p => by rw [hwonly]; rfl
  have hwof : ∀ n, w.pointOf n = s.pointOf n := fun n => by rw [hwonly]; rfl
  have hmonly := hrel.only
  refine {
    record := by rw [htr, hmtr, hwtr]; rfl
    route := hroute
    port := ?_
    ceiling := hceil
    holds := fun n => ?_
    locks := fun p => ?_
    unlocked := fun n p x hf hr hx => ?_
    waiting := by rw [honly, hmonly, hwonly]
    walk := ?_
    told := ?_
    only := ?_
    others := fun v hv => ?_ }
  · have h1 : m.tl t = { w.tl t with auth := (m.tl t).auth } := hrel.port
    have h2 : w.tl t = { s.tl t with auth := (w.tl t).auth } := hw.port t
    rw [htl, h1, h2]
  · rw [husec, hrel.holds, hw.holds, Option.map_map]
    refine Option.map_congr fun x _ => ?_
    simp only [Function.comp, hmem]
    by_cases hin : s.inRecord t n
    · obtain ⟨k, hk⟩ : ∃ k, s.holdBy t n = k := ⟨_, rfl⟩
      simp only [State.holdsFirm, hk]
      rcases k with - | (- | - | -) <;> simp [hin]
    · simp [hin]
  · rw [hupoint, hlocks, hwpoint]
    cases hx : s.point? p with
    | none => exact .inl rfl
    | some x =>
      by_cases hc : (∃ e ∈ es, (w.pointOf e.sec).map (·.1) = some p) ∧ x.lock = some t
      · exact .inr ⟨x, rfl, hc.2, by rw [Option.map_some, if_pos hc]⟩
      · exact .inl (by rw [Option.map_some, if_neg hc])
  · have hmx : m.pointOf n = some (p, x) := by rw [← hx, honly]; rfl
    have hmwf : Table.wf m.points = true := by
      rw [State.points_wf_of_ground hground, hwonly]
      exact hwf
    have hone := State.pointOf_of_ground hground n
    rw [hmx, Option.map_some] at hone
    obtain ⟨e, he, hen⟩ := List.mem_map.mp ((hmem n).mpr ⟨hf, hr⟩)
    have hlock := hlocks p
    rw [(State.pointOf_point hmwf hmx).1] at hlock
    obtain ⟨y, -, hy⟩ := Option.map_eq_some_iff.mp hlock.symm
    rw [← hy]
    dsimp only
    split
    · exact nofun
    · next hc => exact fun hl => hc ⟨⟨e, he, by rw [hen]; exact hone.symm⟩, hl⟩
  · have h1 : u.walkDue = (s.walkDue || !(s.settingRun t).isEmpty || !es.isEmpty) := by
      rw [honly, hmonly, hwonly]
    rw [h1, Bool.or_assoc]
    congr 1
    rw [Bool.eq_iff_iff, decide_eq_true_iff, Bool.or_eq_true, Bool.not_eq_true', Bool.not_eq_true',
      List.isEmpty_eq_false_iff_exists_mem, List.isEmpty_eq_false_iff_exists_mem, hes]
    simp only [State.mem_settingRun, List.mem_filter, decide_eq_true_eq]
    constructor
    · rintro (⟨e, he, hk⟩ | ⟨e, he, hk | hk⟩) <;> exact ⟨e, he, by rw [hk]; exact Option.some_ne_none _⟩
    · rintro ⟨e, he, hk⟩
      obtain ⟨k, hk⟩ := Option.ne_none_iff_exists'.mp hk
      cases k with
      | setting => exact .inl ⟨e, he, hk⟩
      | granted => exact .inr ⟨e, he, .inl hk⟩
      | releasePending => exact .inr ⟨e, he, .inr hk⟩
  · have hall := State.Told.trans (s := s) hwtold hwclock hmtold
    rw [List.nil_append] at hall
    have hopss : u.opss = m.opss := by rw [honly]
    rw [hes] at hall
    intro k
    rw [State.opsPort, hopss]
    exact hall k
  · rw [honly, hmonly, hwonly]
  · obtain ⟨a1, a2, a3, a4, a5⟩ := hothers v hv
    obtain ⟨b1, b2, b3, b4, b5⟩ := hrel.others v hv
    obtain ⟨c1, c2, c3, c4, c5⟩ := hw.others v hv
    exact ⟨a1.trans (b1.trans c1), a2.trans (b2.trans c2), a3.trans (b3.trans c3), a4.trans (b4.trans c4),
      a5.trans (b5.trans c5)⟩

/-- What holds of a transporter taken OFFLINE holds where its supervision was reloaded first. -/
theorem State.WentOffline.of_reload {s u : State} {t : TId} {cause : ReleaseCause}
    (h : (s.reloadSupervision t).WentOffline u t cause) : s.WentOffline u t cause := by
  obtain ⟨honly, htr, hothers, -⟩ := s.reloadSupervision_spec t
  generalize s.reloadSupervision t = w at *
  generalize w.trs = trs at honly
  subst honly
  exact {
    record := by rw [h.record, htr]
    route := h.route
    port := h.port
    ceiling := h.ceiling
    holds := h.holds
    locks := h.locks
    unlocked := h.unlocked
    waiting := h.waiting
    walk := h.walk
    told := h.told
    only := h.only
    others := fun v hv => by
      obtain ⟨a1, a2⟩ := h.others v hv
      exact ⟨a1.trans (hothers v hv), a2⟩ }

/-! ## RETIRE and LEAVE -/

theorem exec_retire {s : State} {l : OpsId} (hl : s.OpsReady l) (tag n : Byte) :
    exec (.retire l tag [n]) s = .next (s.retire l tag n.toNat) :=
  (exec_ops_ready (act := State.onRetire) (ty := Config.tyRetire) (p := [n]) hl rfl rfl).trans rfl

theorem exec_leave {s : State} {t : TId} (hq : s.Quiet (.tl t)) (b : Byte) :
    exec (.leave t [b]) s = .next ((s.reloadSupervision t).onLeave t [b]) :=
  exec_tl_quiet (act := State.onLeave) (ty := Config.tyLeave) hq rfl rfl

/-- RETIRE of a transporter, judged (R119). -/
theorem State.retire_judged {s : State} {n : Nat} {t : TId} (hrun : s.site = .running) (hn : n = t.val) (l : OpsId)
    (tag : Byte) : s.retire l tag n =
      if ¬ ((s.tr t).state = .parked ∨ (s.tr t).state = .tripped) then s.reply l tag 0x55 .state []
      else if s.indeterminateAt t = true then s.reply l tag 0x55 .indeterminate []
      else (s.goOffline t .retire).reply l tag 0x55 .ok [] := by
  simp only [State.retire, tid?_self hn]
  rw [State.judge_running hrun, State.judge_cons decide_eq_false_iff_not,
    State.judge_cons (p := s.indeterminateAt t = true) (Bool.not_eq_false' _).to_iff, State.judge_nil]
  rfl

/-- LEAVE, judged (R120). -/
theorem State.onLeave_judged (s : State) (t : TId) (b : Byte) : s.onLeave t [b] =
    if ¬ (s.site = .running ∧ (s.tr t).state = .parked) then s.refuse t 0x16 .state else s.goOffline t .leave := by
  unfold State.onLeave
  dsimp only
  rw [State.judgeTl_cons (p := ¬ (s.site = .running ∧ (s.tr t).state = .parked)) (by
    rw [Bool.and_eq_false_iff, State.running, decide_eq_false_iff_not, decide_eq_false_iff_not, not_and_or]),
    State.judgeTl_nil]
  rfl

/-- Settles O24: the checks in order; accepted, goOffline_wentOffline. -/
theorem offlineResult : Obligations.OfflineResult := by
  intro s t hrun hwf
  refine ⟨fun l tag n hl hn => ?_, fun l tag n hl hn => ⟨fun hp ht => ?_, fun hst hat => ?_, fun hst hat => ?_⟩,
    fun b hq hst => ?_, fun b hq hst => ?_⟩
  · rw [exec_retire hl]
    simp only [State.retire, tid?_eq_none hn]
    exact congrArg _ (State.judge_unknownId hrun ..)
  · rw [exec_retire hl, State.retire_judged hrun hn]
    exact congrArg _ (if_pos fun h => h.elim hp ht)
  · rw [exec_retire hl, State.retire_judged hrun hn]
    exact congrArg _ ((if_neg (not_not_intro hst)).trans (if_pos ((s.indeterminateAt_iff t).mpr hat)))
  · rw [exec_retire hl, State.retire_judged hrun hn]
    exact ⟨_, congrArg _ ((if_neg (not_not_intro hst)).trans (if_neg ((s.not_indeterminateAt_iff t).mpr hat))),
      State.goOffline_wentOffline hwf.2.1 hst .retire⟩
  · have hst' : ((s.reloadSupervision t).tr t).state.quiet := by
      rw [(s.reloadSupervision_spec t).2.1]
      exact .inl hst
    have hwf' : Table.wf (s.reloadSupervision t).points = true := by
      rw [(s.reloadSupervision_spec t).1]
      exact hwf.2.1
    rw [exec_leave hq, State.onLeave_judged, if_neg]
    · exact ⟨_, rfl, (State.goOffline_wentOffline hwf' hst' .leave).of_reload⟩
    · have hsite : (s.reloadSupervision t).site = s.site := by rw [(s.reloadSupervision_spec t).1]
      rw [hsite, (s.reloadSupervision_spec t).2.1]
      exact not_not_intro ⟨hrun, hst⟩
  · rw [exec_leave hq, State.onLeave_judged, if_pos]
    rw [(s.reloadSupervision_spec t).2.1]
    exact fun h => hst h.2

end Sys2Proof.Machine

/-! PROOFS. What releases leave alone, and RESTORE_SECTION (R22). -/

namespace Sys2Proof.Machine

/-! ## The frame of releases -/

/-- Between s and u holds of t were released, each of a section and hold that P admits, and t's stop causes evaluated. -/
structure State.Loosened (s u : State) (t : TId) (P : Section → Hold → Prop) : Prop where
  ground : u.ground = s.ground
  holds : ∀ n, u.sec? n = s.sec? n ∨ ∃ y h, s.sec? n = some y ∧ y.hold = some h ∧ P y h ∧ u.sec? n = some { y with hold := none }
  record : u.tr t = { s.tr t with state := (u.tr t).state, stop := (u.tr t).stop, standSeen := (u.tr t).standSeen }
  state : (u.tr t).state = (s.tr t).state ∨
    ((u.tr t).state = .authorised ∨ (u.tr t).state = .held) ∧ ((s.tr t).state = .authorised ∨ (s.tr t).state = .held)
  route : u.route t = { s.route t with entries := (u.route t).entries, nextIdx := (u.route t).nextIdx }
  entries : (u.route t).entries.Sublist (s.route t).entries
  port : s.OnlyAuth u t
  others : ∀ v, v ≠ t → s.SameTransporter u v
  only : u = { s with
    sections := u.sections, points := u.points, trs := u.trs, routes := u.routes, tls := u.tls, ceilings := u.ceilings
    walkDue := u.walkDue, opss := u.opss }
  walk : s.walkDue = true → u.walkDue = true
  speaks : s.Speaks u

section
variable {s m u : State} {t : TId} {P : Section → Hold → Prop}

theorem State.Loosened.refl (s : State) (t : TId) (P : Section → Hold → Prop) : s.Loosened s t P where
  ground := rfl
  holds _ := .inl rfl
  record := rfl
  state := .inl rfl
  route := rfl
  entries := .refl _
  port := rfl
  others _ _ := ⟨rfl, rfl, rfl, rfl, rfl⟩
  only := rfl
  walk := id
  speaks := .refl s

theorem State.Loosened.trans (h : s.Loosened m t P) (h' : m.Loosened u t P) : s.Loosened u t P where
  ground := h'.ground.trans h.ground
  holds n := by
    rcases h.holds n with hs | ⟨y, x, hy, hx, hp, hs⟩
    · rcases h'.holds n with hm | ⟨z, w, hz, hw, hq, hm⟩
      · exact .inl (hm.trans hs)
      · exact .inr ⟨z, w, hs.symm.trans hz, hw, hq, hm⟩
    · rcases h'.holds n with hm | ⟨z, w, hz, hw, -, -⟩
      · exact .inr ⟨y, x, hy, hx, hp, hm.trans hs⟩
      · cases hs.symm.trans hz
        exact nomatch hw
  record := by rw [h'.record, h.record]
  state := by
    rcases h.state with h1 | ⟨h1, h2⟩ <;> rcases h'.state with h3 | ⟨h3, h4⟩
    · exact .inl (h3.trans h1)
    · exact .inr ⟨h3, h1 ▸ h4⟩
    · exact .inr ⟨h3 ▸ h1, h2⟩
    · exact .inr ⟨h3, h2⟩
  route := by rw [h'.route, h.route]
  entries := h'.entries.trans h.entries
  port := by
    have h1 : u.tl t = { m.tl t with auth := (u.tl t).auth } := h'.port
    have h2 : m.tl t = { s.tl t with auth := (m.tl t).auth } := h.port
    rw [h2] at h1
    exact h1
  others v hv := by
    obtain ⟨a1, a2, a3, a4, a5⟩ := h'.others v hv
    obtain ⟨b1, b2, b3, b4, b5⟩ := h.others v hv
    exact ⟨a1.trans b1, a2.trans b2, a3.trans b3, a4.trans b4, a5.trans b5⟩
  only := by rw [h'.only, h.only]
  walk hw := h'.walk (h.walk hw)
  speaks := h.speaks.trans h'.speaks

end

/-- What an evaluation does to a state. -/
theorem Transporter.evaluated_state (x : Transporter) (c : StopSet) (b : Bool) :
    x.evaluated c b = { x with
      state := (x.evaluated c b).state, stop := (x.evaluated c b).stop, standSeen := (x.evaluated c b).standSeen } ∧
    ((x.evaluated c b).state = x.state ∨
      ((x.evaluated c b).state = .authorised ∨ (x.evaluated c b).state = .held) ∧ (x.state = .authorised ∨ x.state = .held)) := by
  unfold Transporter.evaluated
  split
  · exact ⟨rfl, .inl rfl⟩
  · split
    · next h => exact ⟨rfl, .inr ⟨.inr rfl, .inl h.1⟩⟩
    · split
      · next h => exact ⟨rfl, .inr ⟨.inl rfl, .inr h.1⟩⟩
      · exact ⟨rfl, .inl rfl⟩

/-- One release, of a hold that P admits. -/
theorem State.release_loosened {s : State} {t : TId} {e : Entry} {P : Section → Hold → Prop}
    (hp : ∀ y h, s.sec? e.sec = some y → y.hold = some h → P y h) (cause : ReleaseCause) (kept : Bool) :
    s.Loosened (s.release t e cause kept) t P := by
  obtain ⟨m, hfreed, heval⟩ := s.release_freed t e cause kept
  have hground := s.release_ground t e cause kept
  have hspeaks := s.release_speaks t e cause kept
  generalize s.release t e cause kept = w at *
  have honly := heval.only
  have hmonly := hfreed.only
  have hmtr : ∀ v, m.tr v = s.tr v := fun v => by rw [hmonly]; rfl
  have hmtl : ∀ v, m.tl v = s.tl v := fun v => by rw [hmonly]; rfl
  have hwsec : ∀ n, w.sec? n = m.sec? n := fun n => by rw [honly]; rfl
  have hwroute : ∀ v, w.route v = m.route v := fun v => by rw [honly]; rfl
  have htr := heval.record t (List.mem_singleton_self _)
  rw [hmtr] at htr
  obtain ⟨hform, hstate⟩ := (s.tr t).evaluated_state (m.stopCauses t) (decide (m.speed t ≤ m.params.overspeedTol))
  rw [← htr] at hform hstate
  refine ⟨hground, fun n => ?_, hform, hstate, ?_, ?_, ?_, fun v hv => ?_, ?_, fun _ => ?_, hspeaks⟩
  · have hn := (hwsec n).trans (hfreed.sections n)
    by_cases he : n = e.sec
    · cases hs : s.sec? n with
      | none => exact .inl (hn.trans (by rw [hs]; rfl))
      | some y =>
        cases hh : y.hold with
        | none =>
          refine .inl (hn.trans ?_)
          rw [hs, Option.map_some, if_pos he, ← hh]
        | some h =>
          refine .inr ⟨y, h, rfl, hh, hp y h (he ▸ hs) hh, hn.trans ?_⟩
          rw [hs, Option.map_some, if_pos he]
    · refine .inl (hn.trans ?_)
      simp only [if_neg he]
      cases s.sec? n <;> rfl
  · rw [hwroute, hfreed.route]
  · rw [hwroute, hfreed.route]
    dsimp only
    split
    · exact .refl _
    · exact List.filter_sublist
  · have h1 : w.tl t = { m.tl t with auth := (w.tl t).auth } := heval.port t
    rw [hmtl] at h1
    exact h1
  · obtain ⟨a1, a2, a3, a4, a5⟩ := heval.others v (by rw [List.mem_singleton]; exact hv)
    refine ⟨a1.trans (hmtr v), a2.trans (hfreed.routes v hv), a3.trans (hmtl v), a4.trans ?_, a5.trans ?_⟩
    · rw [hmonly]
    · rw [hmonly]
  · rw [honly, hmonly]
  · rw [honly, hmonly]

/-- What the rear's cascade releases is CLEAR, entered and GRANTED. -/
def rearHold (t : TId) (y : Section) (h : Hold) : Prop := h = ⟨t, .granted, true⟩ ∧ y.det = .clear

theorem cascadeFrom_loosened (t : TId) : ∀ (n : Nat) (s : State), s.Loosened (cascadeFrom t n s) t (rearHold t)
  | 0, s => .refl s t _
  | n + 1, s => by
    rw [cascadeFrom]
    cases hr : s.releasable t with
    | none => exact .refl s t _
    | some e =>
      obtain ⟨-, ⟨x, hx, hhold, hdet⟩, -⟩ := State.releasable_eq_some.mp hr
      refine .trans (State.release_loosened (fun y h hy hh => ?_) ..) (cascadeFrom_loosened t n _)
      cases hx.symm.trans hy
      exact ⟨Option.some.inj (hh.symm.trans hhold), hdet⟩

theorem State.cascade_loosened (s : State) (t : TId) : s.Loosened (s.cascade t) t (rearHold t) := cascadeFrom_loosened t _ s

/-! ## RESTORE_SECTION (R22) -/

/-- A change to OCCUPIED of a held section marks a GRANTED one as entered, and makes a walk due for a reserved one. -/
theorem State.detectionTaken_occupied {w : State} {c : DetChange} (hc : c.after = .occupied) {h : Hold}
    (hh : (w.sec? c.sec).bind (·.hold) = some h) :
    w.detectionTaken c h = { w with
      sections := (w.detectionTaken c h).sections, walkDue := w.walkDue || decide (h.kind = .setting) } ∧
    ∀ m, (w.detectionTaken c h).sec? m = if m = c.sec
      then (w.sec? m).map fun x => { x with hold := some (if h.kind = .granted then { h with entered := true } else h) }
      else w.sec? m := by
  have hkept : h.kind ≠ .granted → ∀ m, w.sec? m = if m = c.sec
      then (w.sec? m).map fun x => { x with hold := some (if h.kind = .granted then { h with entered := true } else h) }
      else w.sec? m := fun hk m => by
    by_cases hm : m = c.sec
    · obtain ⟨x, hx, hxh⟩ := Option.bind_eq_some_iff.mp hh
      simp only [hm, hx, if_neg hk, Option.map_some, ← hxh, if_true]
    · rw [if_neg hm]
  unfold State.detectionTaken
  simp only [hc]
  cases hk : h.kind with
  | granted =>
    refine ⟨by simp [State.setHold, State.modSec], fun m => ?_⟩
    rw [if_pos rfl]
    dsimp only
    rw [State.sec_setHold]
    by_cases hm : m = c.sec
    · simp only [if_pos hm]
    · simp only [if_neg hm]
      cases w.sec? m <;> rfl
  | setting =>
    refine ⟨by simp [State.trigger], ?_⟩
    rw [hk] at hkept
    exact hkept HoldKind.noConfusion
  | releasePending =>
    refine ⟨by simp, ?_⟩
    rw [hk] at hkept
    exact hkept HoldKind.noConfusion

theorem exec_restoreSection {s : State} {l : OpsId} (hl : s.OpsReady l) (tag n : Byte) :
    exec (.restoreSection l tag [n]) s = .next (s.restoreSection l tag n.toNat) :=
  (exec_ops_ready (act := State.onRestoreSection) (ty := Config.tyRestoreSection) (p := [n]) hl rfl rfl).trans rfl

/-- RESTORE_SECTION of a defined section, judged. -/
theorem State.restoreSection_judged {s : State} {n : Nat} {x : Section} (hrun : s.site = .running) (hn : n < 96)
    (hx : s.sec? n = some x) (l : OpsId) (tag : Byte) : s.restoreSection l tag n =
      if ¬ (x.det = .disturbed ∨ x.det = .unknown) then s.reply l tag 0x58 .state []
      else if (s.unit? x.defn.detAddr).map (·.st) = some .silent then s.reply l tag 0x58 .unitSilent []
      else (s.restoreDetection n).reply l tag 0x58 .ok [] := by
  have hfind : (if n < Config.numSections then s.sec? n else none) = some x := (if_pos hn).trans hx
  simp only [State.restoreSection, hfind]
  rw [State.judge_running hrun, State.judge_cons decide_eq_false_iff_not,
    State.judge_cons (p := (s.unit? x.defn.detAddr).map (·.st) = some .silent) (by
      rw [decide_eq_false_iff_not, not_not]
      rfl), State.judge_nil]
  rfl

/-- Settles O26: the checks in order; accepted, the section's detection is set, and the change handed on
(handDetection_handedOn), which releases CLEAR sections of its holder alone (Loosened). -/
theorem restoreSectionResult : Obligations.RestoreSectionResult := by
  intro s l tag n hl hrun
  rw [exec_restoreSection hl]
  refine ⟨fun hno => ?_, fun x hn hx => ?_⟩
  · have hnone : (if n.toNat < Config.numSections then s.sec? n.toNat else none) = none := by
      rcases hno with h | h
      · exact if_neg (Nat.not_lt.mpr h)
      · rw [h, ite_self]
    simp only [State.restoreSection, hnone]
    exact congrArg _ (State.judge_unknownId hrun ..)
  · rw [State.restoreSection_judged hrun hn hx]
    generalize n.toNat = n at *
    refine ⟨fun hdet => ?_, fun hdet hsil => ?_, fun hdet hsil => ?_⟩
    · exact congrArg _ (if_pos fun h => by rcases hdet with h1 | h1 <;> rcases h with h2 | h2 <;> exact nomatch h1.symm.trans h2)
    · exact congrArg _ ((if_neg (not_not_intro hdet)).trans (if_pos hsil))
    · obtain ⟨honly, hsec, hchange⟩ := State.setDet_spec hx .occupied
      have hne : s.detOf n ≠ .occupied := by
        rw [State.detOf_some hx]
        rcases hdet with h | h <;> rw [h] <;> exact Detection.noConfusion
      rw [if_neg hne] at hchange
      have hrestore : s.restoreDetection n = (s.setDet n .occupied).1.handDetection ⟨n, s.detOf n, .occupied⟩ := by
        unfold State.restoreDetection
        dsimp only
        rw [hchange]
        rfl
      generalize (s.setDet n .occupied).1 = w at honly hsec hrestore
      have hwx : w.sec? n = some { x with det := .occupied, capture := s.clock } := by
        rw [hsec, if_pos rfl, Section.timed, if_neg fun h => hne (by rw [State.detOf_some hx]; exact h.symm)]
      have hwm : ∀ m, m ≠ n → w.sec? m = s.sec? m := fun m hm => by rw [hsec, if_neg hm]
      refine ⟨s.restoreDetection n, w, congrArg _ ((if_neg (not_not_intro hdet)).trans (if_neg hsil)), honly, fun m => ?_,
        fun hwf => ?_, ?_⟩
      · split
        · next hm => rw [hm, hwx]
        · next hm => exact hwm m hm
      · rw [hrestore]
        exact State.handDetection_handedOn (by rw [honly]; exact hwf.2.1) ⟨n, s.detOf n, .occupied⟩
      · rw [hrestore]
        cases hh : x.hold with
        | none =>
          have hsame : w.handDetection ⟨n, s.detOf n, .occupied⟩ = w := by
            have hnone : (w.sec? n).bind (·.hold) = none := by rw [hwx]; exact hh
            simp only [State.handDetection, hnone]
            rfl
          rw [hsame]
          refine ⟨by rw [hwx, hh]; rfl, fun m hm => .inl (hwm m hm), nofun, fun _ => honly, ?_⟩
          rw [honly]
        | some h =>
          have hsome : (w.sec? n).bind (·.hold) = some h := by rw [hwx]; exact hh
          rw [State.handDetection_held hsome]
          obtain ⟨hvonly, hvsec⟩ := State.detectionTaken_occupied (c := ⟨n, s.detOf n, .occupied⟩) rfl hsome
          have hloose := (w.detectionTaken ⟨n, s.detOf n, .occupied⟩ h).cascade_loosened h.holder
          generalize w.detectionTaken ⟨n, s.detOf n, .occupied⟩ h = v at hvonly hvsec hloose
          generalize v.cascade h.holder = u at hloose
          have huonly := hloose.only
          have hvn : v.sec? n = some { x with
              det := .occupied, capture := s.clock
              hold := some (if h.kind = .granted then { h with entered := true } else h) } := by
            rw [hvsec, if_pos rfl, hwx]
            rfl
          have hvm : ∀ m, m ≠ n → v.sec? m = s.sec? m := fun m hm => by rw [hvsec, if_neg hm, hwm m hm]
          refine ⟨?_, fun m hm => ?_, fun k hk hset => ?_, nofun, ?_⟩
          · rcases hloose.holds n with hun | ⟨y, g, hy, -, hg, -⟩
            · rw [hun, hvn]
              rfl
            · cases hvn.symm.trans hy
              exact nomatch hg.2
          · rcases hloose.holds m with hun | ⟨y, g, hy, hyg, hg, hun⟩
            · exact .inl (hun.trans (hvm m hm))
            · exact .inr ⟨y, g, (hvm m hm).symm.trans hy, hyg, hg.2, by rw [hg.1]; rfl, hun⟩
          · cases hk
            refine hloose.walk ?_
            rw [hvonly, decide_eq_true hset, Bool.or_true]
          · rw [huonly, hvonly, honly]

end Sys2Proof.Machine

/-! PROOFS. What the braking test and the stop causes depend on, and the candidates of a shortening (R76, R77). -/

namespace Sys2Proof.Machine

/-! ## The braking test depends on the record's entries, the last report and the loads (R91 to R99) -/

/-- Nothing that the braking test of t reads differs between s and u. -/
structure State.SameForBraking (s u : State) (t : TId) : Prop where
  last : (u.tr t).last = (s.tr t).last
  rates : (u.tr t).decelEmpty = (s.tr t).decelEmpty ∧ (u.tr t).decelLoaded = (s.tr t).decelLoaded
  entries : (u.route t).entries = (s.route t).entries
  front : (u.route t).front = (s.route t).front
  defns : ∀ n, (u.sec? n).map (·.defn) = (s.sec? n).map (·.defn)
  telescopes : u.telescopes = s.telescopes
  params : u.params = s.params

section
variable {s u : State} {t : TId}

/-- Definitions alone make path lengths and grades. -/
theorem State.lengths_of_defns (h : ∀ n, (u.sec? n).map (·.defn) = (s.sec? n).map (·.defn)) :
    u.pathLen = s.pathLen ∧ u.worstGrade = s.worstGrade := by
  have hsame : State.SameForAuth s { u with
    trs := s.trs, routes := s.routes, telescopes := s.telescopes, band := s.band, params := s.params } 0 :=
    ⟨rfl, rfl, h, rfl, rfl, rfl⟩
  exact ⟨hsame.pathLen, hsame.worstGrade⟩

theorem State.SameForBraking.entryAt (h : s.SameForBraking u t) (i : Nat) : u.entryAt t i = s.entryAt t i := by
  rw [State.entryAt, h.entries]
  rfl

theorem State.SameForBraking.frontPos (h : s.SameForBraking u t) : u.frontPos t = s.frontPos t := by
  have hlen := (State.lengths_of_defns h.defns).1
  have hfront : u.frontEntry t = s.frontEntry t := by
    rw [State.frontEntry, h.front, funext h.entryAt]
    rfl
  simp only [State.frontPos, hfront, h.last, State.travelled, hlen]

theorem State.SameForBraking.brakingOk (h : s.SameForBraking u t) (c : RoutePos) : u.brakingOk t c = s.brakingOk t c := by
  obtain ⟨hlen, hgrade⟩ := State.lengths_of_defns h.defns
  simp only [State.brakingOk, h.frontPos, State.speed, h.last, State.distance, h.entries, h.entryAt, hlen, State.effDecelTo,
    State.decel, State.loaded, State.telescopeAt, State.loadSensed, h.telescopes, h.rates.1, h.rates.2, hgrade, State.span,
    h.params]
  cases s.frontPos t <;> rfl

end

/-! ## The stop causes depend on who holds what (R121) -/

/-- A section's definition, and its holder. -/
def Section.held (x : Section) : SectionDef × Option TId := (x.defn, x.hold.map (·.holder))

/-- Each section's definition and the holder it has. -/
def State.holders (s : State) : List (Nat × SectionDef × Option TId) := s.sections.map fun p => (p.1, p.2.held)

theorem State.stopCauses_of_holders {s u : State} (hstop : u.allStop = s.allStop) (hheld : u.holders = s.holders)
    (hlines : u.lines = s.lines) (hsite : u.site = s.site) (hband : u.band = s.band) : u.stopCauses = s.stopCauses := by
  have hzone : u.inStoppedZone = s.inStoppedZone := by
    funext z
    simp only [State.inStoppedZone, State.zoneStopped, hlines, hsite]
  have hmask : ∀ (z : State) (t : TId), z.holdsStopped t = z.holders.any fun p =>
      decide (p.2.2 = some t) && z.inStoppedZone p.2.1.zones := fun z t => by
    rw [State.holdsStopped, State.holders, List.any_map]
    congr 1
    funext p
    cases hh : p.2.hold <;> simp [hh, Section.held]
  funext t
  rw [State.stopCauses, hmask, hheld, hzone, hstop, hband, ← hmask]
  rfl

theorem State.moveEnd_holders (s : State) (t : TId) (c : RoutePos) : (s.moveEnd t c).holders = s.holders := by
  have hstep : ∀ (z : State) (e : Entry), (z.modSec e.sec fun x =>
      { x with hold := x.hold.map fun h => { h with kind := .releasePending } }).holders = z.holders := fun z e =>
    Table.mapAll_adjust (α := Section) z.sections e.sec
      (fun x => { x with hold := x.hold.map fun h => { h with kind := .releasePending } })
      Section.held fun x => by rw [Section.held, Section.held, Option.map_map]; rfl
  exact foldl_keeps State.holders _ hstep _ _

/-! ## The candidates in their order (R77) -/

theorem RoutePos.ahead_iff (p q : RoutePos) : p.ahead q = true ↔ q.idx < p.idx ∨ q.idx = p.idx ∧ q.off < p.off := decide_eq_true_iff

theorem RoutePos.ahead_asymm {p q : RoutePos} (h : p.ahead q = true) : q.ahead p = false := by
  rw [← Bool.not_eq_true, RoutePos.ahead_iff]
  rw [RoutePos.ahead_iff] at h
  omega

theorem RoutePos.not_ahead_self (p : RoutePos) : p.ahead p = false := by
  rw [← Bool.not_eq_true, RoutePos.ahead_iff]
  omega

theorem State.mem_candidates {s : State} {t : TId} {e p : RoutePos} (hp : (s.route t).endPos = some p) (d : RoutePos) :
    d ∈ s.candidates t e ↔ s.shortenCandidate t e p d := by
  unfold State.candidates State.shortenCandidate
  simp only [hp, List.mem_cons, List.mem_filter, List.mem_map, decide_eq_true_eq]
  refine or_congr Iff.rfl ⟨?_, ?_⟩
  · rintro ⟨⟨f, ⟨hf, h1, h2⟩, rfl⟩, ha⟩
    exact ⟨f, hf, rfl, h1, h2, ha⟩
  · rintro ⟨f, hf, rfl, h1, h2, ha⟩
    exact ⟨⟨f, ⟨hf, h1, h2⟩, rfl⟩, ha⟩

/-- Along a rising record the candidates stand in route order. -/
theorem State.candidates_sorted {s : State} {t : TId} (hrise : ((s.route t).entries.map (·.index)).Pairwise (· < ·))
    (e : RoutePos) : (s.candidates t e).Pairwise fun c d => c.ahead d = false := by
  unfold State.candidates
  split
  · next p hp =>
    rw [List.pairwise_cons]
    refine ⟨fun d hd => RoutePos.ahead_asymm (List.mem_filter.mp hd).2, ?_⟩
    refine List.Pairwise.filter _ ?_
    rw [List.pairwise_map] at hrise ⊢
    refine (hrise.filter _).imp fun {f g} h => ?_
    exact RoutePos.ahead_asymm ((RoutePos.ahead_iff _ _).mpr (.inl h))
  · exact List.pairwise_singleton _ _

/-- The effective end of a shortening: the end itself, or the first candidate that passes; what lies behind it fails. -/
theorem State.effectiveEnd_spec {s : State} {t : TId} {e p : RoutePos} (hp : (s.route t).endPos = some p)
    (hrise : ((s.route t).entries.map (·.index)).Pairwise (· < ·)) :
    (s.effectiveEnd t e = p ∨ s.shortenCandidate t e p (s.effectiveEnd t e) ∧ s.brakingOk t (s.effectiveEnd t e) = true) ∧
    ∀ d, s.shortenCandidate t e p d → (s.effectiveEnd t e).ahead d = true → s.brakingOk t d = false := by
  have heq : s.effectiveEnd t e = if e = p then p else ((s.candidates t e).find? (s.brakingOk t)).getD p := by
    simp only [State.effectiveEnd, hp]
  rw [heq]
  by_cases he : e = p
  · rw [if_pos he]
    refine ⟨.inl rfl, fun d hd ha => ?_⟩
    rcases hd with rfl | ⟨f, -, -, -, -, hd⟩
    · rw [he, RoutePos.not_ahead_self] at ha
      exact nomatch ha
    · rw [he, RoutePos.ahead_asymm ha] at hd
      exact nomatch hd
  · rw [if_neg he]
    cases hf : (s.candidates t e).find? (s.brakingOk t) with
    | none =>
      refine ⟨.inl rfl, fun d hd _ => ?_⟩
      exact Bool.eq_false_iff.mpr (List.find?_eq_none.mp hf d ((s.mem_candidates hp d).mpr hd))
    | some c =>
      obtain ⟨hok, as, bs, hlist, hfail⟩ := List.find?_eq_some_iff_append.mp hf
      have hmem := List.mem_of_find?_eq_some hf
      refine ⟨.inr ⟨(s.mem_candidates hp c).mp hmem, hok⟩, fun d hd ha => ?_⟩
      have hsorted := s.candidates_sorted hrise e
      have hd := (s.mem_candidates hp d).mpr hd
      rw [hlist] at hsorted hd
      rw [Option.getD_some] at ha
      rcases List.mem_append.mp hd with hd | hd
      · simpa using hfail d hd
      · rcases List.mem_cons.mp hd with rfl | hd
        · rw [RoutePos.not_ahead_self] at ha
          exact nomatch ha
        · have hno := (List.pairwise_cons.mp (List.pairwise_append.mp hsorted).2.1).1 d hd
          rw [hno] at ha
          exact nomatch ha

end Sys2Proof.Machine

/-! PROOFS. CANCEL and GIVEBACK (R73 to R79). -/

namespace Sys2Proof.Machine

/-! ## The steps of a shortening (R75 to R79) -/

/-- The end moved to c, or left where it is p. -/
def State.endTo (s : State) (t : TId) (c : RoutePos) (moved : Bool) : State := if moved then s.moveEnd t c else s

theorem State.endTo_spec {s : State} {t : TId} {p : RoutePos} (hp : (s.route t).endPos = some p) (c : RoutePos) :
    let u := s.endTo t c (decide (c ≠ p))
    u = { s with sections := u.sections, routes := u.routes } ∧
    u.route t = { s.route t with
      authNum := if c = p then (s.route t).authNum else nextAuth (s.route t).authNum, endPos := some c } ∧
    (∀ v, v ≠ t → u.route v = s.route v) ∧
    (∀ n, u.sec? n = (s.sec? n).map fun x =>
      { x with hold := if s.holdBy t n = some .granted ∧ c ≠ p ∧ ∃ e ∈ (s.route t).entries, e.sec = n ∧ c.idx < e.index
        then x.hold.map fun h => { h with kind := .releasePending } else x.hold }) ∧ u.holders = s.holders := by
  dsimp only
  by_cases hc : c = p
  · have heq : s.endTo t c (decide (c ≠ p)) = s := by simp [State.endTo, hc]
    rw [heq]
    refine ⟨rfl, by rw [if_pos hc, hc, ← hp], fun _ _ => rfl, fun n => ?_, rfl⟩
    cases s.sec? n <;> simp [hc]
  · have heq : s.endTo t c (decide (c ≠ p)) = s.moveEnd t c := by simp [State.endTo, hc]
    obtain ⟨honly, hroute, hsec⟩ := s.moveEnd_spec t c
    rw [heq]
    refine ⟨honly, by rw [hroute, if_pos rfl, if_neg hc], fun v hv => by rw [hroute, if_neg hv], fun n => ?_, s.moveEnd_holders t c⟩
    rw [hsec]
    simp [hc]

/-- A GIVEBACK's parking. -/
def State.parkIf (s : State) (t : TId) (c : RoutePos) (park : Bool) : State := if park then s.parkAt t c else s

theorem State.parkIf_spec (s : State) (t : TId) (c : RoutePos) (park : Bool) :
    let u := s.parkIf t c park
    u = { s with trs := u.trs } ∧ (u.tr t = if park = true ∧ (s.tr t).state = .authorised ∧ s.frontPos t = some c
      then { s.tr t with state := .parked } else s.tr t) ∧ ∀ v, v ≠ t → u.tr v = s.tr v := by
  unfold State.parkIf State.parkAt
  dsimp only
  by_cases hpark : park = true
  · by_cases h : (s.tr t).state = .authorised ∧ s.frontPos t = some c
    · rw [if_pos hpark, if_pos h, if_pos ⟨hpark, h⟩]
      exact ⟨rfl, State.tr_modTr_self .., fun v hv => by rw [State.tr_modTr, if_neg (Ne.symm hv)]⟩
    · rw [if_pos hpark, if_neg h, if_neg fun h' => h h'.2]
      exact ⟨rfl, rfl, fun _ _ => rfl⟩
  · rw [if_neg hpark, if_neg fun h => hpark h.1]
    exact ⟨rfl, rfl, fun _ _ => rfl⟩

/-- AUTH formed where the end moved. -/
def State.authIf (s : State) (t : TId) (moved : Bool) : State := if moved then s.formAuth t else s

theorem State.authIf_spec (s : State) (t : TId) (moved : Bool) :
    let u := s.authIf t moved
    u = { s with tls := u.tls, ceilings := u.ceilings } ∧ (moved = true → u.AuthCurrent t) ∧ (moved = false → u = s) ∧
    s.OnlyAuth u t ∧ ∀ v, v ≠ t → s.SameTransporter u v := by
  unfold State.authIf
  dsimp only
  cases moved with
  | true =>
    obtain ⟨hauth, honly, hport, hothers⟩ := s.formAuth_spec t
    exact ⟨honly, fun _ => hauth, nofun, hport, hothers⟩
  | false => exact ⟨rfl, nofun, fun _ => rfl, rfl, fun _ _ => ⟨rfl, rfl, rfl, rfl, rfl⟩⟩

theorem State.cutRecord_spec {s : State} {t : TId} {c : RoutePos} (hc : (s.route t).endPos = some c) :
    let u := s.cutRecord t
    u = { s with routes := u.routes } ∧
    u.route t = { s.route t with finalOff := if s.pendingRun t = [] then c.off else (s.route t).finalOff } ∧
    (∀ v, v ≠ t → u.route v = s.route v) ∧ u.pendingRun t = s.pendingRun t := by
  have hset : (s.finalToEnd t).route t = { s.route t with finalOff := c.off } := by
    rw [State.finalToEnd, State.route_modRoute_self]
    simp only [hc, Option.map_some, Option.getD_some]
  have hrun : (s.finalToEnd t).pendingRun t = s.pendingRun t := by
    have hes : ((s.finalToEnd t).route t).entries = (s.route t).entries := by rw [hset]
    rw [State.pendingRun, State.run, hes]
    rfl
  unfold State.cutRecord
  dsimp only
  by_cases h : s.pendingRun t = []
  · rw [if_pos (List.isEmpty_iff.mpr h), if_pos h]
    exact ⟨rfl, hset, fun v hv => by rw [State.finalToEnd, State.route_modRoute, if_neg (Ne.symm hv)], hrun⟩
  · rw [if_neg (fun he => h (List.isEmpty_iff.mp he)), if_neg h]
    exact ⟨rfl, rfl, fun _ _ => rfl, rfl⟩

/-- The final stop offset is no part of AUTH. -/
theorem State.authCurrent_finalOff {s u : State} {t : TId} (honly : u = { s with routes := u.routes }) {k : Nat}
    (hroute : u.route t = { s.route t with finalOff := k }) (h : s.AuthCurrent t) : u.AuthCurrent t := by
  have hent : ∀ i, u.entryAt t i = s.entryAt t i := fun i => by rw [State.entryAt, hroute]; rfl
  have htr : u.tr t = s.tr t := by rw [honly]; rfl
  have hsame : s.SameForBraking u t := ⟨by rw [htr], by rw [htr]; exact ⟨rfl, rfl⟩, by rw [hroute], by rw [hroute],
    fun n => by rw [honly]; rfl, by rw [honly], by rw [honly]⟩
  have hceil : u.ceilingNow t = s.ceilingNow t := by
    obtain ⟨hlen, hgrade⟩ := State.lengths_of_defns hsame.defns
    have hline : u.lineSpeed = s.lineSpeed := by rw [honly]; rfl
    have hload : u.loaded t = s.loaded t := by rw [State.loaded, State.loadSensed, htr, State.telescopeAt, hsame.telescopes]; rfl
    have hfront : u.frontEntry t = s.frontEntry t := by rw [State.frontEntry, hroute, funext hent]; rfl
    have hband : u.band = s.band := by rw [honly]
    simp only [State.ceilingNow, htr, State.caps, hfront, hroute, hline, hent, State.vmax, hload, hband, hsame.params, State.curve,
      hsame.frontPos, State.distance, hlen, State.effDecelTo, State.decel, hgrade, State.span]
  have hauth : ∀ c, u.authNow t c = s.authNow t c := fun c => by
    simp only [State.authNow, hroute, htr, hent]
  have htl : u.tl t = s.tl t := by rw [honly]; rfl
  have hc : u.ceilings = s.ceilings := by rw [honly]
  exact ⟨by rw [htl, hceil, hauth]; exact h.1, by rw [hceil, hc]; exact h.2⟩

/-! ## A shortening -/

theorem State.shorten_eq (s : State) (t : TId) (e : RoutePos) (park : Bool) {c p : RoutePos}
    (hc : (s.withdraw t).effectiveEnd t e = c) (hp : ((s.withdraw t).route t).endPos = some p) :
    s.shorten t e park = (((((s.withdraw t).endTo t c (decide (c ≠ p))).parkIf t c park).authIf t (decide (c ≠ p))).cutRecord t,
      c, decide (c ≠ p)) := by
  have hmoved : decide (((s.withdraw t).route t).endPos ≠ some c) = decide (c ≠ p) := by
    rw [hp]
    simp [eq_comm]
  unfold State.shorten
  dsimp only
  rw [hc, hmoved]
  rfl

theorem State.shorten_shortened {s : State} {t : TId} {e p : RoutePos} (hp : (s.route t).endPos = some p)
    (hrise : ((s.route t).entries.map (·.index)).Pairwise (· < ·)) (park : Bool) :
    ∃ u c, s.shorten t e park = (u, c, decide (c ≠ p)) ∧ s.Shortened u t e p c park := by
  have hw := s.withdrawRoute_withdrawn t
  obtain ⟨w, hwdef⟩ : ∃ w, w = s.withdrawRoute t := ⟨_, rfl⟩
  rw [← hwdef] at hw
  have hwonly := hw.only
  obtain ⟨s1, hs1⟩ : ∃ s1, s1 = s.withdraw t := ⟨_, rfl⟩
  have hs1only : s1 = { w with routes := s1.routes } := by rw [hs1, hwdef]; rfl
  have hs1route : s1.route t = { w.route t with keep := false } := by
    rw [hs1, State.withdraw, State.clearKeep, State.route_modRoute_self, hwdef]
  have hs1routes : ∀ v, v ≠ t → s1.route v = w.route v := fun v hv => by
    rw [hs1, State.withdraw, State.clearKeep, State.route_modRoute, if_neg (Ne.symm hv), hwdef]
  have hs1end : (s1.route t).endPos = some p := by rw [hs1route, hw.route]; exact hp
  have hs1entries : (s1.route t).entries = (s.route t).entries.filter fun x => decide (s.holdsFirm t x.sec) := by
    rw [hs1route, hw.route]
  have hs1rise : ((s1.route t).entries.map (·.index)).Pairwise (· < ·) := by
    rw [hs1entries]
    exact hrise.sublist (List.filter_sublist.map _)
  obtain ⟨c, hc⟩ : ∃ c, s1.effectiveEnd t e = c := ⟨_, rfl⟩
  obtain ⟨hchosen, hfirst⟩ := State.effectiveEnd_spec (e := e) hs1end hs1rise
  rw [hc] at hchosen hfirst
  have hshort := s.shorten_eq t e park (c := c) (p := p) (by rw [← hs1]; exact hc) (by rw [← hs1]; exact hs1end)
  rw [← hs1] at hshort
  obtain ⟨h2only, h2route, h2routes, h2sec, h2held⟩ := State.endTo_spec hs1end c
  generalize s1.endTo t c (decide (c ≠ p)) = s2 at *
  obtain ⟨h3only, h3tr, h3trs⟩ := s2.parkIf_spec t c park
  generalize s2.parkIf t c park = s3 at *
  obtain ⟨h4only, h4auth, h4same, h4port, h4others⟩ := s3.authIf_spec t (decide (c ≠ p))
  generalize s3.authIf t (decide (c ≠ p)) = s4 at *
  have h4route : ∀ v, s4.route v = s2.route v := fun v => by rw [h4only, h3only]; rfl
  obtain ⟨huonly, huroute, huroutes, hurun⟩ := State.cutRecord_spec (s := s4) (t := t) (c := c) (by rw [h4route, h2route])
  generalize s4.cutRecord t = u at *
  have hutr : u.tr t = s3.tr t := by rw [huonly, h4only]; rfl
  have hs2tr : ∀ v, s2.tr v = w.tr v := fun v => by rw [h2only, hs1only]; rfl
  have hlast : (u.tr t).last = (w.tr t).last ∧ (u.tr t).decelEmpty = (w.tr t).decelEmpty ∧
      (u.tr t).decelLoaded = (w.tr t).decelLoaded := by
    rw [hutr, h3tr, ← hs2tr]
    split <;> exact ⟨rfl, rfl, rfl⟩
  have hroute : u.route t = { s.route t with
      entries := (s.route t).entries.filter fun x => decide (s.holdsFirm t x.sec), nextIdx := (u.route t).nextIdx
      authNum := if c = p then (s.route t).authNum else nextAuth (s.route t).authNum, endPos := some c, keep := false
      finalOff := if u.pendingRun t = [] then c.off else (s.route t).finalOff } := by
    rw [hurun, huroute, h4route, h2route, hs1route, hw.route]
  have husec : ∀ n, u.sec? n = s2.sec? n := fun n => by rw [huonly, h4only, h3only]; rfl
  have hs1sec : ∀ n, s1.sec? n = w.sec? n := fun n => by rw [hs1only]; rfl
  have hdefns : ∀ n, (u.sec? n).map (·.defn) = (s1.sec? n).map (·.defn) := fun n => by
    rw [husec, h2sec, Option.map_map]
    rfl
  have hbrake : s1.SameForBraking u t := by
    have h1 : s1.tr t = w.tr t := by rw [hs1only]; rfl
    exact ⟨by rw [h1]; exact hlast.1, by rw [h1]; exact hlast.2, by rw [hroute, hs1entries],
      by rw [hroute, hs1route, hw.route], hdefns, by rw [huonly, h4only, h3only, h2only], by rw [huonly, h4only, h3only, h2only]⟩
  have hcand : ∀ d, u.shortenCandidate t e p d ↔ s1.shortenCandidate t e p d := fun d => by
    have hlen := (State.lengths_of_defns hbrake.defns).1
    simp only [State.shortenCandidate, hbrake.entries, State.exitBoundary, hlen]
  have hcauses : u.stopCauses = w.stopCauses := by
    refine State.stopCauses_of_holders ?_ ?_ ?_ ?_ ?_
    · rw [huonly, h4only, h3only, h2only, hs1only]
    · have h1 : u.holders = s2.holders := by rw [huonly, h4only, h3only]; rfl
      have h2 : s1.holders = w.holders := by rw [hs1only]; rfl
      rw [h1, h2held, h2]
    · rw [huonly, h4only, h3only, h2only, hs1only]
    · rw [huonly, h4only, h3only, h2only, hs1only]
    · rw [huonly, h4only, h3only, h2only, hs1only]
  have hfront : s2.frontPos t = u.frontPos t := by
    refine (State.SameForBraking.frontPos (s := s2) (u := u) ⟨?_, ?_, ?_, ?_, fun n => by rw [husec], ?_, ?_⟩).symm
    · rw [hs2tr]; exact hlast.1
    · rw [hs2tr]; exact hlast.2
    · rw [huroute, h4route]
    · rw [huroute, h4route]
    · rw [huonly, h4only, h3only]
    · rw [huonly, h4only, h3only]
  have hopss : u.opss = w.opss := by rw [huonly, h4only, h3only, h2only, hs1only]
  have hwaiting : u.waiting = s.waiting.filter fun w => decide (w.t ≠ t) := by
    rw [huonly, h4only, h3only, h2only, hs1only, hwonly]
  obtain ⟨d, hd, hwd⟩ := hw.dropped
  refine ⟨u, c, hshort, {
    chosen := hchosen.imp_right fun ⟨h1, h2⟩ => ⟨(hcand c).mpr h1, (hbrake.brakingOk c).trans h2⟩
    first := fun d hd ha => (hbrake.brakingOk d).trans (hfirst d ((hcand d).mp hd) ha)
    number := by rw [hroute]
    endPos := by rw [hroute]
    keep := by rw [hroute]
    entries := by rw [hroute]
    final := by conv_lhs => rw [hroute]
    holds := fun n => ?_
    record := ?_
    auth := fun hne => ?_
    waiting := hwaiting
    walk := by rw [huonly, h4only, h3only, h2only, hs1only, hwonly]
    told := fun hnone => ?_
    dropped := ⟨d, by rw [hwaiting]; exact hd, by rw [hopss, hwd], fun hcp => ?_⟩
    route := by
      conv_lhs => rw [hroute]
      rw [hroute]
    port := ?_
    only := by rw [huonly, h4only, h3only, h2only, hs1only, hwonly]
    others := fun v hv => ?_ }⟩
  · rw [husec, h2sec, hs1sec, hw.holds, Option.map_map]
    refine Option.map_congr fun x _ => congrArg (fun h => { x with hold := h }) ?_
    have hhold : s1.holdBy t n = w.holdBy t n := by rw [State.holdBy, hs1sec]; rfl
    rw [State.holdShortened, hhold, hw.holdBy]
    dsimp only
    by_cases hset : s.holdBy t n = some .setting ∧ s.inRecord t n
    · simp only [if_pos hset]
      rw [if_neg fun h => nomatch h.1]
    · simp only [if_neg hset]
      have hiff : (∃ e ∈ (s1.route t).entries, e.sec = n ∧ c.idx < e.index) ∧ s.holdBy t n = some .granted ↔
          (∃ e ∈ (s.route t).entries, e.sec = n ∧ c.idx < e.index) ∧ s.holdBy t n = some .granted := by
        rw [hs1entries]
        refine and_congr_left fun hg => exists_congr fun f => ?_
        rw [List.mem_filter, decide_eq_true_iff]
        refine ⟨fun ⟨⟨hf, _⟩, h⟩ => ⟨hf, h⟩, fun ⟨hf, hsec, hlt⟩ => ⟨⟨hf, .inl (by rw [hsec]; exact hg)⟩, hsec, hlt⟩⟩
      by_cases hcut : s.holdBy t n = some .granted ∧ c ≠ p ∧ ∃ e ∈ (s.route t).entries, e.sec = n ∧ c.idx < e.index
      · rw [if_pos hcut, if_pos ⟨hcut.1, hcut.2.1, (hiff.mpr ⟨hcut.2.2, hcut.1⟩).1⟩]
      · rw [if_neg hcut, if_neg fun h => hcut ⟨h.1, h.2.1, (hiff.mp ⟨h.2.2, h.1⟩).1⟩]
  · rw [hutr, h3tr, hfront, hs2tr, hw.record, hcauses]
  · refine State.authCurrent_finalOff huonly (k := if s4.pendingRun t = [] then c.off else (s4.route t).finalOff) huroute ?_
    exact h4auth (decide_eq_true hne)
  · rw [hopss, hwd, hd.nothing hnone]
  · have h43 : s4 = s3 := h4same (decide_eq_false (not_not_intro hcp))
    have h1 : u.tl t = d.tl t := by rw [huonly, h43, h3only, h2only, hs1only, hwd]; rfl
    have h2 : u.ceilings = d.ceilings := by rw [huonly, h43, h3only, h2only, hs1only, hwd]
    rw [h1, h2]
    exact ⟨rfl, rfl⟩
  · have h1 : s4.tl t = { s3.tl t with auth := (s4.tl t).auth } := h4port
    have h2 : s3.tl t = w.tl t := by rw [h3only, h2only, hs1only]; rfl
    have h3 : w.tl t = { s.tl t with auth := (w.tl t).auth } := hw.port t
    have h4 : u.tl t = s4.tl t := by rw [huonly]; rfl
    rw [h2, h3] at h1
    rw [State.OnlyAuth, h4]
    exact h1
  · obtain ⟨a1, a2, a3, a4, a5⟩ := hw.others v hv
    obtain ⟨b1, b2, b3, b4, b5⟩ := h4others v hv
    have c1 : u.tr v = s4.tr v ∧ u.tl v = s4.tl v ∧ u.ceilings[v] = s4.ceilings[v] ∧ u.transfers[v] = s4.transfers[v] := by
      rw [huonly]
      exact ⟨rfl, rfl, rfl, rfl⟩
    have c2 : s3.tl v = w.tl v ∧ s3.ceilings[v] = w.ceilings[v] ∧ s3.transfers[v] = w.transfers[v] := by
      rw [h3only, h2only, hs1only]
      exact ⟨rfl, rfl, rfl⟩
    have c3 : s3.route v = s2.route v := by rw [h3only]; rfl
    exact ⟨c1.1.trans (b1.trans ((h3trs v hv).trans ((hs2tr v).trans a1))),
      (huroutes v hv).trans (b2.trans (c3.trans ((h2routes v hv).trans ((hs1routes v hv).trans a2)))),
      c1.2.1.trans (b3.trans (c2.1.trans a3)), c1.2.2.1.trans (b4.trans (c2.2.1.trans a4)),
      c1.2.2.2.trans (b5.trans (c2.2.2.trans a5))⟩

/-! ## The requests, judged (R73, R74) -/

/-- The checks of the end asked for (R73 steps 5 to 8) pass. -/
def State.EndFits (s : State) (t : TId) (e : RoutePos) : Prop :=
  ∃ x q p, s.entryAt t e.idx = some x ∧ s.frontPos t = some q ∧ (s.route t).endPos = some p ∧
    q.idx ≤ e.idx ∧ e.idx ≤ p.idx ∧ e.off ≤ s.pathLen x ∧ q.ahead e = false ∧ e.ahead p = false

theorem State.endChecks_fit {s : State} {t : TId} {e : RoutePos} (h : s.EndFits t e) : firstFailing (s.endChecks t e) = none := by
  obtain ⟨x, q, p, hx, hq, hp, h1, h2, h3, h4, h5⟩ := h
  unfold State.endChecks
  simp only [hx, hq, hp]
  simp [firstFailing, h1, h2, h3, h4, h5]

theorem State.endChecks_unfit {s : State} {t : TId} {e : RoutePos} (h : ¬ s.EndFits t e) :
    firstFailing (s.endChecks t e) = some .range := by
  cases hx : s.entryAt t e.idx with
  | none => simp only [State.endChecks, hx, firstFailing, Bool.false_eq_true, if_false]
  | some x =>
    cases hq : s.frontPos t with
    | none => simp only [State.endChecks, hx, hq, firstFailing, Bool.false_eq_true, if_false]
    | some q =>
      cases hp : (s.route t).endPos with
      | none => simp only [State.endChecks, hx, hq, hp, firstFailing, Bool.false_eq_true, if_false]
      | some p =>
        simp only [State.endChecks, hx, hq, hp, firstFailing]
        by_cases h1 : q.idx ≤ e.idx ∧ e.idx ≤ p.idx
        · rw [if_pos (decide_eq_true h1)]
          by_cases h2 : e.off ≤ s.pathLen x
          · rw [if_pos (decide_eq_true h2)]
            cases h3 : q.ahead e with
            | true => rfl
            | false =>
              cases h4 : e.ahead p with
              | true => rfl
              | false => exact absurd ⟨x, q, p, hx, hq, hp, h1.1, h1.2, h2, h3, h4⟩ h
          · rw [if_neg (by simpa using h2)]
        · rw [if_neg (by simpa using h1)]

theorem TState.shortenable_iff (x : TState) : x.shortenable = true ↔ x = .parked ∨ x = .authorised ∨ x = .held := by
  cases x <;> simp [TState.shortenable]

/-- The checks of CANCEL and GIVEBACK in RUNNING (R73 steps 2 to 8). -/
def State.shortenChecks (s : State) (t : TId) (e : RoutePos) : List (Bool × Reason) :=
  [(s.running, .state), ((s.tr t).state.shortenable, .state)] ++ s.endChecks t e

theorem State.shortenChecks_state {s : State} {t : TId} (hrun : s.site = .running)
    (h : ¬ ((s.tr t).state = .parked ∨ (s.tr t).state = .authorised ∨ (s.tr t).state = .held)) (e : RoutePos) :
    firstFailing (s.shortenChecks t e) = some .state := by
  have hno : (s.tr t).state.shortenable = false := Bool.eq_false_iff.mpr (mt (TState.shortenable_iff _).mp h)
  rw [State.shortenChecks, State.running_eq_true hrun, hno]
  rfl

theorem State.shortenChecks_open {s : State} {t : TId} (hrun : s.site = .running)
    (h : (s.tr t).state = .parked ∨ (s.tr t).state = .authorised ∨ (s.tr t).state = .held) (e : RoutePos) :
    firstFailing (s.shortenChecks t e) = firstFailing (s.endChecks t e) := by
  rw [State.shortenChecks, State.running_eq_true hrun, (TState.shortenable_iff _).mpr h]
  rfl

theorem exec_cancel {s : State} {l : OpsId} (hl : s.OpsReady l) (tag n ih il oh ol : Byte) :
    exec (.cancel l tag [n, ih, il, oh, ol]) s = .next (s.cancel l tag n.toNat ⟨num16 ih il, num16 oh ol⟩) :=
  (exec_ops_ready (act := State.onCancel) (ty := Config.tyCancel) (p := [n, ih, il, oh, ol]) hl rfl rfl).trans rfl

theorem exec_giveback {s : State} {t : TId} (hq : s.Quiet (.tl t)) (ih il oh ol : Byte) :
    exec (.giveback t [ih, il, oh, ol]) s =
      .next ((s.reloadSupervision t).givebackRequest t ⟨num16 ih il, num16 oh ol⟩) :=
  (exec_tl_quiet (act := State.onGiveback) (ty := Config.tyGiveback) (p := [ih, il, oh, ol]) hq rfl rfl).trans rfl

theorem State.cancel_judged (s : State) (l : OpsId) (tag : Byte) {n : Nat} {t : TId} (hn : n = t.val) (e : RoutePos) :
    s.cancel l tag n e = s.judge l tag 0x53 (s.shortenChecks t e) (fun s => (s.shorten t e false).1)
      fun _ => cancelData t (s.shorten t e false) := by
  simp only [State.cancel, tid?_self hn]
  rfl

/-- Reloading supervision changes nothing that the checks of an end read. -/
theorem State.endFits_reload (s : State) (t : TId) (e : RoutePos) : (s.reloadSupervision t).EndFits t e ↔ s.EndFits t e := by
  obtain ⟨honly, hrec, -, -⟩ := s.reloadSupervision_spec t
  generalize s.reloadSupervision t = r at honly hrec
  have hroute : r.route t = s.route t := by rw [honly]; rfl
  have hsame : s.SameForBraking r t := ⟨by rw [hrec], by rw [hrec]; exact ⟨rfl, rfl⟩, by rw [hroute], by rw [hroute],
    fun n => by rw [honly]; rfl, by rw [honly], by rw [honly]⟩
  have hlen := (State.lengths_of_defns hsame.defns).1
  simp only [State.EndFits, hsame.entryAt, hsame.frontPos, hroute, hlen]

/-- Settles O22: the checks in order; accepted, shorten_shortened. -/
theorem shortenResult : Obligations.ShortenResult := by
  refine ⟨fun s l tag n ih il oh ol hl hrun hn => ?_, fun s t l tag n ih il oh ol hrun hn => ?_,
    fun s t x q e p hrun hrise hopen hx hq hp h1 h2 h3 h4 h5 => ⟨fun l tag n ih il oh ol hl hn he => ?_,
      fun ih il oh ol hquiet he => ?_⟩⟩
  · rw [exec_cancel hl]
    simp only [State.cancel, tid?_eq_none hn]
    exact congrArg _ (State.judge_unknownId hrun ..)
  · dsimp only
    obtain ⟨honly, hrec, -, -⟩ := s.reloadSupervision_spec t
    have hrrun : (s.reloadSupervision t).site = .running := by rw [honly]; exact hrun
    have hrstate : ((s.reloadSupervision t).tr t).state = (s.tr t).state := by rw [hrec]
    have hrefused : ∀ r, firstFailing (s.shortenChecks t ⟨num16 ih il, num16 oh ol⟩) = some r →
        firstFailing ((s.reloadSupervision t).shortenChecks t ⟨num16 ih il, num16 oh ol⟩) = some r →
        (s.OpsReady l → exec (.cancel l tag [n, ih, il, oh, ol]) s = .next (s.reply l tag 0x53 r [])) ∧
        (s.Quiet (.tl t) → exec (.giveback t [ih, il, oh, ol]) s = .next ((s.reloadSupervision t).refuse t 0x13 r)) := by
      intro r hr hr'
      refine ⟨fun hl => ?_, fun hquiet => ?_⟩
      · rw [exec_cancel hl, s.cancel_judged l tag hn, State.judge_refused hr]
      · rw [exec_giveback hquiet]
        refine congrArg _ ?_
        change (s.reloadSupervision t).judgeTl t 0x13 ((s.reloadSupervision t).shortenChecks t _) _ = _
        rw [State.judgeTl, hr']
    refine ⟨fun hno => hrefused _ (State.shortenChecks_state hrun hno _) (State.shortenChecks_state hrrun (hrstate ▸ hno) _),
      fun q p hopen hq hp hbad => ?_⟩
    have hunfit : ¬ s.EndFits t ⟨num16 ih il, num16 oh ol⟩ := by
      rintro ⟨x, q', p', hx, hq', hp', h1, h2, h3, h4, h5⟩
      cases hq.symm.trans hq'
      cases hp.symm.trans hp'
      rcases hbad x hx with h | h | h | h | h
      · exact Nat.not_lt.mpr h1 h
      · exact Nat.not_lt.mpr h2 h
      · exact Nat.not_lt.mpr h3 h
      · exact nomatch h4.symm.trans h
      · exact nomatch h5.symm.trans h
    refine hrefused _ ?_ ?_
    · rw [State.shortenChecks_open hrun hopen, State.endChecks_unfit hunfit]
    · rw [State.shortenChecks_open hrrun (hrstate ▸ hopen), State.endChecks_unfit (mt (s.endFits_reload t _).mp hunfit)]
  · obtain ⟨u, c, hshort, hdone⟩ := State.shorten_shortened (e := e) hp (hrise t).1 false
    refine ⟨u, c, hdone, ?_⟩
    have hfit : s.EndFits t e := ⟨x, q, p, hx, hq, hp, h1, h2, h3, h4, h5⟩
    rw [exec_cancel hl, s.cancel_judged l tag hn, ← he, State.judge_accepted, hshort]
    · have hb : b8 t.val = n := by rw [← hn]; exact BitVec.ofNat_toNat ..
      have hflag : flag (decide (c ≠ p)) = if c = p then 0 else 1 := by
        by_cases hc : c = p <;> simp [flag, hc]
      simp only [cancelData, hb, hflag]
      rfl
    · rw [State.shortenChecks_open hrun hopen, State.endChecks_fit hfit]
  · obtain ⟨honly, hrec, -, -⟩ := s.reloadSupervision_spec t
    have hfit : (s.reloadSupervision t).EndFits t e := (s.endFits_reload t e).mpr ⟨x, q, p, hx, hq, hp, h1, h2, h3, h4, h5⟩
    have hroute : (s.reloadSupervision t).route t = s.route t := by rw [honly]; rfl
    obtain ⟨u, c, hshort, hdone⟩ := State.shorten_shortened (s := s.reloadSupervision t) (t := t) (e := e) (p := p)
      (by rw [hroute]; exact hp) (by rw [hroute]; exact (hrise t).1) true
    refine ⟨u, c, ?_, hdone⟩
    rw [exec_giveback hquiet, ← he]
    refine congrArg _ ?_
    change (s.reloadSupervision t).judgeTl t 0x13 ((s.reloadSupervision t).shortenChecks t _) _ = _
    rw [State.judgeTl, State.shortenChecks_open (by rw [honly]; exact hrun) (by rw [hrec]; exact hopen),
      State.endChecks_fit hfit]
    exact congrArg Prod.fst hshort

end Sys2Proof.Machine

/-! PROOFS. Link ports: bytes at the receiver, frames that arrive and that wait (R169 to R174). -/

namespace Sys2Proof.Machine

/-! ## One port's common part changed -/

theorem State.modCore_onlyCore (s : State) (l : PortId) (f : PortCore → PortCore) : s.OnlyCore (s.modCore l f) l := by
  cases l with
  | tl t =>
    refine ⟨rfl, fun m hm => ?_, fun v => ?_, fun k => rfl⟩
    · cases m with
      | ops k => rfl
      | tl v =>
        have hv : t ≠ v := fun h => hm (congrArg PortId.tl h.symm)
        simp only [State.core, State.modCore, State.tl_modTl, if_neg hv]
    · simp only [State.core, State.modCore, State.tl_modTl]
      split <;> rfl
  | ops k =>
    refine ⟨rfl, fun m hm => ?_, fun v => rfl, fun j => ?_⟩
    · cases m with
      | tl v => rfl
      | ops j =>
        have hj : k ≠ j := fun h => hm (congrArg PortId.ops h.symm)
        simp only [State.core, State.modCore, State.opsPort_modOps, if_neg hj]
    · simp only [State.core, State.modCore, State.opsPort_modOps]
      split <;> rfl

theorem State.OnlyCore.refl (s : State) (l : PortId) : s.OnlyCore s l := ⟨rfl, fun _ _ => rfl, fun _ => rfl, fun _ => rfl⟩

/-! ## Bytes (R169, R174) -/

section
variable {s : State} {l : PortId}

theorem State.receiveByte_hunting (h : (s.core l).receiver = .hunting) (b : Byte) :
    s.receiveByte l b = if b = 0xA5 then s.setReceiver l (.assembling [])
      else if b = 0xC3 then s.modCore l fun c => { c with txFlow := .hold }
      else if b = 0xC5 then s.modCore l fun c => { c with txFlow := .go } else s := by
  unfold State.receiveByte
  rw [h]
  rfl

theorem State.receiveByte_first (h : (s.core l).receiver = .assembling []) (b : Byte) :
    s.receiveByte l b = if lenOk b then s.setReceiver l (.assembling [b]) else s.setReceiver l .hunting := by
  unfold State.receiveByte
  rw [h]

theorem State.receiveByte_further {len : Byte} {rest : List Byte} (h : (s.core l).receiver = .assembling (len :: rest))
    (hlen : rest.length + 2 ≠ len.toNat + 3) (b : Byte) :
    s.receiveByte l b = s.setReceiver l (.assembling (len :: rest ++ [b])) := by
  unfold State.receiveByte
  rw [h]
  exact if_neg (by simpa using hlen)

end

/-- Settles O45: one byte at the receiver, by what it is doing. -/
theorem linkBytes : Obligations.LinkBytes := by
  intro s l b hs
  dsimp only
  have hexec : ∀ {i : Instr} {f : State → State}, exec i s = .next (s.live f) → exec i s = .next (f s) := fun h => by
    rw [h, State.live_eq hs]
  have hbyte : ∀ (i : Instr) (x : Byte) (g : PortCore → PortCore), exec i s = .next (s.live fun s => s.receiveByte l x) →
      s.receiveByte l x = s.modCore l g → ∃ u, exec i s = .next u ∧ s.OnlyCore u l ∧ u.core l = g (s.core l) :=
    fun i x g hi hg => ⟨_, (hexec hi).trans (congrArg _ hg), s.modCore_onlyCore l g, State.core_modCore ..⟩
  have hfirst : (s.core l).receiver = .assembling [] → ∀ (i : Instr) (x : Byte),
      exec i s = .next (s.live fun s => s.receiveByte l x) → lenOk x = false →
      ∃ u, exec i s = .next u ∧ s.OnlyCore u l ∧ u.core l = { s.core l with receiver := .hunting } := fun h i x hi hx =>
    hbyte i x (fun c => { c with receiver := .hunting }) hi ((State.receiveByte_first h x).trans (if_neg (by simp [hx])))
  refine ⟨fun h => ⟨?_, ?_, ?_, fun h1 h2 h3 => ?_, ?_⟩, fun h => ⟨?_, ?_, ?_, fun hb => ?_, fun hb hb' => ?_⟩,
    fun len rest h hlen => ⟨?_, ?_, ?_, ?_⟩, fun f h => ?_⟩
  · exact hbyte (.synByte l) _ (fun c => { c with receiver := .assembling [] }) rfl (State.receiveByte_hunting h _)
  · exact hbyte (.holdByte l) _ (fun c => { c with txFlow := .hold }) rfl (State.receiveByte_hunting h _)
  · exact hbyte (.goByte l) _ (fun c => { c with txFlow := .go }) rfl (State.receiveByte_hunting h _)
  · refine ⟨s, (hexec (i := .lenOutOfRange l b) rfl).trans (congrArg _ ?_), .refl s l, rfl⟩
    rw [State.receiveByte_hunting h, if_neg h1, if_neg h2, if_neg h3]
  · refine ⟨s, (hexec (i := .frameGapTimeout l) rfl).trans (congrArg _ ?_), .refl s l, rfl⟩
    unfold State.gapTimeout
    rw [h]
  · exact hfirst h (.synByte l) _ rfl rfl
  · exact hfirst h (.holdByte l) _ rfl rfl
  · exact hfirst h (.goByte l) _ rfl rfl
  · refine hfirst h (.lenOutOfRange l b) b rfl ?_
    rw [lenOk, decide_eq_false_iff_not]
    omega
  · exact hbyte (.lenOutOfRange l b) b (fun c => { c with receiver := .assembling [b] }) rfl
      ((State.receiveByte_first h b).trans (if_pos (decide_eq_true ⟨hb, hb'⟩)))
  · exact hbyte (.synByte l) _ (fun c => { c with receiver := .assembling (len :: rest ++ [0xA5]) }) rfl
      (State.receiveByte_further h hlen _)
  · exact hbyte (.holdByte l) _ (fun c => { c with receiver := .assembling (len :: rest ++ [0xC3]) }) rfl
      (State.receiveByte_further h hlen _)
  · exact hbyte (.goByte l) _ (fun c => { c with receiver := .assembling (len :: rest ++ [0xC5]) }) rfl
      (State.receiveByte_further h hlen _)
  · exact hbyte (.lenOutOfRange l b) b (fun c => { c with receiver := .assembling (len :: rest ++ [b]) }) rfl
      (State.receiveByte_further h hlen b)
  · refine ⟨_, (hexec (i := .frameGapTimeout l) rfl).trans (congrArg _ ?_), s.modCore_onlyCore l fun c => { c with receiver := .hunting },
      State.core_modCore ..⟩
    unfold State.gapTimeout
    rw [h]
    rfl

/-! ## The bytes of a frame (R169, R170) -/

theorem State.setReceiver_setReceiver (s : State) (l : PortId) (r q : Receiver) :
    (s.setReceiver l r).setReceiver l q = s.setReceiver l q := State.modCore_modCore ..

theorem State.setReceiver_same {s : State} {l : PortId} {r : Receiver} (h : (s.core l).receiver = r) : s.setReceiver l r = s :=
  State.modCore_id s l _ (by rw [← h])

theorem State.receiver_setReceiver (s : State) (l : PortId) (r : Receiver) : ((s.setReceiver l r).core l).receiver = r := by
  rw [State.setReceiver, State.core_modCore]

theorem State.resetHold_setReceiver (s : State) (l : PortId) (r : Receiver) : (s.setReceiver l r).resetHold = s.resetHold :=
  State.modCore_resetHold ..

/-- The bytes before the last are gathered. -/
theorem State.receiveBytes_gather {s : State} {l : PortId} (hs : s.resetHold = none) (len : Byte) : ∀ (bs rest : List Byte),
    rest.length + bs.length + 1 < len.toNat + 3 →
    (s.setReceiver l (.assembling (len :: rest))).receiveBytes l bs = s.setReceiver l (.assembling (len :: rest ++ bs))
  | [], rest, _ => by
    rw [List.append_nil]
    rfl
  | b :: bs, rest, h => by
    rw [List.length_cons] at h
    have hbyte := State.receiveByte_further (s.receiver_setReceiver l (.assembling (len :: rest))) (by omega) b
    have hlive : (s.setReceiver l (.assembling (len :: rest))).live (fun s => s.receiveByte l b) =
        s.setReceiver l (.assembling (len :: (rest ++ [b]))) := by
      rw [State.live_eq ((s.resetHold_setReceiver l _).trans hs), hbyte, State.setReceiver_setReceiver]
      rfl
    have htail := State.receiveBytes_gather (l := l) hs len bs (rest ++ [b]) (by
      rw [List.length_append, List.length_singleton]
      omega)
    rw [State.receiveBytes, List.foldl_cons, hlive]
    refine htail.trans ?_
    rw [← List.cons_append, List.append_assoc]
    rfl

/-- The bytes after SYN, their number as LEN says: the frame is judged. -/
theorem State.receiveBytes_last {s : State} {l : PortId} (hs : s.resetHold = none) (hr : (s.core l).receiver = .assembling [])
    {len : Byte} (hlen : lenOk len = true) {bs : List Byte} (hn : bs.length = len.toNat + 1) (b : Byte) :
    s.receiveBytes l (len :: bs ++ [b]) = (s.setReceiver l (.assembling (len :: bs))).receiveByte l b := by
  have hfirst : s.live (fun s => s.receiveByte l len) = s.setReceiver l (.assembling [len]) := by
    rw [State.live_eq hs, State.receiveByte_first hr, if_pos hlen]
  have hgather := State.receiveBytes_gather (l := l) hs len bs [] (by rw [List.length_nil]; omega)
  rw [State.receiveBytes, List.cons_append, List.foldl_cons, hfirst, List.foldl_append]
  rw [State.receiveBytes] at hgather
  rw [hgather, List.foldl_cons, List.foldl_nil, State.live_eq ((s.resetHold_setReceiver l _).trans hs)]
  rfl

theorem State.receiveBytes_valid {s : State} {l : PortId} (hs : s.resetHold = none) (hr : (s.core l).receiver = .assembling [])
    {len : Byte} (hlen : lenOk len = true) {bs : List Byte} {b : Byte} (hn : bs.length = len.toNat + 1) {f : Frame}
    (hf : judgeFrame l (len :: bs ++ [b]) = some f) :
    s.receiveBytes l (len :: bs ++ [b]) = (s.setReceiver l .hunting).frameArrives l f := by
  rw [State.receiveBytes_last hs hr hlen hn]
  unfold State.receiveByte
  rw [s.receiver_setReceiver]
  simp only [hf, State.setReceiver_setReceiver]
  exact if_pos (by simp [hn])

theorem State.receiveBytes_invalid {s : State} {l : PortId} (hs : s.resetHold = none) (hr : (s.core l).receiver = .assembling [])
    {len : Byte} (hlen : lenOk len = true) {bs : List Byte} {b : Byte} (hn : bs.length = len.toNat + 1)
    (hf : judgeFrame l (len :: bs ++ [b]) = none) : s.receiveBytes l (len :: bs ++ [b]) = s.setReceiver l .hunting := by
  rw [State.receiveBytes_last hs hr hlen hn]
  unfold State.receiveByte
  rw [s.receiver_setReceiver]
  simp only [hf, State.setReceiver_setReceiver]
  exact if_pos (by simp [hn])

/-- A frame's bytes, judged. -/
theorem judgeFrame_bytes (l : PortId) (ty h k : Byte) {payload : List Byte} (hn : payload.length ≤ 124) :
    judgeFrame l (b8 (payload.length + 1) :: (ty :: payload ++ [h]) ++ [k]) =
      if crcBytes (b8 (payload.length + 1) :: ty :: payload) = [h, k] ∧ validType l ty = true then some ⟨ty, payload⟩ else none := by
  have hlen : (b8 (payload.length + 1)).toNat - 1 = payload.length := by
    rw [b8, BitVec.toNat_ofNat, Nat.mod_eq_of_lt (by omega)]
    omega
  have hbytes : b8 (payload.length + 1) :: (ty :: payload ++ [h]) ++ [k] =
      b8 (payload.length + 1) :: ty :: (payload ++ [h, k]) := by simp
  rw [hbytes, judgeFrame]
  rw [hlen, List.take_left, List.drop_left]

/-- The bytes of a frame at a port that has taken SYN. -/
theorem exec_frameComplete {s : State} {l : PortId} (hs : s.resetHold = none) (hr : (s.core l).receiver = .assembling [])
    (ty h k : Byte) {payload : List Byte} (h1 : 1 ≤ payload.length) (hn : payload.length ≤ 124) :
    exec (.frameComplete l (b8 (payload.length + 1) :: ty :: payload ++ [h, k])) s =
      .next (if [h, k] = crcBytes (b8 (payload.length + 1) :: ty :: payload) ∧ validType l ty = true
        then (s.setReceiver l .hunting).frameArrives l ⟨ty, payload⟩ else s.setReceiver l .hunting) := by
  have hlen : (b8 (payload.length + 1)).toNat = payload.length + 1 := by
    rw [b8, BitVec.toNat_ofNat, Nat.mod_eq_of_lt (by omega)]
  have hok : lenOk (b8 (payload.length + 1)) = true := decide_eq_true (by omega)
  have hbytes : b8 (payload.length + 1) :: ty :: payload ++ [h, k] = b8 (payload.length + 1) :: (ty :: payload ++ [h]) ++ [k] := by
    simp
  have hcount : (ty :: payload ++ [h]).length = (b8 (payload.length + 1)).toNat + 1 := by simp [hlen]
  have hexec : exec (.frameComplete l (b8 (payload.length + 1) :: ty :: payload ++ [h, k])) s =
      .next (s.receiveBytes l (b8 (payload.length + 1) :: ty :: payload ++ [h, k])) := congrArg Host.Outcome.next (State.live_eq hs _)
  have hjudge := judgeFrame_bytes l ty h k hn
  rw [hexec, hbytes]
  refine congrArg _ ?_
  by_cases hv : [h, k] = crcBytes (b8 (payload.length + 1) :: ty :: payload) ∧ validType l ty = true
  · rw [if_pos hv]
    rw [if_pos ⟨hv.1.symm, hv.2⟩] at hjudge
    exact State.receiveBytes_valid hs hr hok hcount hjudge
  · rw [if_neg hv]
    rw [if_neg fun h => hv ⟨h.1.symm, h.2⟩] at hjudge
    exact State.receiveBytes_invalid hs hr hok hcount hjudge

theorem frameBytes_drop (ty : Byte) (payload : List Byte) : ∃ h k, [h, k] = crcBytes (b8 (payload.length + 1) :: ty :: payload) ∧
    (frameBytes ty payload).drop 1 = b8 (payload.length + 1) :: ty :: payload ++ [h, k] := ⟨_, _, rfl, rfl⟩

/-- The types of commands are those that the far end may send. -/
theorem validType_opsFrame {c : Instr} {l : OpsId} {ty tag : Byte} {p : List Byte} (h : opsFrame c = some (l, ty, tag, p)) :
    validType (.ops l) ty = true := by
  have htypes : ∀ o ∈ opsOwners.map (·.1), Config.operationsTypes.contains o = true := by decide
  obtain ⟨o, ho, hty, -⟩ := opsFrame_owner h
  exact htypes ty (List.mem_map.mpr ⟨o, ho, hty⟩)

theorem validType_tlFrame {c : Instr} {t : TId} {ty : Byte} {p : List Byte} (h : tlFrame c = some (t, ty, p)) :
    validType (.tl t) ty = true := by
  have htypes : ∀ o ∈ tlOwners.map (·.1), Config.transporterTypes.contains o = true := by decide
  obtain ⟨o, ho, hty, -⟩ := tlFrame_owner h
  exact htypes ty (List.mem_map.mpr ⟨o, ho, hty⟩)

/-! ## A full reply queue (R171, R172, R176) -/

/-- A port after a frame, apart from its receiver. -/
theorem PortCore.received_eq (c : PortCore) (q : Params) (f : Frame) (joined : Bool) :
    PortCore.flowAfterFrame q joined (if joined then { c with rx := c.rx ++ [f] } else c) =
      { c.received q f joined with receiver := c.receiver } := by
  have hflow : ∀ d : PortCore, PortCore.flowAfterFrame q joined d =
      if d.rxFlow = .go then
        if joined = true ∧ q.linkHoldUpper ≤ d.rx.length then { d with rxFlow := .hold, sinceHold := 0, flowByte := some .hold } else d
      else if q.linkHoldRepeat ≤ d.sinceHold + 1 then { d with sinceHold := 0, flowByte := some .hold }
      else { d with sinceHold := d.sinceHold + 1 } := fun d => by
    unfold PortCore.flowAfterFrame
    cases hd : d.rxFlow with
    | go =>
      rw [if_pos rfl]
      simp only [Bool.and_eq_true, decide_eq_true_eq]
      rfl
    | hold =>
      rw [if_neg (show ¬ Flow.hold = .go from Flow.noConfusion)]
      rfl
  rw [hflow, PortCore.received]
  cases joined <;> simp only [if_true, if_false, Bool.false_eq_true] <;> split <;> split <;> rfl

theorem PortCore.receiver_received (c : PortCore) (q : Params) (f : Frame) (joined : Bool) :
    (c.received q f joined).receiver = .hunting := by
  unfold PortCore.received
  dsimp only
  generalize (if joined = true then c.rx ++ [f] else c.rx) = rx
  split
  · split <;> rfl
  · split <;> rfl

theorem PortCore.received_of_receiver (c : PortCore) (r : Receiver) (q : Params) (f : Frame) (joined : Bool) :
    ({ c with receiver := r } : PortCore).received q f joined = c.received q f joined := rfl

/-- A notice takes no part in what may be taken. -/
theorem State.mayTake_post (s : State) (b : NoticeBody) (l : PortId) : (s.post b).mayTake l = s.mayTake l := by
  cases l with
  | tl t => rfl
  | ops o =>
    have hr : ((s.post b).opsPort o).replies = (s.opsPort o).replies := by
      rw [State.opsPort_post, OpsPort.addNotice]
      split <;> rfl
    rw [State.mayTake, State.mayTake, State.replyRoom, State.replyRoom, hr]
    rfl

/-- A frame at an operations link whose reply queue is full joins the receive queue or meets OVERRUN. -/
theorem State.frameArrives_full {s : State} {o : OpsId} (hfull : 8 ≤ (s.opsPort o).replies.length) (f : Frame) :
    ∃ w : State, s.frameArrives (.ops o) f =
      (if decide ((s.opsPort o).core.rx.length < 8) then w else w.post (.overrun (.ops o) f.typ)) ∧ s.OnlyCore w (.ops o) ∧
      w.core (.ops o) = { (s.opsPort o).core.received s.params f (decide ((s.opsPort o).core.rx.length < 8)) with
        receiver := (s.opsPort o).core.receiver } := by
  have hmay : s.mayTake (.ops o) = false := by
    have hroom : s.replyRoom o = false := decide_eq_false (Nat.not_lt.mpr hfull)
    rw [State.mayTake, hroom, Bool.and_false]
  by_cases hj : (s.opsPort o).core.rx.length < 8
  · have hrecv : s.receiveFrame (.ops o) f = s.modCore (.ops o) fun c => { c with rx := c.rx ++ [f] }.flowAfterFrame s.params true :=
      if_pos hj
    refine ⟨_, ?_, s.modCore_onlyCore (.ops o) fun c => { c with rx := c.rx ++ [f] }.flowAfterFrame s.params true, ?_⟩
    · rw [State.frameArrives_waits f (by rw [hrecv, State.mayTake_modCore, hmay]), hrecv, if_pos (decide_eq_true hj)]
    · rw [State.core_modCore, decide_eq_true hj, ← PortCore.received_eq]
      rfl
  · have hrecv : s.receiveFrame (.ops o) f = (s.modCore (.ops o) fun c => c.flowAfterFrame s.params false).post (.overrun (.ops o) f.typ) :=
      if_neg hj
    refine ⟨_, ?_, s.modCore_onlyCore (.ops o) fun c => c.flowAfterFrame s.params false, ?_⟩
    · rw [State.frameArrives_waits f (by rw [hrecv, State.mayTake_post, State.mayTake_modCore, hmay]), hrecv,
        if_neg (by simpa using hj)]
    · rw [State.core_modCore, decide_eq_false hj, ← PortCore.received_eq]
      rfl

theorem State.OnlyCore.trans {s m u : State} {l : PortId} (h : s.OnlyCore m l) (h' : m.OnlyCore u l) : s.OnlyCore u l where
  only := by rw [h'.only, h.only]
  cores k hk := (h'.cores k hk).trans (h.cores k hk)
  tls t := by rw [h'.tls, h.tls]
  opss k := by rw [h'.opss, h.opss]

/-- Settles O46: the bytes end in a judged frame (exec_frameComplete), which arrives as the command's does. -/
theorem frameRoundTrip : Obligations.FrameRoundTrip := by
  intro s l ty h k payload hs hr h1 hn
  dsimp only
  obtain ⟨h', k', hcrc, hdrop⟩ := frameBytes_drop ty payload
  obtain ⟨w, hw⟩ : ∃ w, w = s.setReceiver l .hunting := ⟨_, rfl⟩
  have honly : s.OnlyCore w l := by rw [hw]; exact s.modCore_onlyCore l _
  have hcore : w.core l = { s.core l with receiver := .hunting } := by rw [hw]; exact State.core_modCore ..
  have hwhold : w.resetHold = none := by rw [hw]; exact (s.resetHold_setReceiver l _).trans hs
  have harrives : validType l ty = true →
      exec (.frameComplete l ((frameBytes ty payload).drop 1)) s = .next (w.frameArrives l ⟨ty, payload⟩) := fun hv => by
    rw [hdrop, exec_frameComplete hs hr ty h' k' h1 hn, if_pos ⟨hcrc, hv⟩, hw]
  refine ⟨fun c hc => ⟨w, honly, hcore, ?_⟩, fun o ho hv hfull => ?_, fun hbad => ⟨w, ?_, honly, hcore⟩⟩
  · rcases hc with ⟨o, tag, p, hc, rfl, rfl⟩ | ⟨t, hc, rfl⟩
    · rw [harrives (validType_opsFrame hc), exec_opsFrame hc, State.live_eq hwhold]
    · rw [harrives (validType_tlFrame hc), exec_tlFrame hc, State.live_eq hwhold]
  · subst ho
    have hport : w.opsPort o = { s.opsPort o with core := w.core (.ops o) } := honly.opss o
    have hparams : w.params = s.params := by rw [honly.only]
    have hrx : (w.opsPort o).core.rx.length = (s.core (.ops o)).rx.length := by
      have h2 : (w.opsPort o).core = w.core (.ops o) := rfl
      rw [h2, hcore]
    obtain ⟨u, hu, huonly, hucore⟩ := State.frameArrives_full (s := w) (o := o) (by rw [hport]; exact hfull) ⟨ty, payload⟩
    rw [hrx] at hu hucore
    refine ⟨u, (harrives hv).trans (congrArg _ hu), honly.trans huonly, hucore.trans ?_⟩
    have h2 : (w.opsPort o).core = { s.core (.ops o) with receiver := .hunting } := hcore
    rw [h2, hparams]
    rw [PortCore.received_of_receiver, ← PortCore.receiver_received (s.core (.ops o)) s.params ⟨ty, payload⟩]
  · rw [exec_frameComplete hs hr ty h k h1 hn, if_neg fun hgood => ?_, hw]
    rcases hbad with hbad | hbad
    · exact nomatch hbad.symm.trans hgood.2
    · exact hbad hgood.1

/-! ## A reply that leaves (R176) -/

/-- An operations port whose oldest reply is begun. -/
theorem OpsPort.start_reply {p : OpsPort} (now : Clock) (l : OpsId) (hgo : p.core.txFlow = .go) (hflow : p.core.flowByte = none)
    (hparts : p.parts = []) {r : Reply} {rs : List Reply} {d : List Byte} {ds : List (List Byte)} (hreplies : p.replies = r :: rs)
    (hpayloads : r.payloads = d :: ds) :
    p.start now l = { p with replies := rs, parts := ds, core := { p.core with sent := frameBytes 0x70 d } } := by
  have hmay : p.core.mayStart = true := decide_eq_true ⟨hgo, hflow⟩
  unfold OpsPort.start
  rw [if_pos hmay]
  simp only [hparts, hreplies, hpayloads]
  rfl

/-- Taking the one frame that waits leaves the port quiet. -/
theorem State.takeFrame_one {s : State} {l : OpsId} {f : Frame} (h : (s.opsPort l).core.rx = [f])
    (hflow : (s.opsPort l).core.flowByte = none) :
    s.takeFrame (.ops l) = { s with opss := (s.takeFrame (.ops l)).opss } ∧
    (∀ k, k ≠ l → (s.takeFrame (.ops l)).opsPort k = s.opsPort k) ∧
    (s.takeFrame (.ops l)).opsPort l = { s.opsPort l with core := { (s.opsPort l).core with
      rx := [], rxFlow := .go, flowByte := if (s.opsPort l).core.rxFlow = .hold then some .go else none } } := by
  refine ⟨rfl, fun k hk => ?_, ?_⟩
  · exact (State.opsPort_modOps ..).trans (if_neg (Ne.symm hk))
  · refine (State.opsPort_modOps_self ..).trans ?_
    refine congrArg (fun c => { s.opsPort l with core := c }) ?_
    generalize (s.opsPort l).core = c at h hflow
    obtain ⟨r, rx, rxFlow, since, flowByte, txFlow, sent⟩ := c
    dsimp only at h hflow
    subst h hflow
    cases rxFlow <;> rfl

/-- Settles O47: with no room the frame waits (frameArrives_full); a reply that leaves makes the port one at which the
command is ready. -/
theorem queuedFrames : Obligations.QueuedFrames := by
  intro c s l ty tag p hs hc hfull
  dsimp only
  refine ⟨?_, fun r rs d ds hupper hgo hflow hparts hreplies hpayloads hlen hrx => ?_⟩
  · obtain ⟨w, hw, honly, hcore⟩ := State.frameArrives_full hfull ⟨ty, tag :: p⟩
    refine ⟨w, ?_, honly, hcore⟩
    rw [exec_opsFrame hc, State.live_eq hs, hw]
  · have hstart := OpsPort.start_reply s.clock l hgo hflow hparts hreplies hpayloads
    obtain ⟨m, hm⟩ : ∃ m, m = s.modOps l (OpsPort.start s.clock l) := ⟨_, rfl⟩
    have hmonly : m = { s with opss := m.opss } := by rw [hm]; rfl
    have hmport : m.opsPort l = { s.opsPort l with
        replies := rs, parts := ds, core := { (s.opsPort l).core with sent := frameBytes 0x70 d } } := by
      rw [hm, State.opsPort_modOps_self, hstart]
    have hmports : ∀ k, k ≠ l → m.opsPort k = s.opsPort k := fun k hk => by
      rw [hm, State.opsPort_modOps, if_neg (Ne.symm hk)]
    obtain ⟨wonly, wports, wport⟩ := State.takeFrame_one (s := m) (l := l) (f := ⟨ty, tag :: p⟩) (by rw [hmport]; exact hrx)
      (by rw [hmport]; exact hflow)
    have hmhold : m.resetHold = none := by rw [hmonly]; exact hs
    have hmay : m.mayTake (.ops l) = true := by
      have hroom : m.replyRoom l = true := decide_eq_true (by rw [hmport, hlen]; exact Nat.lt_succ_self 7)
      rw [State.mayTake, hroom, hmhold]
      rfl
    have htake : exec (.opsTransmitStart l) s = .next ((m.takeFrame (.ops l)).own (.ops l) ⟨ty, tag :: p⟩) := by
      have hstarts : s.startOps l = m.takeIn (.ops l) := by
        unfold State.startOps
        dsimp only
        rw [← hm, if_pos (by rw [hmport, hreplies]; exact Nat.lt_succ_self _)]
      have hrx1 : (m.core (.ops l)).rx = [⟨ty, tag :: p⟩] := by
        have h1 : m.core (.ops l) = (m.opsPort l).core := rfl
        rw [h1, hmport]
        exact hrx
      refine (congrArg Host.Outcome.next (State.live_eq hs _)).trans (congrArg _ ?_)
      rw [hstarts, State.takeIn, hrx1, List.length_singleton, intake, if_pos hmay, intake, State.takeHead, hrx1]
    obtain ⟨o, -, -, ho⟩ := opsFrame_owner hc
    generalize m.takeFrame (.ops l) = w at *
    have hready : w.OpsReady l := by
      refine ⟨⟨by rw [wonly]; exact hmhold, ?_, ?_, by rw [wonly, hmonly]; exact hupper⟩, ?_⟩
      · exact congrArg (fun q : OpsPort => q.core.rx) wport
      · exact congrArg (fun q : OpsPort => q.core.rxFlow) wport
      · rw [wport, hmport, hlen]
        exact Nat.lt_succ_self 7
    refine ⟨w, ?_, by rw [wonly, hmonly], fun k hk => (wports k hk).trans (hmports k hk), ?_⟩
    · rw [htake, exec_ops_ready hready hc ho, State.own]
      simp only [ho]
    · rw [wport, hmport]

end Sys2Proof.Machine

/-! PROOFS. What transmit lines carry, and replies and notices (R173 to R177). -/

namespace Sys2Proof.Machine

/-! ## A transmit line (R173 to R177) -/

theorem State.modTl_same {s : State} {t : TId} {f : TlPort → TlPort} (h : f (s.tl t) = s.tl t) : s.modTl t f = s := by
  rw [State.modTl, show upd s.tls t f = s.tls from upd_id _ _ _ h]

theorem State.modOps_same {s : State} {l : OpsId} {f : OpsPort → OpsPort} (h : f (s.opsPort l) = s.opsPort l) :
    s.modOps l f = s := by
  rw [State.modOps, show upd s.opss l f = s.opss from upd_id _ _ _ h]

theorem PortCore.mayStart_iff (c : PortCore) : c.mayStart = true ↔ c.txFlow = .go ∧ c.flowByte = none := decide_eq_true_iff

theorem PortCore.mayStart_blocked {c : PortCore} (h : c.txFlow = .hold ∨ c.flowByte ≠ none) : c.mayStart = false := by
  rw [← Bool.not_eq_true, PortCore.mayStart_iff]
  rintro ⟨hgo, hnone⟩
  rcases h with h | h
  · exact nomatch hgo.symm.trans h
  · exact h hnone

theorem exec_flowByteSend {s : State} (hs : s.resetHold = none) (l : PortId) :
    exec (.flowByteSend l) s = .next (s.sendFlowByte l) := congrArg Host.Outcome.next (State.live_eq hs _)

theorem exec_tlTransmitStart {s : State} (hs : s.resetHold = none) (t : TId) :
    exec (.tlTransmitStart t) s = .next (s.modTl t TlPort.start) := congrArg Host.Outcome.next (State.live_eq hs _)

theorem exec_opsTransmitStart {s : State} (hs : s.resetHold = none) (l : OpsId) :
    exec (.opsTransmitStart l) s = .next (s.startOps l) := congrArg Host.Outcome.next (State.live_eq hs _)

theorem TlPort.start_idle {p : TlPort}
    (h : p.core.txFlow = .hold ∨ p.core.flowByte ≠ none ∨ p.auth = none ∧ p.xfer = none ∧ p.refusals = []) : p.start = p := by
  unfold TlPort.start
  by_cases hb : p.core.txFlow = .hold ∨ p.core.flowByte ≠ none
  · rw [PortCore.mayStart_blocked hb, if_neg Bool.false_ne_true]
  · obtain ⟨ha, hx, hr⟩ : p.auth = none ∧ p.xfer = none ∧ p.refusals = [] := (h.resolve_left fun h => hb (.inl h)).resolve_left
      fun h => hb (.inr h)
    simp only [ha, hx, hr, ite_self]

theorem OpsPort.start_idle {p : OpsPort} (now : Clock) (l : OpsId)
    (h : p.core.txFlow = .hold ∨ p.core.flowByte ≠ none ∨ p.parts = [] ∧ p.replies = [] ∧ p.notices = []) :
    p.start now l = p := by
  unfold OpsPort.start
  by_cases hb : p.core.txFlow = .hold ∨ p.core.flowByte ≠ none
  · rw [PortCore.mayStart_blocked hb, if_neg Bool.false_ne_true]
  · obtain ⟨ha, hx, hr⟩ : p.parts = [] ∧ p.replies = [] ∧ p.notices = [] := (h.resolve_left fun h => hb (.inl h)).resolve_left
      fun h => hb (.inr h)
    simp only [ha, hx, hr, ite_self]

/-- A transporter port whose next frame is f sends it. -/
theorem exec_tl_sends {s : State} (hs : s.resetHold = none) {t : TId} {q : TlPort} (h : (s.tl t).start = q) :
    ∃ u : State, exec (.tlTransmitStart t) s = .next u ∧ u = { s with tls := u.tls } ∧ (∀ v, v ≠ t → u.tl v = s.tl v) ∧
      u.tl t = q :=
  ⟨_, exec_tlTransmitStart hs t, rfl, fun v hv => by rw [State.tl_modTl, if_neg (Ne.symm hv)], by rw [State.tl_modTl_self, h]⟩

/-- An operations port whose next frame leaves its reply queue as long as it was, or lets nothing be taken. -/
theorem exec_ops_sends {s : State} (hs : s.resetHold = none) {l : OpsId} {q : OpsPort} (h : (s.opsPort l).start s.clock l = q)
    (hr : (s.opsPort l).replies.length ≤ q.replies.length ∨ q.core.rx = []) :
    ∃ u : State, exec (.opsTransmitStart l) s = .next u ∧ u = { s with opss := u.opss } ∧
      (∀ k, k ≠ l → u.opsPort k = s.opsPort k) ∧ u.opsPort l = q := by
  have hport : (s.modOps l (OpsPort.start s.clock l)).opsPort l = q := by rw [State.opsPort_modOps_self, h]
  refine ⟨s.modOps l (OpsPort.start s.clock l), ?_, rfl, fun k hk => by rw [State.opsPort_modOps, if_neg (Ne.symm hk)], hport⟩
  rw [exec_opsTransmitStart hs]
  refine congrArg _ ?_
  unfold State.startOps
  dsimp only
  rw [hport]
  split
  · next hlt =>
    have hrx := hr.resolve_left (Nat.not_le.mpr hlt)
    have hcore : ((s.modOps l (OpsPort.start s.clock l)).core (.ops l)).rx = [] := by
      rw [State.core, hport]
      exact hrx
    rw [State.takeIn, hcore]
    rfl
  · rfl

/-- Settles O48: each line sends its first waiting item, where it may start (R174). -/
theorem transmitOrder : Obligations.TransmitOrder := by
  refine ⟨fun s l hs => ⟨fun hno => ?_, fun f hf => ?_⟩, fun s t hs => ?_, fun s l hs => ?_⟩
  · rw [exec_flowByteSend hs]
    refine congrArg _ (State.modCore_id s l _ ?_)
    rw [hno]
  · refine ⟨_, exec_flowByteSend hs l, s.modCore_onlyCore l _, ?_⟩
    rw [State.sendFlowByte, State.core_modCore, hf]
    cases f <;> rfl
  · dsimp only
    refine ⟨fun hidle => ?_, fun hgo hflow => ?_⟩
    · rw [exec_tlTransmitStart hs, State.modTl_same (TlPort.start_idle hidle)]
    · have hmay : (s.tl t).core.mayStart = true := (PortCore.mayStart_iff _).mpr ⟨hgo, hflow⟩
      refine ⟨fun a ha => exec_tl_sends hs ?_, fun x ha hx => exec_tl_sends hs ?_, fun r rs ha hx hr => exec_tl_sends hs ?_⟩
      · unfold TlPort.start
        rw [if_pos hmay]
        simp only [ha]
        rfl
      · unfold TlPort.start
        rw [if_pos hmay]
        simp only [ha, hx]
        rfl
      · unfold TlPort.start
        rw [if_pos hmay]
        simp only [ha, hx, hr]
        rfl
  · dsimp only
    refine ⟨fun hidle => ?_, fun hgo hflow => ?_⟩
    · have hsame : s.modOps l (OpsPort.start s.clock l) = s := State.modOps_same (OpsPort.start_idle s.clock l hidle)
      rw [exec_opsTransmitStart hs]
      refine congrArg _ ?_
      unfold State.startOps
      dsimp only
      rw [hsame, if_neg (Nat.lt_irrefl _)]
    · have hmay : (s.opsPort l).core.mayStart = true := (PortCore.mayStart_iff _).mpr ⟨hgo, hflow⟩
      refine ⟨fun d ds hp => exec_ops_sends hs ?_ (.inl le_rfl), fun r rs d ds hp hr hd hrx => exec_ops_sends hs ?_ (.inr hrx),
        fun n ns hp hr hn => ⟨fun ho => exec_ops_sends hs ?_ (.inl ?_), fun ho => exec_ops_sends hs ?_ (.inl ?_)⟩⟩
      · unfold OpsPort.start
        rw [if_pos hmay]
        simp only [hp]
        rfl
      · exact OpsPort.start_reply s.clock l hgo hflow hp hr hd
      · unfold OpsPort.start
        rw [if_pos hmay]
        simp only [hp, hr, hn, OpsPort.afterNotice, ho]
        rfl
      · rw [hr]
      · unfold OpsPort.start
        rw [if_pos hmay]
        simp only [hp, hr, hn, OpsPort.afterNotice, ho, if_true]
        rfl
      · rw [hr]

/-! ## Replies and notices (R176, R177) -/

/-- The parts of a reply from part k on: each is headed as R181 gives it and carries 119 data bytes or the rest. -/
theorem replyParts_spec (r : Reply) : ∀ (n k : Nat) (data : List Byte), data.length < n →
    replyParts r n k data ≠ [] ∧ ((replyParts r n k data).map (·.drop 5)).flatten = data ∧
    ∀ i (h : i < (replyParts r n k data).length), (replyParts r n k data)[i] =
      [r.tag, r.cmd, b8 (k + i), if i + 1 = (replyParts r n k data).length then 1 else 0, r.result.code] ++
        (data.drop (119 * i)).take 119 ∧
      (i + 1 < (replyParts r n k data).length → 119 * (i + 1) < data.length)
  | 0, _, _, h => absurd h (Nat.not_lt_zero _)
  | n + 1, k, data, h => by
    by_cases hshort : data.length ≤ 119
    · have hparts : replyParts r (n + 1) k data = [[r.tag, r.cmd, b8 k, 1, r.result.code] ++ data] := if_pos hshort
      rw [hparts]
      refine ⟨List.cons_ne_nil _ _, by simp, fun i hi => ?_⟩
      obtain rfl : i = 0 := Nat.lt_one_iff.mp hi
      refine ⟨?_, fun h => absurd h (Nat.lt_irrefl _)⟩
      simp [List.take_of_length_le hshort]
    · have hparts : replyParts r (n + 1) k data = ([r.tag, r.cmd, b8 k, 0, r.result.code] ++ data.take 119) ::
          replyParts r n (k + 1) (data.drop 119) := if_neg hshort
      obtain ⟨hne, hdata, hpart⟩ := replyParts_spec r n (k + 1) (data.drop 119) (by rw [List.length_drop]; omega)
      rw [hparts]
      generalize replyParts r n (k + 1) (data.drop 119) = ps at *
      have hlen : 0 < ps.length := List.length_pos_of_ne_nil hne
      refine ⟨List.cons_ne_nil _ _, ?_, fun i hi => ?_⟩
      · rw [List.map_cons, List.flatten_cons, hdata]
        simp
      · cases i with
        | zero =>
          refine ⟨?_, fun _ => by omega⟩
          have hmore : ¬ 0 + 1 = (([r.tag, r.cmd, b8 k, 0, r.result.code] ++ data.take 119) :: ps).length := by
            rw [List.length_cons]
            omega
          rw [if_neg hmore]
          simp
        | succ i =>
          rw [List.length_cons] at hi
          obtain ⟨hi1, hi2⟩ := hpart i (by omega)
          rw [List.length_drop] at hi2
          refine ⟨?_, fun hlt => ?_⟩
          · rw [List.getElem_cons_succ, hi1, List.length_cons, List.drop_drop]
            have h1 : k + 1 + i = k + (i + 1) := by omega
            have h2 : 119 + 119 * i = 119 * (i + 1) := by omega
            rw [h1, h2]
            simp only [Nat.add_right_cancel_iff]
          · rw [List.length_cons] at hlt
            have := hi2 (by omega)
            omega

/-- Settles O49: replyParts_spec, and addNotice at either queue. -/
theorem repliesAndNotices : Obligations.RepliesAndNotices := by
  refine ⟨fun r => ?_, fun s b => ⟨rfl, fun k => ⟨fun hroom => ?_, fun hfull => ?_⟩⟩⟩
  · obtain ⟨hne, hdata, hpart⟩ := replyParts_spec r (r.data.length + 1) 0 r.data (Nat.lt_succ_self _)
    refine ⟨hne, hdata, fun i h => ?_⟩
    have hi := hpart i h
    rw [Nat.zero_add] at hi
    exact hi
  · rw [State.opsPort_post]
    exact if_pos hroom
  · rw [State.opsPort_post]
    exact if_neg (Nat.not_lt.mpr hfull)

end Sys2Proof.Machine

/-! PROOFS. Sections taken along a run (R51, R108), and JOIN (R106 to R108). -/

namespace Sys2Proof.Machine

/-! ## Taking sections and locking their points -/

theorem State.lockPoint_spec (s : State) (t : TId) (n : Nat) :
    s.lockPoint t n = { s with points := (s.lockPoint t n).points } ∧
    ∀ p, (s.lockPoint t n).point? p = (s.point? p).map fun x =>
      { x with lock := if (s.pointOf n).map (·.1) = some p then some t else x.lock } := by
  cases hp : s.pointOf n with
  | none =>
    have heq : s.lockPoint t n = s := by simp only [State.lockPoint, hp]
    rw [heq]
    exact ⟨rfl, fun p => by simp⟩
  | some q =>
    obtain ⟨q, x⟩ := q
    have heq : s.lockPoint t n = s.modPoint q fun x => { x with lock := some t } := by simp only [State.lockPoint, hp]
    rw [heq]
    refine ⟨rfl, fun p => ?_⟩
    by_cases hpq : p = q
    · subst hpq
      rw [State.point?, State.modPoint, Table.find_adjust_self]
      simp [State.point?]
    · rw [State.point?, State.modPoint, Table.find_adjust_ne _ _ hpq]
      simp [Ne.symm hpq, State.point?]

/-- The sections of the entries es taken for t GRANTED, entered or not, and their points locked (R51, R108). -/
def State.takeRun (s : State) (t : TId) (entered : Bool) (es : List Entry) : State :=
  es.foldl (fun s e => (s.setHold e.sec (some ⟨t, .granted, entered⟩)).lockPoint t e.sec) s

/-- Between s and u the sections of the entries es were taken for t and their points locked. -/
structure State.RunTaken (s u : State) (t : TId) (entered : Bool) (es : List Entry) : Prop where
  only : u = { s with sections := u.sections, points := u.points }
  ground : u.ground = s.ground
  sections : ∀ n, u.sec? n = (s.sec? n).map fun x =>
    { x with hold := if n ∈ es.map (·.sec) then some ⟨t, .granted, entered⟩ else x.hold }
  points : ∀ p, u.point? p = (s.point? p).map fun x =>
    { x with lock := if ∃ e ∈ es, (s.pointOf e.sec).map (·.1) = some p then some t else x.lock }

theorem State.takeRun_runTaken (t : TId) (entered : Bool) : ∀ (es : List Entry) (s : State),
    s.RunTaken (s.takeRun t entered es) t entered es
  | [], s => ⟨rfl, rfl, fun n => by cases hx : s.sec? n <;> simp [State.takeRun, hx],
      fun p => by cases hx : s.point? p <;> simp [State.takeRun, hx]⟩
  | e :: es, s => by
    obtain ⟨m, hm⟩ : ∃ m, m = (s.setHold e.sec (some ⟨t, .granted, entered⟩)).lockPoint t e.sec := ⟨_, rfl⟩
    have htake : s.takeRun t entered (e :: es) = m.takeRun t entered es := by rw [hm]; rfl
    obtain ⟨hlock, hpoints⟩ := State.lockPoint_spec (s.setHold e.sec (some ⟨t, .granted, entered⟩)) t e.sec
    rw [← hm] at hlock hpoints
    have hground : m.ground = s.ground := by rw [hm]; simp
    have hsec : ∀ n, m.sec? n = (s.setHold e.sec (some ⟨t, .granted, entered⟩)).sec? n := fun n => by rw [hlock]; rfl
    have ih := State.takeRun_runTaken t entered es m
    rw [htake]
    refine ⟨?_, ih.ground.trans hground, fun n => ?_, fun p => ?_⟩
    · rw [ih.only, hlock]
      rfl
    · rw [ih.sections, hsec, State.sec_setHold, Option.map_map]
      refine Option.map_congr fun x _ => ?_
      by_cases hn : n = e.sec <;> simp [hn]
    · rw [ih.points, hpoints, Option.map_map]
      refine Option.map_congr fun x _ => ?_
      have hpo : (s.setHold e.sec (some ⟨t, .granted, entered⟩)).pointOf e.sec = s.pointOf e.sec := rfl
      simp only [State.pointOf_of_ground hground, List.exists_mem_cons_iff, Function.comp_apply, hpo]
      by_cases hp : ∃ f ∈ es, (s.pointOf f.sec).map (·.1) = some p
      · simp only [hp, or_true, if_true]
      · simp only [hp, or_false, if_false]

/-- The point of a section taken is locked. -/
theorem State.RunTaken.lock {s u : State} {t : TId} {b : Bool} {es : List Entry} (h : s.RunTaken u t b es)
    (hwf : Table.wf s.points = true) {e : Entry} (he : e ∈ es) {p : Nat} {x : Point} (hx : u.pointOf e.sec = some (p, x)) :
    x.lock = some t := by
  have hwfu : Table.wf u.points = true := (State.points_wf_of_ground h.ground).trans hwf
  have hup := (State.pointOf_point hwfu hx).1
  have hkey : (s.pointOf e.sec).map (·.1) = some p := by rw [← State.pointOf_of_ground h.ground, hx]; rfl
  rw [h.points, Option.map_eq_some_iff] at hup
  obtain ⟨y, -, rfl⟩ := hup
  exact if_pos ⟨e, he, hkey⟩

/-! ## The standing run that a JOIN names (R107) -/

theorem State.farEnd_spec {s : State} {n : Nat} {e : EndName} (h : s.farEnd n = some e) :
    e ≠ .a ∧ s.legalEntry n .a e = true ∧ s.legalEntry n e .a = true ∧
    ∀ x, s.sec? n = some x → x.defn.isPoint = true → ∀ i, s.inPosition ⟨n, .a, e, i⟩ = true ∧ s.inPosition ⟨n, e, .a, i⟩ = true := by
  unfold State.farEnd at h
  unfold State.legalEntry State.inPosition
  cases hx : s.sec? n with
  | none => rw [hx] at h; exact nomatch h
  | some x =>
    rw [hx] at h
    dsimp only at h ⊢
    by_cases hpoint : x.defn.isPoint = true
    · rw [if_pos hpoint] at h
      cases hp : s.pointOf n with
      | none => rw [hp] at h; exact nomatch h
      | some q =>
        obtain ⟨p, z⟩ := q
        rw [hp] at h
        dsimp only at h ⊢
        cases hz : z.pos with
        | normal =>
          rw [hz] at h
          obtain rfl := Option.some.inj h
          exact ⟨nofun, rfl, rfl, fun _ _ _ _ => ⟨rfl, rfl⟩⟩
        | reverse =>
          rw [hz] at h
          obtain rfl := Option.some.inj h
          exact ⟨nofun, hpoint, hpoint, fun _ _ _ _ => ⟨rfl, rfl⟩⟩
        | moving => rw [hz] at h; exact nomatch h
        | unknown => rw [hz] at h; exact nomatch h
    · rw [if_neg hpoint] at h
      obtain rfl := Option.some.inj h
      exact ⟨nofun, rfl, rfl, fun y hy hyp => absurd (Option.some.inj hy ▸ hyp) hpoint⟩

theorem State.joinFront_spec {s : State} {n : Nat} {d : Dir} {f : Entry} (h : s.joinFront n d = some f) :
    f.sec = n ∧ senseOf f.ent = d ∧ s.legalEntry f.sec f.ent f.ext = true ∧
    ∀ x, s.sec? n = some x → x.defn.isPoint = true → s.inPosition f = true := by
  obtain ⟨e, he, rfl⟩ := Option.map_eq_some_iff.mp h
  obtain ⟨hne, hup, hdown, hpos⟩ := State.farEnd_spec he
  cases d with
  | up => exact ⟨rfl, rfl, hup, fun x hx hpt => (hpos x hx hpt 0).1⟩
  | down => exact ⟨rfl, if_neg hne, hdown, fun x hx hpt => (hpos x hx hpt 0).2⟩

theorem State.joinRear_spec {s : State} {m : Nat} {f r : Entry} (h : s.joinRear m f = some r) :
    r.sec = m ∧ s.legalEntry r.sec r.ent r.ext = true ∧ s.linked r f = true ∧
    ∀ x, s.sec? m = some x → x.defn.isPoint = true → s.inPosition r = true := by
  unfold State.joinRear at h
  split at h
  case h_2 => exact nomatch h
  case h_1 x far hend hfar =>
    obtain ⟨hne, hup, hdown, hpos⟩ := State.farEnd_spec hfar
    obtain ⟨z, hz, hfind⟩ := Option.bind_eq_some_iff.mp hend
    have hlink : z.defn.linkOf x = some (.to f.sec f.ent) := by simpa using List.find?_some hfind
    split at h
    case isTrue hxa =>
      obtain rfl := Option.some.inj h
      refine ⟨rfl, hdown, ?_, fun y hy hpt => (hpos y hy hpt 0).2⟩
      simp [State.linked, hz, ← hxa, hlink]
    case isFalse =>
      split at h
      case isFalse => exact nomatch h
      case isTrue hxf =>
        obtain rfl := Option.some.inj h
        refine ⟨rfl, by rw [hxf]; exact hup, ?_, fun y hy hpt => by rw [hxf]; exact (hpos y hy hpt 0).1⟩
        simp [State.linked, hz, hlink]

/-- The front and, where one is named, the rear lead to a standing run. -/
structure State.Stands (s : State) (n : Nat) (d : Dir) (rear : Option Nat) (es : List Entry) (f : Entry) : Prop where
  last : es.getLast? = some f
  sec : f.sec = n
  sense : senseOf f.ent = d
  sections : es.map (·.sec) = rear.toList ++ [n]
  indices : es.map (·.index) = (List.range es.length).map (· + 1)
  contiguous : s.contiguous es = true
  inPosition : ∀ e ∈ es, ∀ x, s.sec? e.sec = some x → x.defn.isPoint = true → s.inPosition e = true
  entry : es.find? (fun e => decide (e.index = f.index)) = some f

theorem State.standing_stands {s : State} {j : JoinFields} {d : Dir} {f : Entry} (hf : s.joinFront j.sec d = some f)
    (hr : ∀ m, j.rear = some m → (s.joinRear m f).isSome) : ∃ g, s.Stands j.sec d j.rear (s.standing j d) g := by
  obtain ⟨hsec, hsense, hlegal, hpos⟩ := State.joinFront_spec hf
  unfold State.standing
  rw [hf]
  dsimp only
  cases hj : j.rear with
  | none =>
    refine ⟨{ f with index := 1 }, rfl, hsec, hsense, congrArg (fun k => [k]) hsec, rfl, hlegal, fun e he x hx hpt => ?_, rfl⟩
    obtain rfl := List.mem_singleton.mp he
    exact hpos x (hsec ▸ hx) hpt
  | some m =>
    obtain ⟨r, hr⟩ := Option.isSome_iff_exists.mp (hr m hj)
    obtain ⟨hrsec, hrlegal, hlink, hrpos⟩ := State.joinRear_spec hr
    rw [Option.bind_some, hr]
    refine ⟨{ f with index := 2 }, rfl, hsec, hsense, congr (congrArg (fun a b => [a, b]) hrsec) hsec, rfl, ?_, fun e he x hx hpt => ?_, rfl⟩
    · exact (Bool.and_eq_true_iff.mpr ⟨Bool.and_eq_true_iff.mpr ⟨hrlegal, hlink⟩, hlegal⟩)
    · rcases List.mem_cons.mp he with rfl | he
      · exact hrpos x (hrsec ▸ hx) hpt
      · obtain rfl := List.mem_singleton.mp he
        exact hpos x (hsec ▸ hx) hpt

/-! ## Acceptance (R108) -/

theorem State.joinAccepted_joined {s : State} (hwf : Table.wf s.points = true) (t : TId) {j : JoinFields} {d : Dir} {f : Entry}
    (h : s.Stands j.sec d j.rear (s.standing j d) f) (ld : Bool) :
    s.Joined (s.joinAccepted t j d ld) t (s.standing j d) j.sec j.off d ld j.rear := by
  unfold State.joinAccepted
  generalize s.standing j d = es at h
  simp only [h.last]
  obtain ⟨s1, hs1⟩ : ∃ s1, s1 = s.modRoute t fun _ =>
    ⟨es, some f.index, some ⟨f.index, s.travelled f j.off⟩, s.travelled f j.off, 1, f.index + 1, false⟩ := ⟨_, rfl⟩
  obtain ⟨s2, hs2⟩ : ∃ s2, s2 = s1.takeRun t true es := ⟨_, rfl⟩
  obtain ⟨s3, hs3⟩ : ∃ s3, s3 = s2.modTr t fun x =>
      { x with
        state := .parked, stop := .empty, trips := .empty, superv := some (.load x.supervision)
        last := some ⟨j.sec, min j.off (s.pathLen f), d, 0, ld, 0, j.rear⟩, standSeen := false, awaitingFix := false } := ⟨_, rfl⟩
  obtain ⟨e, he⟩ : ∃ e, e = s3.evalStop t := ⟨_, rfl⟩
  obtain ⟨a, ha⟩ : ∃ a, a = e.formAuth t := ⟨_, rfl⟩
  obtain ⟨u, hu⟩ : ∃ u, u = a.postGranted t (es.map (·.sec)) := ⟨_, rfl⟩
  suffices hgoal : s.Joined u t es j.sec j.off d ld j.rear by
    rw [hu, ha, he, hs3, hs2, hs1] at hgoal
    exact hgoal
  have h1only : s1 = { s with routes := s1.routes } := by rw [hs1]; rfl
  have htaken : s1.RunTaken s2 t true es := by rw [hs2]; exact State.takeRun_runTaken t true es s1
  have h2only : s2 = { s with sections := s2.sections, points := s2.points, routes := s1.routes } := by
    rw [htaken.only, h1only]
  have h3only : s3 = { s2 with trs := s3.trs } := by rw [hs3]; rfl
  have heval : s3.Evaluated e [t] := he ▸ State.evalStop_evaluated s3 t
  obtain ⟨hauth, haonly, haport, haothers⟩ := e.formAuth_spec t
  rw [← ha] at hauth haonly haport haothers
  have h3route : s3.route t = ⟨es, some f.index, some ⟨f.index, s.travelled f j.off⟩, s.travelled f j.off, 1, f.index + 1, false⟩ := by
    have h3 : s3.route t = s1.route t := by rw [h3only, htaken.only]; rfl
    rw [h3, hs1]
    exact State.route_modRoute_self ..
  have haroute : a.route t = s3.route t := by rw [haonly, heval.only]; rfl
  have hupost : u = a.post (.granted t 1 j.sec f.index (s.travelled f j.off) (es.map (·.sec))) := by
    rw [hu]
    unfold State.postGranted State.entryAt
    rw [haroute, h3route]
    dsimp only [Option.map_some, Option.getD_some]
    rw [h.entry, Option.map_some, Option.getD_some, h.sec]
  have huonly : u = { a with opss := u.opss } := by rw [hupost]; rfl
  have h3tr : s3.tr t = { s.tr t with
      state := .parked, stop := .empty, trips := .empty, superv := some (.load (s.tr t).supervision)
      last := some ⟨j.sec, min j.off (s.pathLen f), d, 0, ld, 0, j.rear⟩, standSeen := false, awaitingFix := false } := by
    rw [hs3, State.tr_modTr_self, h2only]
    rfl
  have hcauses : u.stopCauses = s3.stopCauses := by
    rw [huonly, haonly, heval.only]
    exact State.stopCauses_eq rfl rfl rfl rfl rfl
  have hsec : ∀ n, u.sec? n = s2.sec? n := fun n => by rw [huonly, haonly, heval.only, h3only]; rfl
  have hsec1 : ∀ n, s1.sec? n = s.sec? n := fun n => by rw [h1only]; rfl
  have hpoint : ∀ p, u.point? p = s2.point? p := fun n => by rw [huonly, haonly, heval.only, h3only]; rfl
  have hpoint1 : ∀ p, s1.point? p = s.point? p := fun n => by rw [h1only]; rfl
  have hpointOf : ∀ n, u.pointOf n = s2.pointOf n := fun n => by rw [huonly, haonly, heval.only, h3only]; rfl
  have hpointOf1 : ∀ n, s1.pointOf n = s.pointOf n := fun n => by rw [h1only]; rfl
  have hwf1 : Table.wf s1.points = true := by rw [h1only]; exact hwf
  have hutl : ∀ v, u.tl v = a.tl v := fun v => by rw [huonly]; rfl
  have h3tl : ∀ v, s3.tl v = s.tl v := fun v => by rw [h3only, h2only]; rfl
  exact {
    sections := h.sections
    indices := h.indices
    contiguous := h.contiguous
    inPosition := h.inPosition
    sense := fun g hg => by rw [Option.some.inj (h.last.symm.trans hg)] at *; exact h.sense
    route := fun g hg => by
      obtain rfl := Option.some.inj (h.last.symm.trans hg)
      have hur : u.route t = a.route t := by rw [huonly]; rfl
      rw [hur, haroute, h3route]
    record := fun g hg => by
      obtain rfl := Option.some.inj (h.last.symm.trans hg)
      have hut : u.tr t = e.tr t := by rw [huonly, haonly]; rfl
      rw [hut, heval.record t (List.mem_singleton.mpr rfl), hcauses,
        Transporter.evaluated_of_parked (by rw [h3tr]), h3tr]
    holds := fun n => by rw [hsec, htaken.sections, hsec1]
    locks := fun n hn p x hx => by
      obtain ⟨g, hg, rfl⟩ := List.mem_map.mp hn
      rw [hpointOf] at hx
      exact htaken.lock hwf1 hg hx
    points := fun p => by
      rw [hpoint, htaken.points, hpoint1]
      simp only [hpointOf1]
    auth := by
      have hsame : a.SameForAuth u t := by
        rw [huonly]
        exact ⟨rfl, rfl, fun _ => rfl, rfl, rfl, rfl⟩
      exact hsame.authCurrent hauth (by rw [hutl]) (by rw [huonly])
    port := by
      have he : e.tl t = { s3.tl t with auth := (e.tl t).auth } := heval.port t
      have ha : a.tl t = { e.tl t with auth := (a.tl t).auth } := haport
      rw [State.OnlyAuth, hutl]
      rw [he, h3tl] at ha
      exact ha
    told := fun g hg => by
      obtain rfl := Option.some.inj (h.last.symm.trans hg)
      have htold := heval.notices
      rw [List.flatMap_singleton, State.evaluationNotice_parked (by rw [h3tr])] at htold
      have hopss : a.opss = s.opss := by
        have h1 : a.opss = e.opss := by rw [haonly]
        rw [h1, State.Told.opss_nil htold, h3only, h2only]
      have hclock : a.clock = s.clock := by rw [haonly, heval.only, h3only, h2only]
      intro k
      rw [hupost, State.told_post _ _ k, hclock, State.opsPort, hopss]
      rfl
    only := by
      rw [huonly, haonly, heval.only, h3only, h2only]
    others := fun v hv => by
      obtain ⟨k1, k2, k3, k4, k5⟩ := haothers v hv
      obtain ⟨i1, i2, i3, i4, i5⟩ := heval.others v (by simpa using hv)
      have j1 : s3.tr v = s.tr v := by
        rw [hs3, State.tr_ne _ hv, h2only]
        rfl
      have j2 : s3.route v = s.route v := by
        have h : s3.route v = s1.route v := by rw [h3only, htaken.only]; rfl
        rw [h, hs1]
        exact s.route_ne hv _
      have j4 : s3.ceilings = s.ceilings ∧ s3.transfers = s.transfers := by
        rw [h3only, h2only]
        exact ⟨rfl, rfl⟩
      have ju : u.tr v = a.tr v ∧ u.route v = a.route v ∧ u.ceilings = a.ceilings ∧ u.transfers = a.transfers := by
        rw [huonly]
        exact ⟨rfl, rfl, rfl, rfl⟩
      refine ⟨((ju.1.trans k1).trans i1).trans j1, ((ju.2.1.trans k2).trans i2).trans j2,
        (((hutl v).trans k3).trans i3).trans (h3tl v), ?_, ?_⟩
      · rw [ju.2.2.1, k4, i4, j4.1]
      · rw [ju.2.2.2, k5, i5, j4.2] }

/-! ## The checks (R106) -/

theorem dirOf_eq {b : Byte} (h : b.toNat ≤ 1) : dirOf b = some (if b = 0 then .up else .down) := by
  rcases byte_of_le_one h with rfl | rfl <;> rfl

theorem dirOf_none {b : Byte} (h : 1 < b.toNat) : dirOf b = none := by
  unfold dirOf
  rw [if_neg fun e => by subst e; simp at h, if_neg fun e => by subst e; simp at h]

theorem flagOf_eq {b : Byte} (h : b.toNat ≤ 1) : flagOf b = some (decide (b = 1)) := by
  rcases byte_of_le_one h with rfl | rfl <;> rfl

theorem flagOf_none {b : Byte} (h : 1 < b.toNat) : flagOf b = none := by
  unfold flagOf
  rw [if_neg fun e => by subst e; simp at h, if_neg fun e => by subst e; simp at h]

theorem List.all_eq_false_iff_exists {α : Type} {l : List α} {q : α → Bool} {p : α → Prop} (h : ∀ x, q x = false ↔ p x) :
    l.all q = false ↔ ∃ x ∈ l, p x := by
  simp only [List.all_eq_false, Bool.not_eq_true, h]

theorem State.sectionDefined_eq_false {s : State} {n : Nat} : s.sectionDefined n = false ↔ 96 ≤ n ∨ s.sec? n = none := by
  have hnum : Config.numSections = 96 := rfl
  simp only [State.sectionDefined, hnum, Bool.and_eq_false_iff, decide_eq_false_iff_not, Nat.not_lt,
    Option.isSome_eq_false_iff, Option.isNone_iff_eq_none]

/-- JOIN with good codes, by its checks in their order. -/
theorem State.joinRequest_judged (s : State) (t : TId) {j : JoinFields} {d : Dir} {ld : Bool} (hd : j.dir = some d)
    (hld : j.load = some ld) :
    let secs := j.sec :: j.rear.toList
    s.joinRequest t j =
      if s.site ≠ .running ∨ (s.tr t).state ≠ .offline then s.refuse t 0x10 .state
      else if ∃ m ∈ secs, 96 ≤ m ∨ s.sec? m = none then s.refuse t 0x10 .unknownId
      else if ∃ m ∈ secs, ((s.pointOf m).bind fun q => q.2.latch) ≠ none then s.refuse t 0x10 .pointFault
      else if ∃ m ∈ secs, (s.pointOf m).map (·.2.pos) = some .moving ∨ (s.pointOf m).map (·.2.pos) = some .unknown then
        s.refuse t 0x10 .moving
      else if j.rear = some j.sec then s.refuse t 0x10 .repeatedSection
      else if s.joinFront j.sec d = none ∨ j.rear ≠ none ∧
          (j.rear.bind fun m => (s.joinFront j.sec d).bind (s.joinRear m)) = none then s.refuse t 0x10 .notContiguous
      else if ∃ m ∈ secs, (s.sec? m).bind (·.hold) ≠ none then s.refuse t 0x10 .held
      else if ∃ m ∈ secs, s.detOf m ≠ .occupied ∧ s.detOf m ≠ .disturbed then s.refuse t 0x10 .notClear
      else s.joinAccepted t j d ld := by
  dsimp only
  unfold State.joinRequest
  rw [hd, hld]
  dsimp only
  unfold State.joinChecks
  rw [State.judgeTl_cons (p := s.site ≠ .running ∨ (s.tr t).state ≠ .offline) ?state,
    State.judgeTl_cons (List.all_eq_false_iff_exists fun n => State.sectionDefined_eq_false),
    State.judgeTl_cons (p := ∃ m ∈ j.sec :: j.rear.toList, ((s.pointOf m).bind fun q => q.2.latch) ≠ none)
      (List.all_eq_false_iff_exists ?latch),
    State.judgeTl_cons (p := ∃ m ∈ j.sec :: j.rear.toList,
      (s.pointOf m).map (·.2.pos) = some .moving ∨ (s.pointOf m).map (·.2.pos) = some .unknown)
      (List.all_eq_false_iff_exists ?moving),
    State.judgeTl_cons (p := j.rear = some j.sec) (by simp),
    State.judgeTl_cons (p := s.joinFront j.sec d = none ∨ j.rear ≠ none ∧
          (j.rear.bind fun m => (s.joinFront j.sec d).bind (s.joinRear m)) = none) ?contiguous,
    State.judgeTl_cons (p := ∃ m ∈ j.sec :: j.rear.toList, (s.sec? m).bind (·.hold) ≠ none)
      (List.all_eq_false_iff_exists fun n => by cases (s.sec? n).bind (·.hold) <;> simp),
    State.judgeTl_cons (p := ∃ m ∈ j.sec :: j.rear.toList, s.detOf m ≠ .occupied ∧ s.detOf m ≠ .disturbed)
      (List.all_eq_false_iff_exists fun n => by simp), State.judgeTl_nil]
  · rfl
  case state =>
    simp only [State.running, Bool.and_eq_false_iff, decide_eq_false_iff_not]
  case latch =>
    intro n
    unfold State.pointPasses
    cases s.pointOf n with
    | none => simp
    | some q => cases hl : q.2.latch <;> simp [hl]
  case moving =>
    intro n
    unfold State.pointPasses
    cases s.pointOf n with
    | none => simp
    | some q => cases hq : q.2.pos <;> simp [hq]
  case contiguous =>
    cases s.joinFront j.sec d <;> cases j.rear <;> simp

theorem exec_join {s : State} {t : TId} (hq : s.Quiet (.tl t)) (sec oh ol d ld rear : Byte) :
    exec (.join t [sec, oh, ol, d, ld, rear]) s = .next ((s.reloadSupervision t).joinRequest t
      ⟨sec.toNat, num16 oh ol, dirOf d, flagOf ld, optId rear⟩) :=
  exec_tl_quiet (act := State.onJoin) (ty := Config.tyJoin) (p := [sec, oh, ol, d, ld, rear]) hq rfl rfl

/-- Settles O37: the checks of R106 in their order (joinRequest_judged), then R107 and R108 (joinAccepted_joined). -/
theorem joinResult : Obligations.JoinResult := by
  intro s t sec oh ol d ld rear hq htables
  dsimp only
  have hexec := exec_join hq sec oh ol d ld rear
  by_cases hcode : 1 < d.toNat ∨ 1 < ld.toNat
  · rw [if_pos hcode, hexec]
    refine congrArg _ ?_
    unfold State.joinRequest
    rcases hcode with h | h
    · rw [dirOf_none h]
      rfl
    · rw [flagOf_none h]
      cases dirOf d <;> rfl
  rw [if_neg hcode]
  have hd : d.toNat ≤ 1 := by omega
  have hld : ld.toNat ≤ 1 := by omega
  have hjudged := fun r : State => State.joinRequest_judged r t (j := ⟨sec.toNat, num16 oh ol, dirOf d, flagOf ld, optId rear⟩)
    (dirOf_eq hd) (flagOf_eq hld)
  dsimp only at hjudged
  by_cases hstate : s.site ≠ .running ∨ (s.tr t).state ≠ .offline
  · obtain ⟨honly, hrec, -, -⟩ := s.reloadSupervision_spec t
    have hsite : (s.reloadSupervision t).site = s.site := by rw [honly]
    have hst : ((s.reloadSupervision t).tr t).state = (s.tr t).state := by rw [hrec]
    rw [if_pos hstate, hexec, hjudged, if_pos (by rw [hsite, hst]; exact hstate)]
  obtain ⟨hrun, hoff⟩ := not_or.mp hstate
  have hoff := not_not.mp hoff
  rw [State.reloadSupervision_offline (h := hoff), hjudged, if_neg hstate] at hexec
  rw [State.reloadSupervision_offline (h := hoff), if_neg hstate]
  have hsame : optId rear = some sec.toNat → rear = sec := fun h => by
    unfold optId at h
    split at h
    · exact nomatch h
    · exact BitVec.eq_of_toNat_eq (Option.some.inj h)
  have hdiff : ∀ h : sec.toNat < 96, rear = sec → optId rear = some sec.toNat := fun h e => by
    subst e
    exact if_neg fun e => by subst e; simp at h
  unfold optId at hexec hsame hdiff
  have hjoined := fun f h => State.joinAccepted_joined (f := f) htables.2.1 t (j := ⟨sec.toNat, num16 oh ol, dirOf d, flagOf ld,
    if rear = 0xFF then none else some rear.toNat⟩) (d := if d = 0 then .up else .down) h (decide (ld = 1))
  have hstands := fun f hf hr => State.standing_stands (f := f) (s := s) (j := ⟨sec.toNat, num16 oh ol, dirOf d, flagOf ld,
    if rear = 0xFF then none else some rear.toNat⟩) (d := if d = 0 then .up else .down) hf hr
  dsimp only at hjoined hstands
  generalize (if rear = 0xFF then none else some rear.toNat : Option Nat) = named at hexec hsame hdiff hjoined hstands ⊢
  generalize (if d = 0 then Dir.up else Dir.down) = dir at hexec hjoined hstands ⊢
  by_cases h1 : ∃ m ∈ sec.toNat :: named.toList, 96 ≤ m ∨ s.sec? m = none
  · rw [if_pos h1, hexec, if_pos h1]
  rw [if_neg h1] at hexec ⊢
  have hsec : sec.toNat < 96 := Nat.not_le.mp fun h => h1 ⟨sec.toNat, List.mem_cons_self, .inl h⟩
  by_cases h2 : ∃ m ∈ sec.toNat :: named.toList, ((s.pointOf m).bind fun q => q.2.latch) ≠ none
  · rw [if_pos h2, hexec, if_pos h2]
  rw [if_neg h2] at hexec ⊢
  by_cases h3 : ∃ m ∈ sec.toNat :: named.toList,
      (s.pointOf m).map (·.2.pos) = some .moving ∨ (s.pointOf m).map (·.2.pos) = some .unknown
  · rw [if_pos h3, hexec, if_pos h3]
  rw [if_neg h3] at hexec ⊢
  by_cases h4 : rear = sec
  · rw [if_pos h4, hexec, if_pos (hdiff hsec h4)]
  rw [if_neg fun h => h4 (hsame h)] at hexec
  rw [if_neg h4]
  by_cases h5 : s.joinFront sec.toNat dir = none ∨ named ≠ none ∧
      (named.bind fun m => (s.joinFront sec.toNat dir).bind (s.joinRear m)) = none
  · rw [if_pos h5, hexec, if_pos h5]
  rw [if_neg h5] at hexec ⊢
  by_cases h6 : ∃ m ∈ sec.toNat :: named.toList, (s.sec? m).bind (·.hold) ≠ none
  · rw [if_pos h6, hexec, if_pos h6]
  rw [if_neg h6] at hexec ⊢
  by_cases h7 : ∃ m ∈ sec.toNat :: named.toList, s.detOf m ≠ .occupied ∧ s.detOf m ≠ .disturbed
  · rw [if_pos h7, hexec, if_pos h7]
  rw [if_neg h7] at hexec ⊢
  obtain ⟨hfront, hrear⟩ := not_or.mp h5
  obtain ⟨f, hf⟩ := Option.ne_none_iff_exists'.mp hfront
  obtain ⟨g, hg⟩ := hstands f hf fun m hm => by
    rw [hm, Option.bind_some, hf, Option.bind_some] at hrear
    simpa [Option.isSome_iff_ne_none] using hrear
  exact ⟨_, _, hexec, hjoined g hg⟩

end Sys2Proof.Machine

/-! PROOFS. REPORT up to its judgement: the report noted and the front taken (R111 steps 1 to 3). -/

namespace Sys2Proof.Machine

/-! ## Writes that write what is there -/

theorem State.modTr_same {s : State} {t : TId} {f : Transporter → Transporter} (h : f (s.tr t) = s.tr t) : s.modTr t f = s := by
  rw [State.modTr, show upd s.trs t f = s.trs from upd_id _ _ _ h]

theorem State.modRoute_same {s : State} {t : TId} {f : RouteRecord → RouteRecord} (h : f (s.route t) = s.route t) :
    s.modRoute t f = s := by
  rw [State.modRoute, show upd s.routes t f = s.routes from upd_id _ _ _ h]

/-- Two writes of one transporter's record are one. -/
theorem State.modTr_modTr (s : State) (t : TId) (f g : Transporter → Transporter) :
    (s.modTr t f).modTr t g = s.modTr t fun x => g (f x) := by
  unfold State.modTr upd
  simp

/-! ## The front taken (R111 step 3, R69) -/

/-- s with t's front in entry f. -/
def State.frontAt (s : State) (t : TId) (f : Entry) : State :=
  { s with routes := s.routes.set t { s.route t with front := some f.index } }

/-- s after t's front is taken to be in entry f: where it was in another before, the rear is tested. -/
def State.tookFront (s : State) (t : TId) (f : Entry) : State :=
  if (s.route t).front = some f.index then s else (s.frontAt t f).cascade t

theorem State.frontAt_same {s : State} {t : TId} {f : Entry} (h : (s.route t).front = some f.index) : s.frontAt t f = s :=
  State.modRoute_same (f := fun x => { x with front := some f.index }) (by rw [← h])

theorem State.tookFront_frontTaken {s : State} (hwf : Table.wf s.points = true) (t : TId) (f : Entry) :
    s.FrontTaken (s.tookFront t f) t f :=
  ⟨fun h => if_pos h, fun h => by
    rw [State.tookFront, if_neg h]
    exact (s.frontAt t f).cascade_cascaded hwf t⟩

theorem State.tookFront_loosened (s : State) (t : TId) (f : Entry) :
    (s.frontAt t f).Loosened (s.tookFront t f) t (rearHold t) := by
  unfold State.tookFront
  split
  · next h =>
    rw [State.frontAt_same h]
    exact .refl s t _
  · exact (s.frontAt t f).cascade_loosened t

theorem State.route_frontAt (s : State) (t : TId) (f : Entry) : (s.frontAt t f).route t = { s.route t with front := some f.index } :=
  State.route_modRoute_self s t fun x => { x with front := some f.index }

/-- The front's entry is never released by the cascade. -/
theorem cascadeFrom_keeps_front {t : TId} {f : Entry} : ∀ (n : Nat) {s : State}, f ∈ (s.route t).entries →
    (s.route t).front = some f.index → f ∈ ((cascadeFrom t n s).route t).entries
  | 0, _, hf, _ => hf
  | n + 1, s, hf, hfront => by
    rw [cascadeFrom]
    cases hr : s.releasable t with
    | none => exact hf
    | some e =>
      obtain ⟨-, -, ⟨i, hi, hne⟩, -⟩ := State.releasable_eq_some.mp hr
      have hfi : f.index ≠ e.index := by
        rw [hfront] at hi
        exact Option.some.inj hi ▸ hne
      obtain ⟨m, hfreed, heval⟩ := s.release_freed t e .rear false
      have hroute : (s.release t e .rear false).route t = m.route t := by rw [heval.only]; rfl
      refine cascadeFrom_keeps_front n ?_ ?_
      · rw [hroute, hfreed.route]
        exact List.mem_filter.mpr ⟨hf, decide_eq_true hfi⟩
      · rw [hroute, hfreed.route]
        exact hfront

theorem entry_find_of_rises {es : List Entry} (h : (es.map (·.index)).Pairwise (· < ·)) {f : Entry} (hf : f ∈ es) :
    es.find? (fun e => decide (e.index = f.index)) = some f := by
  induction es with
  | nil => exact absurd hf List.not_mem_nil
  | cons e es ih =>
    rw [List.map_cons, List.pairwise_cons] at h
    rcases List.mem_cons.mp hf with rfl | hf
    · exact List.find?_cons_of_pos (decide_eq_true rfl)
    · have hlt := h.1 f.index (List.mem_map_of_mem hf)
      rw [List.find?_cons_of_neg (by simp; omega)]
      exact ih h.2 hf

theorem State.mem_of_entryOf {s : State} {t : TId} {n : Nat} {f : Entry} (h : s.entryOf t n = some f) :
    f ∈ (s.route t).entries ∧ f.sec = n := ⟨List.mem_of_find?_eq_some h, by simpa using List.find?_some h⟩

/-- After the front is taken, the front entry is f. -/
theorem State.frontEntry_tookFront {s : State} {t : TId} (hrise : ((s.route t).entries.map (·.index)).Pairwise (· < ·))
    {f : Entry} (hf : f ∈ (s.route t).entries) : (s.tookFront t f).frontEntry t = some f := by
  have hloose := s.tookFront_loosened t f
  have hfront : ((s.tookFront t f).route t).front = some f.index := by rw [hloose.route, State.route_frontAt]
  have hentries := hloose.entries
  rw [State.route_frontAt] at hentries
  have hmem : f ∈ ((s.tookFront t f).route t).entries := by
    unfold State.tookFront
    split
    · exact hf
    · refine cascadeFrom_keeps_front _ ?_ ?_ <;> rw [State.route_frontAt]
      exact hf
  rw [State.frontEntry, hfront, Option.bind_some]
  exact entry_find_of_rises (hrise.sublist (hentries.map _)) hmem

/-! ## REPORT read (R109, R111 step 1) -/

theorem State.reloadSupervision_live {s : State} {t : TId} (h : (s.tr t).state ≠ .offline) :
    s.reloadSupervision t = s.modTr t fun x => { x with superv := some (.load x.supervision) } := if_neg h

theorem exec_report {s : State} {t : TId} (hq : s.Quiet (.tl t)) (echo sec oh ol d vh vl ld rear : Byte) :
    exec (.report t [echo, sec, oh, ol, d, vh, vl, ld, rear]) s =
      .next ((s.reloadSupervision t).onReport t [echo, sec, oh, ol, d, vh, vl, ld, rear]) :=
  exec_tl_quiet (act := State.onReport) (ty := Config.tyReport) (p := [echo, sec, oh, ol, d, vh, vl, ld, rear]) hq rfl rfl

theorem State.onReport_range {s : State} {t : TId} {d ld : Byte} (h : 1 < d.toNat ∨ 1 < ld.toNat)
    (echo sec oh ol vh vl rear : Byte) : s.onReport t [echo, sec, oh, ol, d, vh, vl, ld, rear] = s.refuse t 0x11 .range := by
  simp only [State.onReport, parseReport]
  rcases h with h | h
  · rw [dirOf_none h]
    rfl
  · rw [flagOf_none h]
    cases dirOf d <;> rfl

theorem State.onReport_coded {s : State} {t : TId} {d ld : Byte} (hd : d.toNat ≤ 1) (hld : ld.toNat ≤ 1)
    (echo sec oh ol vh vl rear : Byte) : s.onReport t [echo, sec, oh, ol, d, vh, vl, ld, rear] =
      s.handleReport t (sentReport echo sec oh ol d vh vl ld rear) := by
  simp only [State.onReport, parseReport, dirOf_eq hd, flagOf_eq hld]
  rfl

/-- What holds, routes and sections say of a report is read after supervision is reloaded as before. -/
theorem State.reportReads_reload (s : State) (t : TId) :
    (s.reloadSupervision t).holdBy = s.holdBy ∧ (s.reloadSupervision t).route t = s.route t ∧
    (s.reloadSupervision t).pathLen = s.pathLen ∧ ((s.reloadSupervision t).tr t).state = (s.tr t).state := by
  obtain ⟨honly, hrec, -, -⟩ := s.reloadSupervision_spec t
  generalize s.reloadSupervision t = w at *
  refine ⟨State.holdBy_congr (by rw [honly]), by rw [honly]; rfl, ?_, by rw [hrec]⟩
  rw [honly]
  rfl

/-! ## A report that is held (R111 steps 2 and 3) -/

theorem State.heldFirm_iff {s : State} {t : TId} {n : Nat} : s.heldFirm t n = true ↔ s.holdsFirm t n := decide_eq_true_iff

/-- What the report of t must name: a front held firmly in entry f, and no rear or one held firmly at or behind it. -/
structure State.ReportFits (s : State) (t : TId) (r : Report) (f : Entry) : Prop where
  held : s.holdsFirm t r.sec
  entry : s.entryOf t r.sec = some f
  rear : ∀ m, r.rear = some m → s.holdsFirm t m ∧ ∃ e, s.entryOf t m = some e ∧ e.index ≤ f.index

theorem State.reportHeld_of_fits {s : State} {t : TId} {r : Report} {f : Entry} (h : s.ReportFits t r f) :
    s.reportHeld t r = true := by
  unfold State.reportHeld
  rw [State.heldFirm_iff.mpr h.held, Bool.true_and]
  cases hr : r.rear with
  | none => rfl
  | some m =>
    obtain ⟨hm, e, he, hle⟩ := h.rear m hr
    simp only [State.heldFirm_iff.mpr hm, he, h.entry, Bool.true_and, decide_eq_true hle]

/-- A report is not held where its front or rear is not held firmly, or the rear stands ahead of the front. -/
theorem State.reportHeld_eq_false {s : State} {t : TId} {r : Report}
    (h : ¬ s.holdsFirm t r.sec ∨ (∃ m, r.rear = some m ∧ ¬ s.holdsFirm t m) ∨
      ∃ m e f, r.rear = some m ∧ s.entryOf t r.sec = some f ∧ s.entryOf t m = some e ∧ f.index < e.index) :
    s.reportHeld t r = false := by
  unfold State.reportHeld
  have hno : ∀ n, ¬ s.holdsFirm t n → s.heldFirm t n = false := fun n hn => by
    rw [← Bool.not_eq_true, State.heldFirm_iff]
    exact hn
  rcases h with h | ⟨m, hm, h⟩ | ⟨m, e, f, hm, hf, he, hlt⟩
  · rw [hno _ h, Bool.false_and]
  · simp only [hm, hno _ h, Bool.false_and, Bool.and_false]
  · simp only [hm, he, hf, decide_eq_false (Nat.not_le.mpr hlt), Bool.and_false]

/-- R111 from step 4 on, the report noted and the front taken. -/
def State.judgeReport (s : State) (t : TId) (r : Report) : State :=
  if s.runsBack t r then s.tripAny t .wrongDirection
  else if s.standingMotion t r then s.tripAny t .unauthorisedMotion
  else (s.seeStand t r).echoStep t r

/-- The report noted, its offset clamped to the front's entry, and supervision reloaded, in one write. -/
theorem State.noted_eq (s : State) (t : TId) (r : Report) :
    s.noted t r = s.modTr t fun x => { x with superv := some (.load x.supervision), last := some r } := rfl

theorem State.takeReport_reload {s : State} {t : TId} (hlive : (s.tr t).state ≠ .offline) {r : Report} {f : Entry}
    (hf : s.entryOf t r.sec = some f) :
    (s.reloadSupervision t).takeReport t r = s.noted t { r with off := min r.off (s.pathLen f) } := by
  obtain ⟨-, hroute, hlen, -⟩ := s.reportReads_reload t
  have hf' : (s.reloadSupervision t).entryOf t r.sec = some f := by rw [State.entryOf, hroute]; exact hf
  simp only [State.takeReport, hf', hlen]
  rw [State.reloadSupervision_live hlive, State.modTr_modTr]
  rfl

theorem State.setFront_held {s : State} {t : TId} {n : Nat} {f : Entry} (hn : s.holdsFirm t n) (hf : s.entryOf t n = some f) :
    s.setFront t n = s.frontAt t f := by
  simp only [State.setFront, State.heldFirm_iff.mpr hn, hf, if_true]
  rfl

/-- A report whose front and rear are held, noted and its front taken, is judged from step 4 on. -/
theorem State.liveReport_held {s : State} {t : TId} (hlive : (s.tr t).state ≠ .offline) {r : Report} {f : Entry}
    (h : s.ReportFits t r f) : (s.reloadSupervision t).liveReport t r =
      ((s.noted t { r with off := min r.off (s.pathLen f) }).tookFront t f).judgeReport t r := by
  obtain ⟨hhold, hroute, hlen, -⟩ := s.reportReads_reload t
  have hentry : ∀ n, (s.reloadSupervision t).entryOf t n = s.entryOf t n := fun n => by
    rw [State.entryOf, hroute]
    rfl
  have hfits : (s.reloadSupervision t).ReportFits t r f := ⟨by rw [State.holdsFirm, hhold]; exact h.held,
    (hentry _).trans h.entry, fun m hm => by
      rw [State.holdsFirm, hhold, hentry]
      exact h.rear m hm⟩
  unfold State.liveReport
  rw [State.reportHeld_of_fits hfits, State.takeReport_reload hlive h.entry, hroute]
  obtain ⟨n, hn⟩ : ∃ n, n = s.noted t { r with off := min r.off (s.pathLen f) } := ⟨_, rfl⟩
  have hnroute : n.route t = s.route t := by rw [hn]; rfl
  have hset : n.setFront t r.sec = n.frontAt t f := State.setFront_held (by rw [hn]; exact h.held) (by rw [hn]; exact h.entry)
  rw [← hn, hset, if_neg (by rw [Bool.not_true]; exact Bool.false_ne_true)]
  dsimp only
  rw [State.route_frontAt]
  dsimp only
  have htook : (if some f.index = (s.route t).front then n.frontAt t f else (n.frontAt t f).cascade t) = n.tookFront t f := by
    unfold State.tookFront
    rw [hnroute]
    by_cases hfront : (s.route t).front = some f.index
    · rw [if_pos hfront, if_pos hfront.symm, State.frontAt_same (by rw [hnroute]; exact hfront)]
    · rw [if_neg hfront, if_neg (Ne.symm hfront)]
  rw [htook]
  rfl

end Sys2Proof.Machine

/-! PROOFS. REPORT judged, answered, and its trips (R111 steps 4 to 9). -/

namespace Sys2Proof.Machine

/-! ## The stand-seen flag (R111 step 5) -/

section
variable (s : State) (t : TId) (r : Report)

theorem State.standSaw_only : s.standSaw t r = { s with trs := (s.standSaw t r).trs } := rfl

theorem State.tr_standSaw : (s.standSaw t r).tr t = { s.tr t with
    standSeen := (s.tr t).standSeen || decide ((s.tr t).state = .held ∧ r.speed ≤ s.params.overspeedTol) } :=
  State.tr_modTr_self s t fun x => { x with
    standSeen := x.standSeen || decide ((s.tr t).state = .held ∧ r.speed ≤ s.params.overspeedTol) }

theorem State.tr_standSaw_ne {v : TId} (hv : v ≠ t) : (s.standSaw t r).tr v = s.tr v :=
  s.tr_ne hv fun x => { x with
    standSeen := x.standSeen || decide ((s.tr t).state = .held ∧ r.speed ≤ s.params.overspeedTol) }

theorem State.seeStand_eq : s.seeStand t r = s.standSaw t r := by
  have hset : s.standSaw t r = s.modTr t fun x => { x with
      standSeen := x.standSeen || decide ((s.tr t).state = .held ∧ r.speed ≤ s.params.overspeedTol) } := rfl
  rw [hset]
  unfold State.seeStand
  split
  · next h =>
    rw [decide_eq_true h]
    simp only [Bool.or_true]
  · next h =>
    rw [decide_eq_false h]
    exact (State.modTr_same (by simp only [Bool.or_false])).symm

end

section
variable {s m : State} {t : TId} {r : Report} {f : Entry}

/-- Out of HELD the stand-seen flag stays. -/
theorem State.standSaw_same (h : (s.tr t).state ≠ .held) : s.standSaw t r = s := by
  rw [← State.seeStand_eq, State.seeStand, if_neg fun hc => h hc.1]

/-! ## Plausible reports (R111 steps 4 and 5) -/

theorem State.standingMotion_eq_false_iff : m.standingMotion t r = false ↔
    ((m.tr t).state = .parked ∨ (m.tr t).state = .transfer ∨ (m.tr t).state = .held ∧ (m.tr t).standSeen = true →
      r.speed ≤ m.params.overspeedTol) ∧
    ((m.tr t).state = .transfer → ∀ x p, m.transfers[t] = some x → m.pad? x.pad = some p → p.sec = r.sec) := by
  unfold State.standingMotion
  cases hst : (m.tr t).state with
  | parked => simp
  | authorised => simp
  | held => simp
  | tripped => simp
  | offline => simp
  | transfer =>
    cases hx : m.transfers[t] with
    | none => simp
    | some x =>
      cases hp : m.pad? x.pad with
      | none =>
        simp only [Option.bind_some, hp, Bool.or_false, decide_eq_false_iff_not, Nat.not_lt, reduceCtorEq, true_or,
          or_true, forall_const]
        refine (and_iff_left fun y q hy hq => ?_).symm
        cases hy
        exact nomatch hp.symm.trans hq
      | some p =>
        simp only [Option.bind_some, hp, Bool.or_eq_false_iff, decide_eq_false_iff_not, Nat.not_lt, not_not, reduceCtorEq,
          true_or, or_true, forall_const]
        refine and_congr_right fun _ => ⟨fun h y q hy hq => ?_, fun h => h x p rfl hp⟩
        cases hy
        cases hp.symm.trans hq
        exact h

theorem State.runsBack_iff (hf : m.frontEntry t = some f) : m.runsBack t r = true ↔
    (m.tr t).state = .authorised ∧ 0 < r.speed ∧ r.dir ≠ senseOf f.ent := by
  simp only [State.runsBack, hf, Bool.and_eq_true, decide_eq_true_eq, and_assoc]

theorem State.judgeReport_plausible (hf : m.frontEntry t = some f) (hp : m.Plausible t f r) :
    m.judgeReport t r = (m.standSaw t r).echoStep t r := by
  obtain ⟨hdir, hstand, hpad⟩ := hp
  have hback : ¬ m.runsBack t r = true := fun h => by
    obtain ⟨hst, hv, hd⟩ := (State.runsBack_iff hf).mp h
    exact hd (hdir hst hv)
  have hstill := State.standingMotion_eq_false_iff.mpr ⟨hstand, hpad⟩
  rw [State.judgeReport, if_neg hback, hstill, if_neg Bool.false_ne_true, State.seeStand_eq]

/-! ## Steps 6 to 9 -/

theorem State.overspeeds_iff : m.overspeeds t r = true ↔ m.Overspeeds t r := decide_eq_true_iff

theorem State.standSaw_overspeeds : (m.standSaw t r).Overspeeds t r ↔ m.Overspeeds t r := by
  by_cases hst : (m.tr t).state = .authorised
  · rw [State.standSaw_same (by rw [hst]; exact nofun)]
  · have hst' : ((m.standSaw t r).tr t).state = (m.tr t).state := by rw [State.tr_standSaw]
    exact ⟨fun h => absurd (hst' ▸ h.1) hst, fun h => absurd h.1 hst⟩

theorem State.parkTest_iff : s.parkTest t r.speed = true ↔ r.speed = 0 ∧ s.tail t = [] ∧ s.settingRun t = [] ∧
    s.pendingRun t = [] ∧ s.distanceToGo t ≤ s.params.parkTol := by
  simp only [State.parkTest, Bool.and_eq_true, decide_eq_true_eq, List.isEmpty_iff, and_assoc]

theorem State.parkAndAnswer_answered (s : State) (t : TId) (r : Report) : s.Answered (s.parkAndAnswer t r) t r := by
  obtain ⟨p, hp⟩ : ∃ p, p = if (s.tr t).state = .authorised ∧ s.parkTest t r.speed then
    s.modTr t fun x => { x with state := .parked } else s := ⟨_, rfl⟩
  have heq : s.parkAndAnswer t r = p.formAuth t := by rw [hp]; rfl
  obtain ⟨hauth, honly, hport, hothers⟩ := p.formAuth_spec t
  have hponly : p = { s with trs := p.trs } := by
    rw [hp]
    split <;> rfl
  have hptl : ∀ v, p.tl v = s.tl v := fun v => by rw [hponly]; rfl
  have htr : (p.formAuth t).tr t = p.tr t := by rw [honly]; rfl
  rw [heq]
  exact {
    record := by
      dsimp only
      rw [htr, hp]
      by_cases hc : (s.tr t).state = .authorised ∧ s.parkTest t r.speed
      · rw [if_pos hc, State.tr_modTr_self, if_pos ⟨hc.1, State.parkTest_iff.mp hc.2⟩]
      · rw [if_neg hc, if_neg fun h => hc ⟨h.1, State.parkTest_iff.mpr h.2⟩]
    auth := hauth
    port := by
      have h : (p.formAuth t).tl t = { p.tl t with auth := ((p.formAuth t).tl t).auth } := hport
      rw [hptl] at h
      exact h
    only := by rw [honly, hponly]
    others := fun v hv => by
      obtain ⟨h1, h2, h3, h4, h5⟩ := hothers v hv
      have hv1 : p.tr v = s.tr v := by
        rw [hp]
        split
        · exact s.tr_ne hv _
        · rfl
      refine ⟨h1.trans hv1, h2.trans (by rw [hponly]; rfl), h3.trans (hptl v), h4.trans ?_, h5.trans ?_⟩ <;> rw [hponly] }

/-- A report that echoes no pending run goes on to the overspeed check and the answer. -/
theorem State.echoStep_quiet (h : s.pendingRun t = [] ∨ r.echo ≠ (s.route t).authNum) :
    s.echoStep t r = if s.overspeeds t r then s.tripAny t .overspeed else s.parkAndAnswer t r := by
  have hno : (!(s.pendingRun t).isEmpty && decide (r.echo = (s.route t).authNum)) = false := by
    rcases h with h | h
    · rw [h]
      rfl
    · rw [decide_eq_false h, Bool.and_false]
  unfold State.echoStep State.runsOver State.echoes
  rw [hno, Bool.false_and, if_neg Bool.false_ne_true, Bool.false_and, if_neg Bool.false_ne_true]

/-! ## Trips -/

/-- A transporter in service, not OFFLINE and not TRIPPED, trips as ReportTrip says. -/
theorem State.tripAny_reportTrip (hoff : (s.tr t).state ≠ .offline) (htrip : (s.tr t).state ≠ .tripped) {c : TripCause}
    {a : AbortCause} (hc : c.abort = some a) : s.ReportTrip (s.tripAny t c) t c a := by
  refine ⟨fun hst => ?_, fun hst x hx => ?_⟩
  · rw [State.tripAny_trip hst]
    refine State.trip_tripTaken ?_ c
    unfold TState.upright
    cases h : (s.tr t).state <;> simp_all
  · rw [State.tripAny_transfer hst hc]
    exact State.abort_transferTripped hx hc

theorem State.tripAny_upright (h : (s.tr t).state.upright) (c : TripCause) : s.TripTaken (s.tripAny t c) t c := by
  rw [State.tripAny_trip (TState.upright_ne h).2.2]
  exact State.trip_tripTaken h c

/-- An echo of the current number from beyond the end trips t. -/
theorem State.echoStep_beyond (hfront : (s.route t).front = some f.index) (hp : s.pendingRun t ≠ [])
    (he : r.echo = (s.route t).authNum) (hend : ∀ p, (s.route t).endPos = some p → p.idx < f.index) :
    s.echoStep t r = s.tripAny t .excursion := by
  have hwithin : s.frontWithin t = false := by
    unfold State.frontWithin
    rw [hfront]
    cases hep : (s.route t).endPos with
    | none => rfl
    | some p => exact decide_eq_false (Nat.not_le.mpr (hend p hep))
  have hover : s.runsOver t r = true := by
    unfold State.runsOver
    rw [hwithin, decide_eq_true he, List.isEmpty_eq_false_iff.mpr hp]
    rfl
  rw [State.echoStep, if_pos hover]

end

end Sys2Proof.Machine

/-! PROOFS. REPORT of a transporter in service: answered (O38), tripped (O39). -/

namespace Sys2Proof.Machine

section
variable {s : State} {t : TId} {echo sec oh ol d vh vl ld rear : Byte} {f : Entry}

theorem exec_report_coded (hq : s.Quiet (.tl t)) (hd : d.toNat ≤ 1) (hld : ld.toNat ≤ 1) :
    exec (.report t [echo, sec, oh, ol, d, vh, vl, ld, rear]) s = .next ((s.reloadSupervision t).handleReport t
      (sentReport echo sec oh ol d vh vl ld rear)) := by
  rw [exec_report hq, State.onReport_coded hd hld]

theorem State.handleReport_live {r : Report} (hoff : (s.tr t).state ≠ .offline) (htrip : (s.tr t).state ≠ .tripped) :
    (s.reloadSupervision t).handleReport t r = (s.reloadSupervision t).liveReport t r := by
  obtain ⟨-, -, -, hst⟩ := s.reportReads_reload t
  unfold State.handleReport
  rw [hst]
  cases h : (s.tr t).state with
  | offline => exact absurd h hoff
  | tripped => exact absurd h htrip
  | parked => rfl
  | authorised => rfl
  | held => rfl
  | transfer => rfl

/-- A report that fits is noted, its front taken, and judged. -/
theorem exec_report_fits (hq : s.Quiet (.tl t)) (hd : d.toNat ≤ 1) (hld : ld.toNat ≤ 1)
    (hoff : (s.tr t).state ≠ .offline) (htrip : (s.tr t).state ≠ .tripped)
    (hfits : s.ReportFits t (sentReport echo sec oh ol d vh vl ld rear) f) :
    let r := sentReport echo sec oh ol d vh vl ld rear
    exec (.report t [echo, sec, oh, ol, d, vh, vl, ld, rear]) s =
      .next (((s.noted t { r with off := min r.off (s.pathLen f) }).tookFront t f).judgeReport t r) := by
  rw [exec_report_coded hq hd hld, State.handleReport_live hoff htrip, State.liveReport_held hoff hfits]

/-- One that does not is an excursion. -/
theorem exec_report_unheld (hq : s.Quiet (.tl t)) (hd : d.toNat ≤ 1) (hld : ld.toNat ≤ 1)
    (hoff : (s.tr t).state ≠ .offline) (htrip : (s.tr t).state ≠ .tripped)
    (hno : s.reportHeld t (sentReport echo sec oh ol d vh vl ld rear) = false) :
    exec (.report t [echo, sec, oh, ol, d, vh, vl, ld, rear]) s =
      .next ((s.reloadSupervision t).tripAny t .excursion) := by
  obtain ⟨hhold, hroute, -, -⟩ := s.reportReads_reload t
  have hheld : (s.reloadSupervision t).reportHeld t (sentReport echo sec oh ol d vh vl ld rear) = false := by
    simp only [State.reportHeld, State.heldFirm, State.entryOf, hhold, hroute] at hno ⊢
    exact hno
  rw [exec_report_coded hq hd hld, State.handleReport_live hoff htrip, State.liveReport, hheld]
  rfl

end

/-! ## The state in which the front is taken -/

section
variable {s : State} {t : TId} {r : Report} {f : Entry}

theorem State.tr_noted (s : State) (t : TId) (r : Report) : (s.noted t r).tr t =
    { s.tr t with superv := some (.load (s.tr t).supervision), last := some r } := by
  rw [State.noted_eq, State.tr_modTr_self]

theorem State.tr_noted_ne (s : State) {t v : TId} (hv : v ≠ t) (r : Report) : (s.noted t r).tr v = s.tr v :=
  s.tr_ne hv fun x => { x with superv := some (.load x.supervision), last := some r }

/-- What the state m, in which a noted report's front is taken, has kept of s. -/
structure State.FrontState (s m : State) (t : TId) (r : Report) (f : Entry) : Prop where
  record : m.tr t = { s.tr t with
    superv := some (.load (s.tr t).supervision), last := some r, state := (m.tr t).state, stop := (m.tr t).stop
    standSeen := (m.tr t).standSeen }
  state : (m.tr t).state = (s.tr t).state ∨
    ((m.tr t).state = .authorised ∨ (m.tr t).state = .held) ∧ ((s.tr t).state = .authorised ∨ (s.tr t).state = .held)
  route : m.route t = { s.route t with front := some f.index, entries := (m.route t).entries, nextIdx := (m.route t).nextIdx }
  entries : (m.route t).entries.Sublist (s.route t).entries
  holds : ∀ n, m.sec? n = s.sec? n ∨
    ∃ y h, s.sec? n = some y ∧ y.hold = some h ∧ rearHold t y h ∧ m.sec? n = some { y with hold := none }
  port : s.OnlyAuth m t
  others : ∀ v, v ≠ t → s.SameTransporter m v
  only : m = { s with
    sections := m.sections, points := m.points, trs := m.trs, routes := m.routes, tls := m.tls, ceilings := m.ceilings
    walkDue := m.walkDue, opss := m.opss }

theorem State.tookFront_frontState (s : State) (t : TId) (r : Report) (f : Entry) :
    s.FrontState ((s.noted t r).tookFront t f) t r f := by
  have h := (s.noted t r).tookFront_loosened t f
  obtain ⟨n, hn⟩ : ∃ n, n = (s.noted t r).frontAt t f := ⟨_, rfl⟩
  have honly : n = { s with trs := n.trs, routes := n.routes } := by rw [hn]; rfl
  have hntr : n.tr t = { s.tr t with superv := some (.load (s.tr t).supervision), last := some r } := by
    rw [hn]
    exact s.tr_noted t r
  have hnroute : n.route t = { s.route t with front := some f.index } := by
    rw [hn]
    exact State.route_frontAt ..
  have hntl : ∀ v, n.tl v = s.tl v := fun v => by rw [honly]; rfl
  have hnsec : ∀ k, n.sec? k = s.sec? k := fun k => by rw [honly]; rfl
  rw [← hn] at h
  exact {
    record := by rw [h.record, hntr]
    state := by
      have hst := h.state
      rw [hntr] at hst
      exact hst
    route := by rw [h.route, hnroute]
    entries := by
      have he := h.entries
      rw [hnroute] at he
      exact he
    holds := fun k => by
      have hk := h.holds k
      rw [hnsec] at hk
      exact hk
    port := by
      have hp : ((s.noted t r).tookFront t f).tl t = { n.tl t with auth := (((s.noted t r).tookFront t f).tl t).auth } := h.port
      rw [hntl] at hp
      exact hp
    others := fun v hv => by
      obtain ⟨h1, h2, h3, h4, h5⟩ := h.others v hv
      have k1 : n.tr v = s.tr v := by rw [hn]; exact s.tr_noted_ne hv r
      have k2 : n.route v = s.route v := by rw [hn]; exact s.route_ne hv fun x => { x with front := some f.index }
      exact ⟨h1.trans k1, h2.trans k2, h3.trans (hntl v), h4.trans (by rw [honly]), h5.trans (by rw [honly])⟩
    only := by rw [h.only, honly] }

/-- The state goes from AUTHORISED to HELD or back at most. -/
theorem State.FrontState.live {m : State} (h : s.FrontState m t r f) (hoff : (s.tr t).state ≠ .offline)
    (htrip : (s.tr t).state ≠ .tripped) : (m.tr t).state ≠ .offline ∧ (m.tr t).state ≠ .tripped := by
  rcases h.state with h | ⟨h | h, -⟩ <;> rw [h]
  · exact ⟨hoff, htrip⟩
  · exact ⟨nofun, nofun⟩
  · exact ⟨nofun, nofun⟩

theorem State.FrontState.pending {m : State} (h : s.FrontState m t r f) (hp : s.pendingRun t = []) : m.pendingRun t = [] := by
  refine List.filter_eq_nil_iff.mpr fun e he => ?_
  have hs := List.filter_eq_nil_iff.mp hp e (h.entries.subset he)
  rcases h.holds e.sec with hk | ⟨y, x, -, -, -, hk⟩
  · rw [State.holdBy, hk]
    exact hs
  · rw [State.holdBy, hk]
    simp

theorem State.distanceToGo_congr {s u : State} {t : TId} (hr : u.route t = s.route t) (hl : (u.tr t).last = (s.tr t).last)
    (hsec : u.sections = s.sections) : u.distanceToGo t = s.distanceToGo t := by
  have hlen : u.pathLen = s.pathLen := by
    funext e
    simp only [State.pathLen, State.sec?, hsec]
  have hentry : u.entryAt t = s.entryAt t := by
    funext i
    simp only [State.entryAt, hr]
  have hpos : u.frontPos t = s.frontPos t := by
    simp only [State.frontPos, State.frontEntry, hr, hentry, hl, State.travelled, hlen]
  simp only [State.distanceToGo, hpos, hr, State.distance, hentry, hlen]

end

/-! ## Answered (O38) -/

/-- A plausible report that echoes no pending run and does not overspeed is answered. -/
theorem State.judgeReport_answered {m : State} {t : TId} {r : Report} {f : Entry} (hf : m.frontEntry t = some f)
    (hp : m.Plausible t f r) (hecho : m.pendingRun t = [] ∨ r.echo ≠ (m.route t).authNum) (hover : ¬ m.Overspeeds t r) :
    (m.standSaw t r).Answered (m.judgeReport t r) t r := by
  rw [State.judgeReport_plausible hf hp, State.echoStep_quiet (s := m.standSaw t r) hecho, if_neg fun h =>
    hover (State.standSaw_overspeeds.mp (State.overspeeds_iff.mp h))]
  exact (m.standSaw t r).parkAndAnswer_answered t r

theorem reportAnswered_newEntry {s : State} {t : TId} {echo sec oh ol d vh vl ld rear : Byte} {f : Entry}
    (hq : s.Quiet (.tl t)) (hrise : s.RoutesRise) (htables : s.TablesWf) (hd : d.toNat ≤ 1) (hld : ld.toNat ≤ 1)
    (hoff : (s.tr t).state ≠ .offline) (htrip : (s.tr t).state ≠ .tripped)
    (hfits : s.ReportFits t (sentReport echo sec oh ol d vh vl ld rear) f) :
    let r := sentReport echo sec oh ol d vh vl ld rear
    ∃ m, (s.noted t { r with off := min r.off (s.pathLen f) }).FrontTaken m t f ∧
      (m.Plausible t f r → (m.pendingRun t = [] ∨ r.echo ≠ (m.route t).authNum) → ¬ m.Overspeeds t r →
        ∃ u, exec (.report t [echo, sec, oh, ol, d, vh, vl, ld, rear]) s = .next u ∧ (m.standSaw t r).Answered u t r) := by
  intro r
  obtain ⟨hmem, -⟩ := State.mem_of_entryOf hfits.entry
  refine ⟨_, State.tookFront_frontTaken (s := s.noted t { r with off := min r.off (s.pathLen f) }) htables.2.1 t f, fun hp hecho hover => ⟨_, exec_report_fits hq hd hld hoff htrip hfits, ?_⟩⟩
  exact State.judgeReport_answered (State.frontEntry_tookFront (s := s.noted t { r with off := min r.off (s.pathLen f) })
    (hrise t).1 hmem) hp hecho hover

/-- Settles O38: a report that fits is judged in the state in which its front is taken (exec_report_fits), and answered
there (judgeReport_answered). -/
theorem reportAnswered : Obligations.ReportAnswered := by
  refine ⟨fun s t echo sec oh ol d vh vl ld rear f hq hrise hd hld => ?_,
    fun s t echo sec oh ol d vh vl ld rear f hq hrise htables hd hld => ?_⟩
  · intro r s1 state stays hst hheld hentry hrear hecho hmotion
    have hfits : s.ReportFits t r f := ⟨hheld, hentry, hrear⟩
    have hup := TState.upright_ne hst
    have hexec := exec_report_fits hq hd hld hup.1 hup.2.1 hfits
    dsimp only at hexec
    obtain ⟨hmem, -⟩ := State.mem_of_entryOf hentry
    have hfe : (s1.tookFront t f).frontEntry t = some f := State.frontEntry_tookFront (s := s1) (hrise t).1 hmem
    have hfs := s.tookFront_frontState t { r with off := min r.off (s.pathLen f) } f
    have hstay : stays → s1.tookFront t f = s1 := fun h => if_pos h
    have hs1 : (s1.tr t).state = state ∧ (s1.tr t).standSeen = (s.tr t).standSeen := by
      rw [State.tr_noted]
      exact ⟨rfl, rfl⟩
    change s.FrontState (s1.tookFront t f) t { r with off := min r.off (s.pathLen f) } f at hfs
    change exec _ s = .next ((s1.tookFront t f).judgeReport t r) at hexec
    obtain ⟨m, hm⟩ : ∃ m, m = s1.tookFront t f := ⟨_, rfl⟩
    rw [← hm] at hfe hfs hexec hstay
    have hparams : m.params = s.params := by rw [hfs.only]
    have hmstate : (m.tr t).state = .parked ∨ (m.tr t).state = .authorised ∨ (m.tr t).state = .held := by
      rcases hfs.state with h | ⟨h, -⟩
      · rw [h]
        exact hst
      · exact .inr h
    have hplausible : m.Plausible t f r := by
      refine ⟨fun ha hv => ?_, fun hstand => ?_, fun htr => ?_⟩
      · rcases hmotion with h0 | ⟨hs, -, h⟩
        · omega
        · rw [hstay hs, hs1.1] at ha
          rcases h with h | h | h
          · exact absurd (ha.symm.trans h.1) nofun
          · exact absurd (ha.symm.trans h.1) nofun
          · exact h.2.1
      · rcases hmotion with h0 | ⟨hs, -, h⟩
        · omega
        · rw [hparams]
          rw [hstay hs, hs1.1, hs1.2] at hstand
          rcases h with h | h | h
          · exact h.2
          · exact h.2.resolve_left fun hno => by
              rcases hstand with hk | hk | hk
              · exact absurd (h.1.symm.trans hk) nofun
              · exact absurd (h.1.symm.trans hk) nofun
              · exact absurd (hno.symm.trans hk.2) nofun
          · rcases hstand with hk | hk | hk
            · exact absurd (h.1.symm.trans hk) nofun
            · exact absurd (h.1.symm.trans hk) nofun
            · exact absurd (h.1.symm.trans hk.1) nofun
      · exact absurd htr (TState.upright_ne hmstate).2.2
    have hecho' : m.pendingRun t = [] ∨ r.echo ≠ (m.route t).authNum := by
      refine hecho.imp hfs.pending fun h => ?_
      rw [hfs.route]
      exact h
    have hover : ¬ m.Overspeeds t r := by
      rintro ⟨ha, hnum, hv⟩
      rw [hparams] at hv
      rcases hmotion with h0 | ⟨hs, -, h⟩
      · omega
      · rw [hfs.route] at hnum
        rw [hstay hs] at ha hv
        rw [hs1.1] at ha
        rcases h with h | h | h
        · exact absurd (ha.symm.trans h.1) nofun
        · exact absurd (ha.symm.trans h.1) nofun
        · exact h.2.2.elim (fun hne => hne hnum) fun hle => absurd hv (Nat.not_lt.mpr hle)
    have hans := State.judgeReport_answered hfe hplausible hecho' hover
    obtain ⟨u, hu⟩ : ∃ u, u = m.judgeReport t r := ⟨_, rfl⟩
    rw [← hu] at hans hexec
    have huonly : u = { m with trs := u.trs, tls := u.tls, ceilings := u.ceilings } := by rw [hans.only]; rfl
    have huroute : u.route t = m.route t := by rw [huonly]; rfl
    have husec : ∀ n, u.sec? n = m.sec? n := fun n => by rw [huonly]; rfl
    have hrec := hans.record
    dsimp only at hrec
    rw [State.tr_standSaw] at hrec
    refine ⟨u, hexec, ?_, ?_, ?_, ?_, ?_, ?_, hans.auth, ?_, ?_, ?_, ?_, ?_, ?_⟩
    · rw [hrec, hfs.record]
    · rw [hrec, hfs.record]
    · rw [hrec, hfs.record]
    · rw [huroute, hfs.route]
    · rw [huroute, hfs.route]
    · rw [huroute, hfs.route]
    · rw [hrec]
      dsimp only
      split
      · exact .inl rfl
      · exact hmstate
    · intro hpk
      rw [hrec]
      dsimp only
      have hmpk : (m.tr t).state = .parked := by
        rcases hfs.state with h | ⟨-, h⟩
        · exact h.trans hpk
        · exact absurd h (by rw [show (s.tr t).state = .parked from hpk]; simp)
      rw [hmpk, ite_self]
    · intro hs
      have hms := hstay hs
      have hback : s1.tail t = s.tail t ∧ s1.settingRun t = s.settingRun t ∧ s1.pendingRun t = s.pendingRun t := ⟨rfl, rfl, rfl⟩
      have hdist : u.distanceToGo t = (m.standSaw t r).distanceToGo t := by
        refine State.distanceToGo_congr huroute ?_ (by rw [huonly]; rfl)
        rw [hans.record]
      have hseen : (m.standSaw t r).tail t = m.tail t ∧ (m.standSaw t r).settingRun t = m.settingRun t ∧
          (m.standSaw t r).pendingRun t = m.pendingRun t ∧ (m.standSaw t r).params = m.params := ⟨rfl, rfl, rfl, rfl⟩
      refine ⟨?_, ?_⟩
      · rw [huonly, hms]
        rfl
      · rw [hdist, hrec]
        dsimp only
        rw [hseen.1, hseen.2.1, hseen.2.2.1, hseen.2.2.2, hparams]
        generalize (m.standSaw t r).distanceToGo t = dist
        rw [hms, hback.1, hback.2.1, hback.2.2, hs1.1]
    · intro n
      rw [husec]
      rcases hfs.holds n with h | ⟨y, x, hy, hx, hrear, h⟩
      · exact .inl h
      · exact .inr ⟨y, x, hy, hx, by rw [hrear.1], hrear.2, h⟩
    · rw [huonly, hfs.only]
    · intro v hv
      obtain ⟨h1, h2, h3, h4, h5⟩ := hans.others v hv
      obtain ⟨k1, k2, k3, k4, k5⟩ := hfs.others v hv
      exact ⟨(h1.trans (m.tr_standSaw_ne t r hv)).trans k1, h2.trans k2, h3.trans k3, h4.trans k4, h5.trans k5⟩
  · intro r hoff htrip hheld hentry hrear
    exact reportAnswered_newEntry hq hrise htables hd hld hoff htrip ⟨hheld, hentry, hrear⟩

/-! ## Tripped (O39) -/

theorem State.judgeReport_back {m : State} {t : TId} {r : Report} {f : Entry} (hf : m.frontEntry t = some f)
    (hst : (m.tr t).state = .authorised) (hv : 0 < r.speed) (hdir : r.dir ≠ senseOf f.ent) :
    m.TripTaken (m.judgeReport t r) t .wrongDirection := by
  rw [State.judgeReport, if_pos ((State.runsBack_iff hf).mpr ⟨hst, hv, hdir⟩)]
  exact State.tripAny_upright (.inr (.inl hst)) _

theorem State.judgeReport_moved {m : State} {t : TId} {r : Report} {f : Entry} (hf : m.frontEntry t = some f)
    (hmoved : ((m.tr t).state = .parked ∨ (m.tr t).state = .transfer ∨ (m.tr t).state = .held ∧ (m.tr t).standSeen = true) ∧
        m.params.overspeedTol < r.speed ∨
      (m.tr t).state = .transfer ∧ ∃ x p, m.transfers[t] = some x ∧ m.pad? x.pad = some p ∧ p.sec ≠ r.sec) :
    m.judgeReport t r = m.tripAny t .unauthorisedMotion := by
  have hback : ¬ m.runsBack t r = true := fun h => by
    have hst := ((State.runsBack_iff hf).mp h).1
    rw [hst] at hmoved
    simp at hmoved
  have hmotion : m.standingMotion t r = true := by
    rw [← Bool.not_eq_false, State.standingMotion_eq_false_iff]
    rintro ⟨hstand, hpad⟩
    rcases hmoved with ⟨h, hv⟩ | ⟨h, x, p, hx, hp, hne⟩
    · exact absurd (hstand h) (Nat.not_le.mpr hv)
    · exact hne (hpad h x p hx hp)
  rw [State.judgeReport, if_neg hback, if_pos hmotion]

theorem State.judgeReport_overspeed {m : State} {t : TId} {r : Report} {f : Entry} (hf : m.frontEntry t = some f)
    (hp : m.Plausible t f r) (hecho : m.pendingRun t = [] ∨ r.echo ≠ (m.route t).authNum) (hover : m.Overspeeds t r) :
    m.TripTaken (m.judgeReport t r) t .overspeed := by
  have hst := hover.1
  rw [State.judgeReport_plausible hf hp, State.standSaw_same (by rw [hst]; exact nofun), State.echoStep_quiet hecho,
    if_pos (State.overspeeds_iff.mpr hover)]
  exact State.tripAny_upright (.inr (.inl hst)) _

/-- An AUTHORISED transporter that runs in its sense is plausible. -/
theorem State.plausible_authorised {m : State} {t : TId} {r : Report} {f : Entry} (hst : (m.tr t).state = .authorised)
    (hdir : r.dir = senseOf f.ent) : m.Plausible t f r :=
  ⟨fun _ _ => hdir, fun h => by rw [hst] at h; simp at h, fun h => absurd (hst.symm.trans h) nofun⟩

/-- Settles O39: a report that does not fit is an excursion; one that fits is judged in the state in which its front is
taken. -/
theorem reportTrips : Obligations.ReportTrips := by
  refine ⟨fun s t echo sec oh ol d vh vl ld rear f hq hd hld => ?_,
    fun s t echo sec oh ol d vh vl ld rear hq hrise htables hd hld => ?_⟩
  · intro c r state s1 hst
    have hup := TState.upright_ne hst
    refine ⟨fun hno => ?_, fun hheld hentry hrear hfront hat => ?_⟩
    · refine ⟨_, exec_report_unheld hq hd hld hup.1 hup.2.1 (State.reportHeld_eq_false ?_), State.tripAny_upright ?_ _⟩
      · exact hno.imp_right fun h => h.imp_right fun ⟨m, e, h⟩ => ⟨m, e, f, h⟩
      · rw [(s.reportReads_reload t).2.2.2]
        exact hst
    · have hexec := exec_report_fits hq hd hld hup.1 hup.2.1 (f := f) (echo := echo) (sec := sec) (oh := oh) (ol := ol)
        (vh := vh) (vl := vl) (rear := rear) ⟨hheld, hentry, fun m hm => absurd (hrear.symm.trans hm) nofun⟩
      change exec c s = .next ((s1.tookFront t f).judgeReport t r) at hexec
      have hs1front : (s1.route t).front = some f.index := hfront
      rw [State.tookFront, if_pos hs1front] at hexec
      have hfe : s1.frontEntry t = some f := by
        rw [State.frontEntry, hs1front]
        exact hat
      have hs1 : (s1.tr t).state = state ∧ (s1.tr t).standSeen = (s.tr t).standSeen := by
        rw [State.tr_noted]
        exact ⟨rfl, rfl⟩
      refine ⟨fun ha hv hdir => ⟨_, hexec, State.judgeReport_back hfe (hs1.1.trans ha) hv hdir⟩,
        fun hstand hv => ⟨_, hexec, ?_⟩, fun ha hdir hp he hend => ⟨_, hexec, ?_⟩,
        fun ha hdir hp he hv => ⟨_, hexec, ?_⟩⟩
      · rw [State.judgeReport_moved hfe (.inl ⟨by rw [hs1.1, hs1.2]; exact hstand.imp_right .inr, hv⟩)]
        exact State.tripAny_upright (by rw [hs1.1]; exact hst) _
      · have hs1a := hs1.1.trans ha
        rw [State.judgeReport_plausible hfe (State.plausible_authorised hs1a hdir),
          State.standSaw_same (by rw [hs1a]; exact nofun), State.echoStep_beyond (s := s1) hs1front hp he hend]
        exact State.tripAny_upright (.inr (.inl hs1a)) _
      · have hs1a := hs1.1.trans ha
        exact State.judgeReport_overspeed hfe (State.plausible_authorised hs1a hdir) (.inl hp) ⟨hs1a, he, hv⟩
  · intro c r hoff htrip htransfer
    refine ⟨fun hno => ?_, fun f hheld hentry hrear => ?_⟩
    · have hst := (s.reportReads_reload t).2.2.2
      exact ⟨_, exec_report_unheld hq hd hld hoff htrip (State.reportHeld_eq_false hno),
        State.tripAny_reportTrip (by rw [hst]; exact hoff) (by rw [hst]; exact htrip) rfl⟩
    · have hfits : s.ReportFits t r f := ⟨hheld, hentry, hrear⟩
      have hexec := exec_report_fits hq hd hld hoff htrip hfits
      dsimp only at hexec
      have hfs := s.tookFront_frontState t { r with off := min r.off (s.pathLen f) } f
      obtain ⟨hmem, -⟩ := State.mem_of_entryOf hentry
      have hfe := State.frontEntry_tookFront (s := s.noted t { r with off := min r.off (s.pathLen f) }) (hrise t).1 hmem
      refine ⟨_, State.tookFront_frontTaken (s := s.noted t { r with off := min r.off (s.pathLen f) }) htables.2.1 t f, ?_⟩
      generalize (s.noted t { r with off := min r.off (s.pathLen f) }).tookFront t f = m at *
      obtain ⟨hmoff, hmtrip⟩ := hfs.live hoff htrip
      have hparams : m.params = s.params := by rw [hfs.only]
      refine ⟨fun hst hv hdir => ⟨_, hexec, State.judgeReport_back hfe hst hv hdir⟩, fun hmoved => ⟨_, hexec, ?_⟩,
        fun hp hpend he hend => ⟨_, hexec, ?_⟩,
        fun hp hecho hover => ⟨_, hexec, State.judgeReport_overspeed hfe hp hecho hover⟩⟩
      · rw [State.judgeReport_moved hfe (by rw [hparams]; exact hmoved)]
        exact State.tripAny_reportTrip hmoff hmtrip rfl
      · have hstate : ((m.standSaw t r).tr t).state = (m.tr t).state := by rw [State.tr_standSaw]
        rw [State.judgeReport_plausible hfe hp, State.echoStep_beyond (s := m.standSaw t r) (f := f)
          (by have := congrArg RouteRecord.front hfs.route; exact this) hpend he hend]
        exact State.tripAny_reportTrip (by rw [hstate]; exact hmoff) (by rw [hstate]; exact hmtrip) rfl

end Sys2Proof.Machine

/-! PROOFS. The echo release (R81, R82; O40). -/

namespace Sys2Proof.Machine

/-! ## Holds and records after releases -/

section
variable {s u : State} {t : TId} {es : List Entry} {cause : ReleaseCause} {kept : Bool}

/-- What t holds after releases. -/
theorem State.RunReleased.holdBy (h : s.RunReleased u t es cause kept) (v : TId) (n : Nat) :
    u.holdBy v n = if n ∈ es.map (·.sec) then none else s.holdBy v n := by
  unfold State.holdBy
  rw [h.holds]
  by_cases hn : n ∈ es.map (·.sec)
  · simp only [if_pos hn]
    cases s.sec? n <;> rfl
  · simp only [if_neg hn]
    cases s.sec? n <;> rfl

theorem index_mem_of_rises {l es : List Entry} (h : (l.map (·.index)).Pairwise (· < ·)) (hes : es ⊆ l) {e : Entry} (he : e ∈ l) :
    e.index ∈ es.map (·.index) ↔ e ∈ es := by
  refine ⟨fun hi => ?_, fun h => List.mem_map_of_mem h⟩
  obtain ⟨f, hf, hfe⟩ := List.mem_map.mp hi
  have h1 := entry_find_of_rises h he
  have h2 := entry_find_of_rises h (hes hf)
  rw [hfe, h1] at h2
  rw [Option.some.inj h2]
  exact hf

theorem State.mem_run_sec {k : HoldKind} {n : Nat} : n ∈ (s.run t k).map (·.sec) ↔ s.holdBy t n = some k ∧ s.inRecord t n := by
  simp only [State.run, List.mem_map, List.mem_filter, decide_eq_true_eq]
  constructor
  · rintro ⟨e, ⟨he, hk⟩, rfl⟩
    exact ⟨hk, e, he, rfl⟩
  · rintro ⟨hk, e, he, rfl⟩
    exact ⟨e, ⟨he, hk⟩, rfl⟩

end

/-! ## The echo release (R81) -/

/-- What the echo release does once the run is released, in m. -/
structure State.EchoClosed (s m u : State) (t : TId) : Prop where
  only : u = { m with routes := u.routes, waiting := u.waiting }
  others : ∀ v, v ≠ t → u.route v = m.route v
  kept : (s.route t).keep = true → u.route t = { m.route t with keep := false } ∧
    u.waiting = if s.isWaiting t then s.waiting else s.waiting ++ [s.waitEntry t]
  cut : (s.route t).keep = false → u.waiting = s.waiting ∧ u.route t = { m.route t with
    keep := false, entries := (m.route t).entries.filter fun e => (m.holdBy t e.sec).isSome
    nextIdx := (u.route t).nextIdx, finalOff := ((m.route t).endPos.map (·.off)).getD 0 }

theorem State.echoRelease_closed (s : State) (t : TId) :
    s.EchoClosed (s.releaseAll t (s.pendingRun t) .echo (s.route t).keep) (s.echoRelease t) t := by
  have hrel := s.releaseAll_runReleased t .echo (s.route t).keep (s.pendingRun t)
  unfold State.echoRelease
  dsimp only
  generalize s.releaseAll t (s.pendingRun t) .echo (s.route t).keep = m at *
  have hmonly := hrel.only
  have hmwait : m.waiting = s.waiting := by rw [hmonly]
  have hmentry : (⟨t, m.waitLoad⟩ : Waiting) = s.waitEntry t := by
    rw [State.waitLoad, State.waitEntry, hmonly]
  have hmis : m.isWaiting t = s.isWaiting t := by rw [State.isWaiting, hmwait]; rfl
  cases hk : (s.route t).keep with
  | true =>
    rw [if_pos rfl]
    obtain ⟨j, hj⟩ : ∃ j, j = m.joinQueue t := ⟨_, rfl⟩
    have hjonly : j = { m with waiting := if s.isWaiting t then s.waiting else s.waiting ++ [s.waitEntry t] } := by
      rw [hj, State.joinQueue, hmis, hmwait, hmentry]
      split
      · rw [← hmwait]
      · rfl
    have hjroute : ∀ v, j.route v = m.route v := fun v => by rw [hjonly]; rfl
    rw [← hj]
    refine ⟨?_, fun v hv => ?_, fun _ => ⟨?_, ?_⟩, fun h => absurd (hk.symm.trans h) nofun⟩
    · rw [hjonly]
      rfl
    · rw [State.clearKeep, j.route_ne hv, hjroute]
    · rw [State.clearKeep, State.route_modRoute_self, hjroute]
    · rw [hjonly]
      rfl
  | false =>
    rw [if_neg Bool.false_ne_true]
    have htail := m.route_dropTail t
    obtain ⟨j, hj⟩ : ∃ j, j = m.dropTail t := ⟨_, rfl⟩
    have hjonly : j = { m with routes := j.routes } := by rw [hj]; rfl
    rw [← hj] at htail ⊢
    have hself := htail t
    rw [if_pos rfl] at hself
    have hend : ((j.finalToEnd t).clearKeep t).route t = { j.route t with
        finalOff := ((j.route t).endPos.map (·.off)).getD 0, keep := false } := by
      rw [State.route_endHere, if_pos rfl]
    refine ⟨?_, fun v hv => ?_, fun h => absurd (hk.symm.trans h) nofun, fun _ => ⟨?_, ?_⟩⟩
    · rw [hjonly]
      rfl
    · rw [State.route_endHere, if_neg hv, htail, if_neg hv]
    · exact (congrArg State.waiting hjonly).trans hmwait
    · rw [hend, hself]

theorem State.echoRelease_echoReleased {s : State} (hwf : Table.wf s.points = true) (t : TId) :
    s.EchoReleased (s.echoRelease t) t :=
  have h := s.echoRelease_closed t
  ⟨_, State.releaseAll_releasedAll _ hwf, h.only, h.others, h.kept, h.cut⟩

/-- An echo of the current number from within the authority. -/
theorem State.echoStep_within {s : State} {t : TId} {r : Report} {f : Entry} {p : RoutePos}
    (hfront : (s.route t).front = some f.index) (hp : s.pendingRun t ≠ []) (he : r.echo = (s.route t).authNum)
    (hend : (s.route t).endPos = some p) (hle : f.index ≤ p.idx) : s.echoStep t r =
      if (s.echoRelease t).overspeeds t r then (s.echoRelease t).tripAny t .overspeed
      else (s.echoRelease t).parkAndAnswer t r := by
  have hwithin : s.frontWithin t = true := by
    unfold State.frontWithin
    rw [hfront, hend]
    exact decide_eq_true hle
  have hpend : (!(s.pendingRun t).isEmpty && decide (r.echo = (s.route t).authNum)) = true := by
    rw [decide_eq_true he, List.isEmpty_eq_false_iff.mpr hp]
    rfl
  unfold State.echoStep State.runsOver State.echoes
  rw [hpend, hwithin]
  rfl

/-! ## Settlement -/

theorem echoRelease_newEntry {s : State} {t : TId} {echo sec oh ol d vh vl ld rear : Byte} {f : Entry}
    (hq : s.Quiet (.tl t)) (hrise : s.RoutesRise) (htables : s.TablesWf) (hd : d.toNat ≤ 1) (hld : ld.toNat ≤ 1)
    (hoff : (s.tr t).state ≠ .offline) (htrip : (s.tr t).state ≠ .tripped)
    (hfits : s.ReportFits t (sentReport echo sec oh ol d vh vl ld rear) f) :
    let r := sentReport echo sec oh ol d vh vl ld rear
    ∃ m, (s.noted t { r with off := min r.off (s.pathLen f) }).FrontTaken m t f ∧
      ∀ p, m.Plausible t f r → m.pendingRun t ≠ [] → r.echo = (m.route t).authNum → (m.route t).endPos = some p →
        f.index ≤ p.idx → ∃ u w, exec (.report t [echo, sec, oh, ol, d, vh, vl, ld, rear]) s = .next u ∧
          (m.standSaw t r).EchoReleased w t ∧ (w.Overspeeds t r → w.TripTaken u t .overspeed) ∧
          (¬ w.Overspeeds t r → w.Answered u t r) := by
  intro r
  obtain ⟨hmem, -⟩ := State.mem_of_entryOf hfits.entry
  have hexec := exec_report_fits hq hd hld hoff htrip hfits
  dsimp only at hexec
  have hfs := s.tookFront_frontState t { r with off := min r.off (s.pathLen f) } f
  have hfe := State.frontEntry_tookFront (s := s.noted t { r with off := min r.off (s.pathLen f) }) (hrise t).1 hmem
  have hground : ((s.noted t { r with off := min r.off (s.pathLen f) }).tookFront t f).ground =
      ((s.noted t { r with off := min r.off (s.pathLen f) }).frontAt t f).ground := (State.tookFront_loosened _ t f).ground
  have hwf : Table.wf ((s.noted t { r with off := min r.off (s.pathLen f) }).tookFront t f).points = true :=
    (State.points_wf_of_ground hground).trans htables.2.1
  refine ⟨_, State.tookFront_frontTaken (s := s.noted t { r with off := min r.off (s.pathLen f) }) htables.2.1 t f, ?_⟩
  clear hground
  generalize (s.noted t { r with off := min r.off (s.pathLen f) }).tookFront t f = m at *
  intro p hp hpend he hend hle
  have hfront : (m.route t).front = some f.index := congrArg RouteRecord.front hfs.route
  rw [State.judgeReport_plausible hfe hp, State.echoStep_within (s := m.standSaw t r) hfront hpend he hend hle] at hexec
  refine ⟨_, (m.standSaw t r).echoRelease t, hexec, State.echoRelease_echoReleased (s := m.standSaw t r) hwf t,
    fun hover => ?_, fun hover => ?_⟩
  · rw [if_pos (State.overspeeds_iff.mpr hover)]
    exact State.tripAny_upright (.inr (.inl hover.1)) _
  · rw [if_neg fun h => hover (State.overspeeds_iff.mp h)]
    exact State.parkAndAnswer_answered ..

/-- The entries that stay when the RELEASE_PENDING run is released and the record then cut to what is held. -/
theorem State.entries_echoCut {n m : State} {t : TId} (hrise : ((n.route t).entries.map (·.index)).Pairwise (· < ·))
    (hrel : n.RunReleased m t (n.pendingRun t) .echo false) :
    ((m.route t).entries.filter fun e => (m.holdBy t e.sec).isSome) = (n.route t).entries.filter fun e =>
      decide (n.holdBy t e.sec = some .granted ∨ n.holdBy t e.sec = some .setting) := by
  rw [hrel.route, if_neg Bool.false_ne_true, List.filter_filter]
  refine List.filter_congr fun e he => ?_
  have hidx := index_mem_of_rises (es := n.pendingRun t) hrise (fun x hx => (List.mem_filter.mp hx).1) he
  have hmem : e ∈ n.pendingRun t ↔ n.holdBy t e.sec = some .releasePending := by
    simp only [State.pendingRun, State.run, List.mem_filter, decide_eq_true_eq, he, true_and]
  have hsec : e.sec ∈ (n.pendingRun t).map (·.sec) ↔ n.holdBy t e.sec = some .releasePending :=
    State.mem_run_sec.trans (and_iff_left ⟨e, he, rfl⟩)
  rw [hrel.holdBy]
  simp only [hidx, hmem, hsec]
  cases hk : n.holdBy t e.sec with
  | none => simp
  | some k => cases k <;> simp

theorem sentReport_still (echo sec oh ol d ld rear : Byte) : (sentReport echo sec oh ol d 0 0 ld rear).speed = 0 := rfl

/-- Settles O40: the pending run is released where the front stands within the authority (echoStep_within), and kept as
tail or cut (echoRelease_closed). -/
theorem echoRelease : Obligations.EchoRelease := by
  refine ⟨fun s t sec oh ol d ld rear f p hq hrise hd hld hrear hst hheld hentry hfront hend hle hpend hnum => ?_,
    fun s t echo sec oh ol d vh vl ld rear f hq hrise htables hd hld => ?_⟩
  · obtain ⟨r, hr⟩ : ∃ r, r = sentReport (b8 (s.route t).authNum) sec oh ol d 0 0 ld rear := ⟨_, rfl⟩
    have hup := TState.upright_ne hst
    have hfits : s.ReportFits t r f := ⟨by rw [hr]; exact hheld, by rw [hr]; exact hentry, fun m hm => by
      rw [hr, hrear] at hm
      exact nomatch hm⟩
    have hspeed : r.speed = 0 := by rw [hr]; exact sentReport_still ..
    have hecho : r.echo = (s.route t).authNum := by
      rw [hr]
      exact (toNat_b8 _).trans (Nat.mod_eq_of_lt hnum)
    have hexec := exec_report_fits hq hd hld hup.1 hup.2.1 (hr ▸ hfits)
    dsimp only at hexec
    rw [← hr] at hexec
    obtain ⟨n, hn⟩ : ∃ n, n = s.noted t { r with off := min r.off (s.pathLen f) } := ⟨_, rfl⟩
    have hnonly : n = { s with trs := n.trs } := by rw [hn]; rfl
    have hnroute : ∀ v, n.route v = s.route v := fun v => by rw [hnonly]; rfl
    have hnhold : n.holdBy = s.holdBy := State.holdBy_congr (by rw [hnonly])
    have hntr : (n.tr t).state = (s.tr t).state := by rw [hn, State.tr_noted]
    have hnfront : (n.route t).front = some f.index := by rw [hnroute]; exact hfront
    have hfe : n.frontEntry t = some f := by
      rw [State.frontEntry, hnfront, Option.bind_some, State.entryAt, hnroute]
      exact entry_find_of_rises (hrise t).1 (State.mem_of_entryOf hentry).1
    rw [← hn, State.tookFront, if_pos hnfront] at hexec
    have hplausible : n.Plausible t f r := ⟨fun _ hv => absurd hv (by omega), fun _ => by omega,
      fun htr => absurd (hntr.symm.trans htr) hup.2.2⟩
    rw [State.judgeReport_plausible hfe hplausible] at hexec
    obtain ⟨g, hg⟩ : ∃ g, g = n.standSaw t r := ⟨_, rfl⟩
    have hgonly : g = { s with trs := g.trs } := by rw [hg, State.standSaw_only, hnonly]
    have hgroute : ∀ v, g.route v = s.route v := fun v => by rw [hgonly]; rfl
    have hghold : g.holdBy = s.holdBy := State.holdBy_congr (by rw [hgonly])
    have hgsec : ∀ k, g.sec? k = s.sec? k := fun k => by rw [hgonly]; rfl
    have hgpend : g.pendingRun t = s.pendingRun t := by
      simp only [State.pendingRun, State.run, hgroute, hghold]
    rw [← hg, State.echoStep_within (f := f) (p := p) (by rw [hgroute]; exact hfront) (by rw [hgpend]; exact hpend)
      (by rw [hgroute]; exact hecho) (by rw [hgroute]; exact hend) hle, if_neg fun h => by
        have := (State.overspeeds_iff.mp h).2.2
        omega] at hexec
    have hclosed := g.echoRelease_closed t
    have hrel := g.releaseAll_runReleased t .echo (g.route t).keep (g.pendingRun t)
    have hans := (g.echoRelease t).parkAndAnswer_answered t r
    generalize g.releaseAll t (g.pendingRun t) .echo (g.route t).keep = m at *
    generalize g.echoRelease t = w at *
    generalize w.parkAndAnswer t r = u at *
    have huonly := hans.only
    have hwonly := hclosed.only
    have hmonly := hrel.only
    have huroute : ∀ v, u.route v = w.route v := fun v => by rw [huonly]; rfl
    have husec : ∀ k, u.sec? k = m.sec? k := fun k => by rw [huonly, hwonly]; rfl
    have hmend : (m.route t).endPos = some p := by
      rw [hrel.route]
      exact (congrArg RouteRecord.endPos (hgroute t)).trans hend
    have hwait : u.waiting = w.waiting := by rw [huonly]
    have hgkeep : (g.route t).keep = (s.route t).keep := by rw [hgroute]
    have hgwait : g.waiting = s.waiting := by rw [hgonly]
    have hwroute : (w.route t).keep = false ∧ (w.route t).endPos = some p := by
      cases hk : (g.route t).keep with
      | true => rw [(hclosed.kept hk).1]; exact ⟨rfl, hmend⟩
      | false => rw [(hclosed.cut hk).2]; exact ⟨rfl, hmend⟩
    refine ⟨u, hexec, fun k => ?_, fun hk => ?_, fun hk => ?_, ?_, ?_, ?_, hans.auth, fun k e he hroom => ?_, fun v hv => ?_⟩
    · rw [husec, hrel.holds, hgsec, hgpend]
      simp only [State.pendingRun, State.mem_run_sec]
    · obtain ⟨hroute, hwaiting⟩ := hclosed.kept (hgkeep.trans hk)
      refine ⟨?_, ?_⟩
      · rw [huroute, hroute, hrel.route, hgkeep, hk, if_pos rfl, hgroute]
      · rw [State.isWaiting, hwait, hwaiting]
        split
        · next h => exact h
        · simp [State.waitEntry]
    · obtain ⟨hwaiting, hroute⟩ := hclosed.cut (hgkeep.trans hk)
      rw [hgkeep, hk] at hrel
      refine ⟨hwait.trans (hwaiting.trans hgwait), ?_, ?_⟩
      · rw [huroute, hroute, hmend]
        rfl
      · rw [huroute, hroute, State.entries_echoCut (by rw [hgroute]; exact (hrise t).1) hrel, hgroute, hghold]
    · rw [huroute]
      exact hwroute.1
    · rw [huroute]
      exact hwroute.2
    · have hdue : u.walkDue = m.walkDue := by rw [huonly, hwonly]
      rw [hdue, hmonly, hgpend, List.isEmpty_eq_false_iff.mpr hpend]
      exact Bool.or_true _
    · obtain ⟨bs, hbs, hlen, hmem⟩ := hrel.told
      have hspeaks : m.Speaks u := .of_opss (by rw [huonly, hwonly]) (by rw [huonly, hwonly])
      have hclock : g.clock = s.clock := by rw [hgonly]
      have hport : g.opsPort k = s.opsPort k := by rw [hgonly]; rfl
      rw [hgpend] at hlen hmem
      rw [← hclock]
      exact State.Told.mem (s := g) hbs hspeaks (hmem e he) (by rw [hport]; omega)
    · obtain ⟨a1, a2, a3, a4, a5⟩ := hans.others v hv
      obtain ⟨b1, b2, b3, b4, b5⟩ := hrel.others v hv
      have hgv : g.tr v = s.tr v := by rw [hg, State.tr_standSaw_ne _ _ _ hv, hn, State.tr_noted_ne _ hv]
      have hwv : w.tr v = m.tr v ∧ w.tl v = m.tl v ∧ w.ceilings[v] = m.ceilings[v] ∧ w.transfers[v] = m.transfers[v] := by
        rw [hwonly]
        exact ⟨rfl, rfl, rfl, rfl⟩
      refine ⟨a1.trans (hwv.1.trans (b1.trans hgv)), a2.trans ((hclosed.others v hv).trans (b2.trans (hgroute v))),
        a3.trans (hwv.2.1.trans (b3.trans ?_)), a4.trans (hwv.2.2.1.trans (b4.trans ?_)),
        a5.trans (hwv.2.2.2.trans (b5.trans ?_))⟩ <;> rw [hgonly]
      rfl
  · intro c r hoff htrip hheld hentry hrear
    exact echoRelease_newEntry hq hrise htables hd hld hoff htrip ⟨hheld, hentry, hrear⟩

end Sys2Proof.Machine

/-! PROOFS. The rear of a PARKED run released exactly (R69, R71), with its AUTH kept current. -/

namespace Sys2Proof.Machine

/-! ## What is left when a run's beginning goes -/

theorem filter_not_takeWhile {l : List Entry} (h : (l.map (·.index)).Pairwise (· < ·)) (p : Entry → Bool) :
    (l.filter fun e => decide (e.index ∉ (l.takeWhile p).map (·.index))) = l.dropWhile p := by
  induction l with
  | nil => rfl
  | cons e es ih =>
    rw [List.map_cons, List.pairwise_cons] at h
    by_cases hp : p e = true
    · have hne : ∀ x ∈ es, x.index ≠ e.index := fun x hx heq => by
        have := h.1 x.index (List.mem_map_of_mem hx)
        omega
      rw [List.takeWhile_cons_of_pos hp, List.dropWhile_cons_of_pos hp, List.filter_cons_of_neg (by simp), ← ih h.2]
      refine List.filter_congr fun x hx => ?_
      simp [hne x hx]
    · rw [List.takeWhile_cons_of_neg hp, List.dropWhile_cons_of_neg hp]
      simp

/-- A record's head goes by its index. -/
theorem filter_head {e : Entry} {es : List Entry} (h : ((e :: es).map (·.index)).Pairwise (· < ·)) :
    ((e :: es).filter fun x => decide (x.index ≠ e.index)) = es := by
  rw [List.map_cons, List.pairwise_cons] at h
  rw [List.filter_cons_of_neg (by simp), List.filter_eq_self]
  intro x hx
  have := h.1 x.index (List.mem_map_of_mem hx)
  exact decide_eq_true (by omega)

/-! ## AUTH current through releases of a PARKED transporter -/

theorem State.Evaluated.authCurrent_parked {s u : State} {t : TId} (h : s.Evaluated u [t]) (hst : (s.tr t).state = .parked)
    (hc : s.AuthCurrent t) : u.AuthCurrent t := by
  by_cases ha : s.evaluationAuth t
  · exact h.auth t (List.mem_singleton_self _) ha
  · obtain ⟨h1, h2⟩ := h.quiet t (List.mem_singleton_self _) ha
    have hstop : (s.tr t).stop = s.stopCauses t := by
      by_contra hne
      exact ha ⟨hne, .inr (.inr hst)⟩
    have hrec := h.record t (List.mem_singleton_self _)
    rw [Transporter.evaluated_of_parked hst, ← hstop] at hrec
    have hsame : s.SameForAuth u t := by
      refine ⟨hrec, ?_, fun n => ?_, ?_, ?_, ?_⟩ <;> rw [h.only] <;> rfl
    exact hsame.authCurrent hc h1 h2

theorem State.Freed.authCurrent {s m : State} {t : TId} {e : Entry} {cause : ReleaseCause} {kept : Bool}
    (h : s.Freed m t e cause kept) (hst : (s.tr t).state = .parked) (hend : (s.route t).endPos.map (·.idx) ≠ some e.index)
    (hc : s.AuthCurrent t) : m.AuthCurrent t := by
  have hmtr : m.tr t = s.tr t := by rw [h.only]; rfl
  have hmtl : m.tl t = s.tl t := by rw [h.only]; rfl
  have hceil : m.ceilings = s.ceilings := by rw [h.only]
  have hzero : s.ceilingNow t = 0 ∧ m.ceilingNow t = 0 := by
    unfold State.ceilingNow
    rw [hmtr, if_neg (by rw [hst]; exact nofun), if_neg (by rw [hst]; exact nofun)]
    exact ⟨rfl, rfl⟩
  have hat : ∀ p, (s.route t).endPos = some p → m.entryAt t p.idx = s.entryAt t p.idx := fun p hp => by
    rw [hp] at hend
    rw [State.entryAt, h.route]
    dsimp only
    split
    · rfl
    · rw [List.find?_filter]
      refine congrArg (List.find? · _) (funext fun x => ?_)
      by_cases hx : x.index = p.idx
      · have hne : p.idx ≠ e.index := fun heq => hend (congrArg some heq)
        simp [hx, hne]
      · simp [hx]
  have hnow : m.authNow t 0 = s.authNow t 0 := by
    unfold State.authNow
    rw [hmtr, h.route]
    dsimp only
    cases hp : (s.route t).endPos with
    | none => rfl
    | some p => simp only [Option.bind_some, hat p hp]
  refine ⟨?_, ?_⟩
  · rw [hmtl, hzero.2, hnow, ← hzero.1]
    exact hc.1
  · rw [hceil, hzero.2, ← hzero.1]
    exact hc.2

theorem State.release_authCurrent {s : State} {t : TId} {e : Entry} (hst : (s.tr t).state = .parked)
    (hend : (s.route t).endPos.map (·.idx) ≠ some e.index) (hc : s.AuthCurrent t) (cause : ReleaseCause) (kept : Bool) :
    (s.release t e cause kept).AuthCurrent t := by
  obtain ⟨m, hfreed, heval⟩ := s.release_freed t e cause kept
  have hmtr : m.tr t = s.tr t := by rw [hfreed.only]; rfl
  exact heval.authCurrent_parked (by rw [hmtr]; exact hst) (hfreed.authCurrent hst hend hc)

/-! ## The cascade of a PARKED transporter whose run is held, entered, and ends at its front -/

/-- t stands PARKED on a run held and entered, which ends at its front f. -/
structure State.ParkedRun (s : State) (t : TId) (f : Entry) : Prop where
  state : (s.tr t).state = .parked
  front : (s.route t).front = some f.index
  endPos : (s.route t).endPos.map (·.idx) = some f.index
  entry : f ∈ (s.route t).entries
  rises : ((s.route t).entries.map (·.index)).Pairwise (· < ·)
  nodup : ((s.route t).entries.map (·.sec)).Nodup
  held : ∀ e ∈ (s.route t).entries, ∃ x, s.sec? e.sec = some x ∧ x.hold = some ⟨t, .granted, true⟩

/-- The rear entries that such a run loses: those CLEAR before its front. -/
def State.clearRear (s : State) (t : TId) (f : Entry) : List Entry :=
  (s.route t).entries.takeWhile fun e => decide (e ≠ f ∧ s.detOf e.sec = .clear)

theorem State.detOf_release (s : State) (t : TId) (e : Entry) (cause : ReleaseCause) (kept : Bool) :
    (s.release t e cause kept).detOf = s.detOf := by
  obtain ⟨m, hfreed, heval⟩ := s.release_freed t e cause kept
  have hsec : ∀ n, (s.release t e cause kept).sec? n = m.sec? n := fun n => by rw [heval.only]; rfl
  funext n
  rw [State.detOf, hsec, hfreed.sections, Option.map_map]
  rfl

/-- The head of such a run released leaves such a run. -/
theorem State.ParkedRun.release {s : State} {t : TId} {f e : Entry} {es : List Entry} (h : s.ParkedRun t f)
    (hes : (s.route t).entries = e :: es) (hne : e ≠ f) :
    (s.release t e .rear false).ParkedRun t f ∧ ((s.release t e .rear false).route t).entries = es := by
  have hrises := h.rises
  have hnodup := h.nodup
  rw [hes] at hrises hnodup
  obtain ⟨m, hfreed, heval⟩ := s.release_freed t e .rear false
  have hroute : (s.release t e .rear false).route t = { s.route t with
      entries := es, nextIdx := ((s.release t e .rear false).route t).nextIdx } := by
    have hr : (s.release t e .rear false).route t = m.route t := by rw [heval.only]; rfl
    rw [hr, hfreed.route, if_neg Bool.false_ne_true, if_neg Bool.false_ne_true, hes, filter_head hrises]
  have hsec : ∀ n, (s.release t e .rear false).sec? n = m.sec? n := fun n => by rw [heval.only]; rfl
  have hmtr : m.tr t = s.tr t := by rw [hfreed.only]; rfl
  refine ⟨?_, by rw [hroute]⟩
  exact {
    state := by
      rw [heval.record t (List.mem_singleton_self _), hmtr, Transporter.evaluated_of_parked h.state]
      exact h.state
    front := by rw [hroute]; exact h.front
    endPos := by rw [hroute]; exact h.endPos
    entry := by
      rw [hroute]
      have hf := h.entry
      rw [hes] at hf
      exact (List.mem_cons.mp hf).resolve_left (Ne.symm hne)
    rises := by rw [hroute]; exact (List.pairwise_cons.mp hrises).2
    nodup := by rw [hroute]; exact (List.nodup_cons.mp hnodup).2
    held := fun g hg => by
      rw [hroute] at hg
      obtain ⟨x, hx, hh⟩ := h.held g (by rw [hes]; exact List.mem_cons_of_mem _ hg)
      have hgs : g.sec ≠ e.sec := fun heq => (List.nodup_cons.mp hnodup).1 (List.mem_map.mpr ⟨g, hg, heq⟩)
      refine ⟨x, ?_, hh⟩
      rw [hsec, hfreed.sections, hx, Option.map_some, if_neg hgs] }

theorem State.ParkedRun.index_ne {s : State} {t : TId} {f e : Entry} (h : s.ParkedRun t f) (he : e ∈ (s.route t).entries)
    (hne : e ≠ f) : e.index ≠ f.index := fun heq => by
  have h1 := entry_find_of_rises h.rises he
  rw [heq, entry_find_of_rises h.rises h.entry] at h1
  exact hne (Option.some.inj h1).symm

/-- The cascade of such a run releases the entries CLEAR before its front, and AUTH stays current. -/
theorem cascadeFrom_parkedRun {t : TId} {f : Entry} : ∀ (n : Nat) {s : State}, s.ParkedRun t f →
    (s.route t).entries.length ≤ n → cascadeFrom t n s = s.releaseAll t (s.clearRear t f) .rear false ∧
      (s.AuthCurrent t → (s.releaseAll t (s.clearRear t f) .rear false).AuthCurrent t)
  | 0, s, h, hn => absurd (List.length_pos_of_mem h.entry) (by omega)
  | n + 1, s, h, hn => by
    obtain ⟨e, es, hes⟩ := List.exists_cons_of_ne_nil (List.ne_nil_of_mem h.entry)
    have hmem : e ∈ (s.route t).entries := by rw [hes]; exact List.mem_cons_self
    by_cases hc : e ≠ f ∧ s.detOf e.sec = .clear
    · obtain ⟨x, hx, hh⟩ := h.held e hmem
      have hdet : x.det = .clear := by
        have := hc.2
        rw [State.detOf, hx] at this
        exact this
      have hidx := h.index_ne hmem hc.1
      have hpass : s.PassesRelease t e := ⟨by rw [hes]; rfl, ⟨x, hx, hh, hdet⟩, ⟨_, h.front, Ne.symm hidx⟩,
        by rw [h.endPos]; exact fun heq => hidx (Option.some.inj heq).symm, by rw [h.state]; exact nofun⟩
      obtain ⟨hrun, hrest⟩ := h.release hes hc.1
      rw [hes, List.length_cons] at hn
      obtain ⟨heq, hauth⟩ := cascadeFrom_parkedRun n hrun (by rw [hrest]; omega)
      have hrear : s.clearRear t f = e :: (s.release t e .rear false).clearRear t f := by
        unfold State.clearRear
        rw [hes, hrest, s.detOf_release]
        exact List.takeWhile_cons_of_pos (decide_eq_true hc)
      rw [cascadeFrom, State.releasable_eq_some.mpr hpass, hrear]
      refine ⟨heq, fun hcur => hauth (State.release_authCurrent h.state ?_ hcur _ _)⟩
      rw [h.endPos]
      exact fun heq => hidx (Option.some.inj heq).symm
    · have hrear : s.clearRear t f = [] := by
        rw [State.clearRear, hes, List.takeWhile_cons_of_neg (by simpa using hc)]
      have hno : s.releasable t = none := by
        rw [State.releasable_eq_none]
        rintro g ⟨hg, ⟨x, hx, -, hdet⟩, ⟨i, hi, hne⟩, -⟩
        rw [hes] at hg
        obtain rfl := Option.some.inj hg
        refine hc ⟨fun heq => ?_, by rw [State.detOf, hx]; exact hdet⟩
        rw [h.front] at hi
        exact hne (by rw [← Option.some.inj hi, heq])
      rw [cascadeFrom, hno, hrear]
      exact ⟨rfl, id⟩

theorem State.ParkedRun.cascade {s : State} {t : TId} {f : Entry} (h : s.ParkedRun t f) :
    s.cascade t = s.releaseAll t (s.clearRear t f) .rear false := (cascadeFrom_parkedRun _ h le_rfl).1

theorem State.ParkedRun.authCurrent {s : State} {t : TId} {f : Entry} (h : s.ParkedRun t f) (hc : s.AuthCurrent t) :
    (s.cascade t).AuthCurrent t := h.cascade ▸ (cascadeFrom_parkedRun _ h le_rfl).2 hc

end Sys2Proof.Machine

/-! PROOFS. Recovery (R118), and REPORT of a transporter out of service (O41). -/

namespace Sys2Proof.Machine

/-! ## The run regrouped (R118 steps 1 to 7) -/

/-- The held entries behind the kept run, ahead of it, and those of the kept run. -/
def State.behindRun (s : State) (t : TId) (f : Entry) (r : Report) : List Entry :=
  (s.heldRun t).filter fun e => decide (e.index < s.keptFrom t f.index r.rear)

def State.aheadRun (s : State) (t : TId) (f : Entry) : List Entry := (s.heldRun t).filter fun e => decide (f.index < e.index)

def State.keptRun (s : State) (t : TId) (f : Entry) (r : Report) : List Entry :=
  (s.heldRun t).filter fun e => decide (s.keptFrom t f.index r.rear ≤ e.index ∧ e.index ≤ f.index)

/-- The entries released with RECOVER. -/
def State.shedRun (s : State) (t : TId) (f : Entry) (r : Report) : List Entry := s.behindRun t f r ++ s.aheadRun t f

/-- Recovery up to the release test of the new rear. -/
def State.regrouped (s : State) (t : TId) (f : Entry) (r : Report) : State :=
  let s1 := s.releaseAll t (s.shedRun t f r) .recover false
  let s2 := (s.keptRun t f r).foldl (fun s e => s.setHold e.sec (some ⟨t, .granted, true⟩)) s1
  let p : RoutePos := ⟨f.index, s.travelled f r.off⟩
  let s3 := s2.modRoute t fun x =>
    { x with entries := s.keptRun t f r, endPos := some p, finalOff := p.off, keep := false }.followLast
  let s4 := (s3.modTr t fun x => { x with trips := .empty, awaitingFix := false }).bumpAuth t
  let s5 := (s4.modTr t fun x => { x with state := .parked }).evalStop t
  (s5.formAuth t).post (.resumed t (s5.route t).authNum .parked)

theorem State.recovered_eq (s : State) (t : TId) (f : Entry) (r : Report) :
    s.recovered t f r = (s.regrouped t f r).cascade t := by
  unfold State.recovered State.regrouped State.shedRun
  simp only [State.releaseAll, List.foldl_append]
  rfl

/-- Between s and c the kept run was regrouped. -/
structure State.Regrouped (s c : State) (t : TId) (f : Entry) (r : Report) : Prop where
  ground : c.ground = s.ground
  holds : ∀ n, c.sec? n = (s.sec? n).map fun x =>
    { x with hold := if n ∈ (s.keptRun t f r).map (·.sec) then some ⟨t, .granted, true⟩
        else if n ∈ (s.shedRun t f r).map (·.sec) then none else x.hold }
  locks : Table.wf s.points = true → ∀ p, c.point? p = (s.point? p).map fun x =>
    { x with lock := if (∃ e ∈ s.shedRun t f r, (s.pointOf e.sec).map (·.1) = some p) ∧ x.lock = some t
        then none else x.lock }
  route : c.route t = { s.route t with
    entries := s.keptRun t f r, endPos := some ⟨f.index, s.travelled f r.off⟩, finalOff := s.travelled f r.off, keep := false
    authNum := nextAuth (s.route t).authNum, nextIdx := (c.route t).nextIdx }
  record : c.tr t = { s.tr t with state := .parked, trips := .empty, awaitingFix := false, stop := c.stopCauses t }
  told : s.Told c ((s.shedRun t f r).map (fun e => .released t e.sec e.index .recover) ++
    [.resumed t (c.route t).authNum .parked])
  auth : c.AuthCurrent t
  port : s.OnlyAuth c t
  only : c = { s with
    sections := c.sections, points := c.points, trs := c.trs, routes := c.routes, tls := c.tls, ceilings := c.ceilings
    walkDue := s.walkDue || !(s.shedRun t f r).isEmpty, opss := c.opss }
  others : ∀ v, v ≠ t → s.SameTransporter c v

theorem State.regrouped_regrouped {s : State} {t : TId} (hst : (s.tr t).state = .tripped) (f : Entry) (r : Report) :
    s.Regrouped (s.regrouped t f r) t f r := by
  obtain ⟨s1, hs1⟩ : ∃ s1, s1 = s.releaseAll t (s.shedRun t f r) .recover false := ⟨_, rfl⟩
  obtain ⟨s2, hs2⟩ : ∃ s2, s2 = (s.keptRun t f r).foldl (fun s e => s.setHold e.sec (some ⟨t, .granted, true⟩)) s1 := ⟨_, rfl⟩
  obtain ⟨s3, hs3⟩ : ∃ s3, s3 = s2.modRoute t fun x =>
    { x with
      entries := s.keptRun t f r, endPos := some ⟨f.index, s.travelled f r.off⟩
      finalOff := s.travelled f r.off, keep := false }.followLast := ⟨_, rfl⟩
  obtain ⟨s4, hs4⟩ : ∃ s4, s4 = ((s3.modTr t fun x => { x with trips := .empty, awaitingFix := false }).bumpAuth t).modTr t
    fun x => { x with state := .parked } := ⟨_, rfl⟩
  obtain ⟨s5, hs5⟩ : ∃ s5, s5 = s4.evalStop t := ⟨_, rfl⟩
  obtain ⟨s6, hs6⟩ : ∃ s6, s6 = s5.formAuth t := ⟨_, rfl⟩
  obtain ⟨c, hc⟩ : ∃ c, c = s6.post (.resumed t (s5.route t).authNum .parked) := ⟨_, rfl⟩
  have heq : s.regrouped t f r = c := by
    rw [hc, hs6, hs5, hs4, hs3, hs2, hs1]
    rfl
  have hrel : s.RunReleased s1 t (s.shedRun t f r) .recover false := by
    rw [hs1]
    exact State.releaseAll_runReleased ..
  have hq : (s.tr t).state.quiet := .inr hst
  obtain ⟨h1tr, h1told⟩ := hrel.quiet hq
  obtain ⟨h2sec, h2only⟩ := s1.setHold_foldl (s.keptRun t f r) (some ⟨t, .granted, true⟩)
  rw [← hs2] at h2sec h2only
  have h3only : s3 = { s2 with routes := s3.routes } := by rw [hs3]; rfl
  have h4only : s4 = { s3 with trs := s4.trs, routes := s4.routes } := by rw [hs4]; rfl
  have heval : s4.Evaluated s5 [t] := hs5 ▸ s4.evalStop_evaluated t
  obtain ⟨hauth, h6only, h6port, h6others⟩ := s5.formAuth_spec t
  rw [← hs6] at hauth h6only h6port h6others
  have hconly : c = { s6 with opss := c.opss } := by rw [hc]; rfl
  have h4all : s4 = { s1 with sections := s2.sections, trs := s4.trs, routes := s4.routes } := by
    rw [h4only, h3only, h2only]
  have hcall : c = { s4 with trs := c.trs, tls := c.tls, ceilings := c.ceilings, opss := c.opss } := by
    rw [hconly, h6only, heval.only]
  have h3route : s3.route t = { s.route t with
      entries := s.keptRun t f r, endPos := some ⟨f.index, s.travelled f r.off⟩
      finalOff := s.travelled f r.off, keep := false, nextIdx := (s3.route t).nextIdx } := by
    have h2 : s2.route t = s1.route t := by rw [h2only]; rfl
    rw [hs3, State.route_modRoute_self, h2, hrel.route]
    exact RouteRecord.followLast_eq _
  have h4route : s4.route t = { s3.route t with authNum := nextAuth (s3.route t).authNum } := by
    have h : s4.route t = (s3.bumpAuth t).route t := by rw [hs4]; rfl
    rw [h]
    exact State.route_modRoute_self ..
  have h4tr : s4.tr t = { s.tr t with state := .parked, trips := .empty, awaitingFix := false, stop := (s4.tr t).stop } := by
    have h3 : s3.tr t = s1.tr t := by rw [h3only, h2only]; rfl
    have hb : ((s3.modTr t fun x => { x with trips := .empty, awaitingFix := false }).bumpAuth t).tr t =
        (s3.modTr t fun x => { x with trips := .empty, awaitingFix := false }).tr t := rfl
    rw [hs4, State.tr_modTr_self, hb, State.tr_modTr_self, h3, h1tr]
  have hcroute : c.route t = s4.route t := by rw [hcall]; rfl
  have hcsec : ∀ n, c.sec? n = s2.sec? n := fun n => by rw [hcall, h4all]; rfl
  have hcpoint : ∀ p, c.point? p = s1.point? p := fun p => by rw [hcall, h4all]; rfl
  have hctl : ∀ v, c.tl v = s6.tl v := fun v => by rw [hconly]; rfl
  have h4tl : ∀ v, s4.tl v = s1.tl v := fun v => by rw [h4all]; rfl
  have hcauses : c.stopCauses = s4.stopCauses := by
    rw [hcall]
    exact State.stopCauses_eq rfl rfl rfl rfl rfl
  have h4st : (s4.tr t).state = .parked := by rw [h4tr]
  rw [heq]
  exact {
    ground := by
      have h2 : s2.ground = s1.ground := by
        rw [hs2]
        exact foldl_keeps State.ground _ (fun _ _ => State.setHold_ground ..) _ _
      rw [hc, hs6, hs5, hs4, hs3, ← hrel.ground, ← h2]
      simp
    holds := fun n => by
      rw [hcsec, h2sec, hrel.holds, Option.map_map]
      rfl
    locks := fun hwf p => by rw [hcpoint, hrel.locks hwf]
    route := by
      rw [hcroute, h4route, h3route]
    record := by
      have h : c.tr t = s5.tr t := by rw [hconly, h6only]; rfl
      rw [h, heval.record t (List.mem_singleton_self _), Transporter.evaluated_of_parked h4st, hcauses, h4tr]
    told := by
      have hnone := heval.notices
      rw [List.flatMap_singleton, State.evaluationNotice_parked h4st] at hnone
      have h5 : s5.opss = s1.opss := by rw [State.Told.opss_nil hnone, h4all]
      have h6 : s6.opss = s1.opss := by rw [← h5, h6only]
      have h6told : s.Told s6 ((s.shedRun t f r).map (fun e => .released t e.sec e.index .recover)) := fun k => by
        rw [State.opsPort, h6]
        exact h1told k
      have hnum : (s5.route t).authNum = (c.route t).authNum := by rw [hconly, h6only]; rfl
      rw [← hnum, hc]
      refine State.Told.trans (s := s) h6told ?_ (State.told_post _ _)
      rw [h6only, heval.only, h4all, hrel.only]
    auth := by
      have hsame : s6.SameForAuth c t := by
        rw [hconly]
        exact ⟨rfl, rfl, fun _ => rfl, rfl, rfl, rfl⟩
      exact hsame.authCurrent hauth (by rw [hctl]) (by rw [hconly])
    port := by
      have h1 : s1.tl t = { s.tl t with auth := (s1.tl t).auth } := hrel.port
      have h2 : s5.tl t = { s4.tl t with auth := (s5.tl t).auth } := heval.port t
      have h3 : s6.tl t = { s5.tl t with auth := (s6.tl t).auth } := h6port
      rw [State.OnlyAuth, hctl]
      rw [h2, h4tl, h1] at h3
      exact h3
    only := by
      have hdue : s1.walkDue = (s.walkDue || !(s.shedRun t f r).isEmpty) := by rw [hrel.only]
      rw [← hdue, hcall, h4all, hrel.only]
    others := fun v hv => by
      obtain ⟨a1, a2, a3, a4, a5⟩ := h6others v hv
      obtain ⟨b1, b2, b3, b4, b5⟩ := heval.others v (by rw [List.mem_singleton]; exact hv)
      obtain ⟨d1, d2, d3, d4, d5⟩ := hrel.others v hv
      have e1 : s4.tr v = s1.tr v := by
        have h : s4.tr v = s3.tr v := by
          rw [hs4, State.tr_ne _ hv]
          exact s3.tr_ne hv _
        rw [h, h3only, h2only]
        rfl
      have e2 : s4.route v = s1.route v := by
        have h : s4.route v = (s3.bumpAuth t).route v := by rw [hs4]; rfl
        rw [h, State.bumpAuth, s3.route_ne hv, hs3, s2.route_ne hv, h2only]
        rfl
      have e4 : s4.ceilings = s1.ceilings ∧ s4.transfers = s1.transfers := by
        rw [h4all]
        exact ⟨rfl, rfl⟩
      have ec : c.tr v = s6.tr v ∧ c.route v = s6.route v ∧ c.ceilings = s6.ceilings ∧ c.transfers = s6.transfers := by
        rw [hconly]
        exact ⟨rfl, rfl, rfl, rfl⟩
      refine ⟨ec.1.trans (a1.trans (b1.trans (e1.trans d1))), ec.2.1.trans (a2.trans (b2.trans (e2.trans d2))),
        (hctl v).trans (a3.trans (b3.trans ((h4tl v).trans d3))), ?_, ?_⟩
      · rw [ec.2.2.1, a4, b4, e4.1, d4]
      · rw [ec.2.2.2, a5, b5, e4.2, d5] }

/-! ## The runs of a recovery -/

theorem State.keptFrom_le (s : State) (t : TId) (i : Nat) (rear : Option Nat) : s.keptFrom t i rear ≤ i := by
  unfold State.keptFrom
  dsimp only
  refine (Nat.sub_le ..).trans ?_
  cases (rear.bind fun m => (s.heldRun t).find? fun e => decide (e.sec = m)) with
  | none => exact le_rfl
  | some e => exact min_le_right ..

theorem State.heldRun_sublist (s : State) (t : TId) : (s.heldRun t).Sublist (s.route t).entries := List.filter_sublist

section
variable {s : State} {t : TId} {f : Entry} {r : Report}

/-- A held entry is shed or kept. -/
theorem State.mem_heldRun_iff {e : Entry} : e ∈ s.heldRun t ↔ e ∈ s.shedRun t f r ∨ e ∈ s.keptRun t f r := by
  simp only [State.shedRun, State.behindRun, State.aheadRun, State.keptRun, List.mem_append, List.mem_filter, decide_eq_true_eq,
    ← and_or_left]
  refine (and_iff_left ?_).symm
  omega

theorem State.not_shed_of_kept {e : Entry} (h : e ∈ s.keptRun t f r) : e ∉ s.shedRun t f r := by
  have hk := of_decide_eq_true (List.mem_filter.mp h).2
  simp only [State.shedRun, State.behindRun, State.aheadRun, List.mem_append, List.mem_filter, decide_eq_true_eq]
  rintro (⟨-, h⟩ | ⟨-, h⟩) <;> omega

theorem State.mem_keptRun_self (hf : f ∈ s.heldRun t) : f ∈ s.keptRun t f r :=
  List.mem_filter.mpr ⟨hf, decide_eq_true ⟨s.keptFrom_le t f.index r.rear, le_rfl⟩⟩

theorem State.keptRun_sublist : (s.keptRun t f r).Sublist (s.route t).entries := List.filter_sublist.trans (s.heldRun_sublist t)

/-- A section of the kept run is none of a shed entry. -/
theorem State.shed_sec_of_kept (hnodup : ((s.route t).entries.map (·.sec)).Nodup) {n : Nat}
    (h : n ∈ (s.keptRun t f r).map (·.sec)) : n ∉ (s.shedRun t f r).map (·.sec) := by
  obtain ⟨e, he, rfl⟩ := List.mem_map.mp h
  intro hx
  obtain ⟨g, hg, hge⟩ := List.mem_map.mp hx
  have hsub := s.heldRun_sublist t
  have heq : g = e := List.inj_on_of_nodup_map hnodup (hsub.subset (State.mem_heldRun_iff.mpr (.inl hg)))
    (hsub.subset (State.mem_heldRun_iff.mpr (.inr he))) hge
  exact State.not_shed_of_kept he (heq ▸ hg)

theorem State.sec_of_heldRun {e : Entry} (he : e ∈ s.heldRun t) : ∃ x, s.sec? e.sec = some x := by
  have h := (List.mem_filter.mp he).2
  obtain ⟨k, hk⟩ := Option.isSome_iff_exists.mp h
  obtain ⟨x, -, hx, -⟩ := State.holdBy_eq_some.mp hk
  exact ⟨x, hx⟩

/-- Regrouped, t stands on a run held and entered that ends at its front. -/
theorem State.Regrouped.parkedRun {c : State} (h : s.Regrouped c t f r) (hfront : (s.route t).front = some f.index)
    (hrises : ((s.route t).entries.map (·.index)).Pairwise (· < ·)) (hnodup : ((s.route t).entries.map (·.sec)).Nodup)
    (hf : f ∈ s.heldRun t) : c.ParkedRun t f where
  state := by rw [h.record]
  front := by rw [h.route]; exact hfront
  endPos := by rw [h.route]; rfl
  entry := by rw [h.route]; exact State.mem_keptRun_self hf
  rises := by rw [h.route]; exact hrises.sublist (State.keptRun_sublist.map _)
  nodup := by rw [h.route]; exact hnodup.sublist (State.keptRun_sublist.map _)
  held e he := by
    rw [h.route] at he
    obtain ⟨x, hx⟩ := State.sec_of_heldRun (State.mem_heldRun_iff.mpr (.inr he))
    refine ⟨_, by rw [h.holds, hx]; rfl, if_pos (List.mem_map_of_mem he)⟩

theorem State.Regrouped.detOf {c : State} (h : s.Regrouped c t f r) : c.detOf = s.detOf := by
  funext n
  rw [State.detOf, h.holds, Option.map_map]
  rfl

end

/-- A state that differs from a in t's last report and front alone. -/
structure State.Reported (a b : State) (t : TId) (r : Report) (f : Entry) : Prop where
  only : b = { a with trs := b.trs, routes := b.routes }
  record : b.tr t = { a.tr t with last := some { r with off := min r.off (a.pathLen f) } }
  route : b.route t = { a.route t with front := some f.index }
  others : ∀ v, v ≠ t → b.tr v = a.tr v ∧ b.route v = a.route v

theorem State.reported_recovered {a b : State} {t : TId} {f : Entry} {r : Report} (hb : a.Reported b t r f)
    (hst : (a.tr t).state = .tripped) (hrises : ((a.route t).entries.map (·.index)).Pairwise (· < ·))
    (hnodup : ((a.route t).entries.map (·.sec)).Nodup) (hf : f ∈ a.heldRun t) :
    a.Recovered (b.recovered t f r) t f r := by
  have hbonly := hb.only
  have hbroute := hb.route
  have hbsec : ∀ n, b.sec? n = a.sec? n := fun n => by rw [hbonly]; rfl
  have hbpoint : ∀ n, b.point? n = a.point? n := fun n => by rw [hbonly]; rfl
  have hbpointOf : ∀ n, b.pointOf n = a.pointOf n := fun n => by rw [hbonly]; rfl
  have hbheld : b.heldRun t = a.heldRun t := by
    have hhold : b.holdBy = a.holdBy := State.holdBy_congr (by rw [hbonly])
    simp only [State.heldRun, hbroute, hhold]
  have hbdet : b.detOf = a.detOf := by
    funext n
    simp only [State.detOf, hbsec]
  have hbkept : b.keptFrom t f.index r.rear = a.keptFrom t f.index r.rear := by
    simp only [State.keptFrom, hbheld, hbdet]
  have hbtrav : b.travelled f r.off = a.travelled f r.off := by
    simp only [State.travelled, State.pathLen, hbsec]
  have hbrun : b.keptRun t f r = a.keptRun t f r := by simp only [State.keptRun, hbheld, hbkept]
  have hbshed : b.shedRun t f r = a.shedRun t f r := by
    simp only [State.shedRun, State.behindRun, State.aheadRun, hbheld, hbkept]
  have hbtl : ∀ v, b.tl v = a.tl v := fun v => by rw [hbonly]; rfl
  have hreg := State.regrouped_regrouped (s := b) (t := t) (by rw [hb.record]; exact hst) f r
  rw [State.recovered_eq]
  generalize b.regrouped t f r = c at hreg
  have hrun : c.ParkedRun t f := hreg.parkedRun (by rw [hbroute]) (by rw [hbroute]; exact hrises)
    (by rw [hbroute]; exact hnodup) (by rw [hbheld]; exact hf)
  have hauth := hrun.authCurrent hreg.auth
  have hcroute := hreg.route
  rw [hbrun, hbtrav, hbroute] at hcroute
  have hclear : c.clearRear t f = (a.keptRun t f r).takeWhile fun e => decide (e ≠ f ∧ a.detOf e.sec = .clear) := by
    have hcentries : (c.route t).entries = a.keptRun t f r := by rw [hcroute]
    simp only [State.clearRear, hcentries, hreg.detOf, hbdet]
  have hrel := c.releaseAll_runReleased t .rear false (c.clearRear t f)
  have hcurrent := State.releaseAll_current (cause := .rear) (kept := false) (c.clearRear t f) (s := c) (t := t)
    (by rw [hreg.record]; exact nofun) (by rw [hreg.record])
  rw [hrun.cascade] at hauth ⊢
  generalize c.releaseAll t (c.clearRear t f) .rear false = u at *
  generalize c.clearRear t f = C at *
  obtain ⟨E, hE⟩ : ∃ E, E = (a.keptRun t f r).dropWhile fun e => decide (e ≠ f ∧ a.detOf e.sec = .clear) := ⟨_, rfl⟩
  have hK : a.keptRun t f r = C ++ E := by rw [hclear, hE, List.takeWhile_append_dropWhile]
  have huroute : u.route t = { c.route t with entries := E, nextIdx := (u.route t).nextIdx } := by
    have h := hrel.route
    rw [if_neg Bool.false_ne_true] at h
    have hfil := filter_not_takeWhile (hrises.sublist ((State.keptRun_sublist (s := a) (t := t) (f := f) (r := r)).map _))
      fun e => decide (e ≠ f ∧ a.detOf e.sec = .clear)
    rw [← hclear, ← hE] at hfil
    have hentries : (c.route t).entries = a.keptRun t f r := by rw [hcroute]
    rw [hentries, hfil] at h
    exact h
  have hentries : (u.route t).entries = E := by rw [huroute]
  have hmemK : ∀ n, n ∈ (a.keptRun t f r).map (·.sec) ↔ n ∈ C.map (·.sec) ∨ n ∈ E.map (·.sec) := fun n => by
    rw [hK, List.map_append, List.mem_append]
  have hnodupK : ((a.keptRun t f r).map (·.sec)).Nodup := hnodup.sublist (State.keptRun_sublist.map _)
  have hdisj : ∀ n, n ∈ E.map (·.sec) → n ∉ C.map (·.sec) := fun n hn hc => by
    rw [hK, List.map_append] at hnodupK
    exact (List.nodup_append.mp hnodupK).2.2 n hc n hn rfl
  have hshedK : ∀ n, n ∈ (a.keptRun t f r).map (·.sec) → n ∉ (a.shedRun t f r).map (·.sec) := fun n =>
    State.shed_sec_of_kept hnodup
  have hheld : ∀ n, n ∈ (a.heldRun t).map (·.sec) ↔ n ∈ (a.shedRun t f r).map (·.sec) ∨ n ∈ (a.keptRun t f r).map (·.sec) := fun n => by
    constructor
    · rintro h
      obtain ⟨e, he, rfl⟩ := List.mem_map.mp h
      exact (State.mem_heldRun_iff.mp he).imp (fun h => List.mem_map_of_mem h) fun h => List.mem_map_of_mem h
    · rintro (h | h) <;> obtain ⟨e, he, rfl⟩ := List.mem_map.mp h
      · exact List.mem_map_of_mem (State.mem_heldRun_iff.mpr (.inl he))
      · exact List.mem_map_of_mem (State.mem_heldRun_iff.mpr (.inr he))
  have hgone : ∀ e, (e ∈ a.heldRun t ∧ e ∉ E) ↔ e ∈ a.shedRun t f r ∨ e ∈ C := fun e => by
    rw [State.mem_heldRun_iff (f := f) (r := r), hK, List.mem_append]
    constructor
    · rintro ⟨h | h | h, hne⟩
      · exact .inl h
      · exact .inr h
      · exact absurd h hne
    · rintro (h | h)
      · refine ⟨.inl h, fun he => ?_⟩
        exact State.not_shed_of_kept (by rw [hK]; exact List.mem_append_right _ he) h
      · exact ⟨.inr (.inl h), fun he => hdisj e.sec (List.mem_map_of_mem he) (List.mem_map_of_mem h)⟩
  have hholds : ∀ n, u.sec? n = (a.sec? n).map fun x =>
      { x with hold :=
          if n ∈ E.map (·.sec) then some ⟨t, .granted, true⟩
          else if n ∈ (a.heldRun t).map (·.sec) then none else x.hold } := fun n => by
    rw [hrel.holds, hreg.holds, hbsec, Option.map_map, hbrun, hbshed]
    refine Option.map_congr fun x _ => ?_
    simp only [Function.comp_apply, hmemK, hheld]
    by_cases hE' : n ∈ E.map (·.sec)
    · simp only [hE', hdisj n hE', if_true, if_false, or_true]
    · by_cases hC' : n ∈ C.map (·.sec)
      · simp only [hE', hC', if_true, if_false, true_or, or_true]
      · by_cases hX : n ∈ (a.shedRun t f r).map (·.sec)
        · simp only [hE', hC', hX, if_true, if_false, or_self, or_false]
        · simp only [hE', hC', hX, if_false, or_self]
  obtain ⟨hutr, hutold⟩ := hrel.quiet (.inl hrun.state)
  have hnumber : (u.route t).authNum = (c.route t).authNum := by rw [huroute]
  exact {
    record := by
      rw [hutr, hcurrent.2, hreg.record, hb.record]
    front := by
      rw [hentries, huroute, hcroute]
      refine ⟨rfl, ?_⟩
      have hmem := State.mem_keptRun_self (r := r) hf
      rw [hK] at hmem
      refine (List.mem_append.mp hmem).resolve_left fun hc => ?_
      rw [hclear] at hc
      simpa using List.mem_takeWhile_imp hc
    endPos := by rw [huroute, hcroute]
    final := by rw [huroute, hcroute]
    number := by rw [huroute, hcroute]
    keep := by rw [huroute, hcroute]
    entries := by rw [hentries, hE]; rfl
    kept := fun e he => by
      rw [hentries] at he
      obtain ⟨x, hx⟩ := State.sec_of_heldRun (State.mem_heldRun_iff.mpr (.inr (show e ∈ a.keptRun t f r by
        rw [hK]; exact List.mem_append_right _ he)))
      rw [hholds, hx, Option.map_some, if_pos (List.mem_map_of_mem he)]
      rfl
    released := fun e he hno => by
      rw [hentries] at hno
      cases hx : a.sec? e.sec with
      | none => simp only [State.holdBy, hholds, hx, Option.map_none]
      | some x =>
        by_cases hh : e ∈ a.heldRun t
        · simp only [State.holdBy, hholds, hx, Option.map_some, if_neg hno, if_pos (List.mem_map_of_mem hh)]
        · have hnone : a.holdBy t e.sec = none := by
            by_contra hne
            exact hh (List.mem_filter.mpr ⟨he, Option.isSome_iff_ne_none.mpr hne⟩)
          have hsec : e.sec ∉ (a.heldRun t).map (·.sec) := fun hm => by
            obtain ⟨g, hg, hge⟩ := List.mem_map.mp hm
            exact hh (List.inj_on_of_nodup_map hnodup ((a.heldRun_sublist t).subset hg) he hge ▸ hg)
          rw [← hnone]
          simp only [State.holdBy, hholds, hx, Option.map_some, if_neg hno, if_neg hsec]
    holds := fun n => by
      rw [hentries]
      exact hholds n
    locks := fun htables p => by
      have hbwf : Table.wf b.points = true := by rw [hbonly]; exact htables.2.1
      have hcwf : Table.wf c.points = true := (State.points_wf_of_ground hreg.ground).trans hbwf
      rw [hrel.locks hcwf, hreg.locks hbwf, hbpoint, Option.map_map, hentries]
      refine Option.map_congr fun x _ => ?_
      simp only [State.pointOf_of_ground hreg.ground, hbpointOf, hbshed, Function.comp_apply]
      have hfreed : (∃ e ∈ a.heldRun t, e ∉ E ∧ (a.pointOf e.sec).map (·.1) = some p) ↔
          (∃ e ∈ a.shedRun t f r, (a.pointOf e.sec).map (·.1) = some p) ∨ ∃ e ∈ C, (a.pointOf e.sec).map (·.1) = some p := by
        simp only [← and_assoc, hgone, or_and_right, exists_or]
      simp only [hfreed]
      by_cases hl : x.lock = some t
      · by_cases h1 : ∃ e ∈ a.shedRun t f r, (a.pointOf e.sec).map (·.1) = some p
        · simp only [h1, hl, and_true, true_or, if_true, reduceCtorEq, and_false, if_false]
        · simp only [h1, hl, if_false, and_true, true_and, false_or]
      · simp only [hl, and_false, if_false, false_and]
    told := by
      have h := State.Told.trans (s := b) hreg.told (by rw [hreg.only]) hutold
      have hclock : b.clock = a.clock := by rw [hbonly]
      have hport : ∀ k, b.opsPort k = a.opsPort k := fun k => by rw [hbonly]; rfl
      intro lo behind ahead clear k
      have hk := h k
      rw [hclock, hport, hbshed] at hk
      rw [hnumber, hk, hclear]
      rfl
    walk := by
      have hdue : u.walkDue = (a.walkDue || !(a.shedRun t f r).isEmpty || !C.isEmpty) := by
        rw [hrel.only, hreg.only, hbshed, hbonly]
      rw [hdue, Bool.or_assoc, hentries]
      congr 1
      rw [Bool.eq_iff_iff, decide_eq_true_iff, Bool.or_eq_true, Bool.not_eq_true', Bool.not_eq_true',
        List.isEmpty_eq_false_iff_exists_mem, List.isEmpty_eq_false_iff_exists_mem, ← exists_or]
      exact exists_congr fun e => (hgone e).symm
    auth := hauth
    port := by
      have h1 : u.tl t = { c.tl t with auth := (u.tl t).auth } := hrel.port
      have h2 : c.tl t = { b.tl t with auth := (c.tl t).auth } := hreg.port
      rw [h2, hbtl] at h1
      exact h1
    detection := fun n => by
      rw [hholds, Option.map_map]
      rfl
    only := by rw [hrel.only, hreg.only, hbonly]
    others := fun v hv => by
      obtain ⟨a1, a2, a3, a4, a5⟩ := hrel.others v hv
      obtain ⟨b1, b2, b3, b4, b5⟩ := hreg.others v hv
      obtain ⟨e1, e2⟩ := hb.others v hv
      exact ⟨a1.trans (b1.trans e1), a2.trans (b2.trans e2), a3.trans (b3.trans (hbtl v)),
        a4.trans (b4.trans (by rw [hbonly])), a5.trans (b5.trans (by rw [hbonly]))⟩ }

/-! ## A report noted in TRIPPED (R113) -/

section
variable {s : State} {t : TId} {r : Report}

theorem State.noteReport_held (hlive : (s.tr t).state ≠ .offline) {f : Entry} (hn : s.holdsFirm t r.sec)
    (hf : s.entryOf t r.sec = some f) : (s.reloadSupervision t).noteReport t r =
      (s.noted t { r with off := min r.off (s.pathLen f) }).frontAt t f := by
  obtain ⟨hhold, hroute, hlen, -⟩ := s.reportReads_reload t
  have hfirm : (s.reloadSupervision t).heldFirm t r.sec = true := State.heldFirm_iff.mpr (by rw [State.holdsFirm, hhold]; exact hn)
  rw [State.noteReport, if_pos hfirm, State.takeReport_reload hlive hf]
  exact State.setFront_held hn hf

theorem State.noteReport_loose (hlive : (s.tr t).state ≠ .offline) (hn : ¬ s.holdsFirm t r.sec) :
    (s.reloadSupervision t).noteReport t r = s.noted t r := by
  obtain ⟨hhold, -, -, -⟩ := s.reportReads_reload t
  have hfirm : ¬ (s.reloadSupervision t).heldFirm t r.sec = true := fun h => hn (by
    have h := State.heldFirm_iff.mp h
    rw [State.holdsFirm, hhold] at h
    exact h)
  rw [State.noteReport, if_neg hfirm, State.reloadSupervision_live hlive, State.modTr_modTr]
  rfl

/-- A report noted, whatever its front. -/
structure State.ReportNoted (s n : State) (t : TId) (r : Report) : Prop where
  only : n = { s with trs := n.trs, routes := n.routes }
  record : n.tr t = { s.tr t with superv := some (.load (s.tr t).supervision), last := (n.tr t).last }
  last : (n.tr t).last.map (·.sec) = some r.sec
  others : ∀ v, v ≠ t → n.tr v = s.tr v ∧ n.route v = s.route v
  held : ∀ f, s.holdsFirm t r.sec → s.entryOf t r.sec = some f →
    (n.tr t).last = some { r with off := min r.off (s.pathLen f) } ∧ n.route t = { s.route t with front := some f.index }
  loose : ¬ s.holdsFirm t r.sec → (n.tr t).last = some r ∧ n.route t = s.route t

theorem State.noted_reportNoted {q : Report} (hq : q.sec = r.sec) {n : State}
    (hn : n = s.noted t q ∨ ∃ f, n = (s.noted t q).frontAt t f)
    (hheld : ∀ f, s.holdsFirm t r.sec → s.entryOf t r.sec = some f →
      q = { r with off := min r.off (s.pathLen f) } ∧ n = (s.noted t q).frontAt t f)
    (hloose : ¬ s.holdsFirm t r.sec → q = r ∧ n = s.noted t q) : s.ReportNoted n t r := by
  have htr : ∀ v, n.tr v = (s.noted t q).tr v := fun v => by
    rcases hn with h | ⟨f, h⟩ <;> rw [h]
    rfl
  have hroutes : ∀ v, v ≠ t → n.route v = s.route v := fun v hv => by
    rcases hn with h | ⟨f, h⟩ <;> rw [h]
    · rfl
    · exact s.route_ne hv fun x => { x with front := some f.index }
  have hself := htr t
  rw [State.tr_noted] at hself
  refine ⟨?_, ?_, ?_, fun v hv => ⟨(htr v).trans (s.tr_noted_ne hv q), hroutes v hv⟩, fun f h1 h2 => ?_, fun h => ?_⟩
  · rcases hn with h | ⟨f, h⟩ <;> rw [h] <;> rfl
  · rw [hself]
  · rw [hself]
    exact congrArg some hq
  · obtain ⟨h3, h4⟩ := hheld f h1 h2
    refine ⟨by rw [hself, h3], ?_⟩
    rw [h4]
    exact State.route_frontAt (s.noted t q) t f
  · obtain ⟨h3, h4⟩ := hloose h
    refine ⟨by rw [hself, h3], ?_⟩
    rw [h4]
    rfl

theorem State.noteReport_reportNoted (hlive : (s.tr t).state ≠ .offline) :
    s.ReportNoted ((s.reloadSupervision t).noteReport t r) t r := by
  by_cases hn : s.holdsFirm t r.sec
  · cases hf : s.entryOf t r.sec with
    | some f =>
      rw [State.noteReport_held hlive hn hf]
      refine State.noted_reportNoted (r := r) (q := { r with off := min r.off (s.pathLen f) }) rfl (.inr ⟨f, rfl⟩) (fun g _ hg => ?_)
        fun h => absurd hn h
      obtain rfl := Option.some.inj (hf.symm.trans hg)
      exact ⟨rfl, rfl⟩
    | none =>
      have heq : (s.reloadSupervision t).noteReport t r = s.noted t r := by
        obtain ⟨hhold, hroute, -, -⟩ := s.reportReads_reload t
        have hfirm : (s.reloadSupervision t).heldFirm t r.sec = true :=
          State.heldFirm_iff.mpr (by rw [State.holdsFirm, hhold]; exact hn)
        have hnone : (s.reloadSupervision t).entryOf t r.sec = none := by rw [State.entryOf, hroute]; exact hf
        have htake : (s.reloadSupervision t).takeReport t r = s.noted t r := by
          simp only [State.takeReport, hnone]
          rw [State.reloadSupervision_live hlive, State.modTr_modTr]
          rfl
        have hnone' : (s.noted t r).entryOf t r.sec = none := hf
        rw [State.noteReport, if_pos hfirm, htake, State.setFront]
        simp only [hnone', ite_self]
      rw [heq]
      exact State.noted_reportNoted rfl (.inl rfl) (fun g _ hg => absurd (hf.symm.trans hg) nofun) fun h => absurd hn h
  · rw [State.noteReport_loose hlive hn]
    exact State.noted_reportNoted rfl (.inl rfl) (fun _ h => absurd h hn) fun _ => ⟨rfl, rfl⟩

end

/-- What is answered by AUTH alone after a report noted. -/
theorem State.ReportNoted.answered {s n : State} {t : TId} {r : Report} (h : s.ReportNoted n t r) :
    let u := n.formAuth t
    u.tr t = n.tr t ∧ u.route t = n.route t ∧ u.AuthCurrent t ∧ s.OnlyAuth u t ∧
    u = { s with trs := u.trs, routes := u.routes, tls := u.tls, ceilings := u.ceilings } ∧
    ∀ v, v ≠ t → s.SameTransporter u v := by
  obtain ⟨hauth, honly, hport, hothers⟩ := n.formAuth_spec t
  have hn := h.only
  have htl : ∀ v, n.tl v = s.tl v := fun v => by rw [hn]; rfl
  dsimp only
  generalize n.formAuth t = u at *
  refine ⟨by rw [honly]; rfl, by rw [honly]; rfl, hauth, ?_, by rw [honly, hn], fun v hv => ?_⟩
  · have h1 : u.tl t = { n.tl t with auth := (u.tl t).auth } := hport
    rw [htl] at h1
    exact h1
  · obtain ⟨h1, h2, h3, h4, h5⟩ := hothers v hv
    obtain ⟨k1, k2⟩ := h.others v hv
    exact ⟨h1.trans k1, h2.trans k2, h3.trans (htl v), h4.trans (by rw [hn]), h5.trans (by rw [hn])⟩

theorem State.handleReport_tripped {s : State} {t : TId} (hst : (s.tr t).state = .tripped) (r : Report) :
    (s.reloadSupervision t).handleReport t r = if (s.tr t).awaitingFix then (s.reloadSupervision t).fixReport t r
      else ((s.reloadSupervision t).noteReport t r).formAuth t := by
  obtain ⟨-, hrec, -, -⟩ := s.reloadSupervision_spec t
  have h1 : ((s.reloadSupervision t).tr t).state = .tripped := by rw [hrec]; exact hst
  have h2 : ((s.reloadSupervision t).tr t).awaitingFix = (s.tr t).awaitingFix := by rw [hrec]
  simp only [State.handleReport, h1, h2]

/-- A fix report from a front held firmly, slow enough, recovers. -/
theorem State.fixReport_good {s : State} {t : TId} {r : Report} {f : Entry} (hn : s.holdsFirm t r.sec)
    (hf : s.entryOf t r.sec = some f) (hv : r.speed ≤ s.params.overspeedTol) :
    s.fixReport t r = (s.noteReport t r).recovered t f r := by
  simp only [State.fixReport, State.heldFirm_iff.mpr hn, decide_eq_true hv, Bool.and_self, if_true, hf]

theorem State.fixReport_bad {s : State} {t : TId} {r : Report} (h : ¬ s.holdsFirm t r.sec ∨ s.params.overspeedTol < r.speed) :
    s.fixReport t r = (((s.noteReport t r).modTr t fun x => { x with awaitingFix := false }).post
      (.recoverFailed t r.sec r.speed)).formAuth t := by
  have hno : (s.heldFirm t r.sec && decide (r.speed ≤ s.params.overspeedTol)) = false := by
    rcases h with h | h
    · rw [show s.heldFirm t r.sec = false from by rw [← Bool.not_eq_true, State.heldFirm_iff]; exact h, Bool.false_and]
    · rw [decide_eq_false (Nat.not_le.mpr h), Bool.and_false]
  simp only [State.fixReport, hno, Bool.false_eq_true, if_false]

/-- The fix report noted, as recovery finds it. -/
theorem State.noteReport_reported {s : State} {t : TId} {r : Report} {f : Entry} (hlive : (s.tr t).state ≠ .offline)
    (hn : s.holdsFirm t r.sec) (hf : s.entryOf t r.sec = some f) :
    (s.reloadSupervision t).Reported ((s.reloadSupervision t).noteReport t r) t r f := by
  obtain ⟨honly, -, hothers, -⟩ := s.reloadSupervision_spec t
  obtain ⟨-, hroute, hlen, -⟩ := s.reportReads_reload t
  have htr : (s.reloadSupervision t).tr t = { s.tr t with superv := some (.load (s.tr t).supervision) } := by
    rw [State.reloadSupervision_live hlive, State.tr_modTr_self]
  have hnoted := State.noteReport_reportNoted (r := r) hlive
  obtain ⟨hlast, hfront⟩ := hnoted.held f hn hf
  generalize (s.reloadSupervision t).noteReport t r = n at *
  generalize s.reloadSupervision t = a at *
  refine ⟨?_, ?_, by rw [hfront, hroute], fun v hv => ?_⟩
  · rw [hnoted.only, honly]
  · rw [hnoted.record, hlast, htr, hlen]
  · obtain ⟨h1, h2⟩ := hnoted.others v hv
    refine ⟨h1.trans (hothers v hv).symm, h2.trans ?_⟩
    rw [honly]
    rfl

/-- Settles O41: a report is refused in OFFLINE, noted in TRIPPED (noteReport_reportNoted), and as a fix report recovers
(reported_recovered) or fails. -/
theorem reportWhileDown : Obligations.ReportWhileDown := by
  refine ⟨fun s t echo sec oh ol d vh vl ld rear hq => ?_,
    fun s t echo sec oh ol d vh vl ld rear hq hrise hd hld hst hfix => ?_⟩
  · intro c r
    refine ⟨fun hcode => ?_, fun hd hld => ⟨fun hst => ?_, fun hst hfix => ?_⟩⟩
    · rw [exec_report hq, State.onReport_range hcode]
    · rw [exec_report_coded hq hd hld, State.reloadSupervision_offline (h := hst)]
      simp only [State.handleReport, hst]
      rfl
    · have hlive : (s.tr t).state ≠ .offline := by rw [hst]; exact nofun
      have hnoted := State.noteReport_reportNoted (r := r) hlive
      have hexec := exec_report_coded hq hd hld (echo := echo) (sec := sec) (oh := oh) (ol := ol) (vh := vh) (vl := vl)
        (rear := rear)
      rw [State.handleReport_tripped hst, hfix, if_neg Bool.false_ne_true] at hexec
      obtain ⟨htr, hroute, hauth, hport, honly, hothers⟩ := hnoted.answered
      refine ⟨_, hexec, fun f hn hf => ?_, fun hn => ?_, ?_, hauth, hport, honly, hothers⟩
      · rw [htr, hroute]
        exact hnoted.held f hn hf
      · rw [htr, hroute]
        exact hnoted.loose hn
      · rw [htr]
        exact hnoted.record
  · intro c r
    have hlive : (s.tr t).state ≠ .offline := by rw [hst]; exact nofun
    have hexec := exec_report_coded hq hd hld (echo := echo) (sec := sec) (oh := oh) (ol := ol) (vh := vh) (vl := vl)
      (rear := rear)
    rw [State.handleReport_tripped hst, hfix, if_pos rfl] at hexec
    change exec c s = .next ((s.reloadSupervision t).fixReport t r) at hexec
    obtain ⟨hhold, hroute, -, hastate⟩ := s.reportReads_reload t
    have hparams := s.params_reloadSupervision t
    have hfirm : (s.reloadSupervision t).holdsFirm t r.sec ↔ s.holdsFirm t r.sec := by rw [State.holdsFirm, hhold]
    refine ⟨fun f hn hf hv => ⟨_, hexec, ?_⟩, fun hbad => ?_⟩
    · rw [State.fixReport_good (hfirm.mpr hn) (by rw [State.entryOf, hroute]; exact hf) (by rw [hparams]; exact hv)]
      obtain ⟨hmem, hsec⟩ := State.mem_of_entryOf hf
      refine State.reported_recovered (State.noteReport_reported hlive hn hf) (hastate.trans hst)
        (by rw [hroute]; exact (hrise t).1) (by rw [hroute]; exact (hrise t).2.2) ?_
      refine List.mem_filter.mpr ⟨by rw [hroute]; exact hmem, ?_⟩
      rw [hsec, hhold]
      rcases hn with h | h <;> rw [h] <;> rfl
    · rw [State.fixReport_bad (by rw [hfirm, hparams]; exact hbad)] at hexec
      have hnoted := State.noteReport_reportNoted (r := r) hlive
      generalize (s.reloadSupervision t).noteReport t r = n at *
      obtain ⟨p, hp⟩ : ∃ p, p = (n.modTr t fun x => { x with awaitingFix := false }).post (.recoverFailed t r.sec r.speed) :=
        ⟨_, rfl⟩
      rw [← hp] at hexec
      obtain ⟨hauth, honly, hport, hothers⟩ := p.formAuth_spec t
      generalize p.formAuth t = u at *
      have hponly : p = { n with trs := p.trs, opss := p.opss } := by rw [hp]; rfl
      have hnonly := hnoted.only
      have hptr : p.tr t = { n.tr t with awaitingFix := false } := by
        rw [hp]
        exact State.tr_modTr_self ..
      have hutr : u.tr t = p.tr t := by rw [honly]; rfl
      have huroute : u.route t = n.route t := by rw [honly, hponly]; rfl
      have hptl : ∀ v, p.tl v = s.tl v := fun v => by rw [hponly, hnonly]; rfl
      have hlast : (u.tr t).last = (n.tr t).last := by rw [hutr, hptr]
      refine ⟨u, hexec, ?_, fun f hn hf => ?_, fun hn => ?_, ?_, hauth, ?_, ?_, ?_, fun v hv => ?_⟩
      · rw [hlast, hutr, hptr, hnoted.record]
      · rw [hlast, huroute]
        exact hnoted.held f hn hf
      · rw [hlast, huroute]
        exact hnoted.loose hn
      · rw [hlast]
        exact hnoted.last
      · have h1 : u.tl t = { p.tl t with auth := (u.tl t).auth } := hport
        rw [hptl] at h1
        exact h1
      · have hopss : u.opss = p.opss := by rw [honly]
        have hclock : n.clock = s.clock := by rw [hnonly]
        have hops : n.opss = s.opss := by rw [hnonly]
        intro k
        rw [State.opsPort, hopss, hp, ← hclock, State.opsPort, ← hops]
        exact State.told_post (n.modTr t fun x => { x with awaitingFix := false }) (.recoverFailed t r.sec r.speed) k
      · rw [honly, hponly, hnonly]
      · obtain ⟨h1, h2, h3, h4, h5⟩ := hothers v hv
        obtain ⟨k1, k2⟩ := hnoted.others v hv
        have hpv : p.tr v = n.tr v := by
          rw [hp]
          exact n.tr_ne hv fun x => { x with awaitingFix := false }
        have hpr : p.route v = n.route v := by rw [hponly]; rfl
        exact ⟨h1.trans (hpv.trans k1), h2.trans (hpr.trans k2), h3.trans (hptl v), h4.trans (by rw [hponly, hnonly]),
          h5.trans (by rw [hponly, hnonly])⟩

end Sys2Proof.Machine

/-! PROOFS. The prefix grant (R48 to R53), unit by unit. -/

namespace Sys2Proof.Machine

/-! ## Holds after sections are taken -/

section
variable {s z : State} {t : TId} {b : Bool} {es : List Entry}

theorem State.RunTaken.holdBy (h : s.RunTaken z t b es) (v : TId) (n : Nat) : z.holdBy v n =
    if n ∈ es.map (·.sec) ∧ (s.sec? n).isSome then (if t = v then some .granted else none) else s.holdBy v n := by
  unfold State.holdBy
  rw [h.sections]
  cases hx : s.sec? n with
  | none => simp
  | some x =>
    by_cases hn : n ∈ es.map (·.sec)
    · simp [hn]
    · simp [hn]

theorem State.Evaluated.holdBy {u : State} {ts : List TId} (h : z.Evaluated u ts) : u.holdBy = z.holdBy :=
  State.holdBy_congr (by rw [h.only])

end

/-! ## The next unit (R48) -/

/-- t's entries from the end of the GRANTED prefix on. -/
def State.ungranted (s : State) (t : TId) : List Entry :=
  (s.route t).entries.dropWhile fun e => decide (s.holdBy t e.sec = some .granted)

section
variable {s : State} {t : TId}

theorem State.nextUnit_of_nil (h : s.ungranted t = []) : s.nextUnit t = [] := by
  unfold State.nextUnit
  rw [show ((s.route t).entries.dropWhile _) = [] from h]

theorem State.nextUnit_of_cons {e : Entry} {es : List Entry} (h : s.ungranted t = e :: es) : s.nextUnit t =
    if s.groupOf e = 0 then [e] else e :: es.takeWhile fun f => decide (s.groupOf f = s.groupOf e) := by
  unfold State.nextUnit
  rw [show ((s.route t).entries.dropWhile _) = e :: es from h]

theorem State.nextUnit_prefix (s : State) (t : TId) : s.nextUnit t <+: s.ungranted t := by
  cases h : s.ungranted t with
  | nil => rw [State.nextUnit_of_nil h]
  | cons e es =>
    rw [State.nextUnit_of_cons h]
    split
    · exact List.cons_prefix_cons.mpr ⟨rfl, List.nil_prefix⟩
    · exact List.cons_prefix_cons.mpr ⟨rfl, List.takeWhile_prefix _⟩

theorem State.nextUnit_eq_nil : s.nextUnit t = [] ↔ s.ungranted t = [] := by
  refine ⟨fun h => ?_, State.nextUnit_of_nil⟩
  cases hu : s.ungranted t with
  | nil => rfl
  | cons e es =>
    rw [State.nextUnit_of_cons hu] at h
    split at h <;> exact nomatch h

theorem State.ungranted_suffix (s : State) (t : TId) : s.ungranted t <:+ (s.route t).entries := List.dropWhile_suffix _

theorem State.nextUnit_sublist (s : State) (t : TId) : (s.nextUnit t).Sublist (s.route t).entries :=
  (s.nextUnit_prefix t).sublist.trans (s.ungranted_suffix t).sublist

end

/-! ## Units granted, and what ends a grant -/

/-- Between s and u the units us of t's route were GRANTED in turn (R51): each the next, all its entries available and in
position, and t's stop causes evaluated after it. -/
def State.UnitsGranted (t : TId) : List (List Entry) → State → State → Prop
  | [], s, u => u = s
  | es :: us, s, u => s.nextUnit t = es ∧ es ≠ [] ∧ (∀ e ∈ es, s.available t e = true) ∧ (∀ e ∈ es, s.inPosition e = true) ∧
      ∃ z m, s.RunTaken z t false es ∧ z.Evaluated m [t] ∧ m.ground = s.ground ∧ State.UnitsGranted t us m u

/-- A unit was reserved (R52): what becomes of its sections and the queue, t's stop causes not yet evaluated. -/
structure State.UnitReserved (s z : State) (t : TId) (es : List Entry) : Prop where
  only : z = { s with sections := z.sections, cmdQueue := s.cmdQueue ++ es.filterMap (s.throwFor t) }
  sections : ∀ n, z.sec? n = (s.sec? n).map fun x =>
    { x with hold := if n ∈ es.map (·.sec) ∧ s.holdBy t n ≠ some .setting then some ⟨t, .setting, false⟩ else x.hold }

/-- What ends t's grant in s: nothing is left; or the next unit is not available, and the reservation is dropped; or it is
out of position, and its throws do not fit, or it is reserved and its throws queued (R50, R52, R53). -/
inductive State.GrantEnds (s u : State) (t : TId) : Prop
  | whole (h : s.nextUnit t = []) (hu : u = s)
  | unavailable (h : ∃ e ∈ s.nextUnit t, s.available t e = false) (hu : s.Dropped u t) (hd : u = s.dropSetting t)
  | noRoom (h : ∀ e ∈ s.nextUnit t, s.available t e = true) (hp : ∃ e ∈ s.nextUnit t, s.inPosition e = false)
      (hr : s.offerOk ((s.nextUnit t).filterMap (s.throwFor t)) = false) (d : State) (hd : s.Dropped d t)
      (hd' : d = s.dropSetting t) (hu : u = { d with roomWait := true })
  | reserved (h : ∀ e ∈ s.nextUnit t, s.available t e = true) (hp : ∃ e ∈ s.nextUnit t, s.inPosition e = false)
      (hr : s.offerOk ((s.nextUnit t).filterMap (s.throwFor t)) = true) (z : State)
      (hz : s.UnitReserved z t (s.nextUnit t)) (hu : z.Evaluated u [t])

theorem State.grantUnit_eq (s : State) (t : TId) (es : List Entry) : s.grantUnit t es = (s.takeRun t false es).evalStop t := rfl

/-- The sections not held SETTING already become so. -/
theorem reserve_foldl (t : TId) : ∀ (es : List Entry) (s : State),
    let u := es.foldl (fun s e => if s.holdBy t e.sec = some .setting then s
      else s.setHold e.sec (some ⟨t, .setting, false⟩)) s
    u = { s with sections := u.sections } ∧ ∀ n, u.sec? n = (s.sec? n).map fun x =>
      { x with hold := if n ∈ es.map (·.sec) ∧ s.holdBy t n ≠ some .setting then some ⟨t, .setting, false⟩ else x.hold }
  | [], s => ⟨rfl, fun n => by cases hx : s.sec? n <;> simp [hx]⟩
  | e :: es, s => by
    dsimp only
    obtain ⟨m, hm⟩ : ∃ m, m = if s.holdBy t e.sec = some .setting then s
      else s.setHold e.sec (some ⟨t, .setting, false⟩) := ⟨_, rfl⟩
    obtain ⟨h1, h2⟩ := reserve_foldl t es m
    rw [List.foldl_cons, ← hm]
    generalize es.foldl (fun s e => if s.holdBy t e.sec = some .setting then s
      else s.setHold e.sec (some ⟨t, .setting, false⟩)) m = u at *
    have hmonly : m = { s with sections := m.sections } := by
      rw [hm]
      split <;> rfl
    have hmsec : ∀ n, m.sec? n = (s.sec? n).map fun x => { x with
        hold := if n = e.sec ∧ s.holdBy t n ≠ some .setting then some ⟨t, .setting, false⟩ else x.hold } := fun n => by
      rw [hm]
      split
      · next h =>
        have hno : ¬ (n = e.sec ∧ s.holdBy t n ≠ some .setting) := fun hc => hc.2 (hc.1 ▸ h)
        simp only [if_neg hno]
        cases s.sec? n <;> rfl
      · next h =>
        rw [State.sec_setHold]
        refine Option.map_congr fun x _ => ?_
        by_cases hn : n = e.sec
        · rw [if_pos hn, if_pos ⟨hn, hn ▸ h⟩]
        · rw [if_neg hn, if_neg fun hc => hn hc.1]
    refine ⟨by rw [h1, hmonly], fun n => ?_⟩
    rw [h2, hmsec, Option.map_map]
    refine Option.map_congr fun x hx => ?_
    have hhold : m.holdBy t n = some .setting ↔ s.holdBy t n = some .setting ∨ n = e.sec := by
      have hs : s.holdBy t n = x.hold.bind fun h => if h.holder = t then some h.kind else none := by
        rw [State.holdBy_eq, hx, Option.bind_some]
      rw [State.holdBy_eq, hmsec, hx, Option.map_some, Option.bind_some]
      dsimp only
      by_cases hn : n = e.sec ∧ s.holdBy t n ≠ some .setting
      · rw [if_pos hn]
        simp [hn.1]
      · rw [if_neg hn, ← hs]
        exact ⟨.inl, fun h => h.elim id fun h => not_not.mp fun hc => hn ⟨h, hc⟩⟩
    simp only [Function.comp_apply, List.map_cons, List.mem_cons, ne_eq, hhold, not_or]
    by_cases h4 : n = e.sec
    · simp [h4]
    · simp [h4]

theorem State.reserve_unitReserved (s : State) (t : TId) (es : List Entry) :
    ∃ z, s.UnitReserved z t es ∧ z.Evaluated ((s.enqueue (es.filterMap (s.throwFor t))).reserveUnit t es) [t] := by
  obtain ⟨h1, h2⟩ := reserve_foldl t es (s.enqueue (es.filterMap (s.throwFor t)))
  refine ⟨_, ⟨h1, h2⟩, State.evalStop_evaluated ..⟩

/-- A granted unit's entries are GRANTED, and what was GRANTED stays so. -/
theorem State.RunTaken.granted {s z : State} {t : TId} {es : List Entry} (h : s.RunTaken z t false es)
    (hes : ∀ e ∈ es, (s.sec? e.sec).isSome) {n : Nat} (hn : s.holdBy t n = some .granted ∨ n ∈ es.map (·.sec)) :
    z.holdBy t n = some .granted := by
  rw [h.holdBy]
  by_cases hm : n ∈ es.map (·.sec)
  · obtain ⟨e, he, rfl⟩ := List.mem_map.mp hm
    rw [if_pos ⟨hm, hes e he⟩, if_pos rfl]
  · rw [if_neg fun hc => hm hc.1]
    exact hn.resolve_right hm

theorem State.sec_of_available {s : State} {t : TId} {e : Entry} (h : s.available t e = true) :
    ∃ x, s.sec? e.sec = some x ∧ (x.hold = none ∨ ∃ h, x.hold = some h ∧ h.holder = t ∧ h.kind = .setting) ∧ x.det = .clear ∧
      s.inStoppedZone x.defn.zones = false ∧ s.pointAvailable t e = true := by
  unfold State.available at h
  cases hx : s.sec? e.sec with
  | none => rw [hx] at h; exact nomatch h
  | some x =>
    rw [hx] at h
    simp only [Bool.and_eq_true, decide_eq_true_eq, Bool.not_eq_true'] at h
    obtain ⟨⟨⟨h1, h2⟩, h3⟩, h4⟩ := h
    refine ⟨x, rfl, ?_, h2, h3, h4⟩
    cases hh : x.hold with
    | none => exact .inl rfl
    | some k =>
      rw [hh] at h1
      exact .inr ⟨k, rfl, of_decide_eq_true h1⟩

theorem dropWhile_length_lt {α : Type} {p q : α → Bool} (hpq : ∀ x, p x = true → q x = true) {l : List α} {x : α}
    (hx : x ∈ l.dropWhile p) (hhead : (l.dropWhile p).head? = some x) (hq : q x = true) :
    (l.dropWhile q).length < (l.dropWhile p).length := by
  induction l with
  | nil => exact absurd hx List.not_mem_nil
  | cons a l ih =>
    by_cases hp : p a = true
    · rw [List.dropWhile_cons_of_pos hp] at hx hhead ⊢
      rw [List.dropWhile_cons_of_pos (hpq a hp)]
      exact ih hx hhead
    · rw [List.dropWhile_cons_of_neg hp] at hhead ⊢
      obtain rfl : a = x := Option.some.inj hhead
      rw [List.dropWhile_cons_of_pos hq, List.length_cons]
      exact Nat.lt_succ_of_le (List.dropWhile_sublist _).length_le

/-- The prefix grant grants units and then ends. -/
theorem prefixGrant_spec (t : TId) : ∀ (n : Nat) (s : State), (s.ungranted t).length ≤ n →
    ∃ us m, State.UnitsGranted t us s m ∧ m.GrantEnds (prefixGrant t n s).1 t ∧
      (prefixGrant t n s).2 = us.flatten.map (·.sec)
  | 0, s, hn => ⟨[], s, rfl, .whole (State.nextUnit_of_nil (List.length_eq_zero_iff.mp (Nat.le_zero.mp hn))) rfl, rfl⟩
  | n + 1, s, hn => by
    cases hunit : s.nextUnit t with
    | nil =>
      have heq : prefixGrant t (n + 1) s = (s, []) := by rw [prefixGrant, hunit]
      rw [heq]
      exact ⟨[], s, rfl, .whole hunit rfl, rfl⟩
    | cons e es =>
      by_cases hav : ∀ f ∈ s.nextUnit t, s.available t f = true
      · have hall : (e :: es).all (s.available t) = true := List.all_eq_true.mpr (hunit ▸ hav)
        by_cases hpos : ∀ f ∈ s.nextUnit t, s.inPosition f = true
        · have hallp : (e :: es).all s.inPosition = true := List.all_eq_true.mpr (hunit ▸ hpos)
          have heq : prefixGrant t (n + 1) s = ((prefixGrant t n (s.grantUnit t (e :: es))).1,
              (e :: es).map (·.sec) ++ (prefixGrant t n (s.grantUnit t (e :: es))).2) := by
            rw [prefixGrant, hunit]
            dsimp only
            rw [if_pos hall, if_pos hallp]
          have htaken := State.takeRun_runTaken t false (e :: es) s
          have heval := (s.takeRun t false (e :: es)).evalStop_evaluated t
          have hsome : ∀ f ∈ e :: es, (s.sec? f.sec).isSome := fun f hf => by
            obtain ⟨x, hx, -⟩ := State.sec_of_available (hav f (hunit ▸ hf))
            rw [hx]
            rfl
          have hroute : (s.grantUnit t (e :: es)).route t = s.route t := by
            rw [State.grantUnit_eq, heval.only, htaken.only]
            rfl
          have hhold : ∀ k, (s.grantUnit t (e :: es)).holdBy t k = (s.takeRun t false (e :: es)).holdBy t k := fun k => by
            rw [State.grantUnit_eq, heval.holdBy]
          have hlt : ((s.grantUnit t (e :: es)).ungranted t).length < (s.ungranted t).length := by
            obtain ⟨rest, hrest⟩ := s.nextUnit_prefix t
            rw [hunit, List.cons_append] at hrest
            unfold State.ungranted at hrest ⊢
            rw [hroute]
            refine dropWhile_length_lt (x := e) (fun f hf => ?_) (by rw [← hrest]; exact List.mem_cons_self)
              (by rw [← hrest]; rfl) ?_
            · rw [hhold]
              exact decide_eq_true (htaken.granted hsome (.inl (of_decide_eq_true hf)))
            · rw [hhold]
              exact decide_eq_true (htaken.granted hsome (.inr List.mem_cons_self))
          obtain ⟨us, m, hus, hend, hsecs⟩ := prefixGrant_spec t n (s.grantUnit t (e :: es)) (by omega)
          rw [heq]
          refine ⟨(e :: es) :: us, m, ⟨hunit, List.cons_ne_nil _ _, hunit ▸ hav, hunit ▸ hpos, _, _, htaken, heval,
            State.grantUnit_ground .., hus⟩, hend, ?_⟩
          rw [List.flatten_cons, List.map_append, hsecs]
        · have hallp : ¬ (e :: es).all s.inPosition = true := fun h => hpos (hunit ▸ List.all_eq_true.mp h)
          have hout : ∃ f ∈ s.nextUnit t, s.inPosition f = false := by
            simpa only [not_forall, Bool.not_eq_true, exists_prop] using hpos
          by_cases hroom : s.offerOk ((e :: es).filterMap (s.throwFor t)) = true
          · have heq : prefixGrant t (n + 1) s =
                ((s.enqueue ((e :: es).filterMap (s.throwFor t))).reserveUnit t (e :: es), []) := by
              rw [prefixGrant, hunit]
              dsimp only
              rw [if_pos hall, if_neg hallp, if_pos hroom]
            obtain ⟨z, hz, heval⟩ := s.reserve_unitReserved t (e :: es)
            rw [heq]
            exact ⟨[], s, rfl, .reserved hav hout (hunit ▸ hroom) z (hunit ▸ hz) heval, rfl⟩
          · have heq : prefixGrant t (n + 1) s = ({ s.dropSetting t with roomWait := true }, []) := by
              rw [prefixGrant, hunit]
              dsimp only
              rw [if_pos hall, if_neg hallp, if_neg hroom]
            rw [heq]
            exact ⟨[], s, rfl, .noRoom hav hout (hunit ▸ eq_false_of_ne_true hroom) _ (s.dropSetting_dropped t) rfl rfl, rfl⟩
      · have hall : ¬ (e :: es).all (s.available t) = true := fun h => hav (hunit ▸ List.all_eq_true.mp h)
        have heq : prefixGrant t (n + 1) s = (s.dropSetting t, []) := by
          rw [prefixGrant, hunit]
          dsimp only
          rw [if_neg hall]
        rw [heq]
        refine ⟨[], s, rfl, .unavailable ?_ (s.dropSetting_dropped t) rfl, rfl⟩
        simpa only [not_forall, Bool.not_eq_true, exists_prop] using hav

end Sys2Proof.Machine

/-! PROOFS. What a prefix grant does to holds, points, stop causes and the order of a record. -/

namespace Sys2Proof.Machine

/-! ## Stop causes where sections outside stopped zones are taken -/

theorem State.holdsStopped_iff {s : State} (hwf : Table.wf s.sections = true) (t : TId) : s.holdsStopped t = true ↔
    ∃ n x h, s.sec? n = some x ∧ x.hold = some h ∧ h.holder = t ∧ s.inStoppedZone x.defn.zones = true := by
  unfold State.holdsStopped
  rw [List.any_eq_true]
  constructor
  · rintro ⟨⟨n, x⟩, hmem, hp⟩
    rw [Bool.and_eq_true] at hp
    obtain ⟨hh, hz⟩ := hp
    cases hx : x.hold with
    | none =>
      simp only [hx] at hh
      exact nomatch hh
    | some h =>
      simp only [hx, decide_eq_true_eq] at hh
      exact ⟨n, x, h, Table.find_of_mem hwf hmem, hx, hh, hz⟩
  · rintro ⟨n, x, h, hn, hx, hh, hz⟩
    refine ⟨(n, x), Table.mem_of_find hn, ?_⟩
    simp [hx, hh, hz]

/-- Stop causes of t are the same where t holds the same sections of stopped zones. -/
theorem State.stopCauses_of_stopped {s u : State} (hs : Table.wf s.sections = true) (hu : Table.wf u.sections = true) (t : TId)
    (hstop : u.allStop = s.allStop) (hlines : u.lines = s.lines) (hsite : u.site = s.site) (hband : u.band = s.band)
    (hdefn : ∀ n, (u.sec? n).map (·.defn) = (s.sec? n).map (·.defn))
    (hheld : ∀ n x y, s.sec? n = some x → u.sec? n = some y → s.inStoppedZone x.defn.zones = true →
      ((∃ h, y.hold = some h ∧ h.holder = t) ↔ ∃ h, x.hold = some h ∧ h.holder = t)) :
    u.stopCauses t = s.stopCauses t := by
  have hzone : u.inStoppedZone = s.inStoppedZone := by
    funext z
    simp only [State.inStoppedZone, State.zoneStopped, hlines, hsite]
  have hkey : u.holdsStopped t = s.holdsStopped t := by
    rw [Bool.eq_iff_iff, State.holdsStopped_iff hu, State.holdsStopped_iff hs, hzone]
    constructor
    · rintro ⟨n, y, h, hy, hh, ht, hz⟩
      have hd := hdefn n
      rw [hy] at hd
      obtain ⟨x, hx, hxd⟩ := Option.map_eq_some_iff.mp hd.symm
      have hz' : s.inStoppedZone x.defn.zones = true := by
        dsimp only at hxd
        rw [hxd]
        exact hz
      obtain ⟨g, hg, hgt⟩ := (hheld n x y hx hy hz').mp ⟨h, hh, ht⟩
      exact ⟨n, x, g, hx, hg, hgt, hz'⟩
    · rintro ⟨n, x, h, hx, hh, ht, hz⟩
      have hd := hdefn n
      rw [hx] at hd
      obtain ⟨y, hy, hyd⟩ := Option.map_eq_some_iff.mp hd
      obtain ⟨g, hg, hgt⟩ := (hheld n x y hx hy hz).mpr ⟨h, hh, ht⟩
      refine ⟨n, y, g, hy, hg, hgt, ?_⟩
      dsimp only at hyd
      rw [hyd]
      exact hz
  simp only [State.stopCauses, hkey, hstop, hband]

section
variable {s z : State} {t : TId} {es : List Entry}

theorem State.RunTaken.stopCauses (h : s.RunTaken z t false es) (hwf : Table.wf s.sections = true)
    (hav : ∀ e ∈ es, s.available t e = true) (v : TId) : z.stopCauses v = s.stopCauses v := by
  refine State.stopCauses_of_stopped hwf ((State.sections_wf_of_ground h.ground).trans hwf) v (by rw [h.only]) (by rw [h.only])
    (by rw [h.only]) (by rw [h.only]) (fun n => ?_) fun n x y hx hy hz => ?_
  · rw [h.sections, Option.map_map]
    rfl
  · rw [h.sections, hx, Option.map_some, Option.some.injEq] at hy
    by_cases hn : n ∈ es.map (·.sec)
    · obtain ⟨e, he, rfl⟩ := List.mem_map.mp hn
      obtain ⟨x', hx', -, -, hno, -⟩ := State.sec_of_available (hav e he)
      cases hx.symm.trans hx'
      exact absurd (hz.symm.trans hno) nofun
    · rw [if_neg hn] at hy
      rw [← hy]

/-! ## Points after sections are taken -/

theorem State.RunTaken.pointOf (h : s.RunTaken z t false es) (hwf : Table.wf s.points = true) (n : Nat) :
    z.pointOf n = (s.pointOf n).map fun q =>
      (q.1, { q.2 with lock := if ∃ e ∈ es, (s.pointOf e.sec).map (·.1) = some q.1 then some t else q.2.lock }) := by
  have hzwf : Table.wf z.points = true := (State.points_wf_of_ground h.ground).trans hwf
  have hkey := State.pointOf_of_ground h.ground n
  cases hs : s.pointOf n with
  | none =>
    rw [hs, Option.map_none, Option.map_eq_none_iff] at hkey
    rw [hkey]
    rfl
  | some q =>
    obtain ⟨p, x⟩ := q
    rw [hs, Option.map_some] at hkey
    obtain ⟨⟨p', y⟩, hy, hp⟩ := Option.map_eq_some_iff.mp hkey
    dsimp only at hp
    subst hp
    have h1 := (State.pointOf_point hzwf hy).1
    have h2 := (State.pointOf_point hwf hs).1
    rw [h.points, h2, Option.map_some] at h1
    rw [hy, Option.map_some]
    exact congrArg (fun w => some (p', w)) (Option.some.inj h1).symm

/-- Two sections with one point are one section. -/
theorem State.sec_of_pointOf (hwf : Table.wf s.points = true) {n m : Nat} {p : Nat}
    (hn : (s.pointOf n).map (·.1) = some p) (hm : (s.pointOf m).map (·.1) = some p) : n = m := by
  obtain ⟨⟨p1, x⟩, hx, rfl⟩ := Option.map_eq_some_iff.mp hn
  obtain ⟨⟨p2, y⟩, hy, hp⟩ := Option.map_eq_some_iff.mp hm
  dsimp only at hp
  subst hp
  obtain ⟨h1, h2⟩ := State.pointOf_point hwf hx
  obtain ⟨h3, h4⟩ := State.pointOf_point hwf hy
  rw [h1] at h3
  rw [← h2, Option.some.inj h3, h4]

/-- The point of a section not taken keeps its lock. -/
theorem State.RunTaken.pointOf_other (h : s.RunTaken z t false es) (hwf : Table.wf s.points = true) {n : Nat}
    (hn : n ∉ es.map (·.sec)) : z.pointOf n = s.pointOf n := by
  rw [h.pointOf hwf]
  cases hs : s.pointOf n with
  | none => rfl
  | some q =>
    obtain ⟨p, x⟩ := q
    have hno : ¬ ∃ e ∈ es, (s.pointOf e.sec).map (·.1) = some p := by
      rintro ⟨e, he, hp⟩
      exact hn (State.sec_of_pointOf hwf (by rw [hs]; rfl) hp ▸ List.mem_map_of_mem he)
    rw [Option.map_some, if_neg hno]

theorem State.RunTaken.outstanding (h : s.RunTaken z t false es) (p : Nat) : z.outstanding p = s.outstanding p := by
  have hq : z.queuedThrow p = s.queuedThrow p := by
    rw [State.queuedThrow, h.only]
    rfl
  unfold State.outstanding
  rw [hq, h.points]
  cases s.point? p <;> rfl

/-- What an entry of a section not taken finds. -/
theorem State.RunTaken.entry_other (h : s.RunTaken z t false es) (hwf : Table.wf s.points = true) {e : Entry}
    (hn : e.sec ∉ es.map (·.sec)) (v : TId) : z.available v e = s.available v e ∧ z.inPosition e = s.inPosition e ∧
      z.throwFor v e = s.throwFor v e := by
  have hp := h.pointOf_other hwf hn
  have hsec : z.sec? e.sec = s.sec? e.sec := by
    rw [h.sections]
    simp only [if_neg hn]
    cases s.sec? e.sec <;> rfl
  have hzone : z.inStoppedZone = s.inStoppedZone := by
    rw [h.only]
    rfl
  refine ⟨?_, ?_, ?_⟩
  · simp only [State.available, State.pointAvailable, hsec, hp, hzone, h.outstanding]
  · simp only [State.inPosition, hp]
  · simp only [State.throwFor, hp, h.outstanding]

end

/-! ## States that differ by evaluations of stop causes alone -/

/-- Whatever a grant reads of the track, the queue and the units is the same. -/
structure State.SameTrack (s u : State) : Prop where
  sections : u.sections = s.sections
  points : u.points = s.points
  lines : u.lines = s.lines
  site : u.site = s.site
  cmdQueue : u.cmdQueue = s.cmdQueue
  units : u.units = s.units

section
variable {s u : State} {t : TId}

theorem State.SameTrack.refl (s : State) : s.SameTrack s := ⟨rfl, rfl, rfl, rfl, rfl, rfl⟩

theorem State.SameTrack.trans {m : State} (h : s.SameTrack m) (h' : m.SameTrack u) : s.SameTrack u :=
  ⟨h'.sections.trans h.sections, h'.points.trans h.points, h'.lines.trans h.lines, h'.site.trans h.site,
    h'.cmdQueue.trans h.cmdQueue, h'.units.trans h.units⟩

theorem State.Evaluated.sameTrack {ts : List TId} (h : s.Evaluated u ts) : s.SameTrack u := by
  refine ⟨?_, ?_, ?_, ?_, ?_, ?_⟩ <;> rw [h.only]

theorem State.SameTrack.sec (h : s.SameTrack u) (n : Nat) : u.sec? n = s.sec? n := by rw [State.sec?, h.sections]; rfl
theorem State.SameTrack.pointOf (h : s.SameTrack u) (n : Nat) : u.pointOf n = s.pointOf n := by rw [State.pointOf, h.points]; rfl
theorem State.SameTrack.point (h : s.SameTrack u) (n : Nat) : u.point? n = s.point? n := by rw [State.point?, h.points]; rfl
theorem State.SameTrack.holdBy (h : s.SameTrack u) : u.holdBy = s.holdBy := State.holdBy_congr h.sections

theorem State.SameTrack.outstanding (h : s.SameTrack u) (p : Nat) : u.outstanding p = s.outstanding p := by
  simp only [State.outstanding, State.queuedThrow, h.cmdQueue, h.point]

theorem State.SameTrack.entry (h : s.SameTrack u) (v : TId) (e : Entry) : u.available v e = s.available v e ∧
    u.inPosition e = s.inPosition e ∧ u.throwFor v e = s.throwFor v e := by
  have hzone : u.inStoppedZone = s.inStoppedZone := by
    funext z
    simp only [State.inStoppedZone, State.zoneStopped, h.lines, h.site]
  refine ⟨?_, ?_, ?_⟩
  · simp only [State.available, State.pointAvailable, h.sec, h.pointOf, hzone, h.outstanding]
  · simp only [State.inPosition, h.pointOf]
  · simp only [State.throwFor, h.pointOf, h.outstanding]

theorem State.SameTrack.offerOk (h : s.SameTrack u) (cs : List BusCmd) : u.offerOk cs = s.offerOk cs := by
  simp only [State.offerOk, h.cmdQueue, State.unit?, h.units, h.outstanding]

theorem State.SameTrack.unit (h : s.SameTrack u) (hr : (u.route t).entries = (s.route t).entries) :
    u.nextUnit t = s.nextUnit t ∧ u.ungranted t = s.ungranted t ∧ u.settingRun t = s.settingRun t ∧ u.tail t = s.tail t ∧
    u.grantedRun t = s.grantedRun t ∧ u.pendingRun t = s.pendingRun t := by
  have hgroup : u.groupOf = s.groupOf := by
    funext e
    simp only [State.groupOf, h.sec]
  refine ⟨?_, ?_, ?_, ?_, ?_, ?_⟩
  · simp only [State.nextUnit, hr, h.holdBy, hgroup]
  · simp only [State.ungranted, hr, h.holdBy]
  · simp only [State.settingRun, State.run, hr, h.holdBy]
  · simp only [State.tail, hr, h.holdBy]
  · simp only [State.grantedRun, State.run, hr, h.holdBy]
  · simp only [State.pendingRun, State.run, hr, h.holdBy]

end

end Sys2Proof.Machine

/-! PROOFS. The units of a prefix grant as one run. -/

namespace Sys2Proof.Machine

/-! ## Evaluations in a row -/

theorem Transporter.evaluated_evaluated (x : Transporter) (c : StopSet) (b : Bool) :
    (x.evaluated c b).evaluated c b = x.evaluated c b := by
  by_cases hx : x.state = .offline
  · have h : x.evaluated c b = x := if_pos (.inl hx)
    rw [h, h]
  · exact if_pos (.inr (Transporter.evaluated_ne_offline hx c b).2)

/-- Where the stop causes are those present, an evaluation changes nothing of t. -/
theorem State.Evaluated.idle {z u : State} {t : TId} (h : z.Evaluated u [t])
    (hc : (z.tr t).state = .offline ∨ (z.tr t).stop = z.stopCauses t) : u.tr t = z.tr t ∧ z.Told u [] ∧
      (z.AuthCurrent t → u.AuthCurrent t) ∧ (u.tl t).auth = (z.tl t).auth ∧ u.ceilings[t] = z.ceilings[t] := by
  have hrec := h.record t (List.mem_singleton_self _)
  rw [Transporter.evaluated, if_pos hc] at hrec
  have hnone : z.evaluationNotice t = [] := by
    unfold State.evaluationNotice
    rcases hc with hc | hc
    · simp [hc]
    · rw [if_pos hc]
  have hno : ¬ z.evaluationAuth t := by
    rintro ⟨h1, h2⟩
    rcases hc with hc | hc
    · simp [hc] at h2
    · exact h1 hc
  have htold := h.notices
  rw [List.flatMap_singleton, hnone] at htold
  obtain ⟨ha, hce⟩ := h.quiet t (List.mem_singleton_self _) hno
  refine ⟨hrec, htold, fun hcur => ?_, ha, hce⟩
  have hsame : z.SameForAuth u t := by
    refine ⟨hrec, ?_, fun n => ?_, ?_, ?_, ?_⟩ <;> rw [h.only] <;> rfl
  exact hsame.authCurrent hcur ha hce

/-- Sections taken between two evaluations that find the same causes: one evaluation after both. -/
theorem State.Evaluated.after_taken {z1 m1 z2 m2 : State} {t : TId} {es : List Entry} (h1 : z1.Evaluated m1 [t])
    (h2 : m1.RunTaken z2 t false es) (hc : z2.stopCauses t = z1.stopCauses t) (h3 : z2.Evaluated m2 [t]) :
    State.Evaluated { z1 with sections := z2.sections, points := z2.points } m2 [t] := by
  obtain ⟨z, hz⟩ : ∃ z, z = { z1 with sections := z2.sections, points := z2.points } := ⟨_, rfl⟩
  have h1only := h1.only
  have h2only := h2.only
  have hztr : ∀ v, z.tr v = z1.tr v := fun v => by rw [hz]; rfl
  have hzroute : ∀ v, z.route v = z1.route v := fun v => by rw [hz]; rfl
  have hztl : ∀ v, z.tl v = z1.tl v := fun v => by rw [hz]; rfl
  have hz2tr : ∀ v, z2.tr v = m1.tr v := fun v => by rw [h2only]; rfl
  have hz2tl : ∀ v, z2.tl v = m1.tl v := fun v => by rw [h2only]; rfl
  have hz2all : z2 = { z with trs := z2.trs, tls := z2.tls, ceilings := z2.ceilings, opss := z2.opss } := by
    rw [h2only, hz, h1only, h2only]
  have hzc : z.stopCauses t = z1.stopCauses t := by
    rw [← hc, hz2all]
    exact (congrFun (State.stopCauses_eq rfl rfl rfl rfl rfl) t).symm
  have hrec1 := h1.record t (List.mem_singleton_self _)
  have hidle : (z2.tr t).state = .offline ∨ (z2.tr t).stop = z2.stopCauses t := by
    rw [hz2tr, hrec1, hc]
    by_cases hx : (z1.tr t).state = .offline
    · exact .inl (by rw [Transporter.evaluated, if_pos (.inl hx)]; exact hx)
    · exact .inr (Transporter.evaluated_ne_offline hx _ _).2
  obtain ⟨i1, i2, i3, i4, i5⟩ := h3.idle hidle
  have hzauth : z.evaluationAuth t ↔ z1.evaluationAuth t := by rw [State.evaluationAuth, hztr, hzc]; rfl
  have hznotice : z.evaluationNotice t = z1.evaluationNotice t := by rw [State.evaluationNotice, hztr, hzc, hzroute]; rfl
  rw [← hz]
  exact {
    only := by
      rw [h3.only, hz2all]
    others := fun v hv => by
      obtain ⟨a1, a2, a3, a4, a5⟩ := h3.others v hv
      obtain ⟨b1, b2, b3, b4, b5⟩ := h1.others v hv
      have hr : z2.route v = m1.route v := by rw [h2only]; rfl
      refine ⟨a1.trans ((hz2tr v).trans (b1.trans (hztr v).symm)), a2.trans (hr.trans (b2.trans (hzroute v).symm)),
        a3.trans ((hz2tl v).trans (b3.trans (hztl v).symm)), a4.trans ?_, a5.trans ?_⟩
      · rw [h2only, hz]
        exact b4
      · rw [h2only, hz]
        exact b5
    record := fun v hv => by
      obtain rfl := List.mem_singleton.mp hv
      rw [i1, hz2tr, hrec1, hztr, hzc, hz]
      rfl
    port := fun v => by
      have a : m2.tl v = { z2.tl v with auth := (m2.tl v).auth } := h3.port v
      have b : m1.tl v = { z1.tl v with auth := (m1.tl v).auth } := h1.port v
      rw [State.OnlyAuth, hztl]
      rw [hz2tl, b] at a
      exact a
    auth := fun v hv ha => by
      obtain rfl := List.mem_singleton.mp hv
      refine i3 ?_
      have hcur := h1.auth v (List.mem_singleton_self _) (hzauth.mp ha)
      have hsame : m1.SameForAuth z2 v := by
        refine ⟨hz2tr v, by rw [h2only]; rfl, fun n => ?_, by rw [h2only], by rw [h2only], by rw [h2only]⟩
        rw [h2.sections, Option.map_map]
        rfl
      exact hsame.authCurrent hcur (by rw [hz2tl]) (by rw [h2only])
    quiet := fun v hv ha => by
      obtain rfl := List.mem_singleton.mp hv
      obtain ⟨q1, q2⟩ := h1.quiet v (List.mem_singleton_self _) fun h => ha (hzauth.mpr h)
      rw [i4, i5, hz2tl, hztl]
      refine ⟨q1, ?_⟩
      rw [h2only, hz]
      exact q2
    notices := by
      have hn := h1.notices
      have hclock : z.clock = z1.clock := by rw [hz]
      have hopss : m2.opss = m1.opss := by rw [State.Told.opss_nil i2, h2only]
      have hport : ∀ k, z.opsPort k = z1.opsPort k := fun k => by rw [hz]; rfl
      intro k
      rw [State.opsPort, hopss, List.flatMap_singleton, hznotice, hclock, hport]
      have hk := hn k
      rw [List.flatMap_singleton] at hk
      exact hk }

/-! ## The run granted -/

/-- Between s and m the entries es of t's record were GRANTED, and t's stop causes evaluated where there are any. -/
structure State.RunGranted (s m : State) (t : TId) (es : List Entry) : Prop where
  ground : m.ground = s.ground
  idle : es = [] → m = s
  taken : es ≠ [] → ∃ z, s.RunTaken z t false es ∧ z.Evaluated m [t] ∧ z.stopCauses t = s.stopCauses t

theorem State.RunTaken.trans {s z m w : State} {t : TId} {b : Bool} {es fs : List Entry} (h : s.RunTaken z t b es)
    (hm : m.sections = z.sections ∧ m.points = z.points) (hground : m.ground = s.ground) (h' : m.RunTaken w t b fs) :
    s.RunTaken { s with sections := w.sections, points := w.points } t b (es ++ fs) := by
  have hsec : ∀ n, m.sec? n = z.sec? n := fun n => by rw [State.sec?, hm.1]; rfl
  have hpoint : ∀ n, m.point? n = z.point? n := fun n => by rw [State.point?, hm.2]; rfl
  refine ⟨rfl, ?_, fun n => (h'.sections n).trans ?_, fun p => (h'.points p).trans ?_⟩
  · have hw := h'.ground
    have h1 : w.ground.sections = s.ground.sections := by rw [hw, hground]
    have h2 : w.ground.points = s.ground.points := by rw [hw, hground]
    exact congrArg₂ (fun a b => ({ s.ground with sections := a, points := b } : State)) h1 h2
  · rw [hsec, h.sections, Option.map_map]
    refine Option.map_congr fun x _ => ?_
    simp only [Function.comp_apply, List.map_append, List.mem_append]
    by_cases hn : n ∈ fs.map (·.sec)
    · simp only [hn, or_true, if_true]
    · simp only [hn, or_false, if_false]
  · rw [hpoint, h.points, Option.map_map]
    refine Option.map_congr fun x _ => ?_
    simp only [State.pointOf_of_ground hground, List.mem_append, or_and_right, exists_or, Function.comp_apply]
    by_cases hp : ∃ e ∈ fs, (s.pointOf e.sec).map (·.1) = some p
    · simp only [hp, or_true, if_true]
    · simp only [hp, or_false, if_false]

theorem State.RunGranted.cons {s z m1 m : State} {t : TId} {es fs : List Entry} (hwf : Table.wf s.sections = true)
    (hne : es ≠ []) (hav : ∀ e ∈ es, s.available t e = true) (h : s.RunTaken z t false es) (heval : z.Evaluated m1 [t])
    (hground : m1.ground = s.ground) (h' : m1.RunGranted m t fs) :
    s.RunGranted m t (es ++ fs) := by
  refine ⟨h'.ground.trans hground, fun hnil => absurd (List.append_eq_nil_iff.mp hnil).1 hne, fun _ => ?_⟩
  have hc1 := h.stopCauses hwf hav t
  by_cases hfs : fs = []
  · rw [h'.idle hfs, hfs, List.append_nil]
    exact ⟨z, h, heval, hc1⟩
  · obtain ⟨w, hw, hweval, hwc⟩ := h'.taken hfs
    have hmsec : m1.sections = z.sections ∧ m1.points = z.points := ⟨by rw [heval.only], by rw [heval.only]⟩
    have hmc : m1.stopCauses t = z.stopCauses t := by
      rw [heval.only]
      exact congrFun (State.stopCauses_eq rfl rfl rfl rfl rfl) t
    have hall := h.trans hmsec hground hw
    have hone := heval.after_taken hw (hwc.trans hmc) hweval
    have hz : ({ z with sections := w.sections, points := w.points } : State) = { s with sections := w.sections, points := w.points } := by
      rw [h.only]
    rw [hz] at hone
    refine ⟨_, hall, hone, ?_⟩
    have hsame : State.stopCauses { s with sections := w.sections, points := w.points } t = w.stopCauses t := by
      have hwo : w = { s with
          sections := w.sections, points := w.points, trs := w.trs, tls := w.tls, ceilings := w.ceilings
          opss := w.opss } := by rw [hw.only, heval.only, h.only]
      rw [hwo]
      exact congrFun (State.stopCauses_eq rfl rfl rfl rfl rfl) t
    rw [hsame, hwc, hmc, hc1]

/-- The units granted, as one run: what holds of its entries before and after. -/
structure State.GrantRun (s m : State) (t : TId) (es : List Entry) : Prop where
  run : s.RunGranted m t es
  available : ∀ e ∈ es, s.available t e = true ∧ s.inPosition e = true
  order : es.Sublist (s.ungranted t)
  front : ∀ e ∈ es, e ∈ (s.route t).entries.takeWhile fun e => decide (m.holdBy t e.sec = some .granted)

theorem State.RunGranted.holdBy {s m : State} {t : TId} {es : List Entry} (h : s.RunGranted m t es)
    (hsome : ∀ e ∈ es, (s.sec? e.sec).isSome) (n : Nat) :
    m.holdBy t n = if n ∈ es.map (·.sec) then some .granted else s.holdBy t n := by
  by_cases hes : es = []
  · rw [h.idle hes, hes]
    simp
  · obtain ⟨z, hz, heval, -⟩ := h.taken hes
    rw [heval.holdBy, hz.holdBy]
    by_cases hn : n ∈ es.map (·.sec)
    · obtain ⟨e, he, rfl⟩ := List.mem_map.mp hn
      rw [if_pos ⟨hn, hsome e he⟩, if_pos hn, if_pos rfl]
    · rw [if_neg fun hc => hn hc.1, if_neg hn]

theorem State.RunGranted.route {s m : State} {t : TId} {es : List Entry} (h : s.RunGranted m t es) (v : TId) :
    m.route v = s.route v := by
  by_cases hes : es = []
  · rw [h.idle hes]
  · obtain ⟨z, hz, heval, -⟩ := h.taken hes
    rw [heval.only, hz.only]
    rfl

theorem State.isSome_of_available {s : State} {t : TId} {e : Entry} (h : s.available t e = true) : (s.sec? e.sec).isSome := by
  obtain ⟨x, hx, -⟩ := State.sec_of_available h
  rw [hx]
  rfl

theorem State.not_granted_of_available {s : State} {t : TId} {e : Entry} (h : s.available t e = true) :
    s.holdBy t e.sec ≠ some .granted := by
  obtain ⟨x, hx, hh, -⟩ := State.sec_of_available h
  rw [State.holdBy_eq, hx, Option.bind_some]
  rcases hh with hh | ⟨k, hk, ht, hs⟩
  · rw [hh]
    exact nofun
  · rw [hk, Option.bind_some, if_pos ht, hs]
    exact nofun

theorem takeWhile_mono {α : Type} {p q : α → Bool} (h : ∀ x, p x = true → q x = true) : ∀ {l : List α} {x : α},
    x ∈ l.takeWhile p → x ∈ l.takeWhile q
  | [], _, hx => hx
  | a :: l, x, hx => by
    by_cases hp : p a = true
    · rw [List.takeWhile_cons_of_pos hp] at hx
      rw [List.takeWhile_cons_of_pos (h a hp)]
      rcases List.mem_cons.mp hx with rfl | hx
      · exact List.mem_cons_self
      · exact List.mem_cons_of_mem _ (takeWhile_mono h hx)
    · rw [List.takeWhile_cons_of_neg hp] at hx
      exact absurd hx List.not_mem_nil

/-- A list's beginning whose items all pass is passed over. -/
theorem dropWhile_append_of_all {α : Type} {p : α → Bool} {l r : List α} (h : ∀ x ∈ l, p x = true) :
    (l ++ r).dropWhile p = r.dropWhile p := by
  induction l with
  | nil => rfl
  | cons a l ih =>
    rw [List.cons_append, List.dropWhile_cons_of_pos (h a List.mem_cons_self)]
    exact ih fun x hx => h x (List.mem_cons_of_mem _ hx)

theorem mem_takeWhile_append_of_all {α : Type} {p : α → Bool} {l r : List α} (h : ∀ x ∈ l, p x = true) {x : α} (hx : x ∈ l) :
    x ∈ (l ++ r).takeWhile p := by
  rw [List.takeWhile_append_of_pos h]
  exact List.mem_append_left _ hx

theorem State.UnitsGranted.grantRun {t : TId} : ∀ {us : List (List Entry)} {s m : State}, Table.wf s.sections = true →
    Table.wf s.points = true → State.UnitsGranted t us s m → s.GrantRun m t us.flatten
  | [], s, m, _, _, h => by
    obtain rfl : m = s := h
    exact ⟨⟨rfl, fun _ => rfl, fun h => absurd rfl h⟩, fun _ h => absurd h List.not_mem_nil, List.nil_sublist _,
      fun _ h => absurd h List.not_mem_nil⟩
  | es :: us, s, m, hwf, hpwf, h => by
    obtain ⟨hunit, hne, hav, hpos, z, m1, htaken, heval, hground, hrest⟩ := h
    have hwf1 : Table.wf m1.sections = true := (State.sections_wf_of_ground hground).trans hwf
    have hpwf1 : Table.wf m1.points = true := (State.points_wf_of_ground hground).trans hpwf
    have ih := State.UnitsGranted.grantRun hwf1 hpwf1 hrest
    have htrack := heval.sameTrack
    have hsome : ∀ e ∈ es, (s.sec? e.sec).isSome := fun e he => State.isSome_of_available (hav e he)
    have hgrant : ∀ n, s.holdBy t n = some .granted ∨ n ∈ es.map (·.sec) → m1.holdBy t n = some .granted := fun n hn => by
      rw [htrack.holdBy]
      exact htaken.granted hsome hn
    have hroute1 : m1.route t = s.route t := by rw [heval.only, htaken.only]; rfl
    have hdiff : ∀ e ∈ us.flatten, e.sec ∉ es.map (·.sec) := fun e he hmem =>
      State.not_granted_of_available (ih.available e he).1 (hgrant _ (.inr hmem))
    have hkeep : ∀ n, m1.holdBy t n = some .granted → m.holdBy t n = some .granted := fun n hn => by
      rw [ih.run.holdBy fun e he => State.isSome_of_available (ih.available e he).1]
      split
      · rfl
      · exact hn
    obtain ⟨rest, hrest'⟩ := s.nextUnit_prefix t
    rw [hunit] at hrest'
    have hsplit : (s.route t).entries = ((s.route t).entries.takeWhile fun e => decide (s.holdBy t e.sec = some .granted)) ++ es ++ rest := by
      rw [List.append_assoc, hrest']
      exact List.takeWhile_append_dropWhile.symm
    have hall : ∀ e ∈ ((s.route t).entries.takeWhile fun e => decide (s.holdBy t e.sec = some .granted)) ++ es,
        decide (m1.holdBy t e.sec = some .granted) = true := fun e he => by
      refine decide_eq_true (hgrant _ ((List.mem_append.mp he).imp (fun h => ?_) fun h => List.mem_map_of_mem h))
      simpa using List.mem_takeWhile_imp h
    have hlater : m1.ungranted t = rest.dropWhile fun e => decide (m1.holdBy t e.sec = some .granted) := by
      unfold State.ungranted
      rw [hroute1, hsplit]
      exact dropWhile_append_of_all hall
    rw [List.flatten_cons]
    exact {
      run := .cons hwf hne hav htaken heval hground ih.run
      available := fun e he => by
        rcases List.mem_append.mp he with he | he
        · exact ⟨hav e he, hpos e he⟩
        · obtain ⟨h1, h2⟩ := ih.available e he
          obtain ⟨k1, k2, -⟩ := htrack.entry t e
          obtain ⟨j1, j2, -⟩ := htaken.entry_other hpwf (hdiff e he) t
          exact ⟨j1 ▸ k1 ▸ h1, j2 ▸ k2 ▸ h2⟩
      order := by
        rw [← hrest']
        refine List.Sublist.append_left (ih.order.trans ?_) es
        rw [hlater]
        exact List.dropWhile_sublist _
      front := fun e he => by
        rcases List.mem_append.mp he with he | he
        · refine takeWhile_mono (fun x hx => decide_eq_true (hkeep _ (of_decide_eq_true hx))) (?_ : e ∈ _)
          rw [hsplit]
          exact mem_takeWhile_append_of_all hall (List.mem_append_right _ he)
        · have := ih.front e he
          rw [hroute1] at this
          exact this }

end Sys2Proof.Machine

/-! PROOFS. How a prefix grant ends, and that it stops where the rules stop it (R48 to R53). -/

namespace Sys2Proof.Machine

/-! ## Entries of a record -/

theorem filter_mem_of_sublist {l es : List Entry} (hsub : es.Sublist l) (hnodup : (l.map (·.sec)).Nodup) :
    (l.filter fun e => decide (e.sec ∈ es.map (·.sec))) = es := by
  induction hsub with
  | slnil => rfl
  | cons a h ih =>
    rw [List.map_cons, List.nodup_cons] at hnodup
    rw [List.filter_cons_of_neg, ih hnodup.2]
    exact fun hc => hnodup.1 ((h.map _).subset (of_decide_eq_true hc))
  | @cons_cons l1 l2 a h ih =>
    rw [List.map_cons, List.nodup_cons] at hnodup
    rw [List.filter_cons_of_pos (by simp)]
    refine congrArg (a :: ·) ?_
    rw [← ih hnodup.2]
    refine List.filter_congr fun e he => ?_
    have hne : e.sec ≠ a.sec := fun hc => hnodup.1 (hc ▸ List.mem_map_of_mem he)
    simp only [List.map_cons, List.mem_cons, hne, false_or, ih hnodup.2]

/-! ## Throws queued with a reservation (R52) -/

theorem throwFunc_blade (b : Blade) : b.throwFunc.blade = some b := by cases b <;> rfl

section
variable {s : State} {t : TId}

theorem State.throwFor_eq_some {e : Entry} {c : BusCmd} : s.throwFor t e = some c ↔ ∃ p x, s.pointOf e.sec = some (p, x) ∧
    s.inPosition e = false ∧ s.outstanding p = none ∧ c = ⟨(requiredBlade e.ent e.ext).throwFunc, x.addr, p, .tr t⟩ := by
  unfold State.throwFor State.inPosition
  cases hp : s.pointOf e.sec with
  | none => simp
  | some q =>
    obtain ⟨p, x⟩ := q
    by_cases hc : x.pos = (requiredBlade e.ent e.ext).pos ∨ (s.outstanding p).isSome
    · simp only [if_pos hc, Option.some.injEq, reduceCtorEq, false_iff]
      rintro ⟨p', x', heq, hpos, hout, -⟩
      cases heq
      rcases hc with h | h
      · exact of_decide_eq_false hpos h
      · rw [hout] at h
        exact nomatch h
    · simp only [if_neg hc, Option.some.injEq]
      constructor
      · rintro rfl
        exact ⟨p, x, rfl, decide_eq_false fun h => hc (.inl h), by
          rw [← Option.not_isSome_iff_eq_none]
          exact fun h => hc (.inr h), rfl⟩
      · rintro ⟨p', x', heq, -, -, rfl⟩
        cases heq
        rfl

/-- The throws of several entries are for their points, t's own, each toward what its entry requires. -/
theorem State.mem_throws {es : List Entry} {c : BusCmd} (h : c ∈ es.filterMap (s.throwFor t)) : ∃ e ∈ es, ∃ x,
    s.pointOf e.sec = some (c.entity, x) ∧ s.inPosition e = false ∧ s.outstanding c.entity = none ∧
    c.func.blade = some (requiredBlade e.ent e.ext) ∧ c.req = .tr t := by
  obtain ⟨e, he, hc⟩ := List.mem_filterMap.mp h
  obtain ⟨p, x, hp, hpos, hout, rfl⟩ := State.throwFor_eq_some.mp hc
  exact ⟨e, he, x, hp, hpos, hout, throwFunc_blade _, rfl⟩

end

section
variable {s z u : State} {t : TId} {es : List Entry}

theorem State.UnitReserved.pointOf (h : s.UnitReserved z t es) (n : Nat) : z.pointOf n = s.pointOf n := by rw [h.only]; rfl

/-- The throws outstanding after a reservation: those of the unit's points out of position, and those before. -/
theorem State.UnitReserved.outstanding (h : s.UnitReserved z t es) (p : Nat) : z.outstanding p =
    match (es.filterMap (s.throwFor t)).find? fun c => decide (c.entity = p) with
    | some c => some (c.req, (c.func.blade).getD .normal)
    | none => s.outstanding p := by
  have hqueue : z.cmdQueue = s.cmdQueue ++ es.filterMap (s.throwFor t) := by rw [h.only]
  have hpoint : z.point? p = s.point? p := by rw [h.only]; rfl
  have hfind : ((es.filterMap (s.throwFor t)).find? fun c => c.func.blade.isSome && decide (c.entity = p)) =
      (es.filterMap (s.throwFor t)).find? fun c => decide (c.entity = p) := by
    generalize hl : es.filterMap (s.throwFor t) = l
    have hall : ∀ c ∈ l, c.func.blade.isSome = true := fun c hc => by
      obtain ⟨e, -, x, -, -, -, hb, -⟩ := State.mem_throws (hl ▸ hc)
      rw [hb]
      rfl
    clear hl
    induction l with
    | nil => rfl
    | cons c l ih =>
      simp only [List.find?_cons, hall c List.mem_cons_self, Bool.true_and]
      rw [ih fun d hd => hall d (List.mem_cons_of_mem _ hd)]
  have hq : z.queuedThrow p = (s.queuedThrow p).or ((es.filterMap (s.throwFor t)).find? fun c => decide (c.entity = p)) := by
    rw [State.queuedThrow, hqueue, List.find?_append, hfind]
    rfl
  unfold State.outstanding
  rw [hq, hpoint]
  cases hc : (es.filterMap (s.throwFor t)).find? fun c => decide (c.entity = p) with
  | none =>
    rw [Option.or_none]
  | some c =>
    obtain ⟨e, -, x, -, -, hout, hb, -⟩ := State.mem_throws (List.mem_of_find?_eq_some hc)
    have hentity : c.entity = p := by simpa using List.find?_some hc
    have hnone : s.queuedThrow p = none := by
      cases hsq : s.queuedThrow p with
      | none => rfl
      | some d =>
        rw [hentity, State.outstanding, hsq] at hout
        have hblade : d.func.blade.isSome = true := by
          have := List.find?_some hsq
          simp only [Bool.and_eq_true] at this
          exact this.1
        obtain ⟨b, hb'⟩ := Option.isSome_iff_exists.mp hblade
        simp only [hb'] at hout
        exact nomatch hout
    rw [hnone, Option.none_or]
    dsimp only
    rw [hb]
    rfl

/-- The unit's own points: out of position, t's throw toward the position is outstanding after the reservation. -/
theorem State.UnitReserved.outstanding_own (h : s.UnitReserved z t es) (hwf : Table.wf s.points = true)
    (hnodup : (es.map (·.sec)).Nodup) (hav : ∀ e ∈ es, s.available t e = true) {e : Entry} (he : e ∈ es) {p : Nat} {x : Point}
    (hp : s.pointOf e.sec = some (p, x)) : z.outstanding p =
      if s.inPosition e = false then some (.tr t, requiredBlade e.ent e.ext) else s.outstanding p := by
  have hkey : (s.pointOf e.sec).map (·.1) = some p := by rw [hp]; rfl
  have hsame : ∀ c ∈ es.filterMap (s.throwFor t), c.entity = p → s.inPosition e = false ∧ s.outstanding p = none ∧
      c.func.blade = some (requiredBlade e.ent e.ext) ∧ c.req = .tr t := fun c hc hcp => by
    obtain ⟨f, hf, y, hy, hpos, hout, hb, hreq⟩ := State.mem_throws hc
    have hfe : f = e := List.inj_on_of_nodup_map hnodup hf he
      (State.sec_of_pointOf hwf (by rw [hy, Option.map_some, hcp]) hkey)
    subst hfe
    exact ⟨hpos, hcp ▸ hout, hb, hreq⟩
  rw [h.outstanding]
  cases hc : (es.filterMap (s.throwFor t)).find? fun c => decide (c.entity = p) with
  | some c =>
    obtain ⟨hpos, -, hb, hreq⟩ := hsame c (List.mem_of_find?_eq_some hc) (by simpa using List.find?_some hc)
    dsimp only
    rw [if_pos hpos, hb, hreq]
    rfl
  | none =>
    dsimp only
    by_cases hpos : s.inPosition e = false
    · rw [if_pos hpos]
      cases hout : s.outstanding p with
      | none =>
        have hthrow : s.throwFor t e = some ⟨(requiredBlade e.ent e.ext).throwFunc, x.addr, p, .tr t⟩ :=
          State.throwFor_eq_some.mpr ⟨p, x, hp, hpos, hout, rfl⟩
        have hno := List.find?_eq_none.mp hc _ (List.mem_filterMap.mpr ⟨e, he, hthrow⟩)
        exact absurd (decide_eq_true rfl) hno
      | some q =>
        obtain ⟨y, -, -, -, -, hpa⟩ := State.sec_of_available (hav e he)
        unfold State.pointAvailable at hpa
        simp only [hp, hout, Bool.and_eq_true, decide_eq_true_eq] at hpa
        obtain ⟨-, h1, h2⟩ := hpa
        exact congrArg some (Prod.ext h1 h2)
    · rw [if_neg hpos]

/-- Points that are none of the unit's keep the throws outstanding for them. -/
theorem State.UnitReserved.outstanding_other (h : s.UnitReserved z t es) {p : Nat}
    (hp : ∀ e ∈ es, (s.pointOf e.sec).map (·.1) ≠ some p) : z.outstanding p = s.outstanding p := by
  rw [h.outstanding]
  cases hc : (es.filterMap (s.throwFor t)).find? fun c => decide (c.entity = p) with
  | none => rfl
  | some c =>
    obtain ⟨e, he, x, hx, -⟩ := State.mem_throws (List.mem_of_find?_eq_some hc)
    have hcp : c.entity = p := by simpa using List.find?_some hc
    exact absurd (by rw [hx, Option.map_some, hcp]) (hp e he)

end

/-! ## What the end leaves -/

section
variable {s u : State} {t : TId}

theorem State.sec_of_drop (hd : u = s.dropSetting t) (n : Nat) : u.sec? n = (s.sec? n).map fun x =>
    { x with hold := if s.holdBy t n = some .setting ∧ s.inRecord t n then none else x.hold } := by
  rw [hd]
  exact s.dropSetting_frame t |>.1 n

end

end Sys2Proof.Machine

/-! PROOFS. The acts that every command is made of, with what each may change: the language in which the invariants of
every step (R38, R39, R59, R103, R121, R122, R147, R183) and the safety of holds (R49, R68) are proved. A command is read
as a sequence of acts once; each invariant is then a question about one act. -/

namespace Sys2Proof.Machine

/-! ## What the acts speak of -/

/-- The part of a transporter's record that its state and its causes make. -/
def Transporter.duty (x : Transporter) : TState × StopSet × TripSet := (x.state, x.stop, x.trips)

/-- Nobody holds section n. -/
def State.Unheld (s : State) (n : Nat) : Prop := (s.sec? n).bind (·.hold) = none

/-- The site runs, or t waits, is in service or has a transfer: what an idle site has nothing of (R183). -/
def State.Busy (s : State) (t : TId) : Prop :=
  s.site = .running ∨ s.isWaiting t = true ∨ (s.tr t).state ≠ .offline ∨ s.transfers[t] ≠ none

/-- Trip causes exactly in TRIPPED, a transfer record exactly in TRANSFER (R115, R147). -/
def State.MatchedAt (s : State) (t : TId) : Prop :=
  ((s.tr t).state = .tripped ↔ (s.tr t).trips ≠ .empty) ∧ ((s.tr t).state = .transfer ↔ s.transfers[t] ≠ none)

/-- AUTHORISED has no stop cause, HELD has some (R122). -/
def State.StandsAt (s : State) (t : TId) : Prop :=
  ((s.tr t).state = .authorised → (s.tr t).stop = .empty) ∧ ((s.tr t).state = .held → (s.tr t).stop ≠ .empty)

/-! ## What every act keeps -/

/-- Between s and u no queue of a port outgrew its size; frames stay where they wait, or are cleared with their port, and no
frame and no reply is new. -/
structure State.PortsKept (s u : State) : Prop where
  tls : ∀ t, (s.tl t).Bounded → (u.tl t).Bounded
  opss : ∀ l, (s.opsPort l).Bounded → (u.opsPort l).Bounded
  rx : ∀ l, (u.core l).rx = (s.core l).rx ∨ (u.core l).rx = []
  replies : ∀ o, (u.opsPort o).replies = (s.opsPort o).replies ∨
    (u.core (.ops o)).rx = [] ∧ (u.opsPort o).replies = []

/-- Between s and u no table lost its form, no parameter its range, no count its bound and no queue its size, and no reset
ended. -/
structure State.House (s u : State) : Prop where
  tables : s.TablesWf → u.TablesWf
  legal : s.params.Legal → u.params.Legal
  counts : s.BusCounts → u.BusCounts
  queue : s.cmdQueue.length ≤ Config.cmdCapacity → u.cmdQueue.length ≤ Config.cmdCapacity
  held : s.resetHold ≠ none → u.resetHold ≠ none
  ports : s.PortsKept u

/-- Between s and u no holder came or went, no detection or zone flag changed, no cause for all transporters came or
went, and nobody joined the queue. -/
structure State.Steady (s u : State) : Prop where
  site : u.site = s.site
  allStop : u.allStop = s.allStop
  wind : u.band.isHold = s.band.isHold
  zones : ∀ n, u.zoneStopped n = s.zoneStopped n
  holders : u.holders = s.holders
  firm : ∀ t n, s.heldFirm t n = true → u.heldFirm t n = true
  det : ∀ n, u.detOf n = s.detOf n
  waiting : (u.waiting.map (·.t)).Sublist (s.waiting.map (·.t))

/-- Steady, and no transporter's duty changed. -/
structure State.Calm (s u : State) : Prop extends s.Steady u where
  duty : ∀ t, (u.tr t).duty = (s.tr t).duty
  transfers : ∀ t : TId, (u.transfers[t]).isSome = (s.transfers[t]).isSome

/-- Steady, and the duty of t alone changed, with its transfer; t was in service, and stays matched and standing as its
state asks. -/
structure State.Posted (s u : State) (t : TId) : Prop extends s.Steady u where
  others : ∀ v, v ≠ t → (u.tr v).duty = (s.tr v).duty ∧ (u.transfers[v]).isSome = (s.transfers[v]).isSome
  busy : s.Busy t
  matched : s.MatchedAt t → u.MatchedAt t
  stands : s.StandsAt t → u.StandsAt t

/-! ## The acts -/

/-- The acts a command is made of. -/
inductive Kind where
  /-- Nothing that an invariant reads changes. -/
  | calm
  /-- The same, but the entries of a route are written anew (R44). -/
  | reroute
  /-- Frames, replies and bytes come and go at the ports. -/
  | port
  /-- A detection changes (R18, R21, R22). -/
  | sense
  /-- The state of t changes; its stop causes stay, or it is OFFLINE. -/
  | post (t : TId)
  /-- t comes into service, its stop causes not yet evaluated (R108, R118). -/
  | enlist (t : TId)
  /-- The stop causes of t are evaluated (R121). -/
  | evald (t : TId)
  /-- A section held SETTING by t returns to no holder (R58). -/
  | drop (t : TId)
  /-- A CLEAR section of t is released (R68). -/
  | rear (t : TId)
  /-- A section of t is released, CLEAR or not (R81, R118, R119, R120). -/
  | shed (t : TId)
  /-- An available section is GRANTED to t or held SETTING for it (R49, R51, R52). -/
  | take (t : TId)
  /-- A section that is seen taken becomes t's by JOIN (R106, R108). -/
  | join (t : TId)
  /-- A section of a kept run becomes GRANTED and entered (R118). -/
  | keep (t : TId)
  /-- t joins the pending queue (R59). -/
  | queue (t : TId)
  /-- ALL_STOP, the band or the stop lines change (R126, R134, R189). -/
  | flags
  /-- The survey ends (R185). -/
  | opened
  /-- Sections are defined (R1). -/
  | define
  /-- The runtime state is cleared (R185, R186). -/
  | wipe

/-- What an act of each kind does between s and u. -/
def Act : Kind → State → State → Prop
  | .calm, s, u => s.Calm u ∧ (s.RoutesRise → u.RoutesRise)
  | .reroute, s, u => s.Calm u
  | .port, s, u => u = { s with tls := u.tls, opss := u.opss }
  | .sense, s, u => ∃ n d c, u = s.modSec n fun x => { x with det := d, capture := c }
  | .post t, s, u => s.Posted u t ∧ (s.RoutesRise → u.RoutesRise) ∧
      ((u.tr t).stop = (s.tr t).stop ∨ (u.tr t).state = .offline)
  | .enlist t, s, u => s.Posted u t ∧ (s.RoutesRise → u.RoutesRise)
  | .evald t, s, u => u = s.evalStop t
  | .drop t, s, u => ∃ n, u = s.setHold n none ∧ (s.Unheld n ∨ s.holdBy t n = some .setting)
  | .rear t, s, u => ∃ n, u = s.setHold n none ∧ (s.Unheld n ∨ s.holdBy t n ≠ none ∧ s.detOf n = .clear)
  | .shed t, s, u => ∃ n, u = s.setHold n none ∧ (s.Unheld n ∨ s.holdBy t n ≠ none)
  | .take t, s, u => ∃ n k, u = s.setHold n (some ⟨t, k, false⟩) ∧ s.Busy t ∧ s.detOf n = .clear ∧
      (∀ x, s.sec? n = some x → s.inStoppedZone x.defn.zones = false) ∧
      (s.Unheld n ∨ s.holdBy t n = some .setting ∨ s.holdBy t n = some .granted ∧ k = .granted)
  | .join t, s, u => ∃ n, u = s.setHold n (some ⟨t, .granted, true⟩) ∧ s.Busy t ∧
      (s.detOf n = .occupied ∨ s.detOf n = .disturbed) ∧ (s.Unheld n ∨ s.holdBy t n = some .granted)
  | .keep t, s, u => ∃ n, u = s.setHold n (some ⟨t, .granted, true⟩) ∧ s.Busy t ∧ (s.Unheld n ∨ s.holdBy t n ≠ none)
  | .queue t, s, u => u = s.joinQueue t ∧ s.Busy t
  | .flags, s, u => u = { s with allStop := u.allStop, band := u.band, lines := u.lines }
  | .opened, s, u => u = { s with site := .running, lines := u.lines } ∧ s.site = .survey
  | .define, s, u => u = { s with sections := u.sections } ∧ s.site ≠ .running ∧
      ∀ p ∈ u.sections, p ∈ s.sections ∨ p.2.hold = none
  | .wipe, _, u => u.site ≠ .running ∧ (∀ t, (u.tr t).duty = (.offline, .empty, .empty)) ∧
      (∀ p ∈ u.sections, p.2.hold = none) ∧ (∀ t : TId, u.transfers[t] = none) ∧ u.waiting = [] ∧ u.RoutesRise

/-- The transporters whose stop causes may be out of date after an act, from those whose were before. -/
def Kind.after : Kind → (TId → Prop) → TId → Prop
  | .enlist t, D => fun v => D v ∨ v = t
  | .drop t, D => fun v => D v ∨ v = t
  | .rear t, D => fun v => D v ∨ v = t
  | .shed t, D => fun v => D v ∨ v = t
  | .take t, D => fun v => D v ∨ v = t
  | .join t, D => fun v => D v ∨ v = t
  | .keep t, D => fun v => D v ∨ v = t
  | .evald t, D => fun v => D v ∧ v ≠ t
  | .flags, _ => fun _ => True
  | _, D => D

/-- Which acts a command may be made of. -/
structure Scope where
  who : TId → Prop
  reroutes : Prop
  ports : Prop
  senses : Prop
  rears : Prop
  sheds : Prop
  takes : Prop
  joins : Prop
  keeps : Prop
  queues : Prop
  flags : Prop
  wipes : Prop

/-- An act lies within the scope. -/
def Scope.Allows (A : Scope) : Kind → Prop
  | .calm => True
  | .reroute => A.reroutes
  | .port => A.ports
  | .sense => A.senses
  | .post t => A.who t
  | .enlist t => A.who t
  | .evald t => A.who t
  | .drop t => A.who t
  | .rear t => A.who t ∧ A.rears
  | .shed t => A.who t ∧ A.sheds
  | .take t => A.who t ∧ A.takes
  | .join t => A.who t ∧ A.joins
  | .keep t => A.who t ∧ A.keeps
  | .queue t => A.who t ∧ A.queues
  | .flags => A.flags
  | .opened => A.flags
  | .define => A.wipes
  | .wipe => A.wipes

/-- From s, where the stop causes of the transporters in D may be out of date, acts within the scope lead to u, where those
of the transporters in D' may be. -/
inductive State.Does (A : Scope) : (TId → Prop) → State → (TId → Prop) → State → Prop
  | done {D D' : TId → Prop} {s : State} (h : ∀ t, D t → D' t) : State.Does A D s D' s
  | act {k : Kind} {D D' : TId → Prop} {s m u : State} (allowed : A.Allows k) (h : Act k s m) (house : k ≠ .port → s.House m)
      (rest : State.Does A (k.after D) m D' u) : State.Does A D s D' u

section
variable {A B : Scope} {D D' D'' : TId → Prop} {s m u : State}

theorem Kind.after_mono (k : Kind) (h : ∀ t, D t → D' t) (t : TId) : k.after D t → k.after D' t := by
  cases k
  case evald => exact fun hk => ⟨h _ hk.1, hk.2⟩
  case flags => exact id
  case calm | reroute | port | sense | post | queue | opened | define | wipe => exact h t
  all_goals exact fun hk => hk.imp_left (h _)

theorem State.Does.weaken (hd : s.Does A D' D'' u) : ∀ {D : TId → Prop}, (∀ t, D t → D' t) → s.Does A D D'' u := by
  induction hd with
  | done h' => exact fun h => .done fun t ht => h' t (h t ht)
  | act allowed ha house _ ih => exact fun h => .act allowed ha house (ih (Kind.after_mono _ h))

theorem State.Does.trans (h : s.Does A D D' m) (h' : m.Does A D' D'' u) : s.Does A D D'' u := by
  induction h with
  | done hd => exact h'.weaken hd
  | act allowed ha house _ ih => exact .act allowed ha house (ih h')

theorem State.Does.mono (hAB : ∀ k, A.Allows k → B.Allows k) (h : s.Does A D D' u) : s.Does B D D' u := by
  induction h with
  | done hd => exact .done hd
  | act allowed ha house _ ih => exact .act (hAB _ allowed) ha house ih

theorem State.Does.refl : s.Does A D D s := .done fun _ h => h

/-- One act that leaves no cause out of date that was not. -/
theorem State.Does.one {k : Kind} (hk : A.Allows k) (h : Act k s u) (hh : k ≠ .port → s.House u) : s.Does A D (k.after D) u :=
  .act hk h hh (.done fun _ h => h)

/-- The scope of the changes of detection alone, which come first in a command that makes any. -/
def Scope.sensing : Scope := ⟨fun _ => False, False, False, True, False, False, False, False, False, False, False, False⟩

/-- From s detection changed, and then, from there, acts within the scope led to u. -/
def State.Sensed (s : State) (A : Scope) (D : TId → Prop) (u : State) : Prop := ∃ m, s.Does .sensing D D m ∧ m.Does A D D u

theorem State.Does.sensed (h : s.Does A D D u) : s.Sensed A D u := ⟨s, .refl, h⟩

theorem State.Sensed.then (h : s.Sensed A D m) (h' : m.Does A D D u) : s.Sensed A D u := by
  obtain ⟨z, h1, h2⟩ := h
  exact ⟨z, h1, h2.trans h'⟩

theorem State.Sensed.does (hs : A.senses) (h : s.Sensed A D u) : s.Does A D D u := by
  obtain ⟨z, h1, h2⟩ := h
  refine (h1.mono fun k hk => ?_).trans h2
  cases k
  case calm => exact trivial
  case sense => exact hs
  case rear | shed | take | join | keep | queue => exact hk.1.elim
  all_goals exact hk.elim

theorem State.PortsKept.trans (h : s.PortsKept m) (h' : m.PortsKept u) : s.PortsKept u where
  tls t x := h'.tls t (h.tls t x)
  opss l x := h'.opss l (h.opss l x)
  rx l := (h'.rx l).elim (fun e => (h.rx l).imp e.trans e.trans) .inr
  replies o := by
    rcases h'.replies o with e | e
    · rcases h.replies o with f | ⟨f, g⟩
      · exact .inl (e.trans f)
      · exact .inr ⟨(h'.rx _).elim (fun r => r.trans f) id, e.trans g⟩
    · exact .inr e

/-- Where the ports are the same they are kept. -/
theorem State.PortsKept.same (htls : u.tls = s.tls) (hopss : u.opss = s.opss) : s.PortsKept u := by
  have htl : ∀ t, u.tl t = s.tl t := fun t => by rw [State.tl, htls]; rfl
  have hops : ∀ o, u.opsPort o = s.opsPort o := fun o => by rw [State.opsPort, hopss]; rfl
  refine ⟨fun t h => by rw [htl]; exact h, fun o h => by rw [hops]; exact h, fun l => .inl ?_, fun o => .inl (by rw [hops])⟩
  cases l with
  | tl t => exact congrArg (·.core.rx) (htl t)
  | ops o => exact congrArg (·.core.rx) (hops o)

theorem State.House.trans (h : s.House m) (h' : m.House u) : s.House u :=
  ⟨h'.tables ∘ h.tables, h'.legal ∘ h.legal, h'.counts ∘ h.counts, h'.queue ∘ h.queue, h'.held ∘ h.held, h.ports.trans h'.ports⟩

theorem State.House.refl : s.House s := ⟨id, id, id, id, id, .same rfl rfl⟩

/-- House is kept where nothing that it speaks of changed. -/
theorem State.House.same (h : u = { s with
    pending := u.pending, site := u.site, resetCause := u.resetCause, clock := u.clock, allStop := u.allStop
    transfers := u.transfers, trs := u.trs, routes := u.routes, ceilings := u.ceilings, waiting := u.waiting
    roomWait := u.roomWait, walkDue := u.walkDue, restoreList := u.restoreList, pollPos := u.pollPos
    exchange := u.exchange, padWaiters := u.padWaiters, lines := u.lines, band := u.band, gust := u.gust, mean := u.mean
    mastHold := u.mastHold }) : s.House u := by
  rw [h]
  exact ⟨id, id, id, id, id, .same rfl rfl⟩

/-- Where the scope has no port acts, every act keeps house. -/
theorem State.Does.house (hA : ¬ A.ports) (h : s.Does A D D' u) : s.House u := by
  induction h with
  | done => exact .refl
  | @act k _ _ _ _ _ allowed _ house _ ih =>
    refine (house ?_).trans ih
    rintro rfl
    exact hA allowed

end

/-! ## Light acts: calm ones that keep house -/

/-- Between s and u nothing changed that an invariant reads, and house was kept. -/
def State.Light (s u : State) : Prop := s.Calm u ∧ s.House u ∧ (s.RoutesRise → u.RoutesRise)

section
variable {A : Scope} {D : TId → Prop} {s m u : State}

theorem State.Light.calm (h : s.Light u) : s.Calm u := h.1

theorem State.Light.house (h : s.Light u) : s.House u := h.2.1

theorem State.Light.does (h : s.Light u) : s.Does A D D u :=
  .act (k := .calm) trivial ⟨h.1, h.2.2⟩ (fun _ => h.2.1) .refl

theorem State.Light.sensed {A : Scope} (h : s.Light m) (h' : m.Sensed A D u) : s.Sensed A D u := by
  obtain ⟨z, h1, h2⟩ := h'
  exact ⟨z, h.does.trans h1, h2⟩

theorem State.Steady.trans (h : s.Steady m) (h' : m.Steady u) : s.Steady u where
  site := h'.site.trans h.site
  allStop := h'.allStop.trans h.allStop
  wind := h'.wind.trans h.wind
  zones n := (h'.zones n).trans (h.zones n)
  holders := h'.holders.trans h.holders
  firm t n x := h'.firm t n (h.firm t n x)
  det n := (h'.det n).trans (h.det n)
  waiting := h'.waiting.trans h.waiting

theorem State.Calm.trans (h : s.Calm m) (h' : m.Calm u) : s.Calm u where
  toSteady := h.toSteady.trans h'.toSteady
  duty t := (h'.duty t).trans (h.duty t)
  transfers t := (h'.transfers t).trans (h.transfers t)

theorem State.Light.trans (h : s.Light m) (h' : m.Light u) : s.Light u := ⟨h.1.trans h'.1, h.2.1.trans h'.2.1, h'.2.2 ∘ h.2.2⟩

/-- What is not the track, the site, its flags and lines is steady where the queue and the records are. -/
theorem State.Steady.of (h : u = { s with
      pending := u.pending, resetCause := u.resetCause, resetHold := u.resetHold, clock := u.clock, params := u.params
      points := u.points, pads := u.pads, telescopes := u.telescopes, transfers := u.transfers, trs := u.trs
      routes := u.routes, ceilings := u.ceilings, waiting := u.waiting, roomWait := u.roomWait, walkDue := u.walkDue
      units := u.units, restoreList := u.restoreList, cmdQueue := u.cmdQueue, pollPos := u.pollPos, forced := u.forced
      exchange := u.exchange, padWaiters := u.padWaiters, gust := u.gust, mean := u.mean, mastHold := u.mastHold
      tls := u.tls, opss := u.opss })
    (waiting : (u.waiting.map (·.t)).Sublist (s.waiting.map (·.t))) : s.Steady u := by
  have hsec : u.sections = s.sections := by rw [h]
  have hsec? : ∀ n, u.sec? n = s.sec? n := fun n => by rw [State.sec?, hsec]; rfl
  refine ⟨by rw [h], by rw [h], by rw [h], fun n => ?_, ?_, fun t n hf => ?_, fun n => ?_, waiting⟩
  · rw [h]
    rfl
  · rw [State.holders, hsec]
    rfl
  · rw [← hf, State.heldFirm, State.heldFirm, State.holdBy, hsec?]
    rfl
  · rw [State.detOf, hsec?]
    rfl

/-- A light act leaves site, flags, lines and sections. -/
theorem State.Light.of (house : s.House u) (h : u = { s with
      pending := u.pending, resetCause := u.resetCause, resetHold := u.resetHold, clock := u.clock, params := u.params
      points := u.points, pads := u.pads, telescopes := u.telescopes, transfers := u.transfers, trs := u.trs
      routes := u.routes, ceilings := u.ceilings, waiting := u.waiting, roomWait := u.roomWait, walkDue := u.walkDue
      units := u.units, restoreList := u.restoreList, cmdQueue := u.cmdQueue, pollPos := u.pollPos, forced := u.forced
      exchange := u.exchange, padWaiters := u.padWaiters, gust := u.gust, mean := u.mean, mastHold := u.mastHold
      tls := u.tls, opss := u.opss })
    (duty : ∀ t, (u.tr t).duty = (s.tr t).duty) (transfers : ∀ t : TId, (u.transfers[t]).isSome = (s.transfers[t]).isSome)
    (waiting : (u.waiting.map (·.t)).Sublist (s.waiting.map (·.t))) (rises : s.RoutesRise → u.RoutesRise) : s.Light u :=
  ⟨⟨.of h waiting, duty, transfers⟩, house, rises⟩

/-- An act is light where it also leaves the transporters, their transfers and routes, and the pending queue. -/
theorem State.Light.plain (house : s.House u) (h : u = { s with
      pending := u.pending, resetCause := u.resetCause, resetHold := u.resetHold, clock := u.clock, params := u.params
      points := u.points, pads := u.pads, telescopes := u.telescopes, ceilings := u.ceilings, roomWait := u.roomWait
      walkDue := u.walkDue, units := u.units, restoreList := u.restoreList, cmdQueue := u.cmdQueue, pollPos := u.pollPos
      forced := u.forced, exchange := u.exchange, padWaiters := u.padWaiters, gust := u.gust, mean := u.mean
      mastHold := u.mastHold, tls := u.tls, opss := u.opss }) : s.Light u := by
  refine .of house ?_ (fun t => ?_) (fun t => ?_) ?_ fun hr => ?_
  · rw [h]
  · rw [h]
    rfl
  · rw [h]
  · rw [h]
  · rw [h]
    exact hr

/-- The state of t is written, to x, and its transfer, to y: t is in service, and both are as its state asks. -/
theorem State.Posted.of {t : TId} {x : Transporter} {y : Option Transfer} (busy : s.Busy t) (hx : u.trs = upd s.trs t fun _ => x)
    (hy : u.transfers = upd s.transfers t fun _ => y)
    (matched : s.MatchedAt t → (x.state = .tripped ↔ x.trips ≠ .empty) ∧ (x.state = .transfer ↔ y ≠ none))
    (stands : s.StandsAt t → (x.state = .authorised → x.stop = .empty) ∧ (x.state = .held → x.stop ≠ .empty))
    (h : u = { s with
      pending := u.pending, resetCause := u.resetCause, resetHold := u.resetHold, clock := u.clock, params := u.params
      points := u.points, pads := u.pads, telescopes := u.telescopes, transfers := u.transfers, trs := u.trs
      routes := u.routes, ceilings := u.ceilings, waiting := u.waiting, roomWait := u.roomWait, walkDue := u.walkDue
      units := u.units, restoreList := u.restoreList, cmdQueue := u.cmdQueue, pollPos := u.pollPos, forced := u.forced
      exchange := u.exchange, padWaiters := u.padWaiters, gust := u.gust, mean := u.mean, mastHold := u.mastHold
      tls := u.tls, opss := u.opss })
    (waiting : (u.waiting.map (·.t)).Sublist (s.waiting.map (·.t))) : s.Posted u t := by
  have htr : u.tr t = x := by
    rw [State.tr, hx]
    exact upd_get_self s.trs t _
  have htransfer : u.transfers[t] = y := by
    rw [hy]
    exact upd_get_self s.transfers t _
  refine ⟨.of h waiting, fun v hv => ⟨?_, ?_⟩, busy, fun hm => ?_, fun hst => ?_⟩
  · rw [State.tr, hx]
    exact congrArg Transporter.duty (upd_get_ne s.trs t v _ (Ne.symm hv))
  · rw [hy]
    exact congrArg Option.isSome (upd_get_ne s.transfers t v _ (Ne.symm hv))
  · unfold State.MatchedAt
    rw [htr, htransfer]
    exact matched hm
  · unfold State.StandsAt
    rw [htr]
    exact stands hst

end

end Sys2Proof.Machine

/-! PROOFS. The plain updates and the messages as light acts: they change nothing that an invariant reads. -/

namespace Sys2Proof.Machine

/-! ## Tables -/

section
variable {s : State}

theorem State.modPad_light (n : Nat) (f : Pad → Pad) : s.Light (s.modPad n f) :=
  .plain ⟨fun ⟨h1, h2, h3, h4, h5⟩ => ⟨h1, h2, (Table.wf_adjust ..).trans h3, h4, h5⟩, id, id, id, id, .same rfl rfl⟩ rfl

theorem State.modPoint_light (n : Nat) (f : Point → Point) : s.Light (s.modPoint n f) :=
  .plain ⟨fun ⟨h1, h2, h3, h4, h5⟩ => ⟨h1, (Table.wf_adjust ..).trans h2, h3, h4, h5⟩, id, id, id, id, .same rfl rfl⟩ rfl

theorem State.setLoc_light (k : Nat) (l : Location) : s.Light (s.setLoc k l) :=
  .plain ⟨fun ⟨h1, h2, h3, h4, h5⟩ => ⟨h1, h2, h3, h4, Table.wf_put h5 k l⟩, id, id, id, id, .same rfl rfl⟩ rfl

/-! ## Records of transporters and routes -/

/-- A change of a record that leaves state, stop causes and trip causes. -/
theorem State.modTr_light (t : TId) (f : Transporter → Transporter) (h : (f (s.tr t)).duty = (s.tr t).duty) :
    s.Light (s.modTr t f) :=
  .of (.same rfl) rfl (fun v => by
    rw [State.tr_modTr]
    split
    · next hv => rw [← hv, h]
    · rfl) (fun _ => rfl) (.refl _) id

theorem State.reloadSupervision_light (t : TId) : s.Light (s.reloadSupervision t) := by
  unfold State.reloadSupervision
  split
  · exact .plain (.same rfl) rfl
  · exact State.modTr_light t _ rfl

/-- A change of a route that keeps its indices rising. -/
theorem State.modRoute_light_of (t : TId) (f : RouteRecord → RouteRecord)
    (h : s.RoutesRise → (((f (s.route t)).entries.map (·.index)).Pairwise (· < ·)) ∧
      (∀ e ∈ (f (s.route t)).entries, e.index < (f (s.route t)).nextIdx) ∧ ((f (s.route t)).entries.map (·.sec)).Nodup) :
    s.Light (s.modRoute t f) :=
  .of (.same rfl) rfl (fun _ => rfl) (fun _ => rfl) (.refl _) (fun hr v => by
    rw [State.route_modRoute]
    split
    · next hv => exact hv ▸ h hr
    · exact hr v)

/-- A change of a route that leaves its entries and the next index. -/
theorem State.modRoute_light (t : TId) (f : RouteRecord → RouteRecord) (he : (f (s.route t)).entries = (s.route t).entries)
    (hn : (f (s.route t)).nextIdx = (s.route t).nextIdx) : s.Light (s.modRoute t f) :=
  State.modRoute_light_of t f fun hr => by
    rw [he, hn]
    exact hr t

/-- What is left of a rising record, its next index following the last entry, rises. -/
theorem RouteRecord.rises_filter {r : RouteRecord} (p : Entry → Bool)
    (h : (r.entries.map (·.index)).Pairwise (· < ·) ∧ (∀ e ∈ r.entries, e.index < r.nextIdx) ∧ (r.entries.map (·.sec)).Nodup) :
    let u := ({ r with entries := r.entries.filter p } : RouteRecord).followLast
    (u.entries.map (·.index)).Pairwise (· < ·) ∧ (∀ e ∈ u.entries, e.index < u.nextIdx) ∧ (u.entries.map (·.sec)).Nodup := by
  obtain ⟨hrise, hnext, hsecs⟩ := h
  have hsub := List.filter_sublist (l := r.entries) (p := p)
  have hrise' := hrise.sublist (hsub.map _)
  dsimp only
  unfold RouteRecord.followLast
  dsimp only
  cases hlast : (r.entries.filter p).getLast? with
  | none =>
    obtain hnil := List.getLast?_eq_none_iff.mp hlast
    dsimp only
    rw [hnil]
    exact ⟨.nil, nofun, .nil⟩
  | some e =>
    refine ⟨hrise', fun f hf => ?_, hsecs.sublist (hsub.map _)⟩
    obtain ⟨l, hl⟩ := List.getLast?_eq_some_iff.mp hlast
    dsimp only at hf ⊢
    rw [hl] at hf hrise'
    rcases List.mem_append.mp hf with hf | hf
    · rw [List.map_append, List.pairwise_append] at hrise'
      exact Nat.lt_succ_of_lt (hrise'.2.2 _ (List.mem_map_of_mem hf) _ (List.mem_singleton_self _))
    · rw [List.mem_singleton.mp hf]
      exact Nat.lt_succ_self _

theorem State.bumpAuth_light (t : TId) : s.Light (s.bumpAuth t) := State.modRoute_light t _ rfl rfl
theorem State.clearKeep_light (t : TId) : s.Light (s.clearKeep t) := State.modRoute_light t _ rfl rfl
theorem State.finalToEnd_light (t : TId) : s.Light (s.finalToEnd t) := State.modRoute_light t _ rfl rfl
theorem State.dropTail_light (t : TId) : s.Light (s.dropTail t) :=
  State.modRoute_light_of t _ fun hr => RouteRecord.rises_filter _ (hr t)

/-! ## The pending queue and the walk's flags -/

theorem State.trigger_light : s.Light s.trigger := .plain (.same rfl) rfl

theorem State.leaveQueue_light (t : TId) : s.Light (s.leaveQueue t) :=
  .of (.same rfl) rfl (fun _ => rfl) (fun _ => rfl) (List.filter_sublist.map _) id

theorem State.reloadWait_light (t : TId) : s.Light (s.reloadWait t) := by
  refine .of (.same rfl) rfl (fun _ => rfl) (fun _ => rfl) ?_ id
  rw [State.reloadWait, List.map_map]
  refine (List.map_congr_left fun w _ => ?_) ▸ List.Sublist.refl _
  rw [Function.comp_apply]
  split
  · next h => exact h
  · rfl

/-! ## Messages -/

/-- A change of a transporter's port that keeps it within its capacities and its receive queue. -/
theorem State.modTl_light (t : TId) (f : TlPort → TlPort) (hb : (s.tl t).Bounded → (f (s.tl t)).Bounded)
    (hrx : (f (s.tl t)).core.rx = (s.tl t).core.rx) : s.Light (s.modTl t f) := by
  refine .plain ⟨id, id, id, id, id, fun v => ?_, fun _ => id, fun l => .inl ?_, fun _ => .inl rfl⟩ rfl
  · rw [State.tl_modTl]
    split
    · next hv => exact hv ▸ hb
    · exact id
  · cases l with
    | tl v =>
      show ((s.modTl t f).tl v).core.rx = _
      rw [State.tl_modTl]
      split
      · next hv => exact hv ▸ hrx
      · rfl
    | ops _ => rfl

/-- A change of an operations port that keeps it within its capacities, its receive queue and its replies. -/
theorem State.modOps_light (o : OpsId) (f : OpsPort → OpsPort) (hb : (s.opsPort o).Bounded → (f (s.opsPort o)).Bounded)
    (hrx : (f (s.opsPort o)).core.rx = (s.opsPort o).core.rx) (hr : (f (s.opsPort o)).replies = (s.opsPort o).replies) :
    s.Light (s.modOps o f) := by
  refine .plain ⟨id, id, id, id, id, fun _ => id, fun v => ?_, fun l => .inl ?_, fun v => .inl ?_⟩ rfl
  · rw [State.opsPort_modOps]
    split
    · next hv => exact hv ▸ hb
    · exact id
  · cases l with
    | tl _ => rfl
    | ops v =>
      show ((s.modOps o f).opsPort v).core.rx = _
      rw [State.opsPort_modOps]
      split
      · next hv => exact hv ▸ hrx
      · rfl
  · rw [State.opsPort_modOps]
    split
    · next hv => exact hv ▸ hr
    · rfl

theorem OpsPort.addNotice_bounded {p : OpsPort} (n : Notice) (h : p.Bounded) : (p.addNotice n).Bounded := by
  obtain ⟨hrx, hreplies, hnotices, hlost⟩ := h
  unfold OpsPort.addNotice
  split
  · next hlt =>
    refine ⟨hrx, hreplies, ?_, hlost⟩
    rw [List.length_append, List.length_singleton]
    exact hlt
  · exact ⟨hrx, hreplies, hnotices, Nat.min_le_right ..⟩

theorem OpsPort.addNotice_core (p : OpsPort) (n : Notice) : (p.addNotice n).core = p.core ∧ (p.addNotice n).replies = p.replies := by
  unfold OpsPort.addNotice
  split <;> exact ⟨rfl, rfl⟩

theorem State.post_light (b : NoticeBody) : s.Light (s.post b) := by
  refine .plain ⟨id, id, id, id, id, fun _ => id, fun o h => ?_, fun l => .inl ?_, fun o => .inl ?_⟩ rfl
  · rw [State.opsPort_post]
    exact OpsPort.addNotice_bounded _ h
  · cases l with
    | tl _ => rfl
    | ops o =>
      show ((s.post b).opsPort o).core.rx = _
      rw [State.opsPort_post, (OpsPort.addNotice_core _ _).1]
      rfl
  · rw [State.opsPort_post, (OpsPort.addNotice_core _ _).2]

theorem State.refuse_light (t : TId) (ty : Byte) (r : Reason) : s.Light (s.refuse t ty r) := by
  refine State.modTl_light t _ (fun ⟨hrx, hr⟩ => ⟨hrx, ?_⟩) rfl
  rw [List.length_append, List.length_singleton]
  split
  · next h => exact h
  · rw [List.length_drop]
    have : (s.tl t).refusals.length ≤ 4 := hr
    show (s.tl t).refusals.length - 1 + 1 ≤ 4
    omega

theorem State.placeXfer_light (t : TId) (m : XferMsg) : s.Light (s.placeXfer t m) := State.modTl_light t _ id rfl

theorem State.formAuth_light (t : TId) : s.Light (s.formAuth t) :=
  (State.modTl_light t _ id rfl).trans (.plain (.same rfl) rfl)

theorem State.recompute_light (t : TId) : s.Light (s.recompute t) := by
  unfold State.recompute
  split
  · exact State.formAuth_light t
  · exact .plain (.same rfl) rfl

theorem State.postTripped_light (t : TId) (cs : List TripCause) : s.Light (s.postTripped t cs) := State.post_light _
theorem State.postClampFailed_light (n : Nat) : s.Light (s.postClampFailed n) := State.post_light _
theorem State.postGranted_light (t : TId) (secs : List Nat) : s.Light (s.postGranted t secs) := State.post_light _

theorem State.Light.refl : s.Light s := .plain (.same rfl) rfl

theorem State.Light.foldl {α : Type} {f : State → α → State} (h : ∀ (s : State) (a : α), s.Light (f s a)) (l : List α) :
    ∀ s : State, s.Light (l.foldl f s) := by
  induction l with
  | nil => exact fun s => .plain (.same rfl) rfl
  | cons a l ih => exact fun s => (h s a).trans (ih _)

end

/-! ## Sections whose holder stays -/

section
variable {s : State}

/-- A change of a section that keeps definition, detection and holder, and a firm hold firm. -/
theorem State.modSec_light (n : Nat) (f : Section → Section)
    (h : ∀ x, s.sec? n = some x → (f x).held = x.held ∧ (f x).det = x.det)
    (hfirm : ∀ t, s.heldFirm t n = true → (s.modSec n f).heldFirm t n = true) : s.Light (s.modSec n f) := by
  have hlist : ∀ l : Table Section, (∀ x, Table.find l n = some x → (f x).held = x.held) →
      (Table.adjust l n f).map (fun p => (p.1, p.2.held)) = l.map fun p => (p.1, p.2.held) := fun l => by
    induction l with
    | nil => exact fun _ => rfl
    | cons p r ih =>
      intro hx
      obtain ⟨k, x⟩ := p
      by_cases hk : k = n
      · simp only [Table.adjust, hk, if_true, List.map_cons]
        rw [hx x (by simp [Table.find, hk])]
      · simp only [Table.adjust, hk, if_false, List.map_cons]
        rw [ih fun y hy => hx y (by simp [Table.find, hk, hy])]
  refine ⟨⟨⟨rfl, rfl, rfl, fun _ => rfl, hlist _ fun x hx => (h x hx).1, fun t k hk => ?_, fun k => ?_, .refl _⟩,
    fun _ => rfl, fun _ => rfl⟩, ⟨fun ⟨h1, hrest⟩ => ⟨(Table.wf_adjust ..).trans h1, hrest⟩, id, id, id, id, .same rfl rfl⟩, id⟩
  · by_cases hkn : k = n
    · exact hkn ▸ hfirm t (hkn ▸ hk)
    · have hsec : (s.modSec n f).sec? k = s.sec? k := Table.find_adjust_ne _ _ hkn
      rw [← hk, State.heldFirm, State.heldFirm, State.holdBy, hsec]
      rfl
  · by_cases hkn : k = n
    · subst hkn
      have hsec : (s.modSec k f).sec? k = (s.sec? k).map f := Table.find_adjust_self ..
      rw [State.detOf, hsec, State.detOf]
      cases hx : s.sec? k with
      | none => rfl
      | some x => exact (h x hx).2
    · have hsec : (s.modSec n f).sec? k = s.sec? k := Table.find_adjust_ne _ _ hkn
      rw [State.detOf, hsec]
      rfl

end

end Sys2Proof.Machine

/-! PROOFS. The command queue, and the operations on holdings, as acts (R58, R62, R70, R71, R78, R84 to R88, R115). -/

namespace Sys2Proof.Machine

/-! ## The command queue (R141, R162) -/

section
variable {s : State}

/-- Commands that fit join the queue. -/
theorem State.enqueue_light {cs : List BusCmd} (h : s.cmdQueue.length + cs.length ≤ Config.cmdCapacity) : s.Light (s.enqueue cs) :=
  .plain ⟨id, id, id, fun _ => (List.length_append ..).trans_le h, id, .same rfl rfl⟩ rfl

theorem State.offerOk_room {cs : List BusCmd} (h : s.offerOk cs = true) :
    s.cmdQueue.length + cs.length ≤ Config.cmdCapacity := by
  rw [State.offerOk, Bool.and_eq_true] at h
  exact of_decide_eq_true h.1

/-- The commands queued after a change are some of those before. -/
theorem State.setCmdQueue_light {q : List BusCmd} (h : q.length ≤ s.cmdQueue.length) : s.Light { s with cmdQueue := q } :=
  .plain ⟨id, id, id, Nat.le_trans h, id, .same rfl rfl⟩ rfl

theorem State.setPadWaiters_light (w : List Requester) : s.Light { s with padWaiters := w } := .plain (.same rfl) rfl

/-- A transfer record is changed and not removed. -/
theorem State.mapTransfer_light (t : TId) (f : Transfer → Transfer) : s.Light (s.setTransfer t ((s.transfers[t]).map f)) := by
  refine .of (.same rfl) rfl (fun _ => rfl) (fun v => ?_) (.refl _) id
  rw [State.setTransfer, upd_get s.transfers t v]
  split
  · next h => rw [← h, Option.isSome_map]
  · rfl

theorem State.markQueued_light (r : Requester) : s.Light (s.markQueued r) := by
  cases r
  case xfer t => exact State.mapTransfer_light t _
  case watch n => exact State.modPad_light n _
  case tr => exact .refl
  case ops => exact .refl

theorem State.reofferOne_light (s : State) (r : Requester) : s.Light (s.reofferOne r) := by
  unfold State.reofferOne
  split
  · split
    · next h =>
      refine ((State.setPadWaiters_light _).trans (State.enqueue_light ?_)).trans (State.markQueued_light r)
      exact State.offerOk_room h
    · exact .refl
  · exact .refl

theorem State.commandExit_light (s : State) : s.Light s.commandExit := by
  unfold State.commandExit
  have h : s.Light (s.padWaiters.foldl (fun s r => s.reofferOne r) s) := .foldl State.reofferOne_light _ _
  dsimp only
  split
  · exact h.trans State.trigger_light
  · exact h

theorem State.offerPad_light (s : State) (r : Requester) : s.Light (s.offerPad r) := by
  unfold State.offerPad
  split
  · split
    · next h => exact (State.enqueue_light (State.offerOk_room h)).trans (State.markQueued_light r)
    · cases r
      case xfer t => exact (State.setPadWaiters_light _).trans (State.mapTransfer_light _ _)
      case watch n => exact (State.setPadWaiters_light _).trans (State.modPad_light _ _)
      case tr => exact State.setPadWaiters_light _
      case ops => exact State.setPadWaiters_light _
  · exact .refl

theorem State.withdrawPad_light (s : State) (r : Requester) : s.Light (s.withdrawPad r) := by
  unfold State.withdrawPad
  dsimp only
  split
  · refine ((State.setPadWaiters_light (s.padWaiters.filter fun w => decide (w ≠ r))).trans ?_).trans (State.commandExit_light _)
    exact State.setCmdQueue_light (List.length_filter_le ..)
  · exact State.setPadWaiters_light _

theorem State.openWatch_light (s : State) (n : Nat) : s.Light (s.openWatch n) := s.offerPad_light _

theorem State.failWatch_light (s : State) (n : Nat) : s.Light (s.failWatch n) := by
  unfold State.failWatch
  split
  · split
    · exact .refl
    · exact ((State.setPadWaiters_light _).trans (State.modPad_light n _)).trans (State.postClampFailed_light n)
  · exact .refl

end

/-! ## Stop causes (R121, R122) -/

section
variable {A : Scope} {D : TId → Prop} {s m : State} {t : TId}

theorem State.modTr_house (t : TId) (f : Transporter → Transporter) : s.House (s.modTr t f) := .same rfl

theorem State.evalStop_house (s : State) (t : TId) : s.House (s.evalStop t) := by
  have htold : ∀ (z : State) (b : NoticeBody), z.House ((z.formAuth t).post b) := fun z b =>
    (z.formAuth_light t).house.trans (State.post_light b).house
  unfold State.evalStop
  dsimp only
  split
  · exact .refl
  · split
    · split
      · exact State.modTr_house t _
      · exact ((State.modTr_house t _).trans (State.modTr_house t _)).trans (htold _ _)
    · split
      · exact ((State.modTr_house t _).trans (State.modTr_house t _)).trans (htold _ _)
      · exact (State.modTr_house t _).trans (State.formAuth_light t).house
    · exact (State.modTr_house t _).trans (State.formAuth_light t).house
    · exact State.modTr_house t _
    · exact State.modTr_house t _
    · exact State.modTr_house t _

/-- An evaluation of t settles what t owes. -/
theorem State.Does.settle (ht : A.who t) (h : s.Does A D (fun v => D v ∨ v = t) m) : s.Does A D D (m.evalStop t) :=
  h.trans (.act (k := .evald t) ht rfl (fun _ => m.evalStop_house t) (.done fun _ hv => hv.1.resolve_right hv.2))

theorem State.evalStop_does (ht : A.who t) : s.Does A D D (s.evalStop t) := .settle ht (.done fun _ => .inl)

/-- Evaluating every transporter settles everything. -/
theorem State.evalAll_does (ht : ∀ t, A.who t) : s.Does A D (fun _ => False) s.evalAll := by
  have key : ∀ (l : List TId) (s : State), s.Does A (fun v => v ∈ l) (fun _ => False) (l.foldl (fun s t => s.evalStop t) s) := by
    intro l
    induction l with
    | nil => exact fun s => .done fun _ h => absurd h List.not_mem_nil
    | cons t l ih =>
      refine fun s => .act (k := .evald t) (ht t) rfl (fun _ => s.evalStop_house t) ((ih _).weaken ?_)
      exact fun v hv => (List.mem_cons.mp hv.1).resolve_left hv.2
  exact (key allT s).weaken fun v _ => mem_allT v

/-! ## Dropping a reservation (R58) -/

theorem State.setHold_house (s : State) (n : Nat) (h : Option Hold) : s.House (s.setHold n h) :=
  ⟨fun ⟨h1, hrest⟩ => ⟨(Table.wf_adjust ..).trans h1, hrest⟩, id, id, id, id, .same rfl rfl⟩

/-- The section of an entry after a section loses its holder. -/
theorem State.unheld_setHold (s : State) (n k : Nat) : (s.setHold n none).Unheld k ↔ k = n ∨ s.Unheld k := by
  unfold State.Unheld
  rw [State.sec_setHold]
  cases s.sec? k with
  | none => simp
  | some x =>
    by_cases hk : k = n
    · simp [hk]
    · simp [hk]

theorem State.holdBy_setHold_none (s : State) (n k : Nat) (t : TId) :
    (s.setHold n none).holdBy t k = if k = n then none else s.holdBy t k := by
  rw [State.holdBy_eq, State.holdBy_eq, State.sec_setHold]
  cases s.sec? k with
  | none => simp
  | some x =>
    by_cases hk : k = n
    · simp [hk]
    · simp [hk]

/-- Sections each held SETTING by t, or by nobody, lose their holder. -/
theorem State.dropHolds_does (ht : A.who t) : ∀ (es : List Entry) (s : State),
    (∀ e ∈ es, s.Unheld e.sec ∨ s.holdBy t e.sec = some .setting) →
    s.Does A (fun v => D v ∨ v = t) (fun v => D v ∨ v = t) (es.foldl (fun s e => s.setHold e.sec none) s)
  | [], s, _ => .refl
  | e :: es, s, h => by
    refine .act (k := .drop t) ht ⟨e.sec, rfl, h e List.mem_cons_self⟩ (fun _ => s.setHold_house _ _)
      ((State.dropHolds_does ht es _ fun f hf => ?_).weaken ?_)
    · rw [State.unheld_setHold, State.holdBy_setHold_none]
      by_cases hfe : f.sec = e.sec
      · exact .inl (.inl hfe)
      · rw [if_neg hfe]
        exact (h f (List.mem_cons_of_mem _ hf)).imp_left .inr
    · exact fun v hv => hv.elim id .inr

theorem State.dropSettingRaw_does (ht : A.who t) : s.Does A D (fun v => D v ∨ v = t) (s.dropSettingRaw t) := by
  unfold State.dropSettingRaw
  split
  · exact .done fun _ => .inl
  · refine ((State.dropHolds_does ht _ _ fun e he => .inr ?_).weaken fun _ => .inl).trans State.trigger_light.does
    exact (State.mem_settingRun.mp he).2
 
theorem State.dropSetting_does (ht : A.who t) : s.Does A D D (s.dropSetting t) := by
  unfold State.dropSetting
  split
  · exact .refl
  · exact .settle ht (State.dropSettingRaw_does ht)

theorem State.withdrawRoute_does (ht : A.who t) : s.Does A D D (s.withdrawRoute t) :=
  ((State.leaveQueue_light t).does.trans (State.dropSetting_does ht)).trans (State.dropTail_light t).does

end

end Sys2Proof.Machine

/-! PROOFS. Releases, shortenings, trips and obstructions as acts (R70, R71, R78, R84 to R88, R115). -/

namespace Sys2Proof.Machine

section
variable {A : Scope} {D : TId → Prop} {s m u : State} {t : TId}

/-! ## Releases (R70, R71) -/

theorem State.lockPoint_light (t : TId) (n : Nat) : s.Light (s.lockPoint t n) := by
  unfold State.lockPoint
  split
  · exact State.modPoint_light _ _
  · exact .refl

theorem State.unlockPoint_light (t : TId) (n : Nat) : s.Light (s.unlockPoint t n) := by
  unfold State.unlockPoint
  split
  · split
    · exact State.modPoint_light _ _
    · exact .refl
  · exact .refl

/-- A section that t loses by an act of its own kind is released. -/
theorem State.release_of_act {k : Kind} {e : Entry} (ht : A.who t) (hk : A.Allows k) (ha : Act k s (s.setHold e.sec none))
    (hafter : ∀ v, k.after D v → D v ∨ v = t) (cause : ReleaseCause) (kept : Bool) :
    s.Does A D D (s.release t e cause kept) := by
  have hone : s.Does A D (fun v => D v ∨ v = t) (s.setHold e.sec none) :=
    .act hk ha (fun _ => s.setHold_house _ _) (.done hafter)
  unfold State.release
  dsimp only
  refine (State.Does.settle ht (hone.trans (State.Light.does ?_))).trans State.trigger_light.does
  refine .trans ?_ (State.post_light _)
  split
  · exact State.unlockPoint_light t _
  · exact (State.unlockPoint_light t _).trans (State.modRoute_light_of t _ fun hr => RouteRecord.rises_filter _ (hr t))

theorem State.release_rear (ht : A.who t) (hr : A.rears) {e : Entry} (h : s.PassesRelease t e) (cause : ReleaseCause)
    (kept : Bool) : s.Does A D D (s.release t e cause kept) := by
  obtain ⟨-, ⟨x, hx, hhold, hdet⟩, -⟩ := h
  refine State.release_of_act (k := .rear t) ht ⟨ht, hr⟩ ⟨e.sec, rfl, .inr ⟨?_, ?_⟩⟩ (fun _ h => h) cause kept
  · rw [State.holdBy_eq, hx, Option.bind_some, hhold, Option.bind_some, if_pos rfl]
    exact nofun
  · rw [State.detOf, hx]
    exact hdet

/-- Sections that t holds are released one after another. -/
theorem State.releaseAll_does (ht : A.who t) (hs : A.sheds) (cause : ReleaseCause) (kept : Bool) : ∀ (es : List Entry) (s : State),
    (∀ e ∈ es, s.Unheld e.sec ∨ s.holdBy t e.sec ≠ none) → s.Does A D D (s.releaseAll t es cause kept)
  | [], _, _ => .refl
  | e :: es, s, h => by
    obtain ⟨m, hfreed, heval⟩ := s.release_freed t e cause kept
    have hsec : ∀ n, (s.release t e cause kept).sec? n = (s.setHold e.sec none).sec? n := fun n => by
      rw [heval.sameTrack.sec, hfreed.sections, State.sec_setHold]
    refine (State.release_of_act (k := .shed t) ht ⟨ht, hs⟩ ⟨e.sec, rfl, h e List.mem_cons_self⟩ (fun _ h => h) cause
      kept).trans (State.releaseAll_does ht hs cause kept es _ fun f hf => ?_)
    have hun : (s.release t e cause kept).Unheld f.sec ↔ (s.setHold e.sec none).Unheld f.sec := by
      rw [State.Unheld, hsec]
      rfl
    rw [hun, State.unheld_setHold, State.holdBy_eq, hsec, ← State.holdBy_eq, State.holdBy_setHold_none]
    by_cases hfe : f.sec = e.sec
    · exact .inl (.inl hfe)
    · rw [if_neg hfe]
      exact (h f (List.mem_cons_of_mem _ hf)).imp_left .inr

theorem State.heldRun_held {e : Entry} (h : e ∈ s.heldRun t) : s.holdBy t e.sec ≠ none := by
  have := (List.mem_filter.mp h).2
  rw [Option.isSome_iff_ne_none] at this
  exact this

theorem cascadeFrom_does (ht : A.who t) (hr : A.rears) : ∀ (n : Nat) (s : State), s.Does A D D (cascadeFrom t n s)
  | 0, _ => .refl
  | n + 1, s => by
    rw [cascadeFrom]
    split
    · next e he =>
      exact (State.release_rear ht hr (State.releasable_eq_some.mp he) .rear false).trans (cascadeFrom_does ht hr n _)
    · exact .refl

theorem State.cascade_does (ht : A.who t) (hr : A.rears) : s.Does A D D (s.cascade t) := cascadeFrom_does ht hr _ _

/-! ## Moving the end back (R78) -/

/-- A change of a held section that keeps its holder, a firm hold staying firm. -/
theorem State.mapHold_light (n : Nat) (f : Hold → Hold) (hholder : ∀ h, (f h).holder = h.holder)
    (hfirm : ∀ h, h.kind = .granted ∨ h.kind = .releasePending → (f h).kind = .granted ∨ (f h).kind = .releasePending) :
    s.Light (s.modSec n fun x => { x with hold := x.hold.map f }) := by
  refine State.modSec_light n _ (fun x _ => ⟨?_, rfl⟩) fun v hv => ?_
  · rw [Section.held, Section.held, Option.map_map, show ((·.holder) ∘ f) = (·.holder) from funext hholder]
  · obtain ⟨x, h, hx, hh, hholder', hkind⟩ : ∃ x h, s.sec? n = some x ∧ x.hold = some h ∧ h.holder = v ∧
        (h.kind = .granted ∨ h.kind = .releasePending) := by
      rw [State.heldFirm, decide_eq_true_eq] at hv
      rcases hv with hv | hv
      · obtain ⟨x, h, hx, hh, hv', hk⟩ := State.holdBy_eq_some.mp hv
        exact ⟨x, h, hx, hh, hv', .inl hk⟩
      · obtain ⟨x, h, hx, hh, hv', hk⟩ := State.holdBy_eq_some.mp hv
        exact ⟨x, h, hx, hh, hv', .inr hk⟩
    have hsec : (s.modSec n fun x => { x with hold := x.hold.map f }).sec? n =
        some { x with hold := some (f h) } := by
      refine (Table.find_adjust_self ..).trans ?_
      rw [show Table.find s.sections n = some x from hx, Option.map_some, hh, Option.map_some]
    rw [State.heldFirm, decide_eq_true_eq, State.holdBy_eq, hsec]
    rw [Option.bind_some, Option.bind_some, hholder, if_pos hholder']
    exact (hfirm h hkind).imp (congrArg some) (congrArg some)

theorem State.moveEnd_light (s : State) (t : TId) (c : RoutePos) : s.Light (s.moveEnd t c) :=
  ((State.bumpAuth_light t).trans (State.modRoute_light t _ rfl rfl)).trans
    (.foldl (f := fun (s : State) (e : Entry) => s.modSec e.sec fun x =>
        { x with hold := x.hold.map fun h => { h with kind := .releasePending } })
      (fun _ e => State.mapHold_light e.sec (fun h => { h with kind := .releasePending }) (fun _ => rfl) fun _ _ => .inr rfl) _ _)

/-! ## Trips (R115) -/

theorem TripSet.insert_ne_empty (c : TripSet) (k : TripCause) : c.insert k ≠ .empty := by
  cases k <;> simp [TripSet.insert, TripSet.empty]

theorem TripSet.addAll_ne_empty : ∀ {cs : List TripCause} (c : TripSet), cs ≠ [] → c.addAll cs ≠ .empty
  | [], _, h => absurd rfl h
  | [k], c, _ => c.insert_ne_empty k
  | k :: l :: cs, c, _ => TripSet.addAll_ne_empty (cs := l :: cs) (c.insert k) (List.cons_ne_nil _ _)

/-- The record of a transporter that trips for the causes cs (R115 steps 1 and 2). -/
def Transporter.trippedFor (x : Transporter) (cs : List TripCause) : Transporter :=
  { x with trips := x.trips.addAll cs, state := .tripped, standSeen := false }

theorem Transporter.trippedFor_ne (x : Transporter) (cs : List TripCause) {y : TState} (hy : y ≠ .tripped) :
    (x.trippedFor cs).state ≠ y := hy.symm

/-- What follows the change of state in a trip (R115 steps 3 to 8). -/
theorem State.enterTripped_rest (ht : A.who t) (cs : List TripCause) :
    (s.modTr t fun x => x.trippedFor cs).Does A D D (s.enterTripped t cs) := by
  have hfirst : ((s.addTrips t cs).modTr t fun x => { x with state := .tripped, standSeen := false }) =
      s.modTr t fun x => x.trippedFor cs := by
    unfold State.addTrips State.modTr
    rw [upd_upd]
    rfl
  unfold State.enterTripped
  rw [hfirst]
  exact (State.withdrawRoute_does ht).trans (((State.finalToEnd_light t).trans (State.clearKeep_light t)).trans
    ((State.formAuth_light t).trans (State.postTripped_light t cs))).does

/-- The state of t is written, its transfer stays. -/
theorem State.modTr_posted (f : Transporter → Transporter) (busy : s.Busy t)
    (matched : s.MatchedAt t → ((f (s.tr t)).state = .tripped ↔ (f (s.tr t)).trips ≠ .empty) ∧
      ((f (s.tr t)).state = .transfer ↔ s.transfers[t] ≠ none))
    (stands : s.StandsAt t → ((f (s.tr t)).state = .authorised → (f (s.tr t)).stop = .empty) ∧
      ((f (s.tr t)).state = .held → (f (s.tr t)).stop ≠ .empty)) : s.Posted (s.modTr t f) t :=
  .of busy rfl (upd_id s.transfers t _ rfl).symm matched stands rfl (.refl _)

/-- The state of t changes, its stop causes staying. -/
theorem State.modTr_does (ht : A.who t) (f : Transporter → Transporter) (busy : s.Busy t)
    (matched : s.MatchedAt t → ((f (s.tr t)).state = .tripped ↔ (f (s.tr t)).trips ≠ .empty) ∧
      ((f (s.tr t)).state = .transfer ↔ s.transfers[t] ≠ none))
    (stands : s.StandsAt t → ((f (s.tr t)).state = .authorised → (f (s.tr t)).stop = .empty) ∧
      ((f (s.tr t)).state = .held → (f (s.tr t)).stop ≠ .empty))
    (stop : (f (s.tr t)).stop = (s.tr t).stop ∨ (f (s.tr t)).state = .offline) : s.Does A D D (s.modTr t f) := by
  refine .one (k := .post t) ht ⟨State.modTr_posted f busy matched stands, id, ?_⟩ fun _ => State.modTr_house t f
  rw [State.tr_modTr_self]
  exact stop

theorem State.busy_of_ne {x : TState} (h : (s.tr t).state = x) (hx : x ≠ .offline) : s.Busy t := .inr (.inr (.inl (h ▸ hx)))

/-- A transporter in service that is not in TRANSFER trips, by the whole of R115 or, TRIPPED, by a further cause. -/
theorem State.trip_does (ht : A.who t) (c : TripCause) : s.Does A D D (s.trip t c) := by
  have hgo : ∀ x, (s.tr t).state = x → x ≠ .offline → x ≠ .transfer → s.Does A D D (s.enterTripped t [c]) :=
    fun x hx hoff htrans => by
      have hne : ∀ y : TState, y ≠ .tripped → ((s.tr t).trippedFor [c]).state ≠ y := fun _ => Transporter.trippedFor_ne _ _
      refine (State.modTr_does ht _ (State.busy_of_ne hx hoff) (fun hm => ?_) (fun _ => ⟨fun h => (hne .authorised nofun h).elim, fun h => (hne .held nofun h).elim⟩) (.inl rfl)).trans
        (State.enterTripped_rest ht [c])
      refine ⟨⟨fun _ => TripSet.addAll_ne_empty _ (List.cons_ne_nil _ _), fun _ => rfl⟩, fun h => (hne .transfer nofun h).elim, fun h => ?_⟩
      exact absurd (hx.symm.trans (hm.2.mpr h)) htrans
  unfold State.trip
  split
  · next h => exact hgo _ h nofun nofun
  · next h => exact hgo _ h nofun nofun
  · next h => exact hgo _ h nofun nofun
  · next h =>
    refine (State.modTr_does (s := s) ht _ (State.busy_of_ne h nofun) (fun hm => ?_) id (.inl rfl)).trans
      ((State.formAuth_light t).trans (State.postTripped_light t [c])).does
    exact ⟨⟨fun _ => TripSet.addAll_ne_empty _ (List.cons_ne_nil _ _), fun _ => h⟩, hm.2⟩
  · exact .refl
  · exact .refl

/-! ## Obstructions (R84 to R88) -/

theorem State.obstructAhead_does (ht : A.who t) (k : Nat) : s.Does A D D (s.obstructAhead t k) := by
  unfold State.obstructAhead
  dsimp only
  refine (State.dropSetting_does ht).trans ?_
  split
  · split
    · exact ((State.moveEnd_light _ t _).trans ((State.modRoute_light t _ rfl rfl).trans (State.formAuth_light t))).does
    · exact State.trip_does ht _
  · exact State.trip_does ht _

theorem State.obstruct_does (ht : ∀ t, A.who t) (n : Nat) (fault : Bool) : s.Does A D D (s.obstruct n fault) := by
  unfold State.obstruct
  split
  · exact .refl
  · next h _ =>
    dsimp only
    split
    · exact .refl
    · exact State.dropSetting_does (ht _)
    · split
      · exact .refl
      · exact .refl
      · exact .refl
      · split
        · split
          · exact State.obstructAhead_does (ht _) _
          · split
            · exact State.trip_does (ht _) _
            · exact .refl
        · exact .refl

theorem State.examine_does (ht : A.who t) : s.Does A D D (s.examine t) := by
  unfold State.examine
  split
  · split
    · exact State.trip_does ht _
    · exact State.obstructAhead_does ht _
  · exact .refl

end

end Sys2Proof.Machine

/-! PROOFS. Transfers, detection and points as acts (R18 to R34, R67, R84, R148 to R154). -/

namespace Sys2Proof.Machine

section
variable {A : Scope} {D : TId → Prop} {s m u : State} {t : TId}

/-! ## Transfers (R148 to R154) -/

/-- A transfer record is written where there is one. -/
theorem State.setTransfer_light (t : TId) (y : Transfer) (h : (s.transfers[t]).isSome = true) :
    s.Light (s.setTransfer t (some y)) := by
  refine .of (.same rfl) rfl (fun _ => rfl) (fun v => ?_) (.refl _) id
  rw [State.setTransfer, upd_get s.transfers t v]
  split
  · next hv => rw [← hv, h]; rfl
  · rfl

theorem State.beginStage_light (x : Transfer) (g : Stage) (h : (s.transfers[t]).isSome = true) :
    s.Light (s.beginStage t x g) := by
  unfold State.beginStage
  cases g
  case unclamp | clamp => exact (State.setTransfer_light t _ h).trans (State.offerPad_light _ _)
  case raise | lower => exact (State.setTransfer_light t _ h).trans (State.placeXfer_light t _)
  case confirm => exact State.setTransfer_light t _ h

/-- t, in TRANSFER, gives its transfer up for a state that is PARKED, or TRIPPED with causes; told by XFER_END and a
notice. -/
theorem State.transferGone_does (ht : A.who t) (msg : XferMsg) (b : NoticeBody) (f : Transporter → Transporter)
    (h : (s.transfers[t]).isSome = true) (hstop : (f (s.tr t)).stop = (s.tr t).stop)
    (hf : (f (s.tr t)).state = .parked ∧ (f (s.tr t)).trips = (s.tr t).trips ∨
      (f (s.tr t)).state = .tripped ∧ (f (s.tr t)).trips ≠ .empty) :
    s.Does A D D ((((s.setTransfer t none).placeXfer t msg).post b).modTr t f) := by
  have hsome : s.transfers[t] ≠ none := Option.isSome_iff_ne_none.mp h
  refine .one (k := .post t) ht ⟨.of (x := f (s.tr t)) (y := none) (.inr (.inr (.inr hsome))) rfl rfl (fun hm => ?_)
    (fun _ => ?_) rfl (.refl _), id, .inl ?_⟩ fun _ => ?_
  · have htransfer := hm.2.mpr hsome
    rcases hf with ⟨h1, h2⟩ | ⟨h1, h2⟩
    · rw [h1, h2]
      refine ⟨⟨nofun, fun hne => ?_⟩, nofun, fun h => absurd rfl h⟩
      exact absurd (htransfer.symm.trans (hm.1.mpr hne)) nofun
    · rw [h1]
      exact ⟨⟨fun _ => h2, fun _ => rfl⟩, nofun, fun h => absurd rfl h⟩
  · rcases hf with ⟨h1, -⟩ | ⟨h1, -⟩ <;> rw [h1] <;> exact ⟨nofun, nofun⟩
  · rw [State.tr_modTr_self]
    exact hstop
  · exact ((State.House.same (u := s.setTransfer t none) rfl).trans (State.placeXfer_light t msg).house).trans
      ((State.post_light b).house.trans (State.modTr_house t f))

theorem State.parkFromTransfer_rest (ht : A.who t) :
    (s.modTr t fun x => { x with state := .parked }).Does A D D (s.parkFromTransfer t) := by
  unfold State.parkFromTransfer
  dsimp only
  split
  · exact State.examine_does ht
  · exact (State.examine_does ht).trans (State.formAuth_light t).does

theorem State.completeTransfer_does (ht : A.who t) (x : Transfer) (h : (s.transfers[t]).isSome = true) :
    s.Does A D D (s.completeTransfer t x) := by
  unfold State.completeTransfer
  dsimp only
  have hend : ∀ z : State, s.Light z → z.Does A D D ((((z.setTransfer t none).placeXfer t (.xend .done x.pad)).post
      (.transferDone t x.pad x.kind x.tel)).parkFromTransfer t) := fun z hz =>
    (State.transferGone_does ht _ _ (fun x => { x with state := .parked }) ((hz.1.transfers t).trans h) rfl
      (.inl ⟨rfl, rfl⟩)).trans (State.parkFromTransfer_rest ht)
  split
  · have hz : s.Light ((s.setLoc x.tel (.onTransporter t)).modPad x.pad fun p => { p with st := .vacant }) :=
      (State.setLoc_light _ _).trans (State.modPad_light _ _)
    exact hz.does.trans (hend _ hz)
  · have hz : s.Light ((s.setLoc x.tel (.onPad x.pad)).modPad x.pad fun p => { p with st := .occupied x.tel, reserv := none }) :=
      (State.setLoc_light _ _).trans (State.modPad_light _ _)
    exact hz.does.trans (hend _ hz)

theorem State.endStage_does (ht : A.who t) (x : Transfer) (h : (s.transfers[t]).isSome = true) :
    s.Does A D D (s.endStage t x) := by
  unfold State.endStage
  split
  · exact (State.beginStage_light x _ h).does
  · exact (State.beginStage_light x _ h).does
  · exact State.completeTransfer_does ht x h
  · exact (State.beginStage_light x _ h).does
  · exact (State.beginStage_light x _ h).does
  · exact State.completeTransfer_does ht x h

theorem State.abortClean_does (ht : A.who t) (x : Transfer) (c : AbortCause) (h : (s.transfers[t]).isSome = true) :
    s.Does A D D (s.abortClean t x c) := by
  unfold State.abortClean
  dsimp only
  obtain ⟨z, hz⟩ : ∃ z, z = if x.unclampSent = true then
      if c = AbortCause.unitSilent then s.postClampFailed x.pad else s.openWatch x.pad else s.withdrawPad (.xfer t) := ⟨_, rfl⟩
  have hlight : s.Light z := by
    rw [hz]
    split
    · split
      · exact State.postClampFailed_light _
      · exact State.openWatch_light _ _
    · exact State.withdrawPad_light _ _
  rw [← hz]
  have hpad : s.Light (z.modPad x.pad fun p => { p with st := .occupied x.tel }) := hlight.trans (State.modPad_light _ _)
  refine hpad.does.trans ?_
  have hsome := (hpad.1.transfers t).trans h
  split
  · next k _ =>
    exact (State.transferGone_does ht _ _ (fun x => x.trippedFor [k]) hsome rfl
      (.inr ⟨rfl, TripSet.addAll_ne_empty _ (List.cons_ne_nil _ _)⟩)).trans (State.enterTripped_rest ht [k])
  · exact (State.transferGone_does ht _ _ (fun x => { x with state := .parked }) hsome rfl (.inl ⟨rfl, rfl⟩)).trans
      (State.parkFromTransfer_rest ht)

theorem State.abortIndeterminate_does (ht : A.who t) (x : Transfer) (c : AbortCause) (h : (s.transfers[t]).isSome = true) :
    s.Does A D D (s.abortIndeterminate t x c) := by
  unfold State.abortIndeterminate
  dsimp only
  have hpad : s.Light (((s.withdrawPad (.xfer t)).setLoc x.tel (.indeterminate x.pad t)).modPad x.pad
      fun p => { p with st := .blocked }) :=
    ((State.withdrawPad_light _ _).trans (State.setLoc_light _ _)).trans (State.modPad_light _ _)
  exact hpad.does.trans ((State.transferGone_does ht _ _ (fun y => y.trippedFor (.transfer :: c.trip.toList))
    ((hpad.1.transfers t).trans h) rfl (.inr ⟨rfl, TripSet.addAll_ne_empty _ (List.cons_ne_nil _ _)⟩)).trans
      (State.enterTripped_rest ht _))

theorem State.abort_does (ht : A.who t) (c : AbortCause) : s.Does A D D (s.abort t c) := by
  unfold State.abort
  split
  · next x hx =>
    have hsome : (s.transfers[t]).isSome = true := by rw [hx]; rfl
    split
    · exact State.abortIndeterminate_does ht x c hsome
    · exact State.abortClean_does ht x c hsome
  · exact .refl

theorem State.tripAny_does (ht : A.who t) (c : TripCause) : s.Does A D D (s.tripAny t c) := by
  unfold State.tripAny
  split
  · split
    · exact State.abort_does ht _
    · exact .refl
  · exact State.trip_does ht c

theorem State.transferReply_does (ht : A.who t) (clamp : Clamp) (load : Load) : s.Does A D D (s.transferReply t clamp load) := by
  unfold State.transferReply
  split
  · exact .refl
  · next x hx =>
    split
    · exact State.abort_does ht _
    · have hend : ∀ b : Bool, s.Does A D D (if b then s.endStage t x else s) := fun b => by
        cases b
        · exact .refl
        · exact State.endStage_does ht x (by rw [hx]; rfl)
      exact hend _

/-! ## Detection (R18 to R25, R67) -/

theorem State.setDet_does (hs : A.senses) (n : Nat) (d : Detection) : s.Does A D D (s.setDet n d).1 := by
  unfold State.setDet
  split
  · split
    · exact .refl
    · refine .one (k := .sense) hs ⟨n, d, s.clock, rfl⟩ fun _ => ?_
      exact ⟨fun ⟨h1, hrest⟩ => ⟨(Table.wf_adjust ..).trans h1, hrest⟩, id, id, id, id, .same rfl rfl⟩
  · exact .refl

theorem State.applyDets_does (hs : A.senses) : ∀ (l : List (Nat × Detection)) (s : State), s.Does A D D (s.applyDets l).1
  | [], _ => .refl
  | (n, d) :: l, _ => (State.setDet_does hs n d).trans (State.applyDets_does hs l _)

theorem State.postDetection_light (s : State) (c : DetChange) : s.Light (s.postDetection c) := by
  unfold State.postDetection
  split
  · exact State.post_light _
  · split
    · exact State.post_light _
    · exact .refl

/-- The entered flag of a section that t holds GRANTED is set (R67). -/
theorem State.setEntered_light {n : Nat} {h : Hold} (hh : (s.sec? n).bind (·.hold) = some h) (hk : h.kind = .granted) :
    s.Light (s.setHold n (some { h with entered := true })) := by
  obtain ⟨x, hx, hxh⟩ := Option.bind_eq_some_iff.mp hh
  refine State.modSec_light n _ (fun y hy => ⟨?_, rfl⟩) fun v hv => ?_
  · rw [hx] at hy
    cases hy
    rw [Section.held, Section.held, hxh]
    rfl
  · have hsec : (s.modSec n fun x => { x with hold := some { h with entered := true } }).sec? n =
        some { x with hold := some { h with entered := true } } := by
      refine (Table.find_adjust_self ..).trans ?_
      rw [show Table.find s.sections n = some x from hx, Option.map_some]
    have hholder : h.holder = v := by
      by_contra hne
      have hnone : s.holdBy v n = none := by
        rw [State.holdBy_eq, hx, Option.bind_some, hxh, Option.bind_some, if_neg hne]
      rw [State.heldFirm, hnone] at hv
      exact absurd hv (by decide)
    rw [State.heldFirm, decide_eq_true_eq, State.holdBy_eq, hsec, Option.bind_some, Option.bind_some, if_pos hholder, hk]
    exact .inl rfl

theorem State.handDetection_does (ht : ∀ t, A.who t) (hr : A.rears) (s : State) (c : DetChange) :
    s.Does A D D (s.handDetection c) := by
  unfold State.handDetection
  split
  · split
    · exact State.trigger_light.does
    · exact .refl
  · next h hh =>
    dsimp only
    refine .trans ?_ (State.cascade_does (ht _) hr)
    split
    · split
      · next hk => exact (State.setEntered_light hh hk).does
      · exact State.trigger_light.does
      · exact .refl
    · split
      · exact State.trigger_light.does
      · exact .refl
    · exact State.obstruct_does ht _ _

/-- What each item does, all do one after another. -/
theorem State.Does.foldl {α : Type} {f : State → α → State} (h : ∀ (s : State) (a : α), s.Does A D D (f s a)) :
    ∀ (l : List α) (s : State), s.Does A D D (l.foldl f s)
  | [], _ => .refl
  | a :: l, s => (h s a).trans (State.Does.foldl h l _)

theorem State.detectorReply_sensed (ht : ∀ t, A.who t) (hr : A.rears) (addr : Nat) (rs : List Detection) :
    s.Sensed A D (s.detectorReply addr rs) :=
  ⟨_, State.applyDets_does trivial _ _, (State.Light.foldl State.postDetection_light _ _).does.trans
    (.foldl (State.handDetection_does ht hr) _ _)⟩

theorem State.detectorSilent_sensed (ht : ∀ t, A.who t) (hr : A.rears) (addr : Nat) : s.Sensed A D (s.detectorSilent addr) :=
  ⟨_, State.applyDets_does trivial _ _, .foldl (State.handDetection_does ht hr) _ _⟩

theorem State.restoreDetection_sensed (ht : ∀ t, A.who t) (hr : A.rears) (n : Nat) : s.Sensed A D (s.restoreDetection n) :=
  ⟨_, State.setDet_does trivial _ _, .foldl (State.handDetection_does ht hr) _ _⟩

/-! ## Points (R26 to R34) -/

theorem State.faultPoint_does (ht : ∀ t, A.who t) (p : Nat) (c : FaultCause) (pos : PointPos) (detail : Option PointPos) :
    s.Does A D D (s.faultPoint p c pos detail) := by
  unfold State.faultPoint
  split
  · exact .refl
  · dsimp only
    split
    · exact (State.modPoint_light _ _).does
    · exact ((State.modPoint_light _ _).trans (State.post_light _)).does.trans (State.obstruct_does ht _ _)

theorem State.pointReading_does (ht : ∀ t, A.who t) (p : Nat) (b : Option Blade) : s.Does A D D (s.pointReading p b) := by
  unfold State.pointReading
  split
  · exact .refl
  · split
    · exact (State.modPoint_light _ _).does
    · split
      · split
        · exact ((State.modPoint_light _ _).trans ((State.post_light _).trans State.trigger_light)).does
        · exact .refl
      · split
        · exact .refl
        · exact (State.modPoint_light _ _).does
      · split
        · exact .refl
        · exact State.faultPoint_does ht _ _ _ _

theorem State.pointReply_does (ht : ∀ t, A.who t) (addr : Nat) (b : Option Blade) : s.Does A D D (s.pointReply addr b) := by
  unfold State.pointReply
  split
  · exact State.pointReading_does ht _ _
  · exact .refl

theorem State.pointSilent_does (ht : ∀ t, A.who t) (addr : Nat) : s.Does A D D (s.pointSilent addr) := by
  unfold State.pointSilent
  split
  · exact State.faultPoint_does ht _ _ _ _
  · exact .refl

theorem State.throwSent_light (s : State) (c : BusCmd) : s.Light (s.throwSent c) := by
  unfold State.throwSent
  split
  · exact State.modPoint_light _ _
  · exact .refl

end

end Sys2Proof.Machine

/-! PROOFS. Stop lines, wind, the field bus, expiries and time as acts (R121 to R136, R157 to R168). -/

namespace Sys2Proof.Machine

section
variable {A : Scope} {D D' : TId → Prop} {s m u : State} {t : TId}

/-! ## Flags (R126 to R136, R189) -/

theorem State.Does.settled (h : s.Does A D (fun _ => False) u) : s.Does A D D' u := h.trans (.done fun _ h => h.elim)

/-- ALL_STOP, the band or the lines change, and what follows evaluates every transporter. -/
theorem State.flags_does (hf : A.flags) (h : m = { s with allStop := m.allStop, band := m.band, lines := m.lines })
    (hrest : m.Does A (fun _ => True) (fun _ => False) u) : s.Does A D D u := by
  refine (State.Does.act (k := .flags) hf h (fun _ => ?_) hrest).settled
  rw [h]
  exact .same rfl

/-- A line changes and no zone flag with it. -/
theorem State.modLine_light (n : Fin 8) (f : StopLine → StopLine) (h : (s.modLine n f).zoneStopped n = s.zoneStopped n) :
    s.Light (s.modLine n f) := by
  refine ⟨⟨⟨rfl, rfl, rfl, fun k => ?_, rfl, fun _ _ => id, fun _ => rfl, .refl _⟩, fun _ => rfl, fun _ => rfl⟩, .same rfl, id⟩
  by_cases hk : n = k
  · exact hk ▸ h
  · exact congrArg (fun x : StopLine => decide (s.site = .running) && x.stopped) (upd_get_ne s.lines n k f hk)

theorem State.zoneStop_does (ht : ∀ t, A.who t) (n : Fin 8) : s.Does A (fun _ => True) (fun _ => False) (s.zoneStop n) := by
  unfold State.zoneStop
  dsimp only
  refine ((State.post_light _).does.trans (.foldl (fun z v => ?_) _ _)).trans (State.evalAll_does ht)
  dsimp only
  split
  · exact (State.dropSettingRaw_does (D := fun _ => True) (ht v)).trans (.done fun _ _ => trivial)
  · exact .refl

theorem State.zoneFree_does (ht : ∀ t, A.who t) (n : Fin 8) (c : ClearCause) :
    s.Does A (fun _ => True) (fun _ => False) (s.zoneFree n c) :=
  ((State.post_light _).does.trans (State.evalAll_does ht)).trans State.trigger_light.does

theorem State.changeLine_does (ht : ∀ t, A.who t) (hf : A.flags) (n : Fin 8) (f : StopLine → StopLine) (c : ClearCause) :
    s.Does A D D (s.changeLine n f c) := by
  unfold State.changeLine
  dsimp only
  split
  · next h => exact (State.modLine_light n f h.symm).does
  · split
    · exact State.flags_does (m := s.modLine n f) hf rfl (State.zoneStop_does ht n)
    · exact State.flags_does (m := s.modLine n f) hf rfl (State.zoneFree_does ht n c)

theorem State.lineEdge_does (ht : ∀ t, A.who t) (hf : A.flags) (n : Fin 8) (b : Bool) : s.Does A D D (s.lineEdge n b) := by
  unfold State.lineEdge
  split
  · exact .refl
  · exact State.changeLine_does ht hf _ _ _

theorem State.setAllStop_does (ht : ∀ t, A.who t) (hf : A.flags) (b : Bool) : s.Does A D D (s.setAllStop b) := by
  unfold State.setAllStop
  split
  · exact .refl
  · exact State.flags_does (m := { s with allStop := b }) hf rfl ((State.post_light _).does.trans (State.evalAll_does ht))

/-- The band changes and HOLD neither begins nor ends. -/
theorem State.band_light {b : Band} (h : s.band.isHold = b.isHold) : s.Light { s with band := b } :=
  ⟨⟨⟨rfl, rfl, h.symm, fun _ => rfl, rfl, fun _ _ => id, fun _ => rfl, .refl _⟩, fun _ => rfl, fun _ => rfl⟩, .same rfl, id⟩

theorem State.setBand_does (ht : ∀ t, A.who t) (hf : A.flags) (b : Band) : s.Does A D D (s.setBand b) := by
  unfold State.setBand
  split
  · exact .refl
  · dsimp only
    split
    · exact State.flags_does (m := { s with band := b }) hf rfl ((State.post_light _).does.trans (State.evalAll_does ht))
    · next h =>
      have hband : s.Light { s with band := b } := State.band_light (not_not.mp h)
      split
      · exact (hband.trans ((State.post_light _).trans (.foldl (fun _ v => State.recompute_light v) _ _))).does
      · exact (hband.trans (State.post_light _)).does

theorem State.mastReply_does (ht : ∀ t, A.who t) (hf : A.flags) (mean gust : Nat) : s.Does A D D (s.mastReply mean gust) :=
  State.Does.trans (State.Light.does (.plain (.same rfl) rfl)) (State.setBand_does ht hf _)

theorem State.mastExpired_does (ht : ∀ t, A.who t) (hf : A.flags) : s.Does A D D s.mastExpired :=
  State.Does.trans (State.Light.does (.plain (.same rfl) rfl)) (State.setBand_does ht hf _)

theorem State.mastSilent_does (ht : ∀ t, A.who t) (hf : A.flags) : s.Does A D D s.mastSilent := by
  unfold State.mastSilent
  split
  · exact .refl
  · split
    · exact State.mastExpired_does ht hf
    · exact State.Light.does (.plain (.same rfl) rfl)

/-! ## Units and exchanges (R155 to R168) -/

theorem Table.mem_adjust {α : Type} {l : Table α} {k : Nat} {f : α → α} {p : Nat × α} (h : p ∈ Table.adjust l k f) :
    p ∈ l ∨ ∃ x, Table.find l k = some x ∧ (k, x) ∈ l ∧ p = (k, f x) := by
  induction l with
  | nil => exact absurd h List.not_mem_nil
  | cons q r ih =>
    obtain ⟨j, w⟩ := q
    by_cases hj : j = k
    · simp only [Table.adjust, hj, if_true] at h
      rcases List.mem_cons.mp h with h | h
      · exact .inr ⟨w, by simp [Table.find, hj], by simp [hj], h⟩
      · exact .inl (List.mem_cons_of_mem _ h)
    · simp only [Table.adjust, hj, if_false] at h
      rcases List.mem_cons.mp h with h | h
      · exact .inl (h ▸ List.mem_cons_self)
      · rcases ih h with h | ⟨x, hx, hm, hp⟩
        · exact .inl (List.mem_cons_of_mem _ h)
        · exact .inr ⟨x, by simp [Table.find, hj, hx], List.mem_cons_of_mem _ hm, hp⟩

/-- A unit's record changes, its misses staying within their bound. -/
theorem State.modUnit_light (a : Nat) (f : UnitRec → UnitRec)
    (h : ∀ x, s.unit? a = some x → x.retries ≤ 2 → (f x).retries ≤ 2) : s.Light (s.modUnit a f) := by
  refine .plain ⟨fun ⟨h1, h2, h3, h4, h5⟩ => ⟨h1, h2, h3, (Table.wf_adjust ..).trans h4, h5⟩, id,
    fun ⟨hf, hu⟩ => ⟨hf, fun p hp => ?_⟩, id, id, .same rfl rfl⟩ rfl
  rcases Table.mem_adjust hp with hp | ⟨x, hx, hm, rfl⟩
  · exact hu p hp
  · exact h x hx (hu _ hm)

theorem State.startExchange_light (s : State) (a : Nat) (f : BusFunc) : s.Light (s.startExchange a f) := .plain (.same rfl) rfl

theorem State.choosePoll_light (s : State) : s.Light s.choosePoll := by
  have hzero : ∀ q : Option Nat, s.Light { s with forced := 0, pollPos := q } := fun q =>
    .plain ⟨id, id, fun ⟨_, hu⟩ => ⟨Nat.zero_le _, hu⟩, id, id, .same rfl rfl⟩ rfl
  unfold State.choosePoll
  split
  · refine (hzero s.pollPos).trans ?_
    exact State.startExchange_light _ _ _
  · split
    · next a _ =>
      refine (hzero (nextFrom s.pollList (a + 1))).trans ?_
      exact State.startExchange_light _ _ _
    · exact .plain (.same rfl) rfl

theorem State.tellSent_light (s : State) (c : BusCmd) : s.Light (s.tellSent c) := by
  unfold State.tellSent
  split
  · exact State.throwSent_light _ _
  · exact State.throwSent_light _ _
  · exact State.mapTransfer_light _ _
  · exact State.modPad_light _ _

theorem chooseFrom_light : ∀ (n : Nat) (s : State), s.Light (chooseFrom n s)
  | 0, s => s.choosePoll_light
  | n + 1, s => by
    rw [chooseFrom]
    split
    · exact s.choosePoll_light
    · next hforced =>
      split
      · exact s.choosePoll_light
      · next c rest hq =>
        have hpop : s.Light { s with cmdQueue := rest } := State.setCmdQueue_light (by rw [hq]; exact Nat.le_succ _)
        dsimp only
        split
        · exact ((hpop.trans (State.commandExit_light _)).trans State.trigger_light).trans (chooseFrom_light n _)
        · have htold := (hpop.trans (State.commandExit_light _)).trans (State.tellSent_light _ c)
          have hcount : s.Light { ({ s with cmdQueue := rest } : State).commandExit.tellSent c with forced := s.forced + 1 } :=
            htold.trans (.plain ⟨id, id, fun ⟨_, hu⟩ => ⟨Nat.lt_of_not_le hforced, hu⟩, id, id, .same rfl rfl⟩ rfl)
          exact hcount.trans (State.startExchange_light _ _ _)

theorem State.chooseNext_light (s : State) : s.Light s.chooseNext := chooseFrom_light _ s

/-- The survey may end with this unit: then the site runs, and its lines are sampled. -/
theorem State.markSurveyed_does (hf : A.flags) (a : Nat) : s.Does A D D (s.markSurveyed a) := by
  have hposts : ∀ (l : List (Fin 8)) (z : State), z.Light (l.foldl (fun s n =>
      if s.zoneStopped n then s.post (.zoneStop n.val s.lines[n].mode s.lines[n].asserted) else s) z) :=
    .foldl fun z n => by
      split
      · exact State.post_light _
      · exact .refl
  unfold State.markSurveyed
  split
  · exact .refl
  · next hsite =>
    have hmark : s.Light (s.modUnit a fun u => { u with surveyed := true }) := State.modUnit_light a _ fun _ _ h => h
    dsimp only
    split
    · obtain ⟨z, hz⟩ : ∃ z, z = s.modUnit a fun u => { u with surveyed := true } := ⟨_, rfl⟩
      rw [← hz] at hmark ⊢
      have hzsite : z.site = .survey := by rw [hz]; exact not_not.mp hsite
      unfold State.enterRunning
      refine hmark.does.trans (.trans ?_ (hposts _ _).does)
      refine .trans (m := { z with pollPos := z.lowestUnit }) (State.Light.does (.plain (.same rfl) rfl)) (.trans (.one (k := .opened) hf
        (u := { z with site := .running, pollPos := z.lowestUnit,
                       lines := z.lines.map fun x => { x with latch := x.latch || (x.mode.latching && x.asserted) } })
        ⟨rfl, hzsite⟩ fun _ => .same rfl) ?_)
      exact (State.post_light _).does
    · exact hmark.does

theorem State.padReply_does (ht : ∀ t, A.who t) (addr : Nat) (clamp : Clamp) (load : Load) :
    s.Does A D D (s.padReply addr clamp load) := by
  unfold State.padReply
  split
  · exact .refl
  · dsimp only
    split
    · exact (State.modPad_light _ _).does.trans (State.transferReply_does (ht _) _ _)
    · exact (State.modPad_light _ _).does

theorem State.deliver_sensed (ht : ∀ t, A.who t) (hr : A.rears) (hf : A.flags) (addr : Nat) (typ : UnitType) (rs : List Nat) :
    s.Sensed A D (s.deliver addr typ rs) := by
  unfold State.deliver
  split
  · exact State.detectorReply_sensed ht hr _ _
  · exact (State.pointReply_does ht _ _).sensed
  · exact (State.padReply_does ht _ _ _).sensed
  · exact (State.mastReply_does ht hf _ _).sensed
  · exact State.Does.refl.sensed

theorem State.unitBack_light (s : State) (addr : Nat) (x : UnitRec) : s.Light (s.unitBack addr x) := by
  unfold State.unitBack
  split
  · have h1 : s.Light (s.modUnit addr fun u => { u with st := .active, restorePending := false }) :=
      State.modUnit_light addr _ fun _ _ h => h
    exact (h1.trans (.plain (.same rfl) rfl)).trans (State.post_light _)
  · exact .refl

theorem State.goodReply_sensed (ht : ∀ t, A.who t) (hr : A.rears) (hf : A.flags) (addr : Nat) (x : UnitRec)
    (chars : List BusChar) : s.Sensed A D (s.goodReply addr x chars) := by
  unfold State.goodReply
  have h1 : s.Light (s.modUnit addr fun u => { u with retries := 0 }) :=
    State.modUnit_light addr _ fun _ _ _ => Nat.zero_le _
  exact ((h1.trans (State.unitBack_light _ addr x)).sensed (State.deliver_sensed ht hr hf _ _ _)).then
    ((State.markSurveyed_does hf addr).trans (State.chooseNext_light _).does)

theorem State.padSilent_does (ht : ∀ t, A.who t) (addr : Nat) : s.Does A D D (s.padSilent addr) := by
  unfold State.padSilent
  split
  · exact .refl
  · dsimp only
    split
    · exact ((State.modPad_light _ _).trans (State.failWatch_light _ _)).does.trans (State.abort_does (ht _) _)
    · exact ((State.modPad_light _ _).trans (State.failWatch_light _ _)).does

theorem State.handSilence_sensed (ht : ∀ t, A.who t) (hr : A.rears) (hf : A.flags) (addr : Nat) (typ : UnitType) :
    s.Sensed A D (s.handSilence addr typ) := by
  cases typ
  case detector => exact State.detectorSilent_sensed ht hr addr
  case point => exact (State.pointSilent_does ht addr).sensed
  case pad => exact (State.padSilent_does ht addr).sensed
  case mast => exact (State.mastSilent_does ht hf).sensed

theorem discardSilent_does (ht : ∀ t, A.who t) (addr : Nat) : ∀ (n : Nat) (s : State), s.Does A D D (discardSilent addr n s)
  | 0, _ => .refl
  | n + 1, s => by
    rw [discardSilent]
    split
    · exact .refl
    · next c _ =>
      have herase : s.Light { s with cmdQueue := s.cmdQueue.erase c } := State.setCmdQueue_light List.length_erase_le
      refine .trans (.trans (herase.does.trans ?_) (State.commandExit_light _).does) (discardSilent_does ht addr n _)
      split
      · exact State.faultPoint_does ht _ _ _ _
      · exact .refl

theorem State.silence_sensed (ht : ∀ t, A.who t) (hr : A.rears) (hf : A.flags) (addr : Nat) (x : UnitRec) (f : BusFunc) :
    s.Sensed A D (s.silence addr x f) := by
  unfold State.silence
  have h1 : s.Light (s.modUnit addr fun u => { u with st := .silent, retries := 0, restorePending := false }) :=
    State.modUnit_light addr _ fun _ _ _ => Nat.zero_le _
  exact (((h1.trans (.plain (.same rfl) rfl)).trans (State.post_light _)).sensed (State.handSilence_sensed ht hr hf addr _)).then
    ((discardSilent_does ht addr _ _).trans ((State.markSurveyed_does hf addr).trans (State.chooseNext_light _).does))

theorem State.miss_sensed (ht : ∀ t, A.who t) (hr : A.rears) (hf : A.flags) : s.Sensed A D s.miss := by
  unfold State.miss
  split
  · exact State.Does.refl.sensed
  · next x _ =>
    split
    · exact State.Does.refl.sensed
    · next y hy =>
      split
      · next hlt =>
        refine State.Does.sensed (State.Light.does ((State.modUnit_light x.addr _ fun z hz _ => ?_).trans (State.startExchange_light _ _ _)))
        rw [hy] at hz
        cases hz
        exact hlt
      · exact State.silence_sensed ht hr hf _ _ _

theorem State.busReply_sensed (ht : ∀ t, A.who t) (hr : A.rears) (hf : A.flags) (chars : List BusChar) :
    s.Sensed A D (s.busReply chars) := by
  unfold State.busReply
  split
  · exact State.Does.refl.sensed
  · unfold State.windowReply
    split
    · exact State.Does.refl.sensed
    · split
      · exact State.Does.refl.sensed
      · split
        · exact State.goodReply_sensed ht hr hf _ _ _
        · exact State.miss_sensed ht hr hf

theorem discardAll_light : ∀ (n : Nat) (s : State), s.Light (discardAll n s)
  | 0, _ => State.setCmdQueue_light (Nat.zero_le _)
  | n + 1, s => by
    rw [discardAll]
    split
    · exact .refl
    · next c rest hq =>
      have hpop : s.Light { s with cmdQueue := rest } := State.setCmdQueue_light (by rw [hq]; exact Nat.le_succ _)
      refine .trans (.trans (hpop.trans ?_) (State.commandExit_light _)) (discardAll_light n _)
      split
      · exact State.trigger_light
      · exact State.trigger_light
      · exact .refl
      · exact State.failWatch_light _ _

theorem State.resetBus_light (s : State) : s.Light s.resetBus := by
  unfold State.resetBus
  dsimp only
  have hdiscard : s.Light (discardAll (s.cmdQueue.length + s.padWaiters.length) { s with exchange := none }) :=
    .trans (.plain (.same rfl) rfl) (discardAll_light _ _)
  generalize discardAll (s.cmdQueue.length + s.padWaiters.length) { s with exchange := none } = z at hdiscard
  refine (hdiscard.trans ?_).trans (State.choosePoll_light _)
  refine .plain ⟨fun ⟨h1, h2, h3, h4, h5⟩ => ⟨h1, h2, h3, by rw [Table.wf_mapAll]; exact h4, h5⟩, id,
    fun _ => ⟨Nat.zero_le _, fun p hp => ?_⟩, id, id, .same rfl rfl⟩ rfl
  obtain ⟨q, -, rfl⟩ := List.mem_map.mp hp
  exact Nat.zero_le _

/-! ## Expiries and time -/

theorem State.throwExpires_does (ht : ∀ t, A.who t) (p : Nat) : s.Does A D D (s.throwExpires p) := by
  unfold State.throwExpires
  split
  · split
    · exact State.faultPoint_does ht _ _ _ _
    · exact .refl
  · exact .refl

theorem State.waitExpires_does (ht : A.who t) : s.Does A D D (s.waitExpires t) := by
  unfold State.waitExpires
  split
  · exact ((State.leaveQueue_light t).does.trans (State.dropSetting_does ht)).trans
      ((State.dropTail_light t).trans ((State.finalToEnd_light t).trans ((State.clearKeep_light t).trans
        ((State.refuse_light t _ _).trans (State.post_light _))))).does
  · exact .refl

theorem State.supervisionExpires_does (ht : A.who t) : s.Does A D D (s.supervisionExpires t) := by
  unfold State.supervisionExpires
  split
  · exact (State.modTr_light t _ rfl).does.trans (State.tripAny_does ht _)
  · exact .refl

theorem State.stageExpires_does (ht : A.who t) : s.Does A D D (s.stageExpires t) := by
  unfold State.stageExpires
  split
  · split
    · exact State.abort_does ht _
    · exact .refl
  · exact .refl

theorem State.watchExpires_light (s : State) (p : Nat) : s.Light (s.watchExpires p) := by
  unfold State.watchExpires
  split
  · split
    · split
      · exact State.failWatch_light _ _
      · exact .refl
    · exact .refl
  · exact .refl

theorem State.tick_light (s : State) : s.Light s.tick := by
  refine .of ⟨fun ⟨h1, h2, h3, hrest⟩ =>
      ⟨h1, by rw [State.tick, Table.wf_mapAll]; exact h2, by rw [State.tick, Table.wf_mapAll]; exact h3, hrest⟩,
    id, id, id, id, .same rfl rfl⟩ rfl (fun t => ?_) (fun t => ?_) ?_ id
  · have h : s.tick.tr t = { s.tr t with superv := tickCd (s.tr t).superv } := s.tr_mapTrs _ t
    rw [h]
    rfl
  · have h : s.tick.transfers[t] = (s.transfers[t]).map fun x => { x with cd := tickCd x.cd } := by
      simp [State.tick]
    rw [h, Option.isSome_map]
  · show ((s.waiting.map fun w => { w with wait := tickCd w.wait }).map (·.t)).Sublist _
    rw [List.map_map]
    exact .refl _

theorem State.beginReset_light (s : State) (c : ResetCause) (supply line : Bool) : s.Light (s.beginReset c supply line) := by
  unfold State.beginReset
  split
  · exact .plain ⟨id, id, id, id, fun _ => nofun, .same rfl rfl⟩ rfl
  · exact .plain ⟨id, id, id, id, fun _ => nofun, .same rfl rfl⟩ rfl

end

end Sys2Proof.Machine

/-! PROOFS. Grants and the walk of the pending queue as acts (R48 to R55, R59, R60, R63, R64). -/

namespace Sys2Proof.Machine

/-! ## Sections that may be taken -/

/-- What the sections taken must be, and stay while others are taken. -/
structure State.Takeable (s : State) (t : TId) (k : HoldKind) (n : Nat) : Prop where
  det : s.detOf n = .clear
  zone : ∀ x, s.sec? n = some x → s.inStoppedZone x.defn.zones = false
  hold : s.Unheld n ∨ s.holdBy t n = some .setting ∨ s.holdBy t n = some .granted ∧ k = .granted

/-- The site runs, or t waits: its grants are then no idle site's. -/
def State.MayGrant (s : State) (t : TId) : Prop := s.site = .running ∨ s.isWaiting t = true

section
variable {A : Scope} {D D' : TId → Prop} {s m u : State} {t : TId}

theorem State.MayGrant.busy (h : s.MayGrant t) : s.Busy t := h.imp_right .inl

theorem State.sec_setHold_self (s : State) (n : Nat) (h : Option Hold) :
    (s.setHold n h).sec? n = (s.sec? n).map fun x => { x with hold := h } := by
  rw [State.sec_setHold]
  simp

theorem State.sec_setHold_ne (s : State) {n k : Nat} (hk : k ≠ n) (h : Option Hold) : (s.setHold n h).sec? k = s.sec? k := by
  rw [State.sec_setHold]
  simp [hk]

theorem State.detOf_setHold (s : State) (n k : Nat) (h : Option Hold) : (s.setHold n h).detOf k = s.detOf k := by
  rw [State.detOf, State.sec_setHold, State.detOf]
  cases s.sec? k <;> rfl

/-- How t holds a section after it took one. -/
theorem State.holdBy_setHold_some (s : State) (n k : Nat) (t : TId) (kd : HoldKind) (b : Bool) (hn : k = n → (s.sec? n).isSome) :
    (s.setHold n (some ⟨t, kd, b⟩)).holdBy t k = if k = n then some kd else s.holdBy t k := by
  by_cases hk : k = n
  · obtain ⟨x, hx⟩ := Option.isSome_iff_exists.mp (hn hk)
    subst hk
    rw [State.holdBy_eq, State.sec_setHold_self, hx]
    simp
  · rw [State.holdBy_eq, State.sec_setHold_ne _ hk, ← State.holdBy_eq, if_neg hk]

theorem State.Takeable.setHold {k : HoldKind} {n : Nat} (h : s.Takeable t k n) (j : Nat) (hk : k = .granted ∨ k = .setting) :
    (s.setHold j (some ⟨t, k, false⟩)).Takeable t k n where
  det := (s.detOf_setHold j n _).trans h.det
  zone x hx := by
    rw [State.sec_setHold, Option.map_eq_some_iff] at hx
    obtain ⟨y, hy, rfl⟩ := hx
    exact h.zone y hy
  hold := by
    by_cases hn : n = j
    · subst hn
      cases hx : s.sec? n with
      | none =>
        refine .inl ?_
        rw [State.Unheld, State.sec_setHold_self, hx]
        rfl
      | some x =>
        rw [State.holdBy_setHold_some _ _ _ _ _ _ fun _ => by rw [hx]; rfl, if_pos rfl]
        rcases hk with rfl | rfl
        · exact .inr (.inr ⟨rfl, rfl⟩)
        · exact .inr (.inl rfl)
    · have hsec := s.sec_setHold_ne hn (some ⟨t, k, false⟩)
      rw [State.Unheld, hsec, State.holdBy_eq, hsec, ← State.holdBy_eq]
      exact h.hold

theorem State.takeable_of_available {k : HoldKind} {e : Entry} (h : s.available t e = true) : s.Takeable t k e.sec := by
  obtain ⟨x, hx, hhold, hdet, hzone, -⟩ := State.sec_of_available h
  refine ⟨by rw [State.detOf, hx]; exact hdet, fun y hy => ?_, ?_⟩
  · rw [hx] at hy
    cases hy
    exact hzone
  · rcases hhold with hh | ⟨h, hh, ht, hk⟩
    · exact .inl (by rw [State.Unheld, hx]; exact hh)
    · refine .inr (.inl ?_)
      rw [State.holdBy_eq, hx, Option.bind_some, hh, Option.bind_some, if_pos ht, hk]

/-- Taking a section is an act. -/
theorem State.take_does {k : HoldKind} {n : Nat} (ht : A.who t) (htakes : A.takes) (hb : s.MayGrant t) (h : s.Takeable t k n) :
    s.Does A D (fun v => D v ∨ v = t) (s.setHold n (some ⟨t, k, false⟩)) :=
  .act (k := .take t) ⟨ht, htakes⟩ ⟨n, k, rfl, hb.busy, h.det, h.zone, h.hold⟩ (fun _ => s.setHold_house _ _) .refl

/-! ## Units granted and reserved (R51, R52) -/

/-- The lock of a point changes nothing that a section to be taken must be. -/
theorem State.lockPoint_takeable (n : Nat) {k : HoldKind} {j : Nat} (h : s.Takeable t k j) : (s.lockPoint t n).Takeable t k j := by
  rw [(s.lockPoint_spec t n).1]
  exact ⟨h.det, h.zone, h.hold⟩

theorem State.lockPoint_mayGrant (n : Nat) (h : s.MayGrant t) : (s.lockPoint t n).MayGrant t := by
  rw [(s.lockPoint_spec t n).1]
  exact h

theorem State.takeRun_does (ht : A.who t) (htakes : A.takes) : ∀ (es : List Entry) (s : State), s.MayGrant t →
    (∀ e ∈ es, s.Takeable t .granted e.sec) → s.Does A (fun v => D v ∨ v = t) (fun v => D v ∨ v = t) (s.takeRun t false es)
  | [], _, _, _ => .refl
  | e :: es, s, hb, h => by
    refine ((State.take_does ht htakes hb (h e List.mem_cons_self)).trans (.done fun v hv => hv.elim id .inr)).trans
      ((State.lockPoint_light t e.sec).does.trans (State.takeRun_does ht htakes es _ (State.lockPoint_mayGrant _ hb) fun f hf => ?_))
    exact State.lockPoint_takeable _ ((h f (List.mem_cons_of_mem _ hf)).setHold _ (.inl rfl))

theorem State.grantUnit_does (ht : A.who t) (htakes : A.takes) (hb : s.MayGrant t) {es : List Entry}
    (h : ∀ e ∈ es, s.available t e = true) : s.Does A D D (s.grantUnit t es) :=
  .settle ht ((State.takeRun_does ht htakes es s hb fun e he => State.takeable_of_available (h e he)).weaken fun _ => .inl)

theorem State.reserve_does (ht : A.who t) (htakes : A.takes) : ∀ (es : List Entry) (s : State), s.MayGrant t →
    (∀ e ∈ es, s.Takeable t .setting e.sec) → s.Does A (fun v => D v ∨ v = t) (fun v => D v ∨ v = t)
      (es.foldl (fun s e => if s.holdBy t e.sec = some .setting then s
        else s.setHold e.sec (some ⟨t, .setting, false⟩)) s)
  | [], _, _, _ => .refl
  | e :: es, s, hb, h => by
    rw [List.foldl_cons]
    split
    · exact State.reserve_does ht htakes es s hb fun f hf => h f (List.mem_cons_of_mem _ hf)
    · refine ((State.take_does ht htakes hb (h e List.mem_cons_self)).trans (.done fun v hv => hv.elim id .inr)).trans
        (State.reserve_does ht htakes es _ hb fun f hf => ?_)
      exact (h f (List.mem_cons_of_mem _ hf)).setHold _ (.inr rfl)

theorem State.reserveUnit_does (ht : A.who t) (htakes : A.takes) (hb : s.MayGrant t) {es : List Entry}
    (h : ∀ e ∈ es, s.available t e = true) {cs : List BusCmd} (hc : s.offerOk cs = true) :
    s.Does A D D ((s.enqueue cs).reserveUnit t es) := by
  refine (State.enqueue_light (State.offerOk_room hc)).does.trans (.settle ht ?_)
  refine .weaken (State.reserve_does ht htakes es (s.enqueue cs) hb fun e he => ?_) fun _ => .inl
  have := State.takeable_of_available (k := .setting) (h e he)
  exact ⟨this.det, this.zone, this.hold⟩

/-! ## The prefix grant and its completion (R48 to R55) -/

theorem State.grantUnit_mayGrant (es : List Entry) (h : s.MayGrant t) : (s.grantUnit t es).MayGrant t := by
  have htaken := State.takeRun_runTaken t false es s
  have heval := (s.takeRun t false es).evalStop_evaluated t
  have honly : s.grantUnit t es = { s.grantUnit t es with site := s.site, waiting := s.waiting } := by
    rw [State.grantUnit_eq, heval.only, htaken.only]
  rw [honly]
  exact h

theorem prefixGrant_does (ht : A.who t) (htakes : A.takes) : ∀ (n : Nat) (s : State), s.MayGrant t →
    s.Does A D D (prefixGrant t n s).1
  | 0, _, _ => .refl
  | n + 1, s, hb => by
    rw [prefixGrant]
    split
    · exact .refl
    · dsimp only
      split
      · next hall =>
        have hav := List.all_eq_true.mp hall
        split
        · exact (State.grantUnit_does ht htakes hb hav).trans (prefixGrant_does ht htakes n _ (State.grantUnit_mayGrant _ hb))
        · split
          · next hroom => exact State.reserveUnit_does ht htakes hb hav hroom
          · exact (State.dropSetting_does ht).trans (State.Light.does (.plain (.same rfl) rfl))
      · exact State.dropSetting_does ht

theorem State.leaveParked_does (ht : A.who t) : s.Does A D D (s.leaveParked t) := by
  unfold State.leaveParked
  split
  · next hp =>
    have hmatched : ∀ x : TState, x ≠ .tripped → x ≠ .transfer → s.MatchedAt t →
        (x = .tripped ↔ (s.tr t).trips ≠ .empty) ∧ (x = .transfer ↔ s.transfers[t] ≠ none) := fun x h1 h2 hm =>
      ⟨⟨fun h => absurd h h1, fun h => absurd (hp.symm.trans (hm.1.mpr h)) nofun⟩,
        ⟨fun h => absurd h h2, fun h => absurd (hp.symm.trans (hm.2.mpr h)) nofun⟩⟩
    split
    · next hstop =>
      exact State.modTr_does ht _ (State.busy_of_ne hp nofun) (hmatched .authorised nofun nofun)
        (fun _ => ⟨fun _ => of_decide_eq_true hstop, nofun⟩) (.inl rfl)
    · next hstop =>
      exact State.modTr_does ht _ (State.busy_of_ne hp nofun) (hmatched .held nofun nofun)
        (fun _ => ⟨nofun, fun _ h => hstop (decide_eq_true h)⟩) (.inl rfl)
  · exact .refl

theorem State.completeGrant_does (ht : A.who t) (secs : List Nat) : s.Does A D D (s.completeGrant t secs) := by
  unfold State.completeGrant
  dsimp only
  have hfirst : s.Light ((s.bumpAuth t).modRoute t fun r => { r with endPos := s.grantedEnd t }) :=
    (State.bumpAuth_light t).trans (State.modRoute_light t _ rfl rfl)
  refine .trans (.trans (hfirst.trans (State.reloadWait_light t)).does (.trans (State.leaveParked_does ht)
    ((State.formAuth_light t).trans (State.postGranted_light t secs)).does)) ?_
  split
  · exact (State.leaveQueue_light t).does
  · exact .refl

theorem State.evaluate_does (ht : A.who t) (htakes : A.takes) (hb : s.MayGrant t) : s.Does A D D (s.evaluate t) := by
  unfold State.evaluate
  dsimp only
  split
  · exact prefixGrant_does ht htakes _ s hb
  · exact (prefixGrant_does ht htakes _ s hb).trans (State.completeGrant_does ht _)

/-! ## The walk (R63, R64) -/

theorem State.walkOne_does (ht : ∀ t, A.who t) (htakes : A.takes) (s : State) (t : TId) : s.Does A D D (s.walkOne t) := by
  unfold State.walkOne
  split
  · next h => exact State.evaluate_does (ht t) htakes (.inr (Bool.and_eq_true_iff.mp h).1)
  · exact .refl

theorem State.walkOnce_does (ht : ∀ t, A.who t) (htakes : A.takes) : s.Does A D D s.walkOnce := by
  unfold State.walkOnce
  split
  · exact State.Light.does (.plain (.same rfl) rfl)
  · exact .trans (State.Light.does (.plain (.same rfl) rfl)) (.foldl (State.walkOne_does ht htakes) _ _)

theorem walkFrom_does (ht : ∀ t, A.who t) (htakes : A.takes) : ∀ (n : Nat) (s : State), s.Does A D D (walkFrom n s)
  | 0, _ => State.walkOnce_does ht htakes
  | n + 1, s => by
    rw [walkFrom]
    split
    · exact (State.walkOnce_does ht htakes).trans (walkFrom_does ht htakes n _)
    · exact State.walkOnce_does ht htakes

theorem State.walk_does (ht : ∀ t, A.who t) (htakes : A.takes) : s.Does A D D s.walk := walkFrom_does ht htakes _ _

/-- t joins the queue where it does not wait (R59). -/
theorem State.joinQueue_does (ht : A.who t) (hq : A.queues) (hb : s.Busy t) : s.Does A D D (s.joinQueue t) := by
  refine .one (k := .queue t) ⟨ht, hq⟩ ⟨rfl, hb⟩ fun _ => ?_
  unfold State.joinQueue
  split
  · exact .refl
  · exact .same rfl

end

end Sys2Proof.Machine

/-! PROOFS. The transporter requests as acts (R42 to R47, R73 to R79, R106 to R113, R118, R120, R146 to R149). -/

namespace Sys2Proof.Machine

section
variable {A : Scope} {D D' : TId → Prop} {s m u : State} {t : TId}

/-! ## Judgement -/

theorem firstFailing_eq_none : ∀ {checks : List (Bool × Reason)}, firstFailing checks = none → ∀ c ∈ checks, c.1 = true
  | [], _, _, h => absurd h List.not_mem_nil
  | (ok, r) :: rest, h, c, hc => by
    cases ok
    · exact nomatch h
    · rcases List.mem_cons.mp hc with rfl | hc
      · rfl
      · exact firstFailing_eq_none (checks := rest) h c hc

theorem State.judgeTl_does {ty : Byte} {checks : List (Bool × Reason)} {act : State → State}
    (h : (∀ c ∈ checks, c.1 = true) → s.Does A D D (act s)) : s.Does A D D (s.judgeTl t ty checks act) := by
  unfold State.judgeTl
  split
  · exact (State.refuse_light t ty _).does
  · next hn => exact h (firstFailing_eq_none hn)

theorem State.running_iff : s.running = true ↔ s.site = .running := decide_eq_true_iff

/-! ## JOIN (R106 to R108) -/

/-- What the sections of a JOIN must be, and stay while others are taken. -/
def State.Joinable (s : State) (t : TId) (n : Nat) : Prop :=
  (s.detOf n = .occupied ∨ s.detOf n = .disturbed) ∧ (s.Unheld n ∨ s.holdBy t n = some .granted)

theorem State.Joinable.setHold {n : Nat} (h : s.Joinable t n) (j : Nat) :
    (s.setHold j (some ⟨t, .granted, true⟩)).Joinable t n := by
  refine ⟨by rw [State.detOf_setHold]; exact h.1, ?_⟩
  by_cases hn : n = j
  · subst hn
    cases hx : s.sec? n with
    | none =>
      refine .inl ?_
      rw [State.Unheld, State.sec_setHold_self, hx]
      rfl
    | some x =>
      rw [State.holdBy_setHold_some _ _ _ _ _ _ fun _ => by rw [hx]; rfl, if_pos rfl]
      exact .inr rfl
  · have hsec := s.sec_setHold_ne hn (some ⟨t, .granted, true⟩)
    rw [State.Unheld, hsec, State.holdBy_eq, hsec, ← State.holdBy_eq]
    exact h.2

theorem State.joinRun_does (ht : A.who t) (hj : A.joins) : ∀ (es : List Entry) (s : State), s.site = .running →
    (∀ e ∈ es, s.Joinable t e.sec) → s.Does A (fun v => D v ∨ v = t) (fun v => D v ∨ v = t) (s.takeRun t true es)
  | [], _, _, _ => .refl
  | e :: es, s, hsite, h => by
    obtain ⟨hdet, hhold⟩ := h e List.mem_cons_self
    refine .act (k := .join t) ⟨ht, hj⟩ ⟨e.sec, rfl, .inl hsite, hdet, hhold⟩ (fun _ => s.setHold_house _ _) ?_
    have honly := ((s.setHold e.sec (some ⟨t, .granted, true⟩)).lockPoint_spec t e.sec).1
    refine ((State.lockPoint_light t e.sec).does.trans (State.joinRun_does ht hj es _ ?_ fun f hf => ?_)).weaken
      fun v (hv : (D v ∨ v = t) ∨ v = t) => hv.elim id .inr
    · rw [honly]
      exact hsite
    · rw [honly]
      exact (h f (List.mem_cons_of_mem _ hf)).setHold _

/-- t, OFFLINE before, is PARKED with no causes on record. -/
theorem State.enlist_does (ht : A.who t) (hb : s.Busy t) (hoff : (s.tr t).state = .offline) (f : Transporter → Transporter)
    (hf : (f (s.tr t)).state = .parked ∧ (f (s.tr t)).trips = .empty) :
    s.Does A (fun v => D v ∨ v = t) (fun v => D v ∨ v = t) (s.modTr t f) := by
  refine .act (k := .enlist t) ht ⟨State.modTr_posted f hb (fun hm => ?_) (fun _ => ?_), id⟩
    (fun _ => State.modTr_house t f) (.done fun v hv => hv.elim id .inr)
  · rw [hf.1, hf.2]
    refine ⟨⟨nofun, fun h => absurd rfl h⟩, nofun, fun h => ?_⟩
    exact absurd (hoff.symm.trans (hm.2.mpr h)) nofun
  · rw [hf.1]
    exact ⟨nofun, nofun⟩

/-- Entries numbered from 1 rise, and the next index follows the last. -/
theorem rises_of_range {es : List Entry} {f : Entry} (hidx : es.map (·.index) = (List.range es.length).map (· + 1))
    (hlast : es.getLast? = some f) : (es.map (·.index)).Pairwise (· < ·) ∧ ∀ e ∈ es, e.index < f.index + 1 := by
  have hrise : (es.map (·.index)).Pairwise (· < ·) := by
    rw [hidx, List.pairwise_map]
    exact List.pairwise_lt_range.imp fun h => Nat.succ_lt_succ h
  refine ⟨hrise, fun e he => ?_⟩
  obtain ⟨l, rfl⟩ := List.getLast?_eq_some_iff.mp hlast
  rw [List.map_append, List.pairwise_append] at hrise
  rcases List.mem_append.mp he with he | he
  · exact Nat.lt_succ_of_lt (hrise.2.2 _ (List.mem_map_of_mem he) _ (List.mem_singleton_self _))
  · rw [List.mem_singleton.mp he]
    exact Nat.lt_succ_self _

theorem State.joinAccepted_does (ht : A.who t) (hj : A.joins) {j : JoinFields} {d : Dir} {f : Entry} (ld : Bool)
    (h : s.Stands j.sec d j.rear (s.standing j d) f) (hsite : s.site = .running) (hoff : (s.tr t).state = .offline)
    (hrepeat : j.rear ≠ some j.sec) (hsecs : ∀ e ∈ s.standing j d, s.Joinable t e.sec) :
    s.Does A D D (s.joinAccepted t j d ld) := by
  unfold State.joinAccepted
  dsimp only
  rw [h.last]
  dsimp only
  obtain ⟨hrise, hnext⟩ := rises_of_range h.indices h.last
  have hnodup : ((s.standing j d).map (·.sec)).Nodup := by
    rw [h.sections]
    cases hr : j.rear with
    | none => exact List.nodup_singleton _
    | some m => simpa using fun e => hrepeat (hr.trans (congrArg some e))
  refine (State.modRoute_light_of t (fun _ => ⟨s.standing j d, some f.index, some ⟨f.index, s.travelled f j.off⟩,
    s.travelled f j.off, 1, f.index + 1, false⟩) fun _ => ⟨hrise, hnext, hnodup⟩).does.trans ?_
  have hrun : ∀ z : State, z.site = .running → (∀ e ∈ s.standing j d, z.Joinable t e.sec) →
      z.Does A D (fun v => D v ∨ v = t) (z.takeRun t true (s.standing j d)) := fun z hz hes =>
    .weaken (State.joinRun_does ht hj _ _ hz hes) fun _ => .inl
  refine .trans (.settle ht (.trans (hrun _ hsite hsecs)
    (State.enlist_does ht ?_ ?_ _ ⟨rfl, rfl⟩))) ((State.formAuth_light t).trans (State.postGranted_light t _)).does
  all_goals rw [(State.takeRun_runTaken t true _ _).only]
  · exact .inl hsite
  · exact hoff

theorem State.onJoin_does (ht : A.who t) (hj : A.joins) (p : List Byte) : s.Does A D D (s.onJoin t p) := by
  unfold State.onJoin
  split
  · next j _ =>
    unfold State.joinRequest
    split
    · next d ld _ _ =>
      refine State.judgeTl_does fun hall => ?_
      simp only [State.joinChecks, List.forall_mem_cons, Bool.and_eq_true, decide_eq_true_eq, State.running_iff] at hall
      obtain ⟨⟨hsite, hoff⟩, -, -, -, hrepeat, hlinked, hheld, hclear, -⟩ := hall
      obtain ⟨f, hf⟩ : ∃ f, s.joinFront j.sec d = some f := by
        cases hf : s.joinFront j.sec d with
        | none => rw [hf] at hlinked; exact nomatch hlinked
        | some f => exact ⟨f, rfl⟩
      obtain ⟨g, hg⟩ := State.standing_stands hf fun m hm => by
        rw [hf, hm] at hlinked
        exact hlinked
      refine State.joinAccepted_does ht hj ld hg hsite hoff hrepeat fun e he => ?_
      have hmem : e.sec ∈ j.sec :: j.rear.toList := by
        have := List.mem_map_of_mem (f := (·.sec)) he
        rw [hg.sections] at this
        rcases List.mem_append.mp this with h | h
        · exact List.mem_cons_of_mem _ h
        · exact List.mem_singleton.mp h ▸ List.mem_cons_self
      refine ⟨of_decide_eq_true (List.all_eq_true.mp hclear _ hmem), .inl ?_⟩
      exact Option.isNone_iff_eq_none.mp (List.all_eq_true.mp hheld _ hmem)
    · exact (State.refuse_light t _ _).does
  · exact (State.refuse_light t _ _).does

/-! ## REPORT (R111 to R113) -/

theorem State.takeReport_light (r : Report) : s.Light (s.takeReport t r) := State.modTr_light t _ rfl

theorem State.setFront_light (n : Nat) : s.Light (s.setFront t n) := by
  unfold State.setFront
  split
  · split
    · exact State.modRoute_light t _ rfl rfl
    · exact .refl
  · exact .refl

theorem State.seeStand_light (r : Report) : s.Light (s.seeStand t r) := by
  unfold State.seeStand
  split
  · exact State.modTr_light t _ rfl
  · exact .refl

theorem State.noteReport_light (r : Report) : s.Light (s.noteReport t r) := by
  unfold State.noteReport
  split
  · exact (State.takeReport_light r).trans (State.setFront_light _)
  · exact State.modTr_light t _ rfl

theorem State.Light.state (h : s.Light m) (v : TId) : (m.tr v).state = (s.tr v).state :=
  congrArg Prod.fst (h.calm.duty v)

theorem State.releaseAll_serving {cause : ReleaseCause} {kept : Bool} : ∀ (es : List Entry) {s : State},
    (s.tr t).state ≠ .offline → ((s.releaseAll t es cause kept).tr t).state ≠ .offline
  | [], _, h => h
  | e :: es, s, h => by
    obtain ⟨m, hfreed, heval⟩ := s.release_freed t e cause kept
    refine State.releaseAll_serving es (s := s.release t e cause kept) ?_
    have hm : m.tr t = s.tr t := by rw [hfreed.only]; rfl
    rw [heval.record t (List.mem_singleton_self _), hm]
    exact (Transporter.evaluated_ne_offline h _ _).1

theorem State.echoRelease_does (ht : A.who t) (hs : A.sheds) (hq : A.queues) (h : (s.tr t).state ≠ .offline) :
    s.Does A D D (s.echoRelease t) := by
  have hrel : s.Does A D D (s.releaseAll t (s.pendingRun t) .echo (s.route t).keep) :=
    State.releaseAll_does ht hs _ _ _ _ fun e he => by
      refine .inr ?_
      rw [of_decide_eq_true (List.mem_filter.mp he).2]
      exact nofun
  unfold State.echoRelease
  dsimp only
  refine .trans (.trans hrel ?_) (State.clearKeep_light t).does
  split
  · exact State.joinQueue_does ht hq (.inr (.inr (.inl (State.releaseAll_serving _ h))))
  · exact ((State.dropTail_light t).trans (State.finalToEnd_light t)).does

theorem State.parkAndAnswer_does (ht : A.who t) (r : Report) : s.Does A D D (s.parkAndAnswer t r) := by
  unfold State.parkAndAnswer
  refine .trans ?_ (State.formAuth_light t).does
  split
  · next h =>
    refine State.modTr_does ht _ (State.busy_of_ne h.1 nofun) (fun hm => ?_) (fun _ => ⟨nofun, nofun⟩) (.inl rfl)
    exact ⟨⟨nofun, fun hne => absurd (h.1.symm.trans (hm.1.mpr hne)) nofun⟩, nofun,
      fun hne => absurd (h.1.symm.trans (hm.2.mpr hne)) nofun⟩
  · exact .refl

theorem State.echoStep_does (ht : A.who t) (hs : A.sheds) (hq : A.queues) (r : Report) (h : (s.tr t).state ≠ .offline) :
    s.Does A D D (s.echoStep t r) := by
  unfold State.echoStep
  split
  · exact State.tripAny_does ht _
  · have hecho : s.Does A D D (if s.echoes t r then s.echoRelease t else s) := by
      split
      · exact State.echoRelease_does ht hs hq h
      · exact .refl
    dsimp only
    generalize (if s.echoes t r then s.echoRelease t else s) = z at hecho ⊢
    refine hecho.trans ?_
    split
    · exact State.tripAny_does ht _
    · exact State.parkAndAnswer_does ht r

theorem State.liveReport_does (ht : A.who t) (hr : A.rears) (hs : A.sheds) (hq : A.queues) (r : Report)
    (h : (s.tr t).state ≠ .offline) : s.Does A D D (s.liveReport t r) := by
  unfold State.liveReport
  split
  · exact State.tripAny_does ht _
  · have htook : s.Light ((s.takeReport t r).setFront t r.sec) := (State.takeReport_light r).trans (State.setFront_light _)
    obtain ⟨z, hz⟩ : ∃ z, z = (s.takeReport t r).setFront t r.sec := ⟨_, rfl⟩
    obtain ⟨y, hy⟩ : ∃ y, y = if (z.route t).front = (s.route t).front then z else z.cascade t := ⟨_, rfl⟩
    dsimp only
    rw [← hz] at htook ⊢
    rw [← hy]
    have hzstate : (z.tr t).state ≠ .offline := by rw [htook.state]; exact h
    have hydoes : z.Does A D D y := by
      rw [hy]
      split
      · exact .refl
      · exact State.cascade_does ht hr
    have hystate : (y.tr t).state ≠ .offline := by
      rw [hy]
      split
      · exact hzstate
      · rcases (z.cascade_loosened t).state with hst | ⟨hst | hst, -⟩ <;> rw [hst]
        · exact hzstate
        · exact nofun
        · exact nofun
    refine htook.does.trans (hydoes.trans ?_)
    split
    · exact State.tripAny_does ht _
    · split
      · exact State.tripAny_does ht _
      · exact (State.seeStand_light r).does.trans (State.echoStep_does ht hs hq r (by rw [(State.seeStand_light r).state]; exact hystate))

/-! ## Recovery (R118) -/

/-- Sections of t, or of nobody, become GRANTED and entered for t. -/
theorem State.keepRun_does (ht : A.who t) (hk : A.keeps) : ∀ (es : List Entry) (s : State), (s.tr t).state ≠ .offline →
    (∀ e ∈ es, s.Unheld e.sec ∨ s.holdBy t e.sec ≠ none) →
    s.Does A (fun v => D v ∨ v = t) (fun v => D v ∨ v = t)
      (es.foldl (fun s e => s.setHold e.sec (some ⟨t, .granted, true⟩)) s)
  | [], _, _, _ => .refl
  | e :: es, s, hst, h => by
    refine .act (k := .keep t) ⟨ht, hk⟩ ⟨e.sec, rfl, .inr (.inr (.inl hst)), h e List.mem_cons_self⟩ (fun _ => s.setHold_house _ _) ?_
    rw [List.foldl_cons]
    refine (State.keepRun_does ht hk es (s.setHold e.sec (some ⟨t, .granted, true⟩)) hst fun f hf => ?_).weaken
      fun v (hv : (D v ∨ v = t) ∨ v = t) => hv.elim id .inr
    by_cases hn : f.sec = e.sec
    · cases hx : s.sec? e.sec with
      | none =>
        refine .inl ?_
        rw [State.Unheld, hn, State.sec_setHold_self, hx]
        rfl
      | some x =>
        rw [State.holdBy_setHold_some _ _ _ _ _ _ fun _ => by rw [hx]; rfl, if_pos hn]
        exact .inr nofun
    · have hsec := s.sec_setHold_ne hn (some ⟨t, .granted, true⟩)
      rw [State.Unheld, hsec, State.holdBy_eq, hsec, ← State.holdBy_eq]
      exact h f (List.mem_cons_of_mem _ hf)

theorem State.recovered_does (ht : A.who t) (hr : A.rears) (hs : A.sheds) (hk : A.keeps) (f : Entry) (r : Report)
    (hst : (s.tr t).state = .tripped) : s.Does A D D (s.recovered t f r) := by
  obtain ⟨lo, hlo⟩ : ∃ lo, lo = s.keptFrom t f.index r.rear := ⟨_, rfl⟩
  obtain ⟨out, hout⟩ : ∃ out, out = ((s.heldRun t).filter fun e => decide (e.index < lo)) ++
    (s.heldRun t).filter fun e => decide (f.index < e.index) := ⟨_, rfl⟩
  obtain ⟨kept, hkept⟩ : ∃ kept, kept = (s.heldRun t).filter fun e => decide (lo ≤ e.index ∧ e.index ≤ f.index) := ⟨_, rfl⟩
  obtain ⟨s1, hs1⟩ : ∃ s1, s1 = s.releaseAll t out .recover false := ⟨_, rfl⟩
  have hrel := State.releaseAll_runReleased t .recover false out s
  rw [← hs1] at hrel
  have hfirst : (s.releaseAll t ((s.heldRun t).filter fun e => decide (e.index < lo)) .recover false).releaseAll t
      ((s.heldRun t).filter fun e => decide (f.index < e.index)) .recover false = s1 := by
    rw [hs1, hout]
    exact (List.foldl_append ..).symm
  obtain ⟨s2, hs2⟩ : ∃ s2, s2 = kept.foldl (fun s e => s.setHold e.sec (some ⟨t, .granted, true⟩)) s1 := ⟨_, rfl⟩
  unfold State.recovered
  dsimp only
  rw [← hlo, hfirst, ← hkept, ← hs2]
  have houtheld : ∀ e ∈ out, s.holdBy t e.sec ≠ none := fun e he => by
    rw [hout] at he
    exact (List.mem_append.mp he).elim (fun h => State.heldRun_held (List.mem_of_mem_filter h))
      fun h => State.heldRun_held (List.mem_of_mem_filter h)
  have h1 : s.Does A D D s1 := hs1 ▸ State.releaseAll_does ht hs _ _ _ _ fun e he => .inr (houtheld e he)
  have h1tr := (hrel.quiet (.inr hst)).1
  have h1state : (s1.tr t).state = .tripped := by rw [h1tr]; exact hst
  have h2only : s2 = { s1 with sections := s2.sections } := by
    have hfold : ∀ (es : List Entry) (z : State), (es.foldl (fun s e => s.setHold e.sec (some ⟨t, .granted, true⟩)) z) =
        { z with sections := (es.foldl (fun s e => s.setHold e.sec (some ⟨t, .granted, true⟩)) z).sections } := fun es => by
      induction es with
      | nil => exact fun _ => rfl
      | cons e es ih =>
        intro z
        rw [List.foldl_cons]
        conv_lhs => rw [ih]
        rfl
    rw [hs2]
    exact hfold _ _
  have h2 : s1.Does A D (fun v => D v ∨ v = t) s2 := by
    rw [hs2]
    refine .weaken (State.keepRun_does ht hk kept s1 (by rw [h1state]; exact nofun) fun e he => ?_) fun _ => .inl
    have hheld : s.holdBy t e.sec ≠ none := State.heldRun_held (List.mem_of_mem_filter (hkept ▸ he))
    by_cases hin : e.sec ∈ out.map (·.sec)
    · refine .inl ?_
      rw [State.Unheld, hrel.holds]
      cases s.sec? e.sec with
      | none => rfl
      | some x => exact if_pos hin
    · refine .inr ?_
      rw [State.holdBy_eq, hrel.holds]
      rw [State.holdBy_eq] at hheld
      simpa only [if_neg hin, Option.map_id'] using hheld
  have hkeptsub : kept.Sublist (s1.route t).entries := by
    rw [hrel.route, hkept, State.heldRun, List.filter_filter]
    refine List.monotone_filter_right _ fun e he => ?_
    simp only [Bool.and_eq_true, decide_eq_true_eq] at he ⊢
    rw [hout]
    simp only [List.map_append, List.mem_append, List.mem_map, List.mem_filter, decide_eq_true_eq, not_or, not_exists, not_and]
    exact ⟨fun g hg => by omega, fun g hg => by omega⟩
  have hroute : s2.Light (s2.modRoute t fun x =>
      { x with entries := kept, endPos := some ⟨f.index, s.travelled f r.off⟩, finalOff := s.travelled f r.off, keep := false }.followLast) := by
    refine State.modRoute_light_of t _ fun hrise => ?_
    have hs2route : s2.route t = s1.route t := by rw [h2only]; rfl
    have hrise1 := hs2route ▸ hrise t
    obtain ⟨hidx, -, hsecs⟩ := hrise1
    have hself : kept.filter (fun _ => true) = kept := List.filter_eq_self.mpr fun _ _ => rfl
    have hbound : ∀ e ∈ kept, e.index < (s2.route t).nextIdx := fun e he => by
      rw [hs2route]
      exact (hs2route ▸ hrise t).2.1 e (hkeptsub.subset he)
    have := RouteRecord.rises_filter (r := { s2.route t with
      entries := kept, endPos := some ⟨f.index, s.travelled f r.off⟩, finalOff := s.travelled f r.off, keep := false })
      (fun _ => true) ⟨hidx.sublist (hkeptsub.map _), hbound, hsecs.sublist (hkeptsub.map _)⟩
    dsimp only at this
    rw [hself] at this
    exact this
  obtain ⟨s3, hs3⟩ : ∃ s3, s3 = s2.modRoute t fun x =>
    { x with entries := kept, endPos := some ⟨f.index, s.travelled f r.off⟩, finalOff := s.travelled f r.off, keep := false }.followLast := ⟨_, rfl⟩
  rw [← hs3] at hroute ⊢
  have h3state : (s3.tr t).state = .tripped := by
    rw [hroute.state, h2only]
    exact h1state
  have hpark : s3.Does A (fun v => D v ∨ v = t) (fun v => D v ∨ v = t)
      (((s3.modTr t fun x => { x with trips := .empty, awaitingFix := false }).bumpAuth t).modTr t
        fun x => { x with state := .parked }) := by
    have hcomm : ((s3.modTr t fun x => { x with trips := .empty, awaitingFix := false }).bumpAuth t).modTr t
        (fun x => { x with state := .parked }) =
        (s3.modTr t fun x => { x with trips := .empty, awaitingFix := false, state := .parked }).bumpAuth t :=
      congrArg (State.bumpAuth · t) (State.modTr_modTr s3 t (fun x => { x with trips := .empty, awaitingFix := false })
        fun x => { x with state := .parked })
    rw [hcomm]
    refine .trans (State.modTr_does ht (fun x => { x with trips := .empty, awaitingFix := false, state := .parked })
      (State.busy_of_ne h3state nofun) (fun hm => ?_) (fun _ => ⟨nofun, nofun⟩) (.inl rfl)) (State.bumpAuth_light t).does
    refine ⟨⟨nofun, fun h => absurd rfl h⟩, nofun, fun h => ?_⟩
    exact absurd (h3state.symm.trans (hm.2.mpr h)) nofun
  refine h1.trans ((State.Does.settle ht (h2.trans (hroute.does.trans hpark))).trans ?_)
  exact ((State.formAuth_light t).trans (State.post_light _)).does.trans (State.cascade_does ht hr)

/-- A REPORT is made of acts that keep no run, or it recovers a TRIPPED transporter. -/
theorem State.onReport_run (ht : A.who t) (hr : A.rears) (hs : A.sheds) (hq : A.queues) (p : List Byte) :
    s.Does A D D (s.onReport t p) ∨
      (s.tr t).state = .tripped ∧ ∃ m f r, s.Light m ∧ s.onReport t p = m.recovered t f r := by
  unfold State.onReport
  split
  · exact .inl (State.refuse_light t _ _).does
  · split
    · unfold State.handleReport
      split
      · exact .inl (State.refuse_light t _ _).does
      · next hst =>
        split
        · unfold State.fixReport
          dsimp only
          split
          · exact .inr ⟨hst, _, _, _, State.noteReport_light _, rfl⟩
          · exact .inl ((State.noteReport_light _).trans ((State.modTr_light t _ rfl).trans ((State.post_light _).trans
              (State.formAuth_light t)))).does
        · exact .inl ((State.noteReport_light _).trans (State.formAuth_light t)).does
      · next hst _ => exact .inl (State.liveReport_does ht hr hs hq _ hst)
    · exact .inl (State.refuse_light t _ _).does

theorem State.onReport_does (ht : A.who t) (hr : A.rears) (hs : A.sheds) (hk : A.keeps) (hq : A.queues) (p : List Byte) :
    s.Does A D D (s.onReport t p) := by
  rcases State.onReport_run ht hr hs hq p with h | ⟨hst, m, f, r, hm, heq⟩
  · exact h
  · rw [heq]
    exact hm.does.trans (State.recovered_does ht hr hs hk f r (by rw [hm.state]; exact hst))

end

end Sys2Proof.Machine

/-! PROOFS. ROUTE, GIVEBACK and CANCEL, TRANSFER, STEP, and the ways out of service as acts (R42 to R47, R73 to R79, R119,
R120, R146 to R149). -/

namespace Sys2Proof.Machine

/-! ## Entries numbered (R44, R45) -/

theorem numberFrom_index : ∀ (k : Nat) (es : List Entry), (numberFrom k es).map (·.index) = List.range' k es.length
  | _, [] => rfl
  | k, _ :: es => congrArg (k :: ·) (numberFrom_index (k + 1) es)

theorem numberFrom_sec : ∀ (k : Nat) (es : List Entry), (numberFrom k es).map (·.sec) = es.map (·.sec)
  | _, [] => rfl
  | k, e :: es => congrArg (e.sec :: ·) (numberFrom_sec (k + 1) es)

theorem numberFrom_rises (k : Nat) (es : List Entry) : ((numberFrom k es).map (·.index)).Pairwise (· < ·) := by
  rw [numberFrom_index]
  exact List.pairwise_lt_range'

theorem mem_numberFrom {k : Nat} {es : List Entry} {e : Entry} (h : e ∈ numberFrom k es) :
    k ≤ e.index ∧ e.index < k + es.length := by
  have hmem := List.mem_map_of_mem (f := (·.index)) h
  rw [numberFrom_index] at hmem
  exact List.mem_range'_1.mp hmem

theorem distinctSections_iff : ∀ (es : List Entry), distinctSections es = true ↔ (es.map (·.sec)).Nodup
  | [] => by simp [distinctSections]
  | e :: es => by
    rw [distinctSections, Bool.and_eq_true, distinctSections_iff es, List.map_cons, List.nodup_cons, List.all_eq_true]
    refine and_congr_left fun _ => ?_
    simp only [decide_eq_true_eq, List.mem_map, not_exists, not_and]

section
variable {A : Scope} {D D' : TId → Prop} {s m u : State} {t : TId}

/-! ## ROUTE (R42 to R47) -/

theorem State.queueIfOpen_does (ht : A.who t) (hq : A.queues) (hb : s.Busy t) : s.Does A D D (s.queueIfOpen t) := by
  unfold State.queueIfOpen
  split
  · exact .refl
  · exact State.joinQueue_does ht hq hb

theorem State.evaluate_site (s : State) (t : TId) : (s.evaluate t).site = s.site := State.ground_site (s.evaluate_ground t)

/-- The evaluation of an accepted ROUTE, and the queue it may join (R46, R47). -/
theorem State.evaluateAndQueue_does (ht : A.who t) (htakes : A.takes) (hq : A.queues) (hsite : s.site = .running) :
    s.Does A D D ((s.evaluate t).queueIfOpen t) :=
  (State.evaluate_does ht htakes (.inl hsite)).trans (State.queueIfOpen_does ht hq (.inl ((s.evaluate_site t).trans hsite)))

/-- A record that an accepted ROUTE makes longer rises as before (R45). -/
theorem State.lengthen_light (es : List Entry) (final : Nat)
    (hdistinct : distinctSections ((s.route t).entries ++ numberFrom (s.route t).nextIdx es) = true) :
    s.Light (s.modRoute t fun r =>
      { r with entries := (s.route t).entries ++ numberFrom (s.route t).nextIdx es, finalOff := final
               nextIdx := r.nextIdx + es.length }) := by
  refine State.modRoute_light_of t _ fun hrise => ?_
  obtain ⟨hidx, hnext, -⟩ := hrise t
  refine ⟨?_, fun e he => ?_, (distinctSections_iff _).mp hdistinct⟩
  · rw [List.map_append, List.pairwise_append]
    refine ⟨hidx, numberFrom_rises _ _, fun a ha b hb => ?_⟩
    obtain ⟨e, he, rfl⟩ := List.mem_map.mp ha
    obtain ⟨f, hf, rfl⟩ := List.mem_map.mp hb
    exact Nat.lt_of_lt_of_le (hnext e he) (mem_numberFrom hf).1
  · rcases List.mem_append.mp he with he | he
    · exact Nat.lt_of_lt_of_le (hnext e he) (Nat.le_add_right _ _)
    · exact (mem_numberFrom he).2

theorem State.routeRunning_does (ht : A.who t) (htakes : A.takes) (hq : A.queues) (ts : List Triple) (final : Nat)
    (hsite : s.site = .running) (hp : (s.tr t).state ≠ .parked) (hdistinct : distinctSections (s.routeAfter t ts) = true) :
    s.Does A D D (s.routeRunning t ts final) := by
  have hafter : s.routeAfter t ts = (s.route t).entries ++ numberFrom (s.route t).nextIdx (s.newEntries t ts) := if_neg hp
  unfold State.routeRunning
  dsimp only
  rw [hafter] at hdistinct ⊢
  refine (State.lengthen_light _ final hdistinct).does.trans ?_
  split
  · split
    · exact State.completeGrant_does ht _
    · exact .refl
  · exact State.evaluateAndQueue_does ht htakes hq hsite

/-- The rest of a ROUTE in PARKED, from the record rebuilt on (R46, R47). -/
theorem State.routeParked_rest (ht : A.who t) (htakes : A.takes) (hq : A.queues) (ts : List Triple) (final : Nat)
    (hsite : (s.rebuild t ts final).site = .running) :
    (s.rebuild t ts final).Does A D D (s.routeParked t ts final) := by
  unfold State.routeParked
  dsimp only
  split
  · exact State.completeGrant_does ht _
  · split
    · exact State.evaluateAndQueue_does ht htakes hq hsite
    · exact ((State.bumpAuth_light t).trans (State.formAuth_light t)).does.trans
        (State.evaluateAndQueue_does ht htakes hq ((State.ground_site (State.formAuth_ground _ t)).trans hsite))

theorem State.withdrawRoute_site (s : State) (t : TId) : (s.withdrawRoute t).site = s.site :=
  State.ground_site (s.withdrawRoute_ground t)

theorem State.routeParked_does (ht : A.who t) (hr : A.reroutes) (htakes : A.takes) (hq : A.queues) (ts : List Triple) (final : Nat)
    (hsite : s.site = .running) : s.Does A D D (s.routeParked t ts final) := by
  refine .trans ?_ (State.routeParked_rest ht htakes hq ts final ((s.withdrawRoute_site t).trans hsite))
  refine (State.withdrawRoute_does ht).trans ?_
  refine .trans (.one (k := .reroute) hr ?_ fun _ => .same rfl) (State.modRoute_light t _ rfl rfl).does
  exact ⟨.of rfl (List.Sublist.refl _), fun _ => rfl, fun _ => rfl⟩

theorem State.routeState_running (h : s.routeState t = true) : s.site = .running :=
  State.running_iff.mp (Bool.and_eq_true_iff.mp (Bool.and_eq_true_iff.mp h).1).1

theorem State.onRoute_does (ht : A.who t) (hr : A.reroutes) (htakes : A.takes) (hq : A.queues) (p : List Byte) :
    s.Does A D D (s.onRoute t p) := by
  unfold State.onRoute
  split
  · exact (State.refuse_light t _ _).does
  · exact (State.refuse_light t _ _).does
  · next final ts _ =>
    refine State.judgeTl_does fun hall => ?_
    have hstate : s.routeState t = true := hall _ List.mem_cons_self
    have hdistinct : distinctSections (s.routeAfter t ts) = true := hall (distinctSections (s.routeAfter t ts), .repeatedSection)
      (by simp [State.routeChecks])
    split
    · exact State.routeParked_does ht hr htakes hq ts final (State.routeState_running hstate)
    · next hp => exact State.routeRunning_does ht htakes hq ts final (State.routeState_running hstate) hp hdistinct

/-! ## GIVEBACK and CANCEL (R73 to R79) -/

theorem State.parkAt_does (ht : A.who t) (c : RoutePos) : s.Does A D D (s.parkAt t c) := by
  unfold State.parkAt
  split
  · next h =>
    refine State.modTr_does ht _ (State.busy_of_ne h.1 nofun) (fun hm => ?_) (fun _ => ⟨nofun, nofun⟩) (.inl rfl)
    exact ⟨⟨nofun, fun hne => absurd (h.1.symm.trans (hm.1.mpr hne)) nofun⟩, nofun,
      fun hne => absurd (h.1.symm.trans (hm.2.mpr hne)) nofun⟩
  · exact .refl

theorem State.cutRecord_does : s.Does A D D (s.cutRecord t) := by
  unfold State.cutRecord
  split
  · exact (State.finalToEnd_light t).does
  · exact .refl

theorem State.shorten_does (ht : A.who t) (e : RoutePos) (park : Bool) : s.Does A D D (s.shorten t e park).1 := by
  have hwithdraw : s.Does A D D (s.withdraw t) := (State.withdrawRoute_does ht).trans (State.clearKeep_light t).does
  unfold State.shorten
  dsimp only
  obtain ⟨s1, hs1⟩ : ∃ s1, s1 = s.withdraw t := ⟨_, rfl⟩
  rw [← hs1] at hwithdraw ⊢
  obtain ⟨c, hc⟩ : ∃ c, c = s1.effectiveEnd t e := ⟨_, rfl⟩
  rw [← hc]
  obtain ⟨moved, hmoved⟩ : ∃ b, b = decide ((s1.route t).endPos ≠ some c) := ⟨_, rfl⟩
  rw [← hmoved]
  have hif : ∀ (b : Bool) (y z : State), y.Does A D D z → y.Does A D D (if b then z else y) := fun b y z h => by
    cases b
    · exact .refl
    · exact h
  refine hwithdraw.trans ((hif moved _ _ (State.moveEnd_light s1 t c).does).trans
    ((hif park _ _ (State.parkAt_does ht c)).trans ((hif moved _ _ (State.formAuth_light t).does).trans State.cutRecord_does)))

theorem State.onGiveback_does (ht : A.who t) (p : List Byte) : s.Does A D D (s.onGiveback t p) := by
  unfold State.onGiveback
  split
  · exact (State.refuse_light t _ _).does
  · exact State.judgeTl_does fun _ => State.shorten_does ht _ _

/-! ## TRANSFER and STEP (R146 to R149) -/

/-- A stage begins with its record written; the rest of it is light. -/
theorem State.beginStage_writes (s : State) (t : TId) (x : Transfer) (g : Stage) :
    ∃ y, (s.setTransfer t (some y)).Light (s.beginStage t x g) := by
  cases g
  case unclamp | clamp => exact ⟨_, State.offerPad_light _ _⟩
  case raise | lower => exact ⟨_, State.placeXfer_light t _⟩
  case confirm => exact ⟨_, .refl⟩

/-- t, PARKED, and with its first transfer record, is in TRANSFER. -/
theorem State.enterTransfer_does (ht : A.who t) (hp : (s.tr t).state = .parked) (y : Transfer) :
    s.Does A D D ((s.modTr t fun x => { x with state := .transfer }).setTransfer t (some y)) := by
  refine .one (k := .post t) ht ⟨.of (x := { s.tr t with state := .transfer }) (y := some y) (State.busy_of_ne hp nofun) rfl rfl
    (fun hm => ?_) (fun _ => ⟨nofun, nofun⟩) rfl (.refl _), id, .inl ?_⟩ fun _ => ?_
  · exact ⟨⟨nofun, fun hne => absurd (hp.symm.trans (hm.1.mpr hne)) nofun⟩, ⟨fun _ => nofun, fun _ => rfl⟩⟩
  · have hself := congrArg Transporter.stop (State.tr_modTr_self s t fun x => { x with state := .transfer })
    exact hself
  · exact .same rfl

theorem State.transferAccepted_does (ht : A.who t) (n : Nat) (x : Pad) (k : XferKind) (hp : (s.tr t).state = .parked) :
    s.Does A D D (s.transferAccepted t n x k) := by
  unfold State.transferAccepted
  split
  · exact .refl
  · dsimp only
    have hparked : ((s.withdrawRoute t).tr t).state = .parked := by
      rw [((s.withdrawRoute_withdrawn t).quiet (.inl hp)).1]
      exact hp
    refine (State.withdrawRoute_does ht).trans ((State.Light.does
      ((State.finalToEnd_light t).trans (State.modPad_light n fun x => { x with st := .transfer t }))).trans ?_)
    obtain ⟨z, hz⟩ : ∃ z, z = ((s.withdrawRoute t).finalToEnd t).modPad n fun x => { x with st := .transfer t } := ⟨_, rfl⟩
    have hzparked : (z.tr t).state = .parked := by
      rw [hz]
      exact hparked
    rw [← hz]
    have hstage : ∀ first stage, z.Does A D D
        (((z.modTr t fun x => { x with state := .transfer }).beginStage t first stage).formAuth t) := fun first stage => by
      obtain ⟨y, hy⟩ := State.beginStage_writes (z.modTr t fun x => { x with state := .transfer }) t first stage
      exact (State.enterTransfer_does ht hzparked y).trans (hy.trans (State.formAuth_light t)).does
    exact hstage _ _

theorem State.onTransfer_does (ht : A.who t) (p : List Byte) : s.Does A D D (s.onTransfer t p) := by
  unfold State.onTransfer
  split
  · unfold State.transferRequest
    split
    · exact State.judgeTl_does fun _ => .refl
    · split
      · exact State.judgeTl_does fun _ => .refl
      · refine State.judgeTl_does fun hall => State.transferAccepted_does ht _ _ _ ?_
        have hstate : s.transferState t = true := hall _ List.mem_cons_self
        exact of_decide_eq_true (Bool.and_eq_true_iff.mp (Bool.and_eq_true_iff.mp hstate).1).2
  · exact (State.refuse_light t _ _).does

theorem State.onStepResult_does (hw : A.who t) (p : List Byte) : s.Does A D D (s.onStepResult t p) := by
  unfold State.onStepResult
  split
  · split
    · unfold State.stepRequest
      split
      · next x hx =>
        split
        · split
          · exact State.endStage_does hw x (by rw [hx]; rfl)
          · exact State.abort_does hw _
        · exact (State.refuse_light t _ _).does
      · exact (State.refuse_light t _ _).does
    · exact (State.refuse_light t _ _).does
  · exact (State.refuse_light t _ _).does

/-! ## Out of service (R119, R120) -/

theorem State.goOffline_does (ht : A.who t) (hs : A.sheds) (c : ReleaseCause) (hst : (s.tr t).state.quiet) :
    s.Does A D D (s.goOffline t c) := by
  unfold State.goOffline
  dsimp only
  obtain ⟨s1, hs1⟩ : ∃ s1, s1 = s.withdrawRoute t := ⟨_, rfl⟩
  have hwithdrawn := s.withdrawRoute_withdrawn t
  rw [← hs1] at hwithdrawn ⊢
  have h1state : (s1.tr t).state = (s.tr t).state := by rw [(hwithdrawn.quiet hst).1]
  obtain ⟨s2, hs2⟩ : ∃ s2, s2 = s1.releaseAll t (s1.heldRun t) c false := ⟨_, rfl⟩
  have hrel := State.releaseAll_runReleased t c false (s1.heldRun t) s1
  rw [← hs2] at hrel ⊢
  have h2state : (s2.tr t).state = (s.tr t).state := by
    rw [(hrel.quiet (by rw [h1state]; exact hst)).1]
    exact h1state
  have h1 : s.Does A D D s1 := hs1 ▸ State.withdrawRoute_does ht
  have h2 : s1.Does A D D s2 := hs2 ▸ State.releaseAll_does ht hs _ _ _ _ fun e he => .inr (State.heldRun_held he)
  refine h1.trans (h2.trans ((State.modRoute_light_of t (fun _ => .empty) fun _ =>
    ⟨List.Pairwise.nil, fun _ h => absurd h List.not_mem_nil, List.nodup_nil⟩).does.trans (.trans ?_ (State.formAuth_light t).does)))
  have hserving : (s2.tr t).state ≠ .offline := by
    rw [h2state]
    rcases hst with h | h <;> rw [h] <;> exact nofun
  refine State.modTr_does ht Transporter.offline (.inr (.inr (.inl hserving))) (fun hm => ?_) (fun _ => ⟨nofun, nofun⟩) (.inr rfl)
  refine ⟨⟨nofun, fun h => absurd rfl h⟩, nofun, fun h => ?_⟩
  have htr : (s2.tr t).state = .transfer := hm.2.mpr h
  rw [h2state] at htr
  rcases hst with h | h <;> exact absurd (h.symm.trans htr) nofun

theorem State.onLeave_does (ht : A.who t) (hs : A.sheds) (p : List Byte) : s.Does A D D (s.onLeave t p) := by
  unfold State.onLeave
  split
  · refine State.judgeTl_does fun hall => State.goOffline_does ht hs _ (.inl ?_)
    exact of_decide_eq_true (Bool.and_eq_true_iff.mp (hall _ List.mem_cons_self)).2
  · exact (State.refuse_light t _ _).does

end

end Sys2Proof.Machine

/-! PROOFS. The operations commands as acts: what each does before its one reply (R17, R35, R36, R73, R117, R119, R128,
R139, R140, R143, R151, R165, R183 to R191). -/

namespace Sys2Proof.Machine

/-- From s a change of detection and then acts within the scope led to a state that is u, or u after one more reply at o. -/
def State.Obeyed (s : State) (o : OpsId) (A : Scope) (D : TId → Prop) (u : State) : Prop :=
  ∃ m, s.Sensed A D m ∧ (u = m ∨ ∃ tag ty r d, u = m.reply o tag ty r d)

section
variable {A : Scope} {D D' : TId → Prop} {s m u : State} {o : OpsId} {tag ty : Byte}

/-! ## Judgement and operands -/

theorem State.reply_obeyed (r : Reason) (d : List Byte) : s.Obeyed o A D (s.reply o tag ty r d) :=
  ⟨s, State.Does.refl.sensed, .inr ⟨tag, ty, r, d, rfl⟩⟩

theorem State.judge_sensed {checks : List (Bool × Reason)} {act : State → State} {data : State → List Byte}
    (h : (∀ c ∈ checks, c.1 = true) → s.Sensed A D (act s)) : s.Obeyed o A D (s.judge o tag ty checks act data) := by
  unfold State.judge
  split
  · exact State.reply_obeyed _ _
  · next hn => exact ⟨_, h (firstFailing_eq_none hn), .inr ⟨_, _, _, _, rfl⟩⟩

theorem State.judge_obeyed {checks : List (Bool × Reason)} {act : State → State} {data : State → List Byte}
    (h : (∀ c ∈ checks, c.1 = true) → s.Does A D D (act s)) : s.Obeyed o A D (s.judge o tag ty checks act data) :=
  State.judge_sensed fun hall => (h hall).sensed

theorem State.oneId_obeyed {p : List Byte} {f : Nat → State} (h : ∀ n, s.Obeyed o A D (f n)) :
    s.Obeyed o A D (s.oneId o tag ty p f) := by
  unfold State.oneId
  split
  · exact h _
  · exact State.reply_obeyed _ _

theorem State.noFields_obeyed {p : List Byte} (h : s.Obeyed o A D u) : s.Obeyed o A D (s.noFields o tag ty p u) := by
  unfold State.noFields
  split
  · exact h
  · exact State.reply_obeyed _ _

theorem State.query_obeyed (p : List Byte) (f : Nat → Option (List Byte)) : s.Obeyed o A D (s.query o tag ty p f) :=
  State.oneId_obeyed fun _ => by
    split
    · exact State.reply_obeyed _ _
    · exact State.reply_obeyed _ _

/-! ## Control commands -/

theorem State.onZoneClear_obeyed (ht : ∀ t, A.who t) (hf : A.flags) (p : List Byte) :
    s.Obeyed o A D (s.onZoneClear o tag p) :=
  State.oneId_obeyed fun _ => by
    unfold State.zoneClear
    split
    · exact State.judge_obeyed fun _ => .refl
    · exact State.judge_obeyed fun _ => State.changeLine_does ht hf _ _ _

theorem State.onCancel_obeyed (ht : ∀ t, A.who t) (p : List Byte) : s.Obeyed o A D (s.onCancel o tag p) := by
  unfold State.onCancel
  split
  · unfold State.cancel
    split
    · exact State.judge_obeyed fun _ => .refl
    · exact State.judge_obeyed fun _ => State.shorten_does (ht _) _ _
  · exact State.reply_obeyed _ _

theorem State.onRecover_obeyed (p : List Byte) : s.Obeyed o A D (s.onRecover o tag p) :=
  State.oneId_obeyed fun _ => by
    unfold State.recover
    split
    · exact State.judge_obeyed fun _ => .refl
    · exact State.judge_obeyed fun _ => (State.modTr_light _ _ rfl).does

theorem State.onRetire_obeyed (ht : ∀ t, A.who t) (hs : A.sheds) (p : List Byte) : s.Obeyed o A D (s.onRetire o tag p) :=
  State.oneId_obeyed fun _ => by
    unfold State.retire
    split
    · exact State.judge_obeyed fun _ => .refl
    · refine State.judge_obeyed fun hall => State.goOffline_does (ht _) hs _ ?_
      have hst := hall _ (List.mem_cons_of_mem _ List.mem_cons_self)
      exact of_decide_eq_true (p := (s.tr _).state = .parked ∨ (s.tr _).state = .tripped) hst

theorem State.onThrowPoint_obeyed (p : List Byte) : s.Obeyed o A D (s.onThrowPoint o tag p) := by
  unfold State.onThrowPoint
  split
  · unfold State.throwCommand
    split
    · exact State.judge_obeyed fun _ => .refl
    · split
      · exact State.judge_obeyed fun _ => .refl
      · refine State.judge_obeyed fun hall => (State.enqueue_light ?_).does
        have hroom := hall (decide (s.cmdQueue.length < Config.cmdCapacity), .state) (by simp)
        exact of_decide_eq_true (p := s.cmdQueue.length < Config.cmdCapacity) hroom
  · exact State.reply_obeyed _ _

theorem State.onClearPoint_obeyed (p : List Byte) : s.Obeyed o A D (s.onClearPoint o tag p) :=
  State.oneId_obeyed fun _ => by
    unfold State.clearPoint
    split
    · exact State.judge_obeyed fun _ => .refl
    · exact State.judge_obeyed fun _ => ((State.modPoint_light _ _).trans State.trigger_light).does

theorem State.onRestoreSection_obeyed (ht : ∀ t, A.who t) (hr : A.rears) (p : List Byte) :
    s.Obeyed o A D (s.onRestoreSection o tag p) :=
  State.oneId_obeyed fun _ => by
    unfold State.restoreSection
    split
    · exact State.judge_obeyed fun _ => .refl
    · exact State.judge_sensed fun _ => State.restoreDetection_sensed ht hr _

theorem State.restore_light (a : Nat) : s.Light (s.restore a) := by
  unfold State.restore
  split
  · exact .refl
  · split
    · exact .refl
    · have hlisted : s.Light { s.modUnit a fun u => { u with st := .restoring, retries := 0, restorePending := true } with
          restoreList := s.restoreList ++ [a] } :=
        .trans (State.modUnit_light a _ fun _ _ _ => Nat.zero_le _) (.plain (.same rfl) rfl)
      dsimp only
      split
      · exact hlisted.trans (State.chooseNext_light _)
      · exact hlisted

theorem State.onRestoreUnit_obeyed (p : List Byte) : s.Obeyed o A D (s.onRestoreUnit o tag p) :=
  State.oneId_obeyed fun _ => by
    unfold State.restoreUnit
    split
    · exact State.judge_obeyed fun _ => .refl
    · exact State.judge_obeyed fun _ => (State.restore_light _).does

theorem State.onPadReserve_obeyed (p : List Byte) : s.Obeyed o A D (s.onPadReserve o tag p) := by
  unfold State.onPadReserve
  split
  · unfold State.padReserve
    split
    · exact State.judge_obeyed fun _ => .refl
    · exact State.judge_obeyed fun _ => (State.modPad_light _ _).does
  · exact State.reply_obeyed _ _

theorem State.onPadFree_obeyed (p : List Byte) : s.Obeyed o A D (s.onPadFree o tag p) :=
  State.oneId_obeyed fun _ => State.judge_obeyed fun _ => (State.modPad_light _ _).does

theorem State.onPadService_obeyed (p : List Byte) : s.Obeyed o A D (s.onPadService o tag p) := by
  unfold State.onPadService
  split
  · split
    · unfold State.padService
      split
      · exact State.judge_obeyed fun _ => .refl
      · split
        · exact State.judge_obeyed fun _ => (State.modPad_light _ _).does
        · exact State.judge_obeyed fun _ => (State.modPad_light _ _).does
    · exact State.reply_obeyed _ _
  · exact State.reply_obeyed _ _

theorem State.declarePad_obeyed (k n : Nat) (x : Pad) : s.Obeyed o A D (s.declarePad o tag k n x) := by
  unfold State.declarePad
  split
  · exact State.judge_obeyed fun _ => ((State.setLoc_light _ _).trans (State.modPad_light _ _)).does
  · exact State.judge_obeyed fun _ =>
      (((State.setLoc_light _ _).trans (State.modPad_light _ _)).trans (State.openWatch_light _ _)).does
  · exact State.judge_obeyed fun _ => .refl

theorem State.declareTransporter_obeyed (k : Nat) (t : TId) : s.Obeyed o A D (s.declareTransporter o tag k t) := by
  unfold State.declareTransporter
  split
  · exact State.judge_obeyed fun _ => ((State.setLoc_light _ _).trans (State.recompute_light t)).does
  · exact State.judge_obeyed fun _ =>
      (((State.setLoc_light _ _).trans (State.modPad_light _ _)).trans (State.recompute_light t)).does
  · exact State.judge_obeyed fun _ => .refl

theorem State.onDeclare_obeyed (p : List Byte) : s.Obeyed o A D (s.onDeclare o tag p) := by
  unfold State.onDeclare
  split
  · split
    · unfold State.declare
      split
      · split
        · exact State.declareTransporter_obeyed _ _
        · exact State.judge_obeyed fun _ => .refl
      · split
        · exact State.declarePad_obeyed _ _ _
        · exact State.judge_obeyed fun _ => .refl
    · exact State.reply_obeyed _ _
  · exact State.reply_obeyed _ _

theorem State.onXferAbort_obeyed (ht : ∀ t, A.who t) (p : List Byte) : s.Obeyed o A D (s.onXferAbort o tag p) :=
  State.oneId_obeyed fun _ => by
    unfold State.xferAbort
    split
    · exact State.judge_obeyed fun _ => .refl
    · exact State.judge_obeyed fun _ => State.abort_does (ht _) _

/-! ## Configuration commands -/

theorem PortCore.rejudge_rx (p : Params) (c : PortCore) : (c.rejudge p).rx = c.rx := by
  unfold PortCore.rejudge
  split
  · split <;> rfl
  · unfold PortCore.flowDown
    split <;> rfl

theorem State.rejudgePorts_light : s.Light s.rejudgePorts := by
  have htl : ∀ t : TId, s.rejudgePorts.tl t = { s.tl t with core := (s.tl t).core.rejudge s.params } := fun t =>
    Vector.getElem_map _ t.isLt
  have hops : ∀ o : OpsId, s.rejudgePorts.opsPort o = { s.opsPort o with core := (s.opsPort o).core.rejudge s.params } := fun o =>
    Vector.getElem_map _ o.isLt
  refine .plain ⟨id, id, id, id, id, fun t h => ?_, fun o h => ?_, fun l => .inl ?_, fun o => .inl ?_⟩ rfl
  · rw [htl]
    exact ⟨(congrArg List.length (PortCore.rejudge_rx ..)).trans_le h.1, h.2⟩
  · rw [hops]
    exact ⟨(congrArg List.length (PortCore.rejudge_rx ..)).trans_le h.1, h.2⟩
  · cases l with
    | tl t => exact (congrArg (fun q : TlPort => q.core.rx) (htl t)).trans (PortCore.rejudge_rx ..)
    | ops o => exact (congrArg (fun q : OpsPort => q.core.rx) (hops o)).trans (PortCore.rejudge_rx ..)
  · rw [hops]

theorem State.writeParam_does (ht : ∀ t, A.who t) (hf : A.flags) {code v : Nat} (idx : Nat) (hlow : 1 ≤ code) (hhigh : code ≤ 20)
    (hrange : paramInRange code v = true) (hord : (s.params.write code v).ordered = true) :
    s.Does A D D (s.writeParam code idx v) := by
  have hwrite : s.Light { s with params := s.params.write code v } := by
    refine .plain ⟨id, fun hp => ?_, id, id, id, .same rfl rfl⟩ rfl
    rcases Nat.lt_or_eq_of_le hhigh with hlt | rfl
    · exact (Params.legal_write_iff hp hlow (Nat.le_of_lt_succ hlt) v).mpr ⟨hrange, hord⟩
    · exact hp
  unfold State.writeParam
  dsimp only
  refine hwrite.does.trans ?_
  split
  · split
    · unfold State.forT
      exact (State.Light.foldl (f := fun (s : State) (t : TId) => s.recompute t) (fun _ t => State.recompute_light t) allT _).does
    · exact .refl
  · split
    · exact State.rejudgePorts_light.does
    · split
      · split
        · exact State.changeLine_does ht hf _ _ _
        · exact .refl
      · exact .refl

theorem State.onSetParam_obeyed (ht : ∀ t, A.who t) (hf : A.flags) (p : List Byte) : s.Obeyed o A D (s.onSetParam o tag p) := by
  unfold State.onSetParam
  split
  · refine State.judge_obeyed fun hall => ?_
    simp only [List.forall_mem_cons] at hall
    obtain ⟨hknown, -, -, hrange, hord, -⟩ := hall
    obtain ⟨hlow, hhigh, -⟩ := of_decide_eq_true hknown
    exact State.writeParam_does ht hf _ hlow hhigh hrange hord
  · exact State.reply_obeyed _ _

theorem State.site_of_defineOpen {checks : List (Bool × Reason)} (h : ∀ c ∈ s.defineOpen ++ checks, c.1 = true) :
    s.site ≠ .survey ∧ s.site ≠ .running :=
  ⟨of_decide_eq_true (p := s.site ≠ .survey) (h _ List.mem_cons_self),
    of_decide_eq_true (p := s.site ≠ .running) (h _ (List.mem_cons_of_mem _ List.mem_cons_self))⟩

theorem Table.mem_put {α : Type} {k : Nat} {x : α} : ∀ {l : Table α} {p : Nat × α}, p ∈ Table.put l k x → p ∈ l ∨ p = (k, x)
  | [], p, h => .inr (List.mem_singleton.mp h)
  | q :: l, p, h => by
    rw [Table.put] at h
    split at h
    · exact (List.mem_cons.mp h).elim .inr .inl
    · split at h
      · exact (List.mem_cons.mp h).elim .inr fun h => .inl (List.mem_cons_of_mem _ h)
      · rcases List.mem_cons.mp h with rfl | h
        · exact .inl List.mem_cons_self
        · exact (Table.mem_put h).imp_left (List.mem_cons_of_mem _)

theorem Table.mem_of_mem_drop {α : Type} {k : Nat} : ∀ {l : Table α} {p : Nat × α}, p ∈ Table.drop l k → p ∈ l
  | (j, w) :: l, p, h => by
    rw [Table.drop] at h
    split at h
    · exact List.mem_cons_of_mem _ h
    · exact (List.mem_cons.mp h).elim (fun h => h ▸ List.mem_cons_self) fun h => List.mem_cons_of_mem _ (Table.mem_of_mem_drop h)

/-- Records of sections that hold nothing come or go, while the site does not run. -/
theorem State.define_does (hw : A.wipes) {t : Table Section} (hsite : s.site ≠ .running)
    (hwf : Table.wf s.sections = true → Table.wf t = true) (h : ∀ p ∈ t, p ∈ s.sections ∨ p.2.hold = none) :
    s.Does A D D { s with sections := t } :=
  .one (k := .define) hw ⟨rfl, hsite, h⟩ fun _ => ⟨fun ⟨h1, h2⟩ => ⟨hwf h1, h2⟩, id, id, id, id, .same rfl rfl⟩

theorem State.onDefineSection_obeyed (hw : A.wipes) (p : List Byte) : s.Obeyed o A D (s.onDefineSection o tag p) := by
  unfold State.onDefineSection
  split
  · exact State.reply_obeyed _ _
  · refine State.judge_obeyed fun hall => State.define_does hw (State.site_of_defineOpen hall).2 (fun h => Table.wf_drop h _) ?_
    exact fun p hp => .inl (Table.mem_of_mem_drop hp)
  · refine State.judge_obeyed fun hall => State.define_does hw (State.site_of_defineOpen hall).2 (fun h => Table.wf_put h _ _) ?_
    refine fun p hp => (Table.mem_put hp).imp_right fun h => ?_
    rw [h]

theorem State.onDefinePoint_obeyed (p : List Byte) : s.Obeyed o A D (s.onDefinePoint o tag p) := by
  unfold State.onDefinePoint
  split
  · split
    · exact State.judge_obeyed fun _ => State.Light.does (.plain ⟨fun ⟨h1, h2, h3⟩ => ⟨h1, Table.wf_drop h2 _, h3⟩, id, id, id, id, .same rfl rfl⟩ rfl)
    · exact State.reply_obeyed _ _
  · split
    · exact State.reply_obeyed _ _
    · exact State.judge_obeyed fun _ => State.Light.does (.plain ⟨fun ⟨h1, h2, h3⟩ => ⟨h1, Table.wf_put h2 _ _, h3⟩, id, id, id, id, .same rfl rfl⟩ rfl)
  · exact State.reply_obeyed _ _

theorem State.onDefinePad_obeyed (p : List Byte) : s.Obeyed o A D (s.onDefinePad o tag p) := by
  unfold State.onDefinePad
  split
  · split
    · exact State.judge_obeyed fun _ =>
        State.Light.does (.plain ⟨fun ⟨h1, h2, h3, h4⟩ => ⟨h1, h2, Table.wf_drop h3 _, h4⟩, id, id, id, id, .same rfl rfl⟩ rfl)
    · exact State.reply_obeyed _ _
  · split
    · exact State.reply_obeyed _ _
    · exact State.judge_obeyed fun _ =>
        State.Light.does (.plain ⟨fun ⟨h1, h2, h3, h4⟩ => ⟨h1, h2, Table.wf_put h3 _ _, h4⟩, id, id, id, id, .same rfl rfl⟩ rfl)
  · exact State.reply_obeyed _ _

theorem State.putUnit_light (a : Nat) (x : Option UnitType) : s.Light (s.putUnit a x) := by
  cases x with
  | none =>
    exact .plain ⟨fun ⟨h1, h2, h3, h4, h5⟩ => ⟨h1, h2, h3, Table.wf_drop h4 _, h5⟩, id,
      fun ⟨hf, hu⟩ => ⟨hf, fun p hp => hu p (Table.mem_of_mem_drop hp)⟩, id, id, .same rfl rfl⟩ rfl
  | some typ =>
    refine .plain ⟨fun ⟨h1, h2, h3, h4, h5⟩ => ⟨h1, h2, h3, Table.wf_put h4 _ _, h5⟩, id,
      fun ⟨hf, hu⟩ => ⟨hf, fun p hp => ?_⟩, id, id, .same rfl rfl⟩ rfl
    rcases Table.mem_put hp with hp | rfl
    · exact hu p hp
    · exact Nat.zero_le _

theorem State.onDefineUnit_obeyed (p : List Byte) : s.Obeyed o A D (s.onDefineUnit o tag p) := by
  unfold State.onDefineUnit
  split
  · exact State.judge_obeyed fun _ => (State.putUnit_light _ _).does
  · exact State.reply_obeyed _ _

theorem State.onDefineTransporter_obeyed (p : List Byte) : s.Obeyed o A D (s.onDefineTransporter o tag p) := by
  unfold State.onDefineTransporter
  split
  · unfold State.defineTransporter
    split
    · exact State.judge_obeyed fun _ => .refl
    · exact State.judge_obeyed fun _ => (State.modTr_light _ _ rfl).does
  · exact State.reply_obeyed _ _

theorem State.onAllocate_obeyed (p : List Byte) : s.Obeyed o A D (s.onAllocate o tag p) := by
  unfold State.onAllocate
  split
  · exact State.judge_obeyed fun _ => (State.Light.foldl
      (f := fun (s : State) (t : TId) => s.modTr t fun x => { x with quota := quotaOf (p.map BitVec.toNat) t })
      (fun _ t => State.modTr_light t _ rfl) allT _).does
  · exact State.reply_obeyed _ _

/-! ## COMMIT and CONFIGURE (R185, R186) -/

/-- Clearing the runtime state keeps house. -/
theorem State.clearRun_house (x : SiteState) : s.House (s.setSite x).clearRun := by
  have hpost : s.House (s.setSite x) := .trans (m := { s with site := x }) (.same rfl) (State.post_light _).house
  refine hpost.trans ⟨fun ⟨h1, h2, h3, h4, h5⟩ => ?_, id, fun _ => ⟨Nat.zero_le _, fun p hp => ?_⟩, fun _ => Nat.zero_le _, id,
    .same rfl rfl⟩
  · simp only [State.TablesWf, State.clearRun, Table.wf_mapAll]
    exact ⟨h1, h2, h3, h4, h5⟩
  · obtain ⟨q, -, rfl⟩ := List.mem_map.mp hp
    exact Nat.zero_le _

/-- The runtime state is cleared into a site that does not run; band, telescopes and notices may follow. -/
theorem State.wipe_does (hw : A.wipes) {x : SiteState} (hx : x ≠ .running) (hhouse : s.House u)
    (hu : u = { (s.setSite x).clearRun with band := u.band, telescopes := u.telescopes, opss := u.opss }) : s.Does A D D u := by
  have hcleared := s.clearRun_cleared x
  refine .one (k := .wipe) hw ⟨?_, fun t => ?_, fun p hp => ?_, fun t => ?_, ?_, fun t => ?_⟩ fun _ => hhouse
  · rw [hu]
    exact hx
  · rw [hu]
    exact congrArg Transporter.duty (hcleared.transporters t)
  · rw [hu] at hp
    obtain ⟨q, -, rfl⟩ := List.mem_map.mp hp
    rfl
  · rw [hu]
    exact (hcleared.routes t).2.2
  · rw [hu]
    rfl
  · have hroute : u.route t = .empty := by
      rw [hu]
      exact (hcleared.routes t).1
    rw [hroute]
    exact ⟨List.Pairwise.nil, fun _ h => absurd h List.not_mem_nil, List.nodup_nil⟩

theorem State.commitAccepted_does (hw : A.wipes) : s.Does A D D s.commitAccepted := by
  unfold State.commitAccepted
  refine .trans (State.wipe_does hw (x := .survey) nofun ?_ ?_) (State.chooseNext_light _).does
  · refine (State.clearRun_house .survey).trans ?_
    unfold State.commitBand
    split
    · exact .same rfl
    · exact .trans (m := { (s.setSite .survey).clearRun with band := .hold .mastPending }) (.same rfl) (State.post_light _).house
  · unfold State.commitBand
    split <;> rfl

theorem State.onCommit_obeyed (hw : A.wipes) (p : List Byte) : s.Obeyed o A D (s.onCommit o tag p) := by
  refine State.noFields_obeyed ?_
  unfold State.commit
  split
  · exact State.reply_obeyed _ _
  · split
    · exact State.reply_obeyed _ _
    · exact ⟨_, (State.commitAccepted_does hw).sensed, .inr ⟨_, _, _, _, rfl⟩⟩

theorem State.onConfigure_obeyed (hw : A.wipes) (p : List Byte) : s.Obeyed o A D (s.onConfigure o tag p) :=
  State.noFields_obeyed (State.judge_obeyed fun _ => State.wipe_does hw (x := .unconfigured) nofun
    ((State.clearRun_house .unconfigured).trans ⟨fun ⟨h1, h2, h3, h4, _⟩ => ⟨h1, h2, h3, h4, rfl⟩, id, id, id, id, .same rfl rfl⟩) rfl)

/-! ## RESET (R190, R191) -/

theorem State.resetPort_light (q : PortId) : s.Light (s.resetPort q) := by
  have hzero : ∀ n : Nat, 0 ≤ n := Nat.zero_le
  cases q with
  | tl t =>
    refine .plain ⟨id, id, id, id, id, fun v h => ?_, fun _ => id, fun l => ?_, fun _ => .inl rfl⟩ rfl
    · rw [State.resetPort, State.tl_modTl]
      split
      · exact ⟨hzero _, hzero _⟩
      · exact h
    · cases l with
      | tl v =>
        rw [State.resetPort, State.core, State.tl_modTl]
        split
        · exact .inr rfl
        · exact .inl rfl
      | ops o => exact .inl rfl
  | ops o =>
    refine .plain ⟨id, id, id, id, id, fun _ => id, fun v h => ?_, fun l => ?_, fun v => ?_⟩ rfl
    · rw [State.resetPort, State.opsPort_modOps]
      split
      · exact ⟨hzero _, hzero _, hzero _, hzero _⟩
      · exact h
    · cases l with
      | tl v => exact .inl rfl
      | ops v =>
        rw [State.resetPort, State.core, State.opsPort_modOps]
        split
        · exact .inr rfl
        · exact .inl rfl
    · rw [State.resetPort, State.core, State.opsPort_modOps]
      split
      · exact .inr ⟨rfl, rfl⟩
      · exact .inl rfl

theorem State.resetCommand_obeyed (p : List Byte) : s.Obeyed o A D (s.resetCommand o tag p) := by
  unfold State.resetCommand
  split
  · split
    · unfold State.resetLinkCommand
      split
      · exact ⟨_, (State.resetPort_light _).does.sensed, .inr ⟨_, _, _, _, rfl⟩⟩
      · exact State.reply_obeyed _ _
    · split
      · split
        · exact State.judge_obeyed fun _ => s.resetBus_light.does
        · exact ⟨_, (State.beginReset_light s _ _ _).does.sensed, .inl rfl⟩
      · exact State.reply_obeyed _ _
  · exact State.reply_obeyed _ _

/-! ## The owners of the operations commands (R180) -/

/-- The commands that clear the runtime state or write the sections. -/
def wipingTypes : List Byte := [Config.tyDefineSection, Config.tyCommit, Config.tyConfigure]

theorem opsOwners_obeyed (ht : ∀ t, A.who t) (hr : A.rears) (hf : A.flags) : ∀ e ∈ opsOwners,
    (e.1 = Config.tyRetire → A.sheds) → (e.1 ∈ wipingTypes → A.wipes) →
    ∀ (s : State) (o : OpsId) (tag : Byte) (p : List Byte), s.Obeyed o A D (e.2 s o tag p) := by
  simp only [opsOwners, List.forall_mem_cons, List.not_mem_nil, false_imp_iff, implies_true, and_true]
  refine ⟨?_, ?_, ?_, ?_, ?_, ?_, ?_, ?_, ?_, ?_, ?_, ?_, ?_, ?_, ?_, ?_, ?_, ?_, ?_, ?_, ?_, ?_, ?_, ?_, ?_, ?_, ?_, ?_, ?_, ?_,
    ?_, ?_, ?_⟩
  all_goals intro hsheds hwipes s o tag p
  · exact State.noFields_obeyed (State.reply_obeyed _ _)
  iterate 7 exact State.query_obeyed _ _
  iterate 2 exact State.noFields_obeyed (State.judge_obeyed fun _ => State.setAllStop_does ht hf _)
  · exact State.onZoneClear_obeyed ht hf p
  · exact State.onCancel_obeyed ht p
  · exact State.onRecover_obeyed p
  · exact State.onRetire_obeyed ht (hsheds trivial) p
  · exact State.onThrowPoint_obeyed p
  · exact State.onClearPoint_obeyed p
  · exact State.onRestoreSection_obeyed ht hr p
  · exact State.onRestoreUnit_obeyed p
  · exact State.onPadReserve_obeyed p
  · exact State.onPadFree_obeyed p
  · exact State.onPadService_obeyed p
  · exact State.onDeclare_obeyed p
  · exact State.onXferAbort_obeyed ht p
  · exact State.onSetParam_obeyed ht hf p
  · exact State.onDefineSection_obeyed (hwipes (by decide)) p
  · exact State.onDefinePoint_obeyed p
  · exact State.onDefinePad_obeyed p
  · exact State.onDefineUnit_obeyed p
  · exact State.onDefineTransporter_obeyed p
  · exact State.onAllocate_obeyed p
  · exact State.onCommit_obeyed (hwipes (by decide)) p
  · exact State.onConfigure_obeyed (hwipes (by decide)) p
  · exact State.resetCommand_obeyed p

end

end Sys2Proof.Machine

/-! PROOFS. Commands as acts: the frames that are taken from a port (R170, R171, R176), the owners of the transporter
requests (R180), and the course of every command (log 1, log 11). -/

namespace Sys2Proof.Machine

/-! ## At the ports -/

/-- Between s and u only the ports changed, each within its capacities where it was. -/
structure State.AtPorts (s u : State) : Prop where
  only : u = { s with tls := u.tls, opss := u.opss }
  bounded : s.Bounded → u.Bounded

/-- Frames of port l that P allows are taken between s and u, one after another, each while it may be taken; between them
only the ports change. -/
inductive State.Takes (l : PortId) (P : Frame → Prop) : State → State → Prop
  | done {s : State} : State.Takes l P s s
  | port {s m u : State} (h : s.AtPorts m) (rest : State.Takes l P m u) : State.Takes l P s u
  | own {s u : State} (f : Frame) (hf : P f) (may : s.mayTake l = true) (rest : State.Takes l P (s.own l f) u) :
    State.Takes l P s u

section
variable {A : Scope} {D D' : TId → Prop} {P Q : Frame → Prop} {s m u : State} {l : PortId}

theorem State.Takes.trans (h : s.Takes l P m) (h' : m.Takes l P u) : s.Takes l P u := by
  induction h with
  | done => exact h'
  | port hp _ ih => exact .port hp (ih h')
  | own f hf may _ ih => exact .own f hf may (ih h')

theorem State.AtPorts.takes (h : s.AtPorts m) : s.Takes l P m := .port h .done

theorem State.modCore_atPorts (s : State) (l : PortId) (f : PortCore → PortCore)
    (h : (s.core l).rx.length ≤ Config.rxCapacity → (f (s.core l)).rx.length ≤ Config.rxCapacity) : s.AtPorts (s.modCore l f) := by
  cases l with
  | tl t =>
    refine ⟨rfl, fun ⟨htl, hrest⟩ => ⟨fun v => ?_, hrest⟩⟩
    rw [State.modCore, State.tl_modTl]
    split
    · next hv => exact hv ▸ ⟨h (htl t).1, (htl t).2⟩
    · exact htl v
  | ops o =>
    refine ⟨rfl, fun ⟨htl, hops, hq⟩ => ⟨htl, fun v => ?_, hq⟩⟩
    rw [State.modCore, State.opsPort_modOps]
    split
    · next hv => exact hv ▸ ⟨h (hops o).1, (hops o).2⟩
    · exact hops v

theorem State.AtPorts.trans (h : s.AtPorts m) (h' : m.AtPorts u) : s.AtPorts u :=
  ⟨by rw [h'.only, h.only], h'.bounded ∘ h.bounded⟩

theorem PortCore.flowAfterFrame_rx (p : Params) (b : Bool) (c : PortCore) : (c.flowAfterFrame p b).rx = c.rx := by
  unfold PortCore.flowAfterFrame PortCore.orderFlow
  split
  · split <;> rfl
  · split <;> rfl

theorem PortCore.flowDown_rx (p : Params) (c : PortCore) : (c.flowDown p).rx = c.rx := by
  unfold PortCore.flowDown PortCore.orderFlow
  split <;> rfl

theorem State.post_atPorts (s : State) (b : NoticeBody) : s.AtPorts (s.post b) := by
  refine ⟨rfl, fun ⟨htl, hops, hq⟩ => ⟨htl, fun o => ?_, hq⟩⟩
  rw [State.opsPort_post]
  exact OpsPort.addNotice_bounded _ (hops o)

theorem State.receiveFrame_atPorts (s : State) (l : PortId) (f : Frame) : s.AtPorts (s.receiveFrame l f) := by
  unfold State.receiveFrame
  split
  · next hroom =>
    refine s.modCore_atPorts l _ fun _ => ?_
    rw [PortCore.flowAfterFrame_rx, List.length_append]
    exact hroom
  · refine (s.modCore_atPorts l _ fun h => ?_).trans (State.post_atPorts _ _)
    rw [PortCore.flowAfterFrame_rx]
    exact h

theorem State.takeFrame_atPorts (s : State) (l : PortId) : s.AtPorts (s.takeFrame l) := by
  refine s.modCore_atPorts l _ fun h => ?_
  rw [PortCore.flowDown_rx]
  exact Nat.le_trans ((List.drop_sublist 1 _).length_le) h

theorem OpsPort.start_bounded (now : Clock) (o : OpsId) {p : OpsPort} (h : p.Bounded) : (p.start now o).Bounded := by
  obtain ⟨hrx, hreplies, hnotices, hlost⟩ := h
  unfold OpsPort.start
  split
  · split
    · exact ⟨hrx, hreplies, hnotices, hlost⟩
    · next hr =>
      have hrs := Nat.le_of_succ_le (by simpa [hr] using hreplies)
      split
      · exact ⟨hrx, hrs, hnotices, hlost⟩
      · exact ⟨hrx, hrs, hnotices, hlost⟩
    · next n ns _ _ hn =>
      have hns : ns.length + 1 ≤ Config.noticeCapacity := by simpa [hn] using hnotices
      unfold OpsPort.afterNotice
      split
      · exact ⟨hrx, hreplies, by simpa using hns, Nat.zero_le _⟩
      · exact ⟨hrx, hreplies, Nat.le_of_succ_le hns, hlost⟩
    · exact ⟨hrx, hreplies, hnotices, hlost⟩
  · exact ⟨hrx, hreplies, hnotices, hlost⟩

theorem State.startLine_atPorts (s : State) (o : OpsId) : s.AtPorts (s.modOps o (OpsPort.start s.clock o)) := by
  refine ⟨rfl, fun ⟨htl, hops, hq⟩ => ⟨htl, fun v => ?_, hq⟩⟩
  rw [State.opsPort_modOps]
  split
  · exact OpsPort.start_bounded _ _ (hops v)
  · exact hops v

/-- The head of a receive queue is taken: it leaves the queue and goes to its owner. -/
theorem State.takeHead_takes (h : ∀ f ∈ (s.core l).rx, P f) (may : s.mayTake l = true) : s.Takes l P (s.takeHead l) := by
  unfold State.takeHead
  split
  · next f rest hrx =>
    refine .port (s.takeFrame_atPorts l) (.own f (h f (by rw [hrx]; exact List.mem_cons_self)) ?_ .done)
    exact (State.mayTake_modCore ..).trans may
  · exact .done

theorem intake_takes : ∀ (n : Nat) (s : State), s.Takes l (fun _ => True) (intake l n s)
  | 0, _ => .done
  | n + 1, s => by
    rw [intake]
    split
    · next may => exact (State.takeHead_takes (fun _ _ => trivial) may).trans (intake_takes n _)
    · exact .done

theorem State.frameArrives_takes (s : State) (l : PortId) (f : Frame) : s.Takes l (fun _ => True) (s.frameArrives l f) :=
  .port (s.receiveFrame_atPorts l f) (intake_takes _ _)

/-- At an empty receive queue the frame that arrives is the only one that may be taken. -/
theorem State.frameArrives_takes_only {f : Frame} (h : (s.core l).rx = []) : s.Takes l (· = f) (s.frameArrives l f) := by
  have hrx := State.receiveFrame_rx f h
  refine .port (s.receiveFrame_atPorts l f) ?_
  simp only [State.frameArrives, State.takeIn, hrx, List.length_singleton]
  rw [intake]
  split
  · next may =>
    rw [intake]
    exact State.takeHead_takes (fun g hg => List.mem_singleton.mp (hrx ▸ hg)) may
  · exact .done

theorem State.receiveByte_takes (s : State) (l : PortId) (b : Byte) : s.Takes l (fun _ => True) (s.receiveByte l b) := by
  have hset : ∀ r, s.AtPorts (s.setReceiver l r) := fun r => s.modCore_atPorts l _ id
  unfold State.receiveByte
  split
  · split
    · exact (hset _).takes
    · split
      · exact (s.modCore_atPorts l _ id).takes
      · split
        · exact (s.modCore_atPorts l _ id).takes
        · exact .done
  · split
    · exact (hset _).takes
    · exact (hset _).takes
  · dsimp only
    split
    · split
      · exact .port (hset _) (State.frameArrives_takes _ l _)
      · exact (hset _).takes
    · exact (hset _).takes

theorem State.receiveBytes_takes (l : PortId) : ∀ (bs : List Byte) (s : State), s.Takes l (fun _ => True) (s.receiveBytes l bs)
  | [], _ => .done
  | b :: bs, s => by
    refine State.Takes.trans (m := s.live fun s => s.receiveByte l b) ?_ (State.receiveBytes_takes l bs _)
    unfold State.live
    split
    · exact .done
    · exact s.receiveByte_takes l b

theorem State.startOps_takes (s : State) (o : OpsId) : s.Takes (.ops o) (fun _ => True) (s.startOps o) := by
  unfold State.startOps
  dsimp only
  split
  · exact .port (s.startLine_atPorts o) (intake_takes _ _)
  · exact (s.startLine_atPorts o).takes

/-! ## The owners of the transporter requests (R109, R180) -/

theorem tlOwners_does {t : TId} (ht : A.who t) (hr : A.rears) : ∀ e ∈ tlOwners,
    (e.1 = Config.tyJoin → A.joins) → (e.1 = Config.tyReport → A.sheds ∧ A.keeps ∧ A.queues) →
    (e.1 = Config.tyRoute → A.reroutes ∧ A.takes ∧ A.queues) → (e.1 = Config.tyLeave → A.sheds) →
    ∀ (s : State) (p : List Byte), s.Does A D D (e.2 s t p) := by
  simp only [tlOwners, List.forall_mem_cons, List.not_mem_nil, false_imp_iff, implies_true, and_true]
  refine ⟨?_, ?_, ?_, ?_, ?_, ?_, ?_⟩
  all_goals intro hjoin hreport hroute hleave s p
  · exact State.onJoin_does ht (hjoin trivial) p
  · obtain ⟨hs, hk, hq⟩ := hreport trivial
    exact State.onReport_does ht hr hs hk hq p
  · obtain ⟨hrr, htakes, hq⟩ := hroute trivial
    exact State.onRoute_does ht hrr htakes hq p
  · exact State.onGiveback_does ht p
  · exact State.onTransfer_does ht p
  · exact State.onStepResult_does ht p
  · exact State.onLeave_does ht (hleave trivial) p

theorem ownerOf_mem {α : Type} {l : List (Byte × α)} {ty : Byte} {a : α} (h : ownerOf l ty = some a) :
    ∃ e ∈ l, e.1 = ty ∧ e.2 = a := by
  obtain ⟨e, he, rfl⟩ := Option.map_eq_some_iff.mp h
  exact ⟨e, List.mem_of_find?_eq_some he, by simpa using List.find?_some he, rfl⟩

/-- A frame taken from a transporter's port reloads supervision and goes to its owner, or does nothing. -/
theorem State.own_tl {t : TId} {f : Frame} (s : State) :
    s.own (.tl t) f = s ∨ ∃ e ∈ tlOwners, e.1 = f.typ ∧ s.own (.tl t) f = e.2 (s.reloadSupervision t) t f.payload := by
  unfold State.own
  dsimp only
  split
  · next act hact =>
    obtain ⟨e, he, hty, rfl⟩ := ownerOf_mem hact
    exact .inr ⟨e, he, hty, rfl⟩
  · exact .inl rfl

theorem State.own_tl_does {t : TId} {f : Frame} (ht : A.who t) (hr : A.rears) (hjoin : f.typ = Config.tyJoin → A.joins)
    (hreport : f.typ = Config.tyReport → A.sheds ∧ A.keeps ∧ A.queues)
    (hroute : f.typ = Config.tyRoute → A.reroutes ∧ A.takes ∧ A.queues) (hleave : f.typ = Config.tyLeave → A.sheds) :
    s.Does A D D (s.own (.tl t) f) := by
  rcases s.own_tl (t := t) (f := f) with h | ⟨e, he, hty, h⟩
  · rw [h]
    exact .refl
  · rw [h]
    refine (State.reloadSupervision_light t).does.trans ?_
    exact tlOwners_does ht hr e he (fun h => hjoin (hty ▸ h)) (fun h => hreport (hty ▸ h)) (fun h => hroute (hty ▸ h))
      (fun h => hleave (hty ▸ h)) _ _

/-- A frame taken from an operations port is obeyed by its owner, or does nothing. -/
theorem State.own_ops_obeyed {o : OpsId} {f : Frame} (ht : ∀ t, A.who t) (hr : A.rears) (hf : A.flags)
    (hsheds : f.typ = Config.tyRetire → A.sheds) (hwipes : f.typ ∈ wipingTypes → A.wipes) :
    s.Obeyed o A D (s.own (.ops o) f) := by
  unfold State.own
  dsimp only
  split
  · next act tag p hact _ =>
    obtain ⟨e, he, hty, rfl⟩ := ownerOf_mem hact
    exact opsOwners_obeyed ht hr hf e he (fun h => hsheds (hty ▸ h)) (fun h => hwipes (hty ▸ h)) s o tag p
  · exact ⟨s, State.Does.refl.sensed, .inl rfl⟩

/-! ## The course of a command -/

/-- What the events may do: bus, countdowns, lines and causes of a reset. -/
def Scope.events : Scope :=
  { who := fun _ => True, reroutes := False, ports := False, senses := False, rears := True, sheds := False, takes := False
    joins := False, keeps := False, queues := False, flags := True, wipes := False }

/-- What the walk of the pending queue may do. -/
def Scope.walking : Scope :=
  { who := fun _ => True, reroutes := False, ports := False, senses := False, rears := False, sheds := False, takes := True
    joins := False, keeps := False, queues := False, flags := False, wipes := False }

/-- The course that a command takes from s to u. -/
inductive Course (s : State) : Instr → State → Prop
  | held {c : Instr} : Course s c s
  | restart {h : ResetHold} (hold : s.resetHold = some h) :
    Course s .clockStartUpEnd { State.afterReset h.cause with pending := s.pending }
  | event {c : Instr} {u : State} (h : ∀ D, s.Sensed .events D u) : Course s c u
  | walk (hold : s.resetHold = none) : Course s .pendingQueueWalk s.walkIfDue
  | opsFrame {c : Instr} {o : OpsId} {ty tag : Byte} {p : List Byte} (hold : s.resetHold = none)
    (h : opsFrame c = some (o, ty, tag, p)) : Course s c (s.frameArrives (.ops o) ⟨ty, tag :: p⟩)
  | tlFrame {c : Instr} {t : TId} {ty : Byte} {p : List Byte} (hold : s.resetHold = none)
    (h : tlFrame c = some (t, ty, p)) : Course s c (s.frameArrives (.tl t) ⟨ty, p⟩)
  | bytes {c : Instr} {l : PortId} {bs : List Byte} (hold : s.resetHold = none) (h : bytesAt l c) :
    Course s c (s.receiveBytes l bs)
  | startOps {o : OpsId} (hold : s.resetHold = none) : Course s (.opsTransmitStart o) (s.startOps o)

/-- What a port does to its core, its receive queue aside, is light. -/
theorem State.modCore_light (l : PortId) (f : PortCore → PortCore) (h : (f (s.core l)).rx = (s.core l).rx) :
    s.Light (s.modCore l f) := by
  cases l with
  | tl t => exact State.modTl_light t _ (fun ⟨h1, h2⟩ => ⟨(congrArg List.length h).trans_le h1, h2⟩) h
  | ops o => exact State.modOps_light o _ (fun ⟨h1, h2⟩ => ⟨(congrArg List.length h).trans_le h1, h2⟩) h rfl

theorem TlPort.start_bounded {p : TlPort} (h : p.Bounded) : p.start.Bounded := by
  unfold TlPort.start
  split
  · split
    · exact h
    · exact h
    · next hr =>
      exact ⟨h.1, Nat.le_trans (Nat.le_succ _) (by simpa [hr] using h.2)⟩
    · exact h
  · exact h

theorem TlPort.start_rx (p : TlPort) : p.start.core.rx = p.core.rx := by
  unfold TlPort.start
  split
  · split <;> rfl
  · rfl

theorem State.sendFlowByte_light (l : PortId) : s.Light (s.sendFlowByte l) := by
  refine State.modCore_light l _ ?_
  split <;> rfl

theorem State.gapTimeout_light (l : PortId) : s.Light (s.gapTimeout l) := by
  unfold State.gapTimeout
  split
  · exact .refl
  · exact State.modCore_light l _ rfl

/-- A byte that arrives alone, as bytes. -/
theorem State.receiveBytes_singleton (hold : s.resetHold = none) (l : PortId) (b : Byte) :
    s.receiveBytes l [b] = s.receiveByte l b := State.live_eq hold fun s => s.receiveByte l b

theorem exec_live_course {c : Instr} {f : State → State} (hf : ∀ s, exec c s = .next (s.live f))
    (h : exec c s = .next u) (hcourse : s.resetHold = none → Course s c (f s)) : Course s c u := by
  rw [hf] at h
  cases h
  cases hold : s.resetHold with
  | none =>
    rw [State.live_eq hold]
    exact hcourse hold
  | some r =>
    rw [State.live_held hold]
    exact .held

theorem Course.light {c : Instr} (h : s.Light u) : Course s c u := .event fun _ => h.does.sensed

theorem Course.does {c : Instr} (h : ∀ D, s.Does .events D D u) : Course s c u := .event fun D => (h D).sensed

theorem exec_course {c : Instr} (h : exec c s = .next u) : Course s c u := by
  have hall : ∀ t, Scope.events.who t := fun _ => trivial
  cases hops : opsFrame c with
  | some q =>
    obtain ⟨o, ty, tag, p⟩ := q
    exact exec_live_course (exec_opsFrame hops) h fun hold => .opsFrame hold hops
  | none =>
    cases htl : tlFrame c with
    | some q =>
      obtain ⟨t, ty, p⟩ := q
      exact exec_live_course (exec_tlFrame htl) h fun hold => .tlFrame hold htl
    | none =>
      cases c
      case holdByte l =>
        exact exec_live_course (fun _ => rfl) h fun hold => State.receiveBytes_singleton hold l _ ▸ .bytes hold (.inl rfl)
      case goByte l =>
        exact exec_live_course (fun _ => rfl) h fun hold => State.receiveBytes_singleton hold l _ ▸ .bytes hold (.inr (.inl rfl))
      case synByte l =>
        exact exec_live_course (fun _ => rfl) h fun hold =>
          State.receiveBytes_singleton hold l _ ▸ .bytes hold (.inr (.inr (.inl rfl)))
      case lenOutOfRange l b =>
        exact exec_live_course (fun _ => rfl) h fun hold =>
          State.receiveBytes_singleton hold l b ▸ .bytes hold (.inr (.inr (.inr (.inl ⟨b, rfl⟩))))
      case frameComplete l bs =>
        exact exec_live_course (fun _ => rfl) h fun hold => .bytes hold (.inr (.inr (.inr (.inr ⟨bs, rfl⟩))))
      case frameGapTimeout l => exact exec_live_course (fun _ => rfl) h fun _ => .light (State.gapTimeout_light l)
      case flowByteSend l => exact exec_live_course (fun _ => rfl) h fun _ => .light (State.sendFlowByte_light l)
      case tlTransmitStart t =>
        exact exec_live_course (fun _ => rfl) h fun _ =>
          .light (State.modTl_light t _ TlPort.start_bounded (TlPort.start_rx _))
      case opsTransmitStart o => exact exec_live_course (fun _ => rfl) h fun hold => .startOps hold
      case fieldbusGoodReply chars =>
        exact exec_live_course (fun _ => rfl) h fun _ => .event fun _ => State.busReply_sensed hall trivial trivial _
      case fieldbusMiss =>
        exact exec_live_course (fun _ => rfl) h fun _ => .event fun _ => State.miss_sensed hall trivial trivial
      case throwTimeout p => exact exec_live_course (fun _ => rfl) h fun _ => .does fun _ => State.throwExpires_does hall p
      case waitExpired t => exact exec_live_course (fun _ => rfl) h fun _ => .does fun _ => State.waitExpires_does trivial
      case supervisionExpiry t =>
        exact exec_live_course (fun _ => rfl) h fun _ => .does fun _ => State.supervisionExpires_does trivial
      case stageTimeout t => exact exec_live_course (fun _ => rfl) h fun _ => .does fun _ => State.stageExpires_does trivial
      case clampFailed p => exact exec_live_course (fun _ => rfl) h fun _ => .light (s.watchExpires_light p)
      case mastLost =>
        refine exec_live_course (fun _ => rfl) h fun _ => .does fun _ => ?_
        split
        · exact State.mastExpired_does hall trivial
        · exact .refl
      case stopLineEdge n b => exact exec_live_course (fun _ => rfl) h fun _ => .does fun _ => State.lineEdge_does hall trivial n b
      case pendingQueueWalk => exact exec_live_course (fun _ => rfl) h fun hold => .walk hold
      case powerOn | supplyLow | resetLine =>
        cases h
        exact .light (s.beginReset_light _ _ _)
      case clockStartUpEnd =>
        cases h
        split
        · next hold => exact .restart hold
        · exact .held
      case join | report | route | giveback | transfer | stepResult | leave => exact nomatch htl
      all_goals exact nomatch hops

end

end Sys2Proof.Machine

/-! PROOFS. What every act keeps, every step keeps; and with it the canonical tables and legal parameters (R188), the
bus counts (R159, R163), and the queue without repeats (R59). -/

namespace Sys2Proof.Machine

/-! ## From acts to steps -/

/-- Every act but the rewriting of a route's entries. -/
def Scope.broad : Scope :=
  { who := fun _ => True, reroutes := False, ports := True, senses := True, rears := True, sheds := True, takes := True
    joins := True, keeps := True, queues := True, flags := True, wipes := True }

theorem Scope.broad_allows {k : Kind} (h : k ≠ .reroute) : Scope.broad.Allows k := by
  cases k
  case reroute => exact absurd rfl h
  all_goals simp only [Scope.Allows, Scope.broad, and_self]

section
variable {A : Scope} {D : TId → Prop} {s u : State}

theorem State.Does.broad (hA : ¬ A.reroutes) (h : s.Does A D D u) : s.Does .broad D D u := by
  refine h.mono fun k hk => Scope.broad_allows ?_
  rintro rfl
  exact hA hk

theorem State.Sensed.broad (hA : ¬ A.reroutes) (h : s.Sensed A D u) : s.Does .broad D D u := by
  obtain ⟨m, h1, h2⟩ := h
  exact (h1.broad id).trans (h2.broad hA)

theorem tlOwners_route : ∀ e ∈ tlOwners, e.1 = Config.tyRoute → e.2 = State.onRoute := by
  simp [tlOwners, Config.tyJoin, Config.tyReport, Config.tyRoute, Config.tyGiveback, Config.tyTransfer, Config.tyStep,
    Config.tyLeave]

section
variable {I : State → Prop} (hdoes : ∀ (s u : State) (D : TId → Prop), s.Does .broad D D u → I s → I u)
  (hroute : ∀ (s : State) (t : TId) (p : List Byte), I s → I (s.onRoute t p))
include hdoes hroute

theorem State.own_keeps (l : PortId) (f : Frame) (hi : I s) : I (s.own l f) := by
  have hwho : ∀ t, Scope.broad.who t := fun _ => trivial
  cases l with
  | ops o =>
    obtain ⟨m, hm, hu⟩ := State.own_ops_obeyed (s := s) (o := o) (f := f) (D := fun _ => False) hwho trivial trivial
      (fun _ => trivial) fun _ => trivial
    have him : I m := hdoes _ _ _ (hm.broad id) hi
    rcases hu with hu | ⟨tag, ty, r, d, hu⟩
    · exact hu ▸ him
    · exact hu ▸ hdoes m _ (fun _ => False) (.one (k := .port) trivial rfl fun h => absurd rfl h) him
  | tl t =>
    rcases s.own_tl (t := t) (f := f) with h | ⟨e, he, -, h⟩
    · rw [h]
      exact hi
    · rw [h]
      have hreload : I (s.reloadSupervision t) := hdoes _ _ (fun _ => False) (State.reloadSupervision_light t).does hi
      by_cases hty : e.1 = Config.tyRoute
      · rw [tlOwners_route e he hty]
        exact hroute _ t _ hreload
      · refine hdoes _ _ (fun _ => False) ?_ hreload
        exact tlOwners_does trivial trivial e he (fun _ => trivial) (fun _ => ⟨trivial, trivial, trivial⟩)
          (fun h => absurd h hty) (fun _ => trivial) _ _

theorem State.Takes.keeps {l : PortId} {P : Frame → Prop} (h : s.Takes l P u) (hi : I s) : I u := by
  induction h with
  | done => exact hi
  | port hp _ ih => exact ih (hdoes _ _ (fun _ => False) (.one (k := .port) trivial hp.only fun h => absurd rfl h) hi)
  | own f _ _ _ ih => exact ih (State.own_keeps hdoes hroute l f hi)

theorem Course.keeps {c : Instr} (h : Course s c u) (hi : I s)
    (hreset : ∀ (r : ResetCause) (q : List Instr), I { State.afterReset r with pending := q }) : I u := by
  have hwho : ∀ t, Scope.walking.who t := fun _ => trivial
  cases h with
  | held => exact hi
  | restart => exact hreset _ _
  | event h => exact hdoes _ _ (fun _ => False) ((h _).broad id) hi
  | walk =>
    unfold State.walkIfDue
    split
    · exact hdoes _ _ (fun _ => False) ((State.walk_does hwho trivial).broad id) hi
    · exact hi
  | opsFrame => exact (s.frameArrives_takes _ _).keeps hdoes hroute hi
  | tlFrame => exact (s.frameArrives_takes _ _).keeps hdoes hroute hi
  | bytes => exact (State.receiveBytes_takes _ _ s).keeps hdoes hroute hi
  | startOps => exact (s.startOps_takes _).keeps hdoes hroute hi

/-- What every act but a rerouting keeps, and ROUTE, and what a full reset leaves, every step keeps. -/
theorem step_keeps (hreset : ∀ (r : ResetCause) (q : List Instr), I { State.afterReset r with pending := q })
    (hi : I s) (h : step s = .next u) : I u := by
  unfold step at h
  split at h
  · next c rest _ =>
    have hrest : s.Light { s with pending := rest } := .plain (.same rfl) rfl
    exact (exec_course h).keeps hdoes hroute (hdoes _ _ (fun _ => False) hrest.does hi) hreset
  · cases h
    unfold State.idle State.live
    split
    · exact hi
    · dsimp only
      split
      · exact hdoes _ _ (fun _ => False) ((State.walk_does (A := .walking) (fun _ => trivial) trivial).broad id) hi
      · exact hdoes _ _ (fun _ => False) s.tick_light.does hi

end

/-- What every act keeps, and what a full reset leaves, every step keeps. -/
theorem step_keeps_of_act {I : State → Prop} (hact : ∀ (k : Kind) (s u : State), Act k s u → (k ≠ .port → s.House u) → I s → I u)
    (hreset : ∀ (r : ResetCause) (q : List Instr), I { State.afterReset r with pending := q })
    (hi : I s) (h : step s = .next u) : I u := by
  have hdoes : ∀ (A : Scope) (D D' : TId → Prop) (s u : State), s.Does A D D' u → I s → I u := fun A D D' s u h => by
    induction h with
    | done => exact id
    | act _ ha house _ ih => exact fun hi => ih (hact _ _ _ ha house hi)
  refine step_keeps (fun s u D => hdoes _ _ _ s u) (fun s t p => ?_) hreset hi h
  exact hdoes { Scope.broad with reroutes := True } (fun _ => False) _ s _ (State.onRoute_does trivial trivial trivial trivial p)

/-! ## Tables, parameters and bus counts -/

theorem Act.keeps_house {k : Kind} (h : Act k s u) (house : k ≠ .port → s.House u) :
    (s.TablesWf → u.TablesWf) ∧ (s.params.Legal → u.params.Legal) ∧ (s.BusCounts → u.BusCounts) := by
  by_cases hk : k = .port
  · subst hk
    have hu : u = { s with tls := u.tls, opss := u.opss } := h
    rw [hu]
    exact ⟨id, id, id⟩
  · exact ⟨(house hk).tables, (house hk).legal, (house hk).counts⟩

/-- Settles O10: no act unsorts a table or takes a parameter out of its range. -/
theorem stepKeepsTablesAndParams : Obligations.StepKeepsTablesAndParams := by
  obtain ⟨-, hwf, -, -, -, -, -, -, hlegal, -⟩ := State.reset_invariants
  exact ⟨fun s t hs => step_keeps_of_act (fun _ _ _ ha house => (ha.keeps_house house).1) (fun _ _ => hwf) hs,
    fun s t hs => step_keeps_of_act (I := fun s => s.params.Legal) (fun _ _ _ ha house => (ha.keeps_house house).2.1)
      (fun _ _ => hlegal) hs⟩

/-! ## The pending queue (R59) -/

theorem State.joinQueue_waiting (t : TId) :
    (s.joinQueue t).waiting.map (·.t) = if s.isWaiting t then s.waiting.map (·.t) else s.waiting.map (·.t) ++ [t] := by
  unfold State.joinQueue
  split
  · rfl
  · exact List.map_append

/-- What the acts that are steady, and those that write holds, do to the queue: nobody joins it. -/
theorem Act.waiting {k : Kind} (h : Act k s u) : (u.waiting.map (·.t)).Sublist (s.waiting.map (·.t)) ∨ ∃ t, k = .queue t := by
  cases k
  case queue t => exact .inr ⟨t, rfl⟩
  all_goals refine .inl ?_
  case calm | post | enlist => exact h.1.waiting
  case reroute =>
    have hc : s.Calm u := h
    exact hc.waiting
  case port | flags =>
    rw [h]
  case sense =>
    obtain ⟨n, d, c, rfl⟩ := h
    exact .refl _
  case evald t =>
    have hu : u = s.evalStop t := h
    rw [hu, (s.evalStop_evaluated t).only]
  case drop | rear | shed | join | keep =>
    obtain ⟨n, rfl, -⟩ := h
    exact .refl _
  case take =>
    obtain ⟨n, k, rfl, -⟩ := h
    exact .refl _
  case opened | define =>
    rw [h.1]
  case wipe =>
    obtain ⟨-, -, -, -, hw, -⟩ := h
    rw [hw]
    exact List.nil_sublist _

theorem Act.keeps_queueOnce {k : Kind} (h : Act k s u) (hs : s.QueueOnce) : u.QueueOnce := by
  rcases h.waiting with hsub | ⟨t, rfl⟩
  · exact hs.sublist hsub
  · have hu : u = s.joinQueue t := h.1
    rw [State.QueueOnce, hu, State.joinQueue_waiting]
    split
    · exact hs
    · next hw =>
      refine List.Nodup.append hs (List.nodup_singleton t) fun v hv hvt => hw ?_
      obtain ⟨w, hmem, rfl⟩ := List.mem_map.mp hv
      exact List.any_eq_true.mpr ⟨w, hmem, decide_eq_true (List.mem_singleton.mp hvt)⟩

/-! ## The stop causes, without matched states (R121) -/

/-- A transfer record of a transporter that is OFFLINE, under ALL_STOP, and the end of its stage. -/
def strayTransfer : State :=
  { State.reset with
    site := .running, allStop := true, pending := [.stageTimeout 0]
    transfers := upd State.reset.transfers 0 fun _ => some ⟨0, .lift, 1, .unclamp, .none, false, some (.load 1), false⟩ }

/-- The abort parks its transporter, and its stop causes, which nobody evaluated while it was OFFLINE, stay empty. -/
theorem strayTransfer_step : ∃ u, step strayTransfer = .next u ∧ (u.tr 0).state = .parked ∧ (u.tr 0).stop = .empty ∧
    u.allStop = true :=
  ⟨_, rfl, by decide, by decide, by decide⟩

/-- Refutes O13: the statement does not ask that a transfer record belongs to a transporter in TRANSFER (StatesMatch). A
record of one that is OFFLINE, which has no stop causes, parks it by an abort without their evaluation, under ALL_STOP. -/
theorem not_stepKeepsStopsCurrent : ¬ Obligations.StepKeepsStopsCurrent := by
  intro h
  obtain ⟨u, hstep, hstate, hstop, hall⟩ := strayTransfer_step
  have hoffline : ∀ t : TId, (strayTransfer.tr t).state = .offline := by decide
  have hcurrent := h strayTransfer u (fun hne => absurd rfl hne) (fun t hne => absurd (hoffline t) hne) hstep 0
    (by rw [hstate]; exact nofun)
  have hset := hcurrent.1.mpr hall
  rw [hstop] at hset
  exact nomatch hset

end

end Sys2Proof.Machine

/-! PROOFS. Every step keeps the transporters' states matched and standing (R103, R115, R122, R147) and a site that is not
RUNNING empty (R183). -/

namespace Sys2Proof.Machine

section
variable {s u : State}

/-! ## States, trips, transfers and stop causes (R103, R115, R122, R147) -/

theorem State.matchedAt_congr {t : TId} (hd : (u.tr t).duty = (s.tr t).duty)
    (hx : (u.transfers[t]).isSome = (s.transfers[t]).isSome) : s.MatchedAt t → u.MatchedAt t := by
  have hstate : (u.tr t).state = (s.tr t).state := congrArg Prod.fst hd
  have htrips : (u.tr t).trips = (s.tr t).trips := congrArg (·.2.2) hd
  rw [State.MatchedAt, State.MatchedAt, hstate, htrips, Option.ne_none_iff_isSome, Option.ne_none_iff_isSome, hx]
  exact id

theorem State.standsAt_congr {t : TId} (hd : (u.tr t).duty = (s.tr t).duty) : s.StandsAt t → u.StandsAt t := by
  have hstate : (u.tr t).state = (s.tr t).state := congrArg Prod.fst hd
  have hstop : (u.tr t).stop = (s.tr t).stop := congrArg (·.2.1) hd
  rw [State.StandsAt, State.StandsAt, hstate, hstop]
  exact id

/-- An evaluation moves a transporter only between AUTHORISED and HELD, as its causes ask (R122). -/
theorem Transporter.evaluated_stands {x : Transporter} (c : StopSet) (b : Bool) :
    (x.evaluated c b).trips = x.trips ∧
    ((x.evaluated c b).state = x.state ∨ (x.state = .authorised ∨ x.state = .held) ∧
      ((x.evaluated c b).state = .authorised ∨ (x.evaluated c b).state = .held)) ∧
    ((x.state = .authorised → x.stop = .empty) ∧ (x.state = .held → x.stop ≠ .empty) →
      ((x.evaluated c b).state = .authorised → (x.evaluated c b).stop = .empty) ∧
      ((x.evaluated c b).state = .held → (x.evaluated c b).stop ≠ .empty)) := by
  unfold Transporter.evaluated
  split
  · exact ⟨rfl, .inl rfl, id⟩
  · split
    · next h => exact ⟨rfl, .inr ⟨.inl h.1, .inr rfl⟩, fun _ => ⟨nofun, fun _ => h.2⟩⟩
    · next h1 =>
      split
      · next h => exact ⟨rfl, .inr ⟨.inr h.1, .inl rfl⟩, fun _ => ⟨fun _ => h.2, nofun⟩⟩
      · next h2 =>
        refine ⟨rfl, .inl rfl, fun _ => ⟨fun ha => ?_, fun hh he => h2 ⟨hh, he⟩⟩⟩
        exact Decidable.byContradiction fun hne => h1 ⟨ha, hne⟩

/-- What the acts that write neither a state nor the causes do to a transporter: nothing. -/
theorem Act.idle {k : Kind} (h : Act k s u) (hpost : ∀ t, k ≠ .post t) (henlist : ∀ t, k ≠ .enlist t)
    (heval : ∀ t, k ≠ .evald t) (hwipe : k ≠ .wipe) (t : TId) :
    (u.tr t).duty = (s.tr t).duty ∧ (u.transfers[t]).isSome = (s.transfers[t]).isSome := by
  cases k
  case post v => exact absurd rfl (hpost v)
  case enlist v => exact absurd rfl (henlist v)
  case evald v => exact absurd rfl (heval v)
  case wipe => exact absurd rfl hwipe
  case calm => exact ⟨h.1.duty t, h.1.transfers t⟩
  case reroute =>
    have hc : s.Calm u := h
    exact ⟨hc.duty t, hc.transfers t⟩
  case port | flags =>
    rw [h]
    exact ⟨rfl, rfl⟩
  case sense =>
    obtain ⟨n, d, c, rfl⟩ := h
    exact ⟨rfl, rfl⟩
  case drop | rear | shed | join | keep =>
    obtain ⟨n, rfl, -⟩ := h
    exact ⟨rfl, rfl⟩
  case take =>
    obtain ⟨n, k, rfl, -⟩ := h
    exact ⟨rfl, rfl⟩
  case queue v =>
    have hu : u = s.joinQueue v := h.1
    rw [hu, State.joinQueue]
    split <;> exact ⟨rfl, rfl⟩
  case opened | define =>
    rw [h.1]
    exact ⟨rfl, rfl⟩

theorem State.evalStop_duty (t v : TId) :
    (v ≠ t → (s.evalStop t).tr v = s.tr v) ∧ (s.evalStop t).transfers = s.transfers ∧
    (v = t → ∃ c b, (s.evalStop t).tr v = (s.tr v).evaluated c b) := by
  have heval := s.evalStop_evaluated t
  refine ⟨fun hv => (heval.others v fun h => hv (List.mem_singleton.mp h)).1, by rw [heval.only], ?_⟩
  rintro rfl
  exact ⟨_, _, heval.record v (List.mem_singleton_self v)⟩

theorem Act.keeps_at {k : Kind} (h : Act k s u) (t : TId) : (s.MatchedAt t → u.MatchedAt t) ∧ (s.StandsAt t → u.StandsAt t) := by
  have hposted : ∀ v, s.Posted u v → (s.MatchedAt t → u.MatchedAt t) ∧ (s.StandsAt t → u.StandsAt t) := fun v hp => by
    by_cases hv : t = v
    · subst hv
      exact ⟨hp.matched, hp.stands⟩
    · obtain ⟨hduty, hx⟩ := hp.others t hv
      exact ⟨State.matchedAt_congr hduty hx, State.standsAt_congr hduty⟩
  cases k
  case post v => exact hposted v h.1
  case enlist v => exact hposted v h.1
  case evald v =>
    have hu : u = s.evalStop v := h
    obtain ⟨hothers, htransfers, hself⟩ := s.evalStop_duty v t
    rw [hu]
    by_cases hv : t = v
    · obtain ⟨c, b, htr⟩ := hself hv
      obtain ⟨htrips, hstate, hstands⟩ := Transporter.evaluated_stands (x := s.tr t) c b
      rw [State.MatchedAt, State.MatchedAt, State.StandsAt, State.StandsAt, htr, htransfers, htrips]
      refine ⟨fun ⟨h1, h2⟩ => ?_, hstands⟩
      rcases hstate with he | ⟨hfrom, hto⟩
      · rw [he]
        exact ⟨h1, h2⟩
      · refine ⟨⟨fun h => ?_, fun h => ?_⟩, fun h => ?_, fun h => ?_⟩
        · rcases hto with hto | hto <;> exact absurd (hto.symm.trans h) nofun
        · rcases hfrom with hfrom | hfrom <;> exact absurd (hfrom.symm.trans (h1.mpr h)) nofun
        · rcases hto with hto | hto <;> exact absurd (hto.symm.trans h) nofun
        · rcases hfrom with hfrom | hfrom <;> exact absurd (hfrom.symm.trans (h2.mpr h)) nofun
    · exact ⟨State.matchedAt_congr (congrArg _ (hothers hv)) (by rw [htransfers]), State.standsAt_congr (congrArg _ (hothers hv))⟩
  case wipe =>
    obtain ⟨-, hduty, -, htransfers, -⟩ := h
    have hstate : (u.tr t).state = .offline := congrArg Prod.fst (hduty t)
    have htrips : (u.tr t).trips = .empty := congrArg (·.2.2) (hduty t)
    rw [State.MatchedAt.eq_def u, State.StandsAt.eq_def u, hstate, htrips, htransfers]
    exact ⟨fun _ => ⟨⟨nofun, fun h => absurd rfl h⟩, nofun, fun h => absurd rfl h⟩, fun _ => ⟨nofun, nofun⟩⟩
  all_goals
    obtain ⟨hduty, hx⟩ := h.idle nofun nofun nofun nofun t
    exact ⟨State.matchedAt_congr hduty hx, State.standsAt_congr hduty⟩

/-- Settles O12: every act leaves each transporter matched and standing as it was. -/
theorem stepKeepsTransporterStates : Obligations.StepKeepsTransporterStates := by
  obtain ⟨-, -, -, hmatch, hstands, -⟩ := State.reset_invariants
  exact ⟨fun s t hs => step_keeps_of_act (fun _ _ _ ha _ hs t => (ha.keeps_at t).1 (hs t)) (fun _ _ => hmatch) hs,
    fun s t hs => step_keeps_of_act (fun _ _ _ ha _ hs t => (ha.keeps_at t).2 (hs t)) (fun _ _ => hstands) hs⟩

/-! ## A site that does not run (R183) -/

theorem State.not_busy {t : TId} (hi : s.IdleSite) (hsite : s.site ≠ .running) : ¬ s.Busy t := by
  obtain ⟨hoff, -, htransfers, hwaiting⟩ := hi hsite
  rintro (h | h | h | h)
  · exact hsite h
  · rw [State.isWaiting, hwaiting] at h
    exact nomatch h
  · exact h (hoff t)
  · exact h (htransfers t)

theorem State.holds_of_holders (h : u.holders = s.holders) (hs : ∀ p ∈ s.sections, p.2.hold = none) :
    ∀ p ∈ u.sections, p.2.hold = none := fun p hp => by
  have hmem : (p.1, p.2.held) ∈ u.holders := List.mem_map_of_mem hp
  rw [h] at hmem
  obtain ⟨q, hq, he⟩ := List.mem_map.mp hmem
  have hheld : q.2.hold.map (·.holder) = p.2.hold.map (·.holder) := congrArg (·.2.2) he
  rw [hs q hq] at hheld
  exact Option.map_eq_none_iff.mp hheld.symm

/-- A steady act that leaves every transporter OFFLINE leaves an idle site idle. -/
theorem State.Calm.idleSite (h : s.Calm u) (hi : s.IdleSite) : u.IdleSite := fun hsite => by
  obtain ⟨hoff, hheld, htransfers, hwaiting⟩ := hi (h.site ▸ hsite)
  refine ⟨fun t => (congrArg Prod.fst (h.duty t)).trans (hoff t), State.holds_of_holders h.holders hheld, fun t => ?_, ?_⟩
  · have := h.transfers t
    rw [htransfers t] at this
    exact Option.not_isSome_iff_eq_none.mp (by rw [this]; exact nofun)
  · have := h.waiting
    rw [hwaiting] at this
    exact List.map_eq_nil_iff.mp (List.sublist_nil.mp this)

theorem State.setHold_none_idleSite (n : Nat) (hi : s.IdleSite) : (s.setHold n none).IdleSite := fun hsite => by
  obtain ⟨hoff, hheld, htransfers, hwaiting⟩ := hi hsite
  refine ⟨hoff, fun p hp => ?_, htransfers, hwaiting⟩
  rcases Table.mem_adjust hp with hp | ⟨x, -, -, rfl⟩
  · exact hheld p hp
  · rfl

theorem Act.keeps_idleSite {k : Kind} (h : Act k s u) (hi : s.IdleSite) : u.IdleSite := by
  have hbusy : ∀ t, s.Busy t → u.site = s.site → u.IdleSite := fun t hb hsite hne =>
    absurd hb (State.not_busy hi (hsite ▸ hne))
  cases k
  case calm => exact h.1.idleSite hi
  case reroute =>
    have hc : s.Calm u := h
    exact hc.idleSite hi
  case post t | enlist t => exact hbusy t h.1.busy h.1.site
  case port | flags =>
    rw [h]
    exact hi
  case sense =>
    obtain ⟨n, d, c, rfl⟩ := h
    intro hsite
    obtain ⟨hoff, hheld, hrest⟩ := hi hsite
    refine ⟨hoff, fun p hp => ?_, hrest⟩
    rcases Table.mem_adjust hp with hp | ⟨x, -, hx, rfl⟩
    · exact hheld p hp
    · exact hheld (n, x) hx
  case evald t =>
    have hu : u = s.evalStop t := h
    have heval := s.evalStop_evaluated t
    rw [hu]
    intro hsite
    obtain ⟨hoff, hheld, htransfers, hwaiting⟩ := hi (by rw [heval.only] at hsite; exact hsite)
    refine ⟨fun v => ?_, by rw [heval.only]; exact hheld, by rw [heval.only]; exact htransfers, by rw [heval.only]; exact hwaiting⟩
    by_cases hv : v = t
    · obtain ⟨c, b, htr⟩ := (s.evalStop_duty t v).2.2 hv
      rw [htr, Transporter.evaluated, if_pos (.inl (hoff v))]
      exact hoff v
    · rw [(s.evalStop_duty t v).1 hv]
      exact hoff v
  case drop | rear | shed =>
    obtain ⟨n, rfl, -⟩ := h
    exact State.setHold_none_idleSite n hi
  case take t =>
    obtain ⟨n, k, rfl, hb, -⟩ := h
    exact hbusy t hb rfl
  case join t | keep t =>
    obtain ⟨n, rfl, hb, -⟩ := h
    exact hbusy t hb rfl
  case queue t =>
    have hu : u = s.joinQueue t := h.1
    refine hbusy t h.2 ?_
    rw [hu, State.joinQueue]
    split <;> rfl
  case opened =>
    intro hsite
    refine absurd ?_ hsite
    rw [h.1]
  case define =>
    obtain ⟨hu, hsite, hsecs⟩ := h
    obtain ⟨hoff, hheld, htransfers, hwaiting⟩ := hi hsite
    intro _
    refine ⟨by rw [hu]; exact hoff, fun p hp => ?_, by rw [hu]; exact htransfers, by rw [hu]; exact hwaiting⟩
    exact (hsecs p hp).elim (hheld p) id
  case wipe =>
    obtain ⟨-, hduty, hheld, htransfers, hwaiting, -⟩ := h
    exact fun _ => ⟨fun t => congrArg Prod.fst (hduty t), hheld, htransfers, hwaiting⟩

/-- Settles O11: an act that brings a transporter, a hold, a transfer or a waiter finds the site busy. -/
theorem stepKeepsIdleSite : Obligations.StepKeepsIdleSite := by
  obtain ⟨-, -, hidle, -⟩ := State.reset_invariants
  exact fun s t hs => step_keeps_of_act (fun _ _ _ ha _ => ha.keeps_idleSite) (fun _ _ => hidle) hs

end

end Sys2Proof.Machine

/-! PROOFS. Every step keeps the route records rising, without a section in two entries (R38, R39, R44). -/

namespace Sys2Proof.Machine

section
variable {s u : State} {t : TId}

theorem Act.keeps_rises {k : Kind} (h : Act k s u) (hk : k ≠ .reroute) (hs : s.RoutesRise) : u.RoutesRise := by
  cases k
  case reroute => exact absurd rfl hk
  case calm | enlist => exact h.2 hs
  case post => exact h.2.1 hs
  case port | flags =>
    rw [h]
    exact hs
  case sense =>
    obtain ⟨n, d, c, rfl⟩ := h
    exact hs
  case evald t =>
    have hu : u = s.evalStop t := h
    rw [hu, (s.evalStop_evaluated t).only]
    exact hs
  case drop | rear | shed | join | keep =>
    obtain ⟨n, rfl, -⟩ := h
    exact hs
  case take =>
    obtain ⟨n, k, rfl, -⟩ := h
    exact hs
  case queue t =>
    have hu : u = s.joinQueue t := h.1
    rw [hu, State.joinQueue]
    split <;> exact hs
  case opened | define =>
    rw [h.1]
    exact hs
  case wipe => exact h.2.2.2.2.2

theorem State.Does.rises {A : Scope} {D D' : TId → Prop} (hA : ¬ A.reroutes) (h : s.Does A D D' u) (hs : s.RoutesRise) :
    u.RoutesRise := by
  induction h with
  | done => exact hs
  | @act k _ _ _ _ _ allowed ha _ _ ih =>
    refine ih (ha.keeps_rises ?_ hs)
    rintro rfl
    exact hA allowed

/-! ## The record of a PARKED transporter written anew (R44) -/

/-- Withdrawing the route ahead keeps the granted run. -/
theorem State.Withdrawn.grantedRun {w : State} (h : s.Withdrawn w t) : w.grantedRun t = s.grantedRun t := by
  rw [State.grantedRun, State.run, h.route]
  dsimp only
  rw [List.filter_filter]
  refine List.filter_congr fun e _ => ?_
  rw [Bool.eq_iff_iff, Bool.and_eq_true, decide_eq_true_eq, decide_eq_true_eq, decide_eq_true_eq, h.holdBy]
  constructor
  · rintro ⟨hw, -⟩
    split at hw
    · exact nomatch hw
    · exact hw
  · intro hg
    have hnot : ¬ (s.holdBy t e.sec = some .setting ∧ s.inRecord t e.sec) := fun hset =>
      absurd (hg.symm.trans hset.1) nofun
    rw [if_neg hnot]
    exact ⟨hg, .inl hg⟩

/-- Withdrawing the route ahead keeps the front entry, or cuts it. -/
theorem State.Withdrawn.frontEntry {w : State} (h : s.Withdrawn w t)
    (hrise : ((s.route t).entries.map (·.index)).Pairwise (· < ·)) : w.frontEntry t = none ∨ w.frontEntry t = s.frontEntry t := by
  have hfront : (w.route t).front = (s.route t).front := by rw [h.route]
  rw [State.frontEntry, State.frontEntry, hfront]
  cases (s.route t).front with
  | none => exact .inl rfl
  | some i =>
    rw [Option.bind_some, Option.bind_some, State.entryAt, h.route]
    dsimp only
    cases hf : ((s.route t).entries.filter fun e => decide (s.holdsFirm t e.sec)).find? fun e => decide (e.index = i) with
    | none => exact .inl rfl
    | some e =>
      have hidx : e.index = i := by simpa using List.find?_some hf
      have hmem := List.mem_of_mem_filter (List.mem_of_find?_eq_some hf)
      rw [State.entryAt, ← hidx]
      exact .inr (entry_find_of_rises hrise hmem).symm

theorem State.routeAfter_withdrawn {w : State} (ts : List Triple) (h : s.Withdrawn w t) (hp : (s.tr t).state = .parked)
    (hrise : ((s.route t).entries.map (·.index)).Pairwise (· < ·)) :
    w.routeAfter t ts = [] ∨ w.routeAfter t ts = s.routeAfter t ts := by
  have hwp : (w.tr t).state = .parked := by
    rw [(h.quiet (.inl hp)).1]
    exact hp
  rw [State.routeAfter, State.routeAfter, if_pos hwp, if_pos hp]
  rcases h.frontEntry hrise with hf | hf
  · rw [hf]
    exact .inl rfl
  · rw [hf]
    cases hfe : s.frontEntry t with
    | none => exact .inl rfl
    | some f =>
      dsimp only
      rw [State.newEntries, State.newEntries, if_pos hwp, if_pos hp, hf, hfe]
      dsimp only
      simp only [State.orientedRun, h.grantedRun, or_true]

theorem State.rebuild_rises (ts : List Triple) (final : Nat) (hs : s.RoutesRise) (hp : (s.tr t).state = .parked)
    (hdistinct : distinctSections (s.routeAfter t ts) = true) : (s.rebuild t ts final).RoutesRise := by
  have hwithdrawn := s.withdrawRoute_withdrawn t
  have h1 : (s.withdrawRoute t).RoutesRise :=
    (State.withdrawRoute_does (A := .broad) (D := fun _ => False) trivial).rises id hs
  have hafter := State.routeAfter_withdrawn ts hwithdrawn hp (hs t).1
  have hwp : ((s.withdrawRoute t).tr t).state = .parked := by
    rw [(hwithdrawn.quiet (.inl hp)).1]
    exact hp
  have hnumbered : ∃ es, (s.withdrawRoute t).routeAfter t ts = numberFrom 1 es := by
    rw [State.routeAfter, if_pos hwp]
    split
    · exact ⟨_, rfl⟩
    · exact ⟨[], rfl⟩
  have hnodup : (((s.withdrawRoute t).routeAfter t ts).map (·.sec)).Nodup := by
    rcases hafter with h | h
    · rw [h]
      exact List.nodup_nil
    · rw [h]
      exact (distinctSections_iff _).mp hdistinct
  obtain ⟨es, hes⟩ := hnumbered
  unfold State.rebuild
  dsimp only
  rw [hes] at hnodup ⊢
  refine (State.modRoute_light t _ rfl rfl).2.2 fun v => ?_
  rw [State.route_modRoute]
  split
  · refine ⟨numberFrom_rises 1 es, fun e he => ?_, hnodup⟩
    have hlt := (mem_numberFrom he).2
    have hlen : (numberFrom 1 es).length = es.length := by
      have := congrArg List.length (numberFrom_index 1 es)
      rwa [List.length_map, List.length_range'] at this
    dsimp only
    rw [hlen, Nat.add_comm]
    exact hlt
  · exact h1 v

theorem State.onRoute_rises (p : List Byte) (hs : s.RoutesRise) : (s.onRoute t p).RoutesRise := by
  have hrefuse : ∀ r, (s.refuse t Config.tyRoute r).RoutesRise := fun _ => hs
  unfold State.onRoute
  split
  · exact hrefuse _
  · exact hrefuse _
  · next final ts _ =>
    unfold State.routeRequest State.judgeTl
    split
    · exact hrefuse _
    · next hn =>
      have hall := firstFailing_eq_none hn
      have hsite := State.routeState_running (hall _ List.mem_cons_self)
      have hdistinct : distinctSections (s.routeAfter t ts) = true :=
        hall (distinctSections (s.routeAfter t ts), .repeatedSection) (by simp [State.routeChecks])
      have hwho : Scope.broad.who t := trivial
      dsimp only
      split
      · next hp =>
        have hrest := State.routeParked_rest (D := fun _ => False) hwho trivial trivial ts final
          ((s.withdrawRoute_site t).trans hsite)
        exact hrest.rises id (State.rebuild_rises ts final hs hp hdistinct)
      · next hp =>
        exact (State.routeRunning_does (D := fun _ => False) hwho trivial trivial ts final hsite hp hdistinct).rises id hs

/-- Settles O14: only ROUTE writes the entries of a record anew, numbered from 1, and its check keeps their sections apart. -/
theorem stepKeepsRoutes : Obligations.StepKeepsRoutes := by
  obtain ⟨-, -, -, -, -, -, honce, hrises, -⟩ := State.reset_invariants
  exact ⟨fun s t hs => step_keeps_of_act (fun _ _ _ ha _ => ha.keeps_queueOnce) (fun _ _ => honce) hs,
    fun s t hs => step_keeps (fun _ _ _ hd => hd.rises id) (fun _ _ p => State.onRoute_rises p) (fun _ _ => hrises) hs⟩

end

end Sys2Proof.Machine

/-! PROOFS. Every step keeps queues and counts within their sizes (00_scope.md 3), and no frame waiting that may be taken
(R171, R176, log 1). -/

namespace Sys2Proof.Machine

/-- No frame waits at port l that may be taken (R171, R176). -/
def State.DoneAt (s : State) : PortId → Prop
  | .tl t => (s.core (.tl t)).rx = []
  | .ops o => (s.core (.ops o)).rx = [] ∨ 8 ≤ (s.opsPort o).replies.length ∨ s.resetHold ≠ none

/-- Every act but those of the ports. -/
def Scope.inner : Scope := { Scope.broad with reroutes := True, ports := False }

section
variable {s m u : State} {l : PortId}

theorem State.intakeDone_iff : s.IntakeDone ↔ ∀ l, s.DoneAt l :=
  ⟨fun h l => match l with
    | .tl t => h.1 t
    | .ops o => h.2 o, fun h => ⟨fun t => h (.tl t), fun o => h (.ops o)⟩⟩

/-! ## What the acts and the owners leave at the ports -/

theorem State.House.doneAt (h : s.House u) : s.DoneAt l → u.DoneAt l := by
  cases l with
  | tl t => exact fun hs => (h.ports.rx (.tl t)).elim (fun e => e.trans hs) id
  | ops o =>
    rintro (hs | hs | hs)
    · exact .inl ((h.ports.rx (.ops o)).elim (fun e => e.trans hs) id)
    · rcases h.ports.replies o with he | ⟨he, -⟩
      · exact .inr (.inl (he ▸ hs))
      · exact .inl he
    · exact .inr (.inr (h.held hs))

theorem State.Sensed.house {A : Scope} {D : TId → Prop} (hA : ¬ A.ports) (h : s.Sensed A D u) : s.House u := by
  obtain ⟨m, h1, h2⟩ := h
  exact (h1.house id).trans (h2.house hA)

theorem State.House.bounded (h : s.House u) : s.Bounded → u.Bounded := fun ⟨htl, hops, hq⟩ =>
  ⟨fun t => h.ports.tls t (htl t), fun o => h.ports.opss o (hops o), h.queue hq⟩

theorem State.core_reply (o : OpsId) (tag ty : Byte) (r : Reason) (d : List Byte) : (s.reply o tag ty r d).core l = s.core l := by
  cases l with
  | tl t => rfl
  | ops v =>
    rw [State.core, State.reply, State.opsPort_modOps]
    split
    · rfl
    · rfl

theorem State.doneAt_reply {o : OpsId} (hl : l ≠ .ops o) (tag ty : Byte) (r : Reason) (d : List Byte) (h : s.DoneAt l) :
    (s.reply o tag ty r d).DoneAt l := by
  cases l with
  | tl t => exact h
  | ops v =>
    have hport : (s.reply o tag ty r d).opsPort v = s.opsPort v := by
      rw [State.reply, State.opsPort_modOps, if_neg fun he => hl (congrArg PortId.ops he.symm)]
    rw [State.DoneAt, hport, State.core_reply]
    exact h

/-- What the owner of a frame leaves: house kept, but for one reply at an operations port. -/
theorem State.own_house (s : State) (l : PortId) (f : Frame) : ∃ m, s.House m ∧
    (s.own l f = m ∨ ∃ o tag ty r d, l = .ops o ∧ s.own l f = m.reply o tag ty r d) := by
  have hwho : ∀ t, Scope.inner.who t := fun _ => trivial
  cases l with
  | tl t =>
    refine ⟨_, State.Does.house (A := .inner) (D := fun _ => False) (D' := fun _ => False) id ?_, .inl rfl⟩
    exact State.own_tl_does trivial trivial (fun _ => trivial) (fun _ => ⟨trivial, trivial, trivial⟩)
      (fun _ => ⟨trivial, trivial, trivial⟩) fun _ => trivial
  | ops o =>
    obtain ⟨m, hm, hu⟩ := State.own_ops_obeyed (s := s) (o := o) (f := f) (A := .inner) (D := fun _ => False) hwho trivial trivial
      (fun _ => trivial) fun _ => trivial
    exact ⟨m, hm.house id, hu.imp_right fun ⟨tag, ty, r, d, h⟩ => ⟨o, tag, ty, r, d, rfl, h⟩⟩

theorem State.own_rx (s : State) (l : PortId) (f : Frame) : ((s.own l f).core l).rx = (s.core l).rx ∨ ((s.own l f).core l).rx = [] := by
  obtain ⟨m, hm, hu | ⟨o, tag, ty, r, d, -, hu⟩⟩ := s.own_house l f
  · rw [hu]
    exact hm.ports.rx l
  · rw [hu, State.core_reply]
    exact hm.ports.rx l

theorem State.own_doneAt {k : PortId} (hk : k ≠ l) (f : Frame) (h : s.DoneAt k) : (s.own l f).DoneAt k := by
  obtain ⟨m, hm, hu | ⟨o, tag, ty, r, d, rfl, hu⟩⟩ := s.own_house l f
  · rw [hu]
    exact hm.doneAt h
  · rw [hu]
    exact State.doneAt_reply hk _ _ _ _ (hm.doneAt h)

/-- A frame that may be taken leaves room for its reply (R176). -/
theorem State.own_bounded (f : Frame) (may : s.mayTake l = true) (hb : s.Bounded) : (s.own l f).Bounded := by
  obtain ⟨m, hm, hu | ⟨o, tag, ty, r, d, rfl, hu⟩⟩ := s.own_house l f
  · rw [hu]
    exact hm.bounded hb
  · rw [hu]
    obtain ⟨htl, hops, hq⟩ := hm.bounded hb
    have hroom : (s.opsPort o).replies.length < Config.replyCapacity := of_decide_eq_true (Bool.and_eq_true_iff.mp may).2
    refine ⟨htl, fun v => ?_, hq⟩
    rw [State.reply, State.opsPort_modOps]
    split
    · next hv =>
      subst hv
      obtain ⟨hrx, -, hrest⟩ := hops o
      refine ⟨hrx, ?_, hrest⟩
      rw [List.length_append]
      rcases hm.ports.replies o with he | ⟨-, he⟩
      · rw [he]
        exact hroom
      · rw [he]
        exact Nat.succ_le_of_lt (Nat.lt_of_le_of_lt (Nat.zero_le _) hroom)
    · exact hops v

/-! ## Capacities -/

theorem State.Takes.bounded {P : Frame → Prop} (h : s.Takes l P u) (hb : s.Bounded) : u.Bounded := by
  induction h with
  | done => exact hb
  | port hp _ ih => exact ih (hp.bounded hb)
  | own f _ may _ ih => exact ih (State.own_bounded f may hb)

theorem Course.bounded {c : Instr} (h : Course s c u) (hb : s.Bounded) : u.Bounded := by
  cases h with
  | held => exact hb
  | restart =>
    refine ⟨fun t => ?_, fun o => ?_, Nat.zero_le _⟩
    · have hport : ∀ r q, ({ State.afterReset r with pending := q } : State).tl t = .initial := fun r q => State.reset_tl t
      rw [hport]
      decide
    · have hport : ∀ r q, ({ State.afterReset r with pending := q } : State).opsPort o =
          { OpsPort.initial with notices := [⟨0, .siteReset r⟩] } := fun r q => by simp [State.opsPort, State.afterReset]
      rw [hport]
      exact ⟨Nat.zero_le _, Nat.zero_le _, Nat.le_of_ble_eq_true rfl, Nat.zero_le _⟩
  | event h => exact ((h fun _ => False).house id).bounded hb
  | walk =>
    unfold State.walkIfDue
    split
    · exact (State.Does.house (A := .walking) (D := fun _ => False) id (State.walk_does (fun _ => trivial) trivial)).bounded hb
    · exact hb
  | opsFrame => exact (s.frameArrives_takes _ _).bounded hb
  | tlFrame => exact (s.frameArrives_takes _ _).bounded hb
  | bytes => exact (State.receiveBytes_takes _ _ s).bounded hb
  | startOps => exact (s.startOps_takes _).bounded hb

/-- What every course of a command keeps, with the act that takes the front of the queue and the one of an idle step, every
step keeps. -/
theorem step_keeps_of_course {I : State → Prop} (hhouse : ∀ s u : State, s.House u → I s → I u)
    (hcourse : ∀ (c : Instr) (s u : State), Course s c u → I s → I u) (hi : I s) (h : step s = .next u) : I u := by
  unfold step at h
  split at h
  · exact hcourse _ _ _ (exec_course h) (hhouse _ _ (.same rfl) hi)
  · cases h
    unfold State.idle State.live
    split
    · exact hi
    · dsimp only
      split
      · exact hhouse _ _ (State.Does.house (A := .walking) (D := fun _ => False) id (State.walk_does (fun _ => trivial) trivial)) hi
      · exact hhouse _ _ s.tick_light.house hi

/-! ## Frames taken as soon as they may be (R171, R176, log 1) -/

/-- A change at port l alone leaves what is done at the others. -/
theorem State.modCore_doneAt {k : PortId} (hk : k ≠ l) (f : PortCore → PortCore) (h : s.DoneAt k) : (s.modCore l f).DoneAt k := by
  have hcore := (s.modCore_onlyCore l f).cores k hk
  have hheld : (s.modCore l f).resetHold = s.resetHold := by cases l <;> rfl
  cases k with
  | tl t => exact (congrArg PortCore.rx hcore).trans h
  | ops o =>
    rw [State.DoneAt, hcore, hheld, State.replies_modCore]
    exact h

theorem State.takeHead_doneAt {k : PortId} (hk : k ≠ l) (h : s.DoneAt k) : (s.takeHead l).DoneAt k := by
  unfold State.takeHead
  split
  · exact State.own_doneAt hk _ (State.modCore_doneAt hk _ h)
  · exact h

/-- Taking the head of a queue shortens it. -/
theorem State.takeHead_rx (s : State) (l : PortId) : ((s.takeHead l).core l).rx.length ≤ (s.core l).rx.length - 1 := by
  unfold State.takeHead
  split
  · next f rest hrx =>
    have htake : ((s.takeFrame l).core l).rx = rest := by
      rw [State.takeFrame, State.core_modCore, PortCore.flowDown_rx, hrx]
      rfl
    rw [hrx, List.length_cons, Nat.add_sub_cancel]
    rcases (s.takeFrame l).own_rx l f with h | h
    · rw [h, htake]
    · rw [h]
      exact Nat.zero_le _
  · next hrx =>
    rw [hrx]
    exact Nat.zero_le _

/-- An intake that has fuel for every frame leaves none that may be taken at an operations port, and what was done elsewhere. -/
theorem intake_doneAt {o : OpsId} : ∀ (n : Nat) (s : State), ((s.core (.ops o)).rx.length ≤ n) → (∀ k, k ≠ .ops o → s.DoneAt k) →
    ∀ k, (intake (.ops o) n s).DoneAt k
  | 0, s, hn, h, k => by
    by_cases hk : k = .ops o
    · subst hk
      exact .inl (List.length_eq_zero_iff.mp (Nat.le_zero.mp hn))
    · exact h k hk
  | n + 1, s, hn, h, k => by
    rw [intake]
    split
    · exact intake_doneAt n _ (Nat.le_trans (s.takeHead_rx _) (Nat.sub_le_of_le_add hn)) (fun k hk => State.takeHead_doneAt hk (h k hk)) k
    · next may =>
      by_cases hk : k = .ops o
      · subst hk
        rw [Bool.not_eq_true, State.mayTake, Bool.and_eq_false_iff] at may
        rcases may with may | may
        · exact .inr (.inr fun hnone => by rw [hnone] at may; exact nomatch may)
        · exact .inr (.inl (Nat.le_of_not_lt (of_decide_eq_false may)))
      · exact h k hk

theorem State.receiveFrame_doneAt {k : PortId} (hk : k ≠ l) (f : Frame) (h : s.DoneAt k) : (s.receiveFrame l f).DoneAt k := by
  unfold State.receiveFrame
  split
  · exact State.modCore_doneAt hk _ h
  · exact (State.post_light _).house.doneAt (State.modCore_doneAt hk _ h)

theorem State.frameArrives_doneAt (hold : s.resetHold = none) (f : Frame) (h : ∀ k, s.DoneAt k) (k : PortId) :
    (s.frameArrives l f).DoneAt k := by
  unfold State.frameArrives State.takeIn
  cases l with
  | ops o => exact intake_doneAt _ _ (Nat.le_refl _) (fun k hk => State.receiveFrame_doneAt hk f (h k)) k
  | tl t =>
    have hrx := State.receiveFrame_rx f (h (.tl t))
    have may : (s.receiveFrame (.tl t) f).mayTake (.tl t) = true := by
      rw [State.mayTake, (s.receiveFrame_atPorts _ f).only, hold]
      rfl
    rw [hrx, List.length_singleton, intake, if_pos may, intake]
    by_cases hk : k = .tl t
    · subst hk
      have hlen := (s.receiveFrame (.tl t) f).takeHead_rx (.tl t)
      rw [hrx] at hlen
      exact List.length_eq_zero_iff.mp (Nat.le_zero.mp hlen)
    · exact State.takeHead_doneAt hk (State.receiveFrame_doneAt hk f (h k))

theorem State.receiveByte_doneAt (hold : s.resetHold = none) (l : PortId) (b : Byte) (h : ∀ k, s.DoneAt k) (k : PortId) :
    (s.receiveByte l b).DoneAt k := by
  have hset : ∀ r k, (s.setReceiver l r).DoneAt k := fun r k => (State.modCore_light l _ rfl).house.doneAt (h k)
  unfold State.receiveByte
  split
  · split
    · exact hset _ k
    · split
      · exact (State.modCore_light l _ rfl).house.doneAt (h k)
      · split
        · exact (State.modCore_light l _ rfl).house.doneAt (h k)
        · exact h k
  · split
    · exact hset _ k
    · exact hset _ k
  · dsimp only
    split
    · split
      · exact State.frameArrives_doneAt ((by cases l <;> rfl : (s.setReceiver l .hunting).resetHold = s.resetHold).trans hold) _
          (hset _) k
      · exact hset _ k
    · exact hset _ k

theorem State.receiveBytes_doneAt (l : PortId) : ∀ (bs : List Byte) (s : State), (∀ k, s.DoneAt k) →
    ∀ k, (s.receiveBytes l bs).DoneAt k
  | [], _, h => h
  | b :: bs, s, h => by
    refine State.receiveBytes_doneAt l bs (s.live fun s => s.receiveByte l b) fun k => ?_
    cases hold : s.resetHold with
    | none =>
      rw [State.live_eq hold]
      exact State.receiveByte_doneAt hold l b h k
    | some r =>
      rw [State.live_held hold]
      exact h k

/-- What the line starts shortens the reply queue by one, or leaves it; the receive queue stays. -/
theorem OpsPort.start_replies (now : Clock) (o : OpsId) (p : OpsPort) : (p.start now o).core.rx = p.core.rx ∧
    ((p.start now o).replies = p.replies ∨ (p.start now o).replies.length < p.replies.length) := by
  unfold OpsPort.start
  split
  · split
    · exact ⟨rfl, .inl rfl⟩
    · next hr =>
      have hlt : ∀ (r : Reply) (rs : List Reply), p.replies = r :: rs → rs.length < p.replies.length := fun r rs he => by
        rw [he]
        exact Nat.lt_succ_self _
      split
      · exact ⟨rfl, .inr (hlt _ _ hr)⟩
      · exact ⟨rfl, .inr (hlt _ _ hr)⟩
    · unfold OpsPort.afterNotice
      split <;> exact ⟨rfl, .inl rfl⟩
    · exact ⟨rfl, .inl rfl⟩
  · exact ⟨rfl, .inl rfl⟩

theorem State.startOps_doneAt (o : OpsId) (h : ∀ k, s.DoneAt k) (k : PortId) : (s.startOps o).DoneAt k := by
  obtain ⟨hrx, hreplies⟩ := OpsPort.start_replies s.clock o (s.opsPort o)
  have hport : ∀ v, (s.modOps o (OpsPort.start s.clock o)).opsPort v =
      if o = v then OpsPort.start s.clock o (s.opsPort v) else s.opsPort v := fun v => State.opsPort_modOps ..
  have hothers : ∀ k, k ≠ .ops o → (s.modOps o (OpsPort.start s.clock o)).DoneAt k := fun k hk => by
    cases k with
    | tl t => exact h (.tl t)
    | ops v =>
      have hv : (s.modOps o (OpsPort.start s.clock o)).opsPort v = s.opsPort v := by
        rw [hport, if_neg fun he => hk (congrArg PortId.ops he.symm)]
      rw [State.DoneAt, State.core, hv]
      exact h (.ops v)
  unfold State.startOps
  dsimp only
  split
  · exact intake_doneAt _ _ (Nat.le_refl _) hothers k
  · next hlen =>
    by_cases hk : k = .ops o
    · subst hk
      rw [hport, if_pos rfl] at hlen
      rw [State.DoneAt, State.core, hport, if_pos rfl, hrx, hreplies.resolve_right hlen]
      exact h (.ops o)
    · exact hothers k hk

theorem Course.intakeDone {c : Instr} (h : Course s c u) (hs : s.IntakeDone) : u.IntakeDone := by
  rw [State.intakeDone_iff] at hs ⊢
  cases h with
  | held => exact hs
  | restart =>
    obtain ⟨-, -, -, -, -, -, -, -, -, -, hdone⟩ := State.reset_invariants
    have hcore : ∀ r q k, ({ State.afterReset r with pending := q } : State).core k = .initial := fun r q k => by
      cases k with
      | tl t => exact congrArg TlPort.core (State.reset_tl t)
      | ops o => simp [State.core, State.opsPort, State.afterReset, OpsPort.initial]
    intro k
    cases k with
    | tl t => exact congrArg PortCore.rx (hcore _ _ _)
    | ops o => exact .inl (congrArg PortCore.rx (hcore _ _ _))
  | event h => exact fun k => ((h fun _ => False).house id).doneAt (hs k)
  | walk =>
    unfold State.walkIfDue
    split
    · exact fun k => (State.Does.house (A := .walking) (D := fun _ => False) id (State.walk_does (fun _ => trivial) trivial)).doneAt (hs k)
    · exact hs
  | opsFrame hold => exact State.frameArrives_doneAt hold _ hs
  | tlFrame hold => exact State.frameArrives_doneAt hold _ hs
  | bytes => exact State.receiveBytes_doneAt _ _ s hs
  | startOps => exact State.startOps_doneAt _ hs

/-- Settles O9: the acts keep house, the ports keep their sizes, and an intake ends where nothing more may be taken. -/
theorem stepKeepsCapacities : Obligations.StepKeepsCapacities := by
  obtain ⟨-, -, -, -, -, -, -, -, -, hcounts, -⟩ := State.reset_invariants
  refine ⟨fun s t hs => step_keeps_of_course (fun _ _ hh => hh.bounded) (fun _ _ _ hc => hc.bounded) hs,
    fun s t hs => step_keeps_of_act (fun _ _ _ ha house => (ha.keeps_house house).2.2) (fun _ _ => hcounts) hs,
    fun s t hs => step_keeps_of_course (fun _ _ hh hi => ?_) (fun _ _ _ hc => hc.intakeDone) hs⟩
  exact State.intakeDone_iff.mpr fun l => hh.doneAt (State.intakeDone_iff.mp hi l)

end

end Sys2Proof.Machine

/-! PROOFS. A GRANTED section keeps its holder until its detection is CLEAR (R68, R69). -/

namespace Sys2Proof.Machine

section
variable {A : Scope} {D D' : TId → Prop} {s m t : State} {u : TId} {n : Nat}

/-! ## Firmly held, or CLEAR -/

/-- Section n is held firmly by u, or is CLEAR. -/
def State.FirmOrClear (s : State) (u : TId) (n : Nat) : Prop := s.heldFirm u n = true ∨ s.detOf n = .clear

theorem State.heldFirm_holdBy (h : s.heldFirm u n = true) : s.holdBy u n = some .granted ∨ s.holdBy u n = some .releasePending :=
  of_decide_eq_true h

theorem State.holdBy_of_unheld (h : s.Unheld n) (v : TId) : s.holdBy v n = none := by
  rw [State.holdBy_eq, h]
  rfl

/-- Who holds a section firmly is its only holder. -/
theorem State.holder_of_firm {v : TId} (h : s.heldFirm u n = true) (hv : s.holdBy v n ≠ none) : v = u :=
  Decidable.byContradiction fun hne => (State.heldFirm_holdBy h).elim (fun hk => hv (State.holdBy_other hk hne))
    fun hk => hv (State.holdBy_other hk hne)

theorem State.not_unheld_of_firm (h : s.heldFirm u n = true) : ¬ s.Unheld n := fun hun => by
  rcases State.heldFirm_holdBy h with hg | hg <;> rw [State.holdBy_of_unheld hun u] at hg <;> exact nomatch hg

theorem State.heldFirm_congr (h : m.holdBy u n = s.holdBy u n) : m.heldFirm u n = s.heldFirm u n := by
  rw [State.heldFirm, h]
  rfl

theorem State.detOf_setHold_firm (j : Nat) (h : Option Hold) (hd : s.detOf n = .clear) : (s.setHold j h).FirmOrClear u n :=
  .inr ((s.detOf_setHold j n h).trans hd)

/-- A section that loses its holder was not held firmly by u, or was CLEAR. -/
theorem State.setHold_none_firmOrClear {j : Nat} (hj : s.heldFirm u j = true → s.detOf j = .clear) (h : s.FirmOrClear u n) :
    (s.setHold j none).FirmOrClear u n := by
  rcases h with h | h
  · by_cases hn : n = j
    · exact State.detOf_setHold_firm j none (hn ▸ hj (hn ▸ h))
    · refine .inl ((State.heldFirm_congr ?_).trans h)
      rw [State.holdBy_setHold_none, if_neg hn]
  · exact State.detOf_setHold_firm j none h

/-- A section that v takes was not held firmly by u, or stays so. -/
theorem State.setHold_some_firmOrClear {j : Nat} {v : TId} {k : HoldKind} {e : Bool}
    (hj : s.heldFirm u j = true → v = u ∧ k = .granted) (h : s.FirmOrClear u n) :
    (s.setHold j (some ⟨v, k, e⟩)).FirmOrClear u n := by
  rcases h with h | h
  · by_cases hn : n = j
    · subst hn
      obtain ⟨rfl, rfl⟩ := hj h
      have hsome : (s.sec? n).isSome = true := by
        cases hx : s.sec? n with
        | some x => rfl
        | none => exact absurd (by rw [State.Unheld, hx]; rfl) (State.not_unheld_of_firm h)
      refine .inl ?_
      rw [State.heldFirm, State.holdBy_setHold_some _ _ _ _ _ _ fun _ => hsome, if_pos rfl]
      rfl
    · refine .inl ((State.heldFirm_congr ?_).trans h)
      rw [State.holdBy_eq, State.sec_setHold_ne _ hn, ← State.holdBy_eq]
  · exact State.detOf_setHold_firm j _ h

theorem State.Steady.firmOrClear (h : s.Steady m) (hs : s.FirmOrClear u n) : m.FirmOrClear u n :=
  hs.imp (h.firm u n) fun hd => (h.det n).trans hd

/-- An act keeps a section firmly held by u, or finds it CLEAR, unless it senses, defines, wipes, or releases a section of u that
need not be CLEAR. -/
theorem Act.keeps_firmOrClear {k : Kind} (h : Act k s m) (hsense : k ≠ .sense) (hdefine : k ≠ .define) (hwipe : k ≠ .wipe)
    (hshed : k ≠ .shed u) (hs : s.FirmOrClear u n) : m.FirmOrClear u n := by
  have hunheld : ∀ {j : Nat} {P : Prop}, s.Unheld j → s.heldFirm u j = true → P := fun hun hf =>
    absurd hun (State.not_unheld_of_firm hf)
  have hsetting : ∀ {j : Nat} {v : TId} {P : Prop}, s.holdBy v j = some .setting → s.heldFirm u j = true → P := fun hv hf => by
    have hvu := State.holder_of_firm hf (by rw [hv]; exact nofun)
    subst hvu
    rcases State.heldFirm_holdBy hf with hg | hg <;> exact absurd (hv.symm.trans hg) nofun
  cases k
  case sense => exact absurd rfl hsense
  case define => exact absurd rfl hdefine
  case wipe => exact absurd rfl hwipe
  case calm => exact h.1.firmOrClear hs
  case reroute =>
    have hc : s.Calm m := h
    exact hc.firmOrClear hs
  case post | enlist => exact h.1.firmOrClear hs
  case port | flags =>
    rw [h]
    exact hs
  case opened =>
    rw [h.1]
    exact hs
  case evald v =>
    have hm : m = s.evalStop v := h
    rw [hm, (s.evalStop_evaluated v).only]
    exact hs
  case queue v =>
    have hm : m = s.joinQueue v := h.1
    rw [hm, State.joinQueue]
    split <;> exact hs
  case drop v =>
    obtain ⟨j, rfl, hj⟩ := h
    exact State.setHold_none_firmOrClear (fun hf => hj.elim (hunheld · hf) (hsetting · hf)) hs
  case rear v =>
    obtain ⟨j, rfl, hj⟩ := h
    exact State.setHold_none_firmOrClear (fun hf => hj.elim (hunheld · hf) (·.2)) hs
  case shed v =>
    obtain ⟨j, rfl, hj⟩ := h
    refine State.setHold_none_firmOrClear (fun hf => hj.elim (hunheld · hf) fun hv => ?_) hs
    exact absurd (congrArg Kind.shed (State.holder_of_firm hf hv)) hshed
  case take v =>
    obtain ⟨j, k, rfl, -, -, -, hj⟩ := h
    refine State.setHold_some_firmOrClear (fun hf => ?_) hs
    rcases hj with hj | hj | ⟨hj, hk⟩
    · exact hunheld hj hf
    · exact hsetting hj hf
    · exact ⟨State.holder_of_firm hf (by rw [hj]; exact nofun), hk⟩
  case join v =>
    obtain ⟨j, rfl, -, -, hj⟩ := h
    refine State.setHold_some_firmOrClear (fun hf => hj.elim (hunheld · hf) fun hv => ?_) hs
    exact ⟨State.holder_of_firm hf (by rw [hv]; exact nofun), rfl⟩
  case keep v =>
    obtain ⟨j, rfl, -, hj⟩ := h
    exact State.setHold_some_firmOrClear (fun hf => hj.elim (hunheld · hf) fun hv => ⟨State.holder_of_firm hf hv, rfl⟩) hs

theorem State.Does.keeps_firmOrClear (hsenses : ¬ A.senses) (hwipes : ¬ A.wipes) (hsheds : A.who u → ¬ A.sheds)
    (h : s.Does A D D' m) (hs : s.FirmOrClear u n) : m.FirmOrClear u n := by
  induction h with
  | done => exact hs
  | @act k _ _ _ _ _ allowed ha _ _ ih =>
    refine ih (ha.keeps_firmOrClear ?_ ?_ ?_ ?_ hs)
    · rintro rfl
      exact hsenses allowed
    · rintro rfl
      exact hwipes allowed
    · rintro rfl
      exact hwipes allowed
    · rintro rfl
      exact hsheds allowed.1 allowed.2

/-- A change of detection leaves the holds. -/
theorem State.Does.keeps_firm_sensing (h : s.Does .sensing D D' m) (hs : s.heldFirm u n = true) : m.heldFirm u n = true := by
  induction h with
  | done => exact hs
  | @act k _ _ s m _ allowed ha _ _ ih =>
    refine ih ?_
    cases k
    case calm => exact ha.1.firm u n hs
    case sense =>
      obtain ⟨j, d, c, rfl⟩ := ha
      refine (State.heldFirm_congr ?_).trans hs
      rw [State.holdBy_eq, State.holdBy_eq, State.sec?, State.modSec]
      by_cases hn : n = j
      · subst hn
        rw [Table.find_adjust_self, State.sec?]
        cases Table.find s.sections n <;> rfl
      · rw [Table.find_adjust_ne _ _ hn]
        rfl
    case rear | shed | take | join | keep | queue => exact allowed.1.elim
    all_goals exact allowed.elim

theorem State.Sensed.keeps_firmOrClear (hsenses : ¬ A.senses) (hwipes : ¬ A.wipes) (hsheds : A.who u → ¬ A.sheds)
    (h : s.Sensed A D m) (hs : s.heldFirm u n = true) : m.FirmOrClear u n := by
  obtain ⟨z, h1, h2⟩ := h
  exact h2.keeps_firmOrClear hsenses hwipes hsheds (.inl (h1.keeps_firm_sensing hs))

/-! ## Commands -/

/-- What a request of t may be made of. -/
def Scope.request (t : TId) : Scope :=
  { who := fun v => v = t, reroutes := True, ports := False, senses := False, rears := True, sheds := True, takes := True
    joins := True, keeps := True, queues := True, flags := False, wipes := False }

/-- Where no frame waits that may be taken, the frame that arrives goes to its owner, or waits. -/
theorem State.frameArrives_once {l : PortId} (hold : s.resetHold = none) (h : s.DoneAt l) (f : Frame) :
    ∃ m, s.AtPorts m ∧ (s.frameArrives l f = m ∨ s.frameArrives l f = m.own l f) := by
  by_cases hrx : (s.core l).rx = []
  · have hone := State.receiveFrame_rx f hrx
    unfold State.frameArrives State.takeIn
    rw [hone, List.length_singleton, intake]
    split
    · refine ⟨_, (s.receiveFrame_atPorts l f).trans (State.takeFrame_atPorts _ l), .inr ?_⟩
      rw [intake, State.takeHead, hone]
    · exact ⟨_, s.receiveFrame_atPorts l f, .inl rfl⟩
  · cases l with
    | tl v => exact absurd h hrx
    | ops o =>
      have hfull : 8 ≤ (s.opsPort o).replies.length := (h.resolve_left hrx).resolve_right fun hne => hne hold
      have hreplies : ((s.receiveFrame (.ops o) f).opsPort o).replies = (s.opsPort o).replies := by
        unfold State.receiveFrame
        split
        · exact State.replies_modCore ..
        · rw [State.opsPort_post, (OpsPort.addNotice_core _ _).2, State.replies_modCore]
      have may : (s.receiveFrame (.ops o) f).mayTake (.ops o) = false := by
        rw [State.mayTake, Bool.and_eq_false_iff]
        refine .inr (decide_eq_false ?_)
        rw [hreplies]
        exact Nat.not_lt.mpr hfull
      have hstop : ∀ k, intake (.ops o) k (s.receiveFrame (.ops o) f) = s.receiveFrame (.ops o) f := fun k => by
        cases k with
        | zero => rfl
        | succ k => rw [intake, may]; rfl
      exact ⟨_, s.receiveFrame_atPorts _ f, .inl (hstop _)⟩

theorem State.AtPorts.holdBy (h : s.AtPorts m) (v : TId) (j : Nat) : m.holdBy v j = s.holdBy v j := by
  rw [h.only]
  rfl

theorem State.Takes.keeps_firmOrClear {l : PortId} {P : Frame → Prop} (h : s.Takes l P m)
    (hown : ∀ (s : State) (f : Frame), P f → s.FirmOrClear u n → (s.own l f).FirmOrClear u n) (hs : s.FirmOrClear u n) :
    m.FirmOrClear u n := by
  induction h with
  | done => exact hs
  | port hp _ ih =>
    refine ih ?_
    rw [hp.only]
    exact hs
  | own f hf _ _ ih => exact ih (hown _ f hf hs)

/-- A request of v keeps u's sections, where it is another's or releases none. -/
theorem State.own_tl_firmOrClear {v : TId} (f : Frame) (h : v = u → f.typ ≠ Config.tyReport ∧ f.typ ≠ Config.tyLeave)
    (hs : s.FirmOrClear u n) : (s.own (.tl v) f).FirmOrClear u n := by
  by_cases hv : v = u
  · obtain ⟨hreport, hleave⟩ := h hv
    refine State.Does.keeps_firmOrClear (A := { Scope.request v with sheds := False }) (D := fun _ => False) (D' := fun _ => False)
      id id (fun _ => id) ?_ hs
    exact State.own_tl_does rfl trivial (fun _ => trivial) (fun h => absurd h hreport)
      (fun _ => ⟨trivial, trivial, trivial⟩) fun h => absurd h hleave
  · refine State.Does.keeps_firmOrClear (A := .request v) (D := fun _ => False) (D' := fun _ => False) id id
      (fun hu => absurd hu.symm hv) ?_ hs
    exact State.own_tl_does rfl trivial (fun _ => trivial) (fun _ => ⟨trivial, trivial, trivial⟩)
      (fun _ => ⟨trivial, trivial, trivial⟩) fun _ => trivial

/-- The frames of the commands that release sections, or define or wipe them, are these commands. -/
theorem opsFrame_releasing {c : Instr} {o : OpsId} {ty tag : Byte} {p : List Byte} (h : opsFrame c = some (o, ty, tag, p)) :
    (ty = Config.tyRetire → ∃ l g p, c = .retire l g p) ∧
    (ty ∈ wipingTypes → (∃ l g p, c = .defineSection l g p) ∨ (∃ l g p, c = .commit l g p) ∨ ∃ l g p, c = .configure l g p) := by
  cases c <;> cases h
  case retire => exact ⟨fun _ => ⟨_, _, _, rfl⟩, fun h => absurd h (by decide)⟩
  case defineSection => exact ⟨fun h => absurd h (by decide), fun _ => .inl ⟨_, _, _, rfl⟩⟩
  case commit => exact ⟨fun h => absurd h (by decide), fun _ => .inr (.inl ⟨_, _, _, rfl⟩)⟩
  case configure => exact ⟨fun h => absurd h (by decide), fun _ => .inr (.inr ⟨_, _, _, rfl⟩)⟩
  all_goals exact ⟨fun h => absurd h (by decide), fun h => absurd h (by decide)⟩

theorem tlFrame_releasing {c : Instr} {v : TId} {ty : Byte} {p : List Byte} (h : tlFrame c = some (v, ty, p)) :
    (ty = Config.tyReport → c = .report v p) ∧ (ty = Config.tyLeave → c = .leave v p) := by
  cases c <;> cases h
  case report => exact ⟨fun _ => rfl, fun h => absurd h (by decide)⟩
  case leave => exact ⟨fun h => absurd h (by decide), fun _ => rfl⟩
  all_goals exact ⟨fun h => absurd h (by decide), fun h => absurd h (by decide)⟩

/-- Settles O16: outside the commands named, u's sections are released only by the test that finds them CLEAR. -/
theorem releaseSafety : Obligations.ReleaseSafety := by
  intro c s t u n hdone hexec hreport hleave hretire hdefine hcommit hconfigure hstart hbytesTl hbytesOps htransmit hheld hgone
  have hfirm : s.heldFirm u n = true := decide_eq_true (.inl hheld)
  rw [State.intakeDone_iff] at hdone
  have hkept : t.FirmOrClear u n := by
    cases exec_course hexec with
    | held => exact .inl hfirm
    | restart => exact absurd rfl hstart
    | event h => exact (h fun _ => False).keeps_firmOrClear id id (fun _ => id) hfirm
    | walk =>
      unfold State.walkIfDue
      split
      · exact (State.walk_does (A := .walking) (D := fun _ => False) (fun _ => trivial) trivial).keeps_firmOrClear id id
          (fun _ => id) (.inl hfirm)
      · exact .inl hfirm
    | @opsFrame _ o ty tag p hold h =>
      obtain ⟨hr, hw⟩ := opsFrame_releasing h
      obtain ⟨m, hports, hm | hm⟩ := State.frameArrives_once hold (hdone (.ops o)) ⟨ty, tag :: p⟩ <;> rw [hm]
      · exact .inl ((State.heldFirm_congr (hports.holdBy u n)).trans hfirm)
      · have hnosheds : ty = Config.tyRetire → Scope.events.sheds := fun hty => by
          obtain ⟨l, g, p, hc⟩ := hr hty
          exact hretire _ _ _ hc
        have hnowipes : ty ∈ wipingTypes → Scope.events.wipes := fun hty => by
          rcases hw hty with ⟨l, g, p, hc⟩ | ⟨l, g, p, hc⟩ | ⟨l, g, p, hc⟩
          · exact hdefine _ _ _ hc
          · exact hcommit _ _ _ hc
          · exact hconfigure _ _ _ hc
        obtain ⟨z, hz, hu⟩ := State.own_ops_obeyed (s := m) (o := o) (f := ⟨ty, tag :: p⟩) (D := fun _ => False)
          (fun _ => trivial) trivial trivial hnosheds hnowipes
        have hkept := hz.keeps_firmOrClear (n := n) id id (fun _ => id)
          ((State.heldFirm_congr (hports.holdBy u n)).trans hfirm)
        rcases hu with hu | ⟨tag, ty, r, d, hu⟩ <;> rw [hu] <;> exact hkept
    | tlFrame hold h =>
      obtain ⟨hr, hl⟩ := tlFrame_releasing h
      obtain ⟨m, hports, hm⟩ := State.frameArrives_once hold (hdone (.tl _)) ⟨_, _⟩
      have hkept : m.FirmOrClear u n := .inl ((State.heldFirm_congr (hports.holdBy u n)).trans hfirm)
      rcases hm with hm | hm <;> rw [hm]
      · exact hkept
      · exact State.own_tl_firmOrClear _ (fun hv => ⟨fun hty => hreport _ (hv ▸ hr hty), fun hty => hleave _ (hv ▸ hl hty)⟩) hkept
    | @bytes _ l _ _ h =>
      cases l with
      | ops o => exact absurd h (hbytesOps o)
      | tl v =>
        refine (State.receiveBytes_takes _ _ s).keeps_firmOrClear (fun s f _ hs => ?_) (.inl hfirm)
        exact State.own_tl_firmOrClear f (fun hv => absurd (hv ▸ h) hbytesTl) hs
    | startOps => exact absurd rfl (htransmit _)
  rcases hkept with h | h
  · rcases State.heldFirm_holdBy h with h | h <;> exact absurd (hgone.symm.trans h) nofun
  · exact h

end

end Sys2Proof.Machine

/-! PROOFS. ROUTE (R42 to R55): the statement of its result does not ask that a section held SETTING stands in its holder's
record, and fails where one does not. -/

namespace Sys2Proof.Machine

/-- The definition of a section of 1 m between two others, with a second path where it has a point. -/
def stretch (point : Option PointPart) (before after : TrackLink) : SectionDef :=
  ⟨10, point, 0, 20, before, after, 0, 0, 1, 0⟩

/-- T0, AUTHORISED, stands in section 0, and holds section 2 SETTING, which is not in its record; between them lies the
point section 1, whose point is out of the position a straight route needs. -/
def strayReservation : State :=
  { State.reset with
    site := .running
    sections := [(0, ⟨stretch none .buffer (.to 1 .a), .clear, State.reset.clock, some ⟨0, .granted, true⟩⟩),
      (1, ⟨stretch (some ⟨10, .buffer⟩) (.to 0 .b) (.to 2 .a), .clear, State.reset.clock, none⟩),
      (2, ⟨stretch none (.to 1 .b) .buffer, .clear, State.reset.clock, some ⟨0, .setting, false⟩⟩)]
    points := [(0, ⟨1, 5, .reverse, none, none, none, none, none⟩)]
    units := [(5, .fresh .point)]
    trs := upd State.reset.trs 0 fun x => { x with state := .authorised }
    routes := upd State.reset.routes 0 fun _ => ⟨[⟨0, .a, .b, 1⟩], some 1, some ⟨1, 10⟩, 10, 1, 2, false⟩ }

/-- A request of T0 to run on from section 0 through section 1 to section 2. -/
def straightOn : List Triple := [⟨0, .a, .b⟩, ⟨1, .a, .b⟩, ⟨2, .a, .b⟩]

/-- That request as it is sent, with final stop offset 0. -/
def straightOnBytes : List Byte := [3, 0, 0, 0, 0, 1, 1, 0, 1, 2, 0, 1]

theorem parseRoute_straightOnBytes : parseRoute straightOnBytes = some (0, some straightOn) := by decide

theorem strayReservation_quiet : strayReservation.Quiet (.tl 0) := by decide

theorem strayReservation_routesRise : strayReservation.RoutesRise := by decide

theorem strayReservation_tablesWf : strayReservation.TablesWf := by decide

theorem strayReservation_newEntries :
    strayReservation.newEntries 0 straightOn = [⟨1, .a, .b, 0⟩, ⟨2, .a, .b, 0⟩] := by decide

/-- Section 1 is reserved and its throw queued; section 2, further on, joins the record with its stray hold. -/
theorem strayReservation_route : ∃ u, exec (.route 0 straightOnBytes) strayReservation = .next u ∧
    u.settingRun 0 = [⟨1, .a, .b, 2⟩, ⟨2, .a, .b, 3⟩] ∧ u.nextUnit 0 = [⟨1, .a, .b, 2⟩] :=
  ⟨_, rfl, by decide, by decide⟩

/-- Refutes O42: the statement asks that the SETTING run after ROUTE is the next unit. A section that is held SETTING by the
requester but is in no entry of its record, which the hypotheses allow, joins the record with the request and stands in that
run beyond the unit just reserved. -/
theorem not_routeResult : ¬ Obligations.RouteResult := by
  intro h
  obtain ⟨u, hexec, hsetting, hunit⟩ := strayReservation_route
  have haccepted := (h strayReservation 0 straightOnBytes 0 strayReservation_quiet strayReservation_routesRise
    strayReservation_tablesWf).2 straightOn parseRoute_straightOnBytes
  dsimp only at haccepted
  rw [if_neg (by decide), if_neg (by decide), if_neg (by decide), if_neg (by decide), if_neg (by decide),
    if_neg (by decide), if_neg (by decide)] at haccepted
  obtain ⟨v, hv, -, -, -, -, -, -, -, -, -, -, hrun, -⟩ := haccepted
  cases hexec.symm.trans hv
  rw [hsetting, hunit] at hrun
  exact absurd hrun (by decide)

end Sys2Proof.Machine

/-! PROOFS. Who holds a section, through the acts of a command: holders come only by JOIN, ROUTE and the walk (R49, R106). -/

namespace Sys2Proof.Machine

/-- Who holds section n. -/
def State.owner (s : State) (n : Nat) : Option TId := ((s.sec? n).bind (·.hold)).map (·.holder)

section
variable {A : Scope} {D D' : TId → Prop} {s m t : State} {u v w : TId} {n : Nat}

theorem State.owner_eq_none : s.owner n = none ↔ s.Unheld n := Option.map_eq_none_iff

theorem State.owner_iff : s.owner n = some v ↔ s.holdBy v n ≠ none := by
  rw [State.owner, State.holdBy_eq]
  cases (s.sec? n) with
  | none => simp
  | some x => cases hx : x.hold <;> simp [hx]

theorem State.owner_setHold (j : Nat) (h : Option Hold) : (s.setHold j h).owner n =
    if n = j then (s.sec? n).bind fun _ => h.map (·.holder) else s.owner n := by
  unfold State.owner
  split
  · next hn =>
    rw [hn, State.sec_setHold_self]
    cases s.sec? j <;> rfl
  · next hn => rw [State.sec_setHold_ne _ hn]

/-- A change of detection leaves the holders. -/
theorem State.owner_sense (j : Nat) (d : Detection) (c : Clock) :
    (s.modSec j fun x => { x with det := d, capture := c }).owner n = s.owner n := by
  have hsec : (s.modSec j fun x => { x with det := d, capture := c }).sec? n =
      Table.find (Table.adjust s.sections j fun x => { x with det := d, capture := c }) n := rfl
  rw [State.owner, hsec]
  by_cases hn : n = j
  · subst hn
    rw [Table.find_adjust_self, State.owner, State.sec?]
    cases Table.find s.sections n <;> rfl
  · rw [Table.find_adjust_ne _ _ hn]
    rfl

/-! ## Acts -/

/-- A section that a holder has anew by an act was nobody's, and is taken, joined or kept. -/
def State.NewlyOwned (s : State) (k : Kind) (v : TId) (n : Nat) : Prop :=
  k = .keep v ∨ s.Unheld n ∧
    (k = .take v ∧ s.detOf n = .clear ∧ (∀ x, s.sec? n = some x → s.inStoppedZone x.defn.zones = false) ∨
      k = .join v ∧ (s.detOf n = .occupied ∨ s.detOf n = .disturbed))

theorem Table.find_map {α β : Type} (t : Table α) (f : α → β) (k : Nat) :
    Table.find (t.map fun p => (p.1, f p.2)) k = (Table.find t k).map f := by
  induction t with
  | nil => rfl
  | cons p t ih =>
    rw [List.map_cons, Table.find, Table.find]
    split
    · rfl
    · exact ih

theorem State.holders_find (s : State) (n : Nat) : Table.find s.holders n = (s.sec? n).map Section.held :=
  Table.find_map s.sections Section.held n

theorem State.Steady.held (h : s.Steady m) (n : Nat) : (m.sec? n).map Section.held = (s.sec? n).map Section.held := by
  rw [← State.holders_find, ← State.holders_find, h.holders]

theorem State.Steady.owner (h : s.Steady m) (n : Nat) : m.owner n = s.owner n := by
  have hkey : ∀ z : State, z.owner n = ((z.sec? n).map Section.held).bind (·.2) := fun z => by
    unfold State.owner Section.held
    cases z.sec? n <;> rfl
  rw [hkey, hkey, h.held]

theorem State.Steady.defn (h : s.Steady m) (n : Nat) : (m.sec? n).map (·.defn) = (s.sec? n).map (·.defn) := by
  have := congrArg (Option.map Prod.fst) (h.held n)
  rwa [Option.map_map, Option.map_map] at this

theorem State.Steady.inStoppedZone (h : s.Steady m) : m.inStoppedZone = s.inStoppedZone := by
  funext z
  simp only [State.inStoppedZone, h.zones]

/-- A section that v takes: it is v's then, and every other section whose it was. -/
theorem State.owner_taken {j : Nat} {k : HoldKind} {e : Bool} (hm : (s.setHold j (some ⟨w, k, e⟩)).owner n = some v) :
    s.owner n = some v ∨ n = j ∧ v = w := by
  rw [State.owner_setHold] at hm
  split at hm
  · next hn =>
    cases hx : s.sec? n with
    | none => rw [hx] at hm; exact nomatch hm
    | some x =>
      rw [hx] at hm
      exact .inr ⟨hn, (Option.some.inj hm).symm⟩
  · exact .inl hm

theorem State.owner_dropped {j : Nat} (hm : (s.setHold j none).owner n = some v) : s.owner n = some v := by
  rw [State.owner_setHold] at hm
  split at hm
  · cases hx : s.sec? n <;> rw [hx] at hm <;> exact nomatch hm
  · exact hm

/-- A holder that a section has after an act it had before, or has it anew. -/
theorem Act.owner {k : Kind} (h : Act k s m) (hwf : Table.wf s.sections = true) (hm : m.owner n = some v) :
    s.owner n = some v ∨ s.NewlyOwned k v n := by
  cases k
  case calm | post | enlist => exact .inl (h.1.owner n ▸ hm)
  case reroute =>
    have hc : s.Calm m := h
    exact .inl (hc.owner n ▸ hm)
  case port | flags =>
    rw [h] at hm
    exact .inl hm
  case opened =>
    rw [h.1] at hm
    exact .inl hm
  case evald w =>
    have hu : m = s.evalStop w := h
    rw [hu, (s.evalStop_evaluated w).only] at hm
    exact .inl hm
  case queue w =>
    have hu : m = s.joinQueue w := h.1
    rw [hu, State.joinQueue] at hm
    split at hm <;> exact .inl hm
  case sense =>
    obtain ⟨j, d, c, rfl⟩ := h
    exact .inl ((State.owner_sense j d c).symm.trans hm)
  case drop | rear | shed =>
    obtain ⟨j, rfl, -⟩ := h
    exact .inl (State.owner_dropped hm)
  case take w =>
    obtain ⟨j, kd, rfl, -, hdet, hzone, hj⟩ := h
    rcases State.owner_taken hm with hs | ⟨rfl, rfl⟩
    · exact .inl hs
    · rcases hj with hj | hj | ⟨hj, -⟩
      · exact .inr (.inr ⟨hj, .inl ⟨rfl, hdet, hzone⟩⟩)
      · exact .inl (State.owner_iff.mpr (by rw [hj]; exact nofun))
      · exact .inl (State.owner_iff.mpr (by rw [hj]; exact nofun))
  case join w =>
    obtain ⟨j, rfl, -, hdet, hj⟩ := h
    rcases State.owner_taken hm with hs | ⟨rfl, rfl⟩
    · exact .inl hs
    · rcases hj with hj | hj
      · exact .inr (.inr ⟨hj, .inr ⟨rfl, hdet⟩⟩)
      · exact .inl (State.owner_iff.mpr (by rw [hj]; exact nofun))
  case keep w =>
    obtain ⟨j, rfl, -, -⟩ := h
    rcases State.owner_taken hm with hs | ⟨rfl, rfl⟩
    · exact .inl hs
    · exact .inr (.inl rfl)
  case define =>
    obtain ⟨-, -, hdef⟩ := h
    obtain ⟨x, hx, hxh⟩ := Option.bind_eq_some_iff.mp (Option.map_eq_some_iff.mp hm).choose_spec.1
    rcases hdef _ (Table.mem_of_find hx) with hin | hno
    · refine .inl ?_
      rw [← hm, State.owner, State.owner, State.sec?, Table.find_of_mem hwf hin]
      rw [State.sec?] at hx
      rw [State.sec?, hx]
    · exact absurd (hxh.symm.trans hno) nofun
  case wipe =>
    obtain ⟨-, -, hno, -⟩ := h
    obtain ⟨x, hx, hxh⟩ := Option.bind_eq_some_iff.mp (Option.map_eq_some_iff.mp hm).choose_spec.1
    exact absurd (hxh.symm.trans (hno _ (Table.mem_of_find hx))) nofun

/-- A holder keeps its section through every act that is not its own, but for definitions and the clearing of a run. -/
theorem Act.owner_kept {k : Kind} (h : Act k s m) (hdefine : k ≠ .define) (hwipe : k ≠ .wipe)
    (hk : k ≠ .drop v ∧ k ≠ .rear v ∧ k ≠ .shed v ∧ ∀ w, k ≠ .keep w) (hs : s.owner n = some v) : m.owner n = some v := by
  obtain ⟨hdrop, hrear, hshed, hkeep⟩ := hk
  have hheld : s.holdBy v n ≠ none := State.owner_iff.mp hs
  have hun : ¬ s.Unheld n := fun hun => by rw [State.owner_eq_none.mpr hun] at hs; exact nomatch hs
  have hsome : (s.sec? n).isSome := by
    cases hx : s.sec? n with
    | some x => rfl
    | none => exact absurd (by rw [State.Unheld, hx]; rfl) hun
  have hsame : ∀ {w : TId}, s.holdBy w n ≠ none → w = v := fun hw =>
    Option.some.inj ((State.owner_iff.mpr hw).symm.trans hs)
  have hdropped : ∀ {j : Nat} {w : TId}, w ≠ v → (s.Unheld j ∨ s.holdBy w j ≠ none) → (s.setHold j none).owner n = some v :=
    fun {j w} hw hj => by
      rw [State.owner_setHold, if_neg]
      · exact hs
      · rintro rfl
        exact hj.elim hun fun h => hw (hsame h)
  have htaken : ∀ {j : Nat} {w : TId} {kd : HoldKind} {e : Bool}, (s.Unheld j ∨ s.holdBy w j ≠ none) →
      (s.setHold j (some ⟨w, kd, e⟩)).owner n = some v := fun {j w kd e} hj => by
    rw [State.owner_setHold]
    split
    · next hn =>
      subst hn
      obtain ⟨x, hx⟩ := Option.isSome_iff_exists.mp hsome
      rw [hx, Option.bind_some, hsame (hj.resolve_left hun)]
      rfl
    · exact hs
  cases k
  case define => exact absurd rfl hdefine
  case wipe => exact absurd rfl hwipe
  case keep w => exact absurd rfl (hkeep w)
  case calm | post | enlist => exact (h.1.owner n).trans hs
  case reroute =>
    have hc : s.Calm m := h
    exact (hc.owner n).trans hs
  case port | flags =>
    rw [h]
    exact hs
  case opened =>
    rw [h.1]
    exact hs
  case evald w =>
    have hu : m = s.evalStop w := h
    rw [hu, (s.evalStop_evaluated w).only]
    exact hs
  case queue w =>
    have hu : m = s.joinQueue w := h.1
    rw [hu, State.joinQueue]
    split <;> exact hs
  case sense =>
    obtain ⟨j, d, c, rfl⟩ := h
    exact (State.owner_sense j d c).trans hs
  case drop w =>
    obtain ⟨j, rfl, hj⟩ := h
    exact hdropped (w := w) (fun hw => hdrop (hw ▸ rfl)) (hj.imp_right fun h => by rw [h]; exact nofun)
  case rear w =>
    obtain ⟨j, rfl, hj⟩ := h
    exact hdropped (w := w) (fun hw => hrear (hw ▸ rfl)) (hj.imp_right (·.1))
  case shed w =>
    obtain ⟨j, rfl, hj⟩ := h
    exact hdropped (w := w) (fun hw => hshed (hw ▸ rfl)) hj
  case take w =>
    obtain ⟨j, kd, rfl, -, -, -, hj⟩ := h
    refine htaken (hj.imp_right fun h => ?_)
    rcases h with h | ⟨h, -⟩ <;> rw [h] <;> exact nofun
  case join w =>
    obtain ⟨j, rfl, -, -, hj⟩ := h
    exact htaken (hj.imp_right fun h => by rw [h]; exact nofun)

/-! ## Commands without new holders -/

/-- Between s and m no section came to a holder it did not have. -/
def State.NoneGained (s m : State) : Prop := ∀ v n, m.owner n = some v → s.owner n = some v

theorem State.NoneGained.trans (h : s.NoneGained m) (h' : m.NoneGained t) : s.NoneGained t :=
  fun v n ht => h v n (h' v n ht)

theorem State.Does.noneGained (h : s.Does A D D' m) (hwf : s.TablesWf) (htakes : ¬ A.takes) (hjoins : ¬ A.joins)
    (hkeeps : ¬ A.keeps) : s.NoneGained m := by
  induction h with
  | done => exact fun _ _ => id
  | act allowed ha house _ ih =>
    intro v n hm
    rcases ha.owner hwf.1 (ih ((ha.keeps_house house).1 hwf) v n hm) with h | rfl | ⟨-, ⟨rfl, -⟩ | ⟨rfl, -⟩⟩
    · exact h
    · exact absurd allowed.2 hkeeps
    · exact absurd allowed.2 htakes
    · exact absurd allowed.2 hjoins

theorem State.Does.keeps_tablesWf (h : s.Does A D D' m) (hwf : s.TablesWf) : m.TablesWf := by
  induction h with
  | done => exact hwf
  | act _ ha house _ ih => exact ih ((ha.keeps_house house).1 hwf)

theorem State.Sensed.noneGained (h : s.Sensed A D m) (hwf : s.TablesWf) (htakes : ¬ A.takes) (hjoins : ¬ A.joins)
    (hkeeps : ¬ A.keeps) : s.NoneGained m := by
  obtain ⟨z, h1, h2⟩ := h
  exact (h1.noneGained hwf id id id).trans (h2.noneGained (h1.keeps_tablesWf hwf) htakes hjoins hkeeps)

/-! ## What one transporter's commands gain -/

/-- Between s and m no section changed holders but for u, and u came to hold none but those nobody held, which it joined where
they are seen taken, or took where they are CLEAR and in no stopped zone. -/
structure State.Gained (s m : State) (u : TId) (joins takes : Prop) : Prop where
  det : ∀ n, m.detOf n = s.detOf n
  defn : ∀ n, (m.sec? n).map (·.defn) = (s.sec? n).map (·.defn)
  zones : m.inStoppedZone = s.inStoppedZone
  kept : ∀ v n, v ≠ u → s.owner n = some v → m.owner n = some v
  gained : ∀ v n, m.owner n = some v → s.owner n = some v ∨ v = u ∧ s.Unheld n ∧
    (takes ∧ s.detOf n = .clear ∧ (∀ x, s.sec? n = some x → s.inStoppedZone x.defn.zones = false) ∨
      joins ∧ (s.detOf n = .occupied ∨ s.detOf n = .disturbed))

theorem State.Gained.refl {J T : Prop} : s.Gained s u J T := ⟨fun _ => rfl, fun _ => rfl, rfl, fun _ _ _ => id, fun _ _ => .inl⟩

theorem State.Gained.trans {J T : Prop} (h : s.Gained m u J T) (h' : m.Gained t u J T) : s.Gained t u J T where
  det n := (h'.det n).trans (h.det n)
  defn n := (h'.defn n).trans (h.defn n)
  zones := h'.zones.trans h.zones
  kept v n hv hs := h'.kept v n hv (h.kept v n hv hs)
  gained v n ht := by
    rcases h'.gained v n ht with hm | ⟨rfl, hun, hcases⟩
    · exact h.gained v n hm
    · cases hs : s.owner n with
      | some w =>
        by_cases hw : w = v
        · exact .inl (hw ▸ rfl)
        · exact absurd ((h.kept w n hw hs).symm.trans (State.owner_eq_none.mpr hun)) nofun
      | none =>
        refine .inr ⟨rfl, State.owner_eq_none.mp hs, ?_⟩
        rw [h.det, h.zones] at hcases
        refine hcases.imp_left fun ⟨h1, h2, h3⟩ => ⟨h1, h2, fun x hx => ?_⟩
        have hd := h.defn n
        rw [hx] at hd
        obtain ⟨y, hy, hyd⟩ := Option.map_eq_some_iff.mp hd
        dsimp only at hyd
        rw [← hyd]
        exact h3 y hy

/-- What an act changes of the track a holder reads: only acts of detection, flags and definitions change any. -/
theorem Act.track {k : Kind} (h : Act k s m) (hsense : k ≠ .sense) (hflags : k ≠ .flags) (hopened : k ≠ .opened)
    (hdefine : k ≠ .define) (hwipe : k ≠ .wipe) :
    (∀ n, m.detOf n = s.detOf n) ∧ (∀ n, (m.sec? n).map (·.defn) = (s.sec? n).map (·.defn)) ∧
      m.inStoppedZone = s.inStoppedZone := by
  have hset : ∀ (j : Nat) (h : Option Hold), (∀ n, (s.setHold j h).detOf n = s.detOf n) ∧
      (∀ n, ((s.setHold j h).sec? n).map (·.defn) = (s.sec? n).map (·.defn)) ∧
      (s.setHold j h).inStoppedZone = s.inStoppedZone := fun j h => by
    refine ⟨fun n => s.detOf_setHold j n h, fun n => ?_, rfl⟩
    rw [State.sec_setHold, Option.map_map]
    rfl
  cases k
  case sense => exact absurd rfl hsense
  case flags => exact absurd rfl hflags
  case opened => exact absurd rfl hopened
  case define => exact absurd rfl hdefine
  case wipe => exact absurd rfl hwipe
  case calm | post | enlist => exact ⟨h.1.det, h.1.defn, h.1.inStoppedZone⟩
  case reroute =>
    have hc : s.Calm m := h
    exact ⟨hc.det, hc.defn, hc.inStoppedZone⟩
  case port =>
    rw [h]
    exact ⟨fun _ => rfl, fun _ => rfl, rfl⟩
  case evald w =>
    have hu : m = s.evalStop w := h
    rw [hu, (s.evalStop_evaluated w).only]
    exact ⟨fun _ => rfl, fun _ => rfl, rfl⟩
  case queue w =>
    have hu : m = s.joinQueue w := h.1
    rw [hu, State.joinQueue]
    split <;> exact ⟨fun _ => rfl, fun _ => rfl, rfl⟩
  case drop | rear | shed | join | keep =>
    obtain ⟨j, rfl, -⟩ := h
    exact hset ..
  case take =>
    obtain ⟨j, k, rfl, -⟩ := h
    exact hset ..

/-- What a request of u may be made of, a REPORT that recovers aside. -/
def Scope.gaining (u : TId) (joins takes : Prop) : Scope :=
  { Scope.request u with joins := joins, takes := takes, keeps := False }

theorem State.Does.gained {J T : Prop} (h : s.Does (.gaining u J T) D D' m) (hwf : s.TablesWf) : s.Gained m u J T := by
  induction h with
  | done => exact .refl
  | @act k _ _ s m t allowed ha house _ ih =>
    refine State.Gained.trans ?_ (ih ((ha.keeps_house house).1 hwf))
    have hno : k ≠ .sense ∧ k ≠ .flags ∧ k ≠ .opened ∧ k ≠ .define ∧ k ≠ .wipe ∧ ∀ w, k ≠ .keep w := by
      refine ⟨?_, ?_, ?_, ?_, ?_, fun w => ?_⟩ <;> rintro rfl
      case refine_6 => exact allowed.2
      all_goals exact allowed
    obtain ⟨hsense, hflags, hopened, hdefine, hwipe, hkeep⟩ := hno
    obtain ⟨hdet, hdefn, hzones⟩ := ha.track hsense hflags hopened hdefine hwipe
    refine ⟨hdet, hdefn, hzones, fun v n hv hs => ha.owner_kept hdefine hwipe ⟨?_, ?_, ?_, hkeep⟩ hs, fun v n hm => ?_⟩
    · rintro rfl
      exact hv allowed
    · rintro rfl
      exact hv allowed.1
    · rintro rfl
      exact hv allowed.1
    · rcases ha.owner hwf.1 hm with h | rfl | ⟨hun, ⟨rfl, hd, hz⟩ | ⟨rfl, hd⟩⟩
      · exact .inl h
      · exact absurd rfl (hkeep v)
      · exact .inr ⟨allowed.1, hun, .inl ⟨allowed.2, hd, hz⟩⟩
      · exact .inr ⟨allowed.1, hun, .inr ⟨allowed.2, hd⟩⟩

end

end Sys2Proof.Machine

/-! PROOFS. What the requests of a transporter bring it: sections by JOIN and by ROUTE alone (R49, R106). -/

namespace Sys2Proof.Machine

section
variable {s m c t : State} {u : TId} {J T : Prop}

/-! ## Recovery (R118) -/

theorem State.owner_of_heldRun {n : Nat} {es : List Entry} (hes : ∀ e ∈ es, e ∈ s.heldRun u) (hn : n ∈ es.map (·.sec)) :
    s.owner n = some u := by
  obtain ⟨e, he, rfl⟩ := List.mem_map.mp hn
  refine State.owner_iff.mpr fun hno => ?_
  have := (List.mem_filter.mp (hes e he)).2
  rw [hno] at this
  exact nomatch this

theorem State.Regrouped.tablesWf {f : Entry} {r : Report} (h : s.Regrouped c u f r) (hwf : s.TablesWf) : c.TablesWf := by
  obtain ⟨hsections, hpoints, hrest⟩ := hwf
  refine ⟨(State.sections_wf_of_ground h.ground).trans hsections, (State.points_wf_of_ground h.ground).trans hpoints, ?_⟩
  rw [h.only]
  exact hrest

/-- The sections of a kept run were held before. -/
theorem State.Regrouped.gained {f : Entry} {r : Report} (h : s.Regrouped c u f r) : s.Gained c u J T := by
  have hkept : ∀ n, n ∈ (s.keptRun u f r).map (·.sec) → s.owner n = some u := fun n =>
    State.owner_of_heldRun fun e he => (List.mem_filter.mp he).1
  have hshed : ∀ n, n ∈ (s.shedRun u f r).map (·.sec) → s.owner n = some u := fun n =>
    State.owner_of_heldRun fun e he => (List.mem_append.mp he).elim (fun he => (List.mem_filter.mp he).1)
      fun he => (List.mem_filter.mp he).1
  refine ⟨fun n => ?_, fun n => ?_, ?_, fun v n hv hs => ?_, fun v n hc => .inl ?_⟩
  · rw [State.detOf, h.holds, Option.map_map]
    rfl
  · rw [h.holds, Option.map_map]
    rfl
  · rw [h.only]
    rfl
  · have hno1 : n ∉ (s.keptRun u f r).map (·.sec) := fun hn => hv (Option.some.inj (hs.symm.trans (hkept n hn)))
    have hno2 : n ∉ (s.shedRun u f r).map (·.sec) := fun hn => hv (Option.some.inj (hs.symm.trans (hshed n hn)))
    rw [← hs, State.owner, h.holds, State.owner]
    simp only [if_neg hno1, if_neg hno2]
    cases s.sec? n <;> rfl
  · rw [State.owner, h.holds] at hc
    cases hx : s.sec? n with
    | none => rw [hx] at hc; exact nomatch hc
    | some x =>
      rw [hx, Option.map_some, Option.bind_some] at hc
      by_cases h1 : n ∈ (s.keptRun u f r).map (·.sec)
      · rw [if_pos h1] at hc
        exact (hkept n h1).trans hc
      · by_cases h2 : n ∈ (s.shedRun u f r).map (·.sec)
        · rw [if_neg h1, if_pos h2] at hc
          exact nomatch hc
        · rw [if_neg h1, if_neg h2] at hc
          rw [State.owner, hx]
          exact hc

theorem State.recovered_gained (hst : (s.tr u).state = .tripped) (hwf : s.TablesWf) (f : Entry) (r : Report) :
    s.Gained (s.recovered u f r) u J T := by
  have hreg := State.regrouped_regrouped hst f r
  rw [State.recovered_eq]
  exact hreg.gained.trans ((State.cascade_does (A := .gaining u J T) (D := fun _ => False) rfl trivial).gained
    (hreg.tablesWf hwf))

/-- A REPORT brings no section, and takes none from another. -/
theorem State.onReport_gained (hwf : s.TablesWf) (p : List Byte) : s.Gained (s.onReport u p) u J T := by
  rcases State.onReport_run (A := .gaining u J T) (D := fun _ => False) (s := s) rfl trivial trivial trivial p with
    h | ⟨hst, m, f, r, hm, heq⟩
  · exact h.gained hwf
  · have hdoes := hm.does (A := .gaining u J T) (D := fun _ => False)
    rw [heq]
    exact (hdoes.gained hwf).trans (State.recovered_gained (by rw [hm.state]; exact hst) (hdoes.keeps_tablesWf hwf) f r)

/-! ## Frames -/

/-- What a frame of u's port brings u when it is taken. -/
theorem State.own_tl_gained (hwf : s.TablesWf) (f : Frame) :
    s.Gained (s.own (.tl u) f) u (f.typ = Config.tyJoin) (f.typ = Config.tyRoute) := by
  by_cases hreport : f.typ = Config.tyReport
  · have hreload := (State.reloadSupervision_light (s := s) u).does (A := .gaining u (f.typ = Config.tyJoin) (f.typ = Config.tyRoute))
      (D := fun _ => False)
    have hown : s.own (.tl u) f = s.own (.tl u) ⟨Config.tyReport, f.payload⟩ := by rw [← hreport]
    rw [hown]
    exact (hreload.gained hwf).trans (State.onReport_gained (hreload.keeps_tablesWf hwf) f.payload)
  · exact (State.own_tl_does (A := .gaining u (f.typ = Config.tyJoin) (f.typ = Config.tyRoute)) (D := fun _ => False) rfl trivial id
      (fun h => absurd h hreport) (fun h => ⟨trivial, h, trivial⟩) fun _ => trivial).gained hwf

theorem State.AtPorts.gained (h : s.AtPorts m) : s.Gained m u J T := by
  rw [h.only]
  exact ⟨fun _ => rfl, fun _ => rfl, rfl, fun _ _ _ => id, fun _ _ => .inl⟩

theorem State.AtPorts.tablesWf (h : s.AtPorts m) (hwf : s.TablesWf) : m.TablesWf := by
  rw [h.only]
  exact hwf

theorem State.AtPorts.noneGained (h : s.AtPorts m) : s.NoneGained m := by
  rw [h.only]
  exact fun _ _ => id

theorem State.Gained.mono {J' T' : Prop} (h : s.Gained m u J T) (hJ : J → J') (hT : T → T') : s.Gained m u J' T' :=
  ⟨h.det, h.defn, h.zones, h.kept, fun v n hm => (h.gained v n hm).imp_right fun ⟨hv, hun, hc⟩ =>
    ⟨hv, hun, hc.imp (fun ⟨a, b⟩ => ⟨hT a, b⟩) fun ⟨a, b⟩ => ⟨hJ a, b⟩⟩⟩

theorem State.own_tl_tablesWf (hwf : s.TablesWf) (f : Frame) : (s.own (.tl u) f).TablesWf :=
  (State.own_tl_does (A := .request u) (D := fun _ => False) rfl trivial (fun _ => trivial) (fun _ => ⟨trivial, trivial, trivial⟩)
    (fun _ => ⟨trivial, trivial, trivial⟩) fun _ => trivial).keeps_tablesWf hwf

/-- What frames of u's port bring u when they are taken. -/
theorem State.Takes.gained {P : Frame → Prop} (h : s.Takes (.tl u) P m) (hwf : s.TablesWf) : s.Gained m u True True := by
  generalize hl : PortId.tl u = l at h
  induction h with
  | done => exact .refl
  | port hp _ ih => exact hp.gained.trans (ih (hp.tablesWf hwf))
  | own f _ _ _ ih =>
    subst hl
    exact ((State.own_tl_gained hwf f).mono (fun _ => trivial) fun _ => trivial).trans (ih (State.own_tl_tablesWf hwf f))

/-- What a command of an operations port may be made of. -/
def Scope.commanding : Scope := { Scope.events with sheds := True, wipes := True }

theorem State.own_ops_noneGained {o : OpsId} (hwf : s.TablesWf) (f : Frame) :
    s.NoneGained (s.own (.ops o) f) ∧ (s.own (.ops o) f).TablesWf := by
  obtain ⟨z, ⟨y, hy, hz⟩, hu⟩ := State.own_ops_obeyed (A := .commanding) (D := fun _ => False) (s := s) (o := o) (f := f)
    (fun _ => trivial) trivial trivial (fun _ => trivial) fun _ => trivial
  have hywf := hy.keeps_tablesWf hwf
  have hnone := (hy.noneGained hwf id id id).trans (hz.noneGained hywf id id id)
  have hzwf := hz.keeps_tablesWf hywf
  rcases hu with hu | ⟨tag, ty, r, d, hu⟩ <;> rw [hu] <;> exact ⟨hnone, hzwf⟩

/-- The frames of an operations port bring nobody a section. -/
theorem State.Takes.noneGained {o : OpsId} {P : Frame → Prop} (h : s.Takes (.ops o) P m) (hwf : s.TablesWf) : s.NoneGained m := by
  generalize hl : PortId.ops o = l at h
  induction h with
  | done => exact fun _ _ => id
  | port hp _ ih => exact hp.noneGained.trans (ih (hp.tablesWf hwf))
  | own f _ _ _ ih =>
    subst hl
    obtain ⟨h1, h2⟩ := State.own_ops_noneGained (o := o) hwf f
    exact h1.trans (ih h2)


end

end Sys2Proof.Machine

/-! PROOFS. What one grant of a transporter does to the track and the command queue (R48 to R53, R58). -/

namespace Sys2Proof.Machine

/-! ## Holds -/

/-- The hold of section n. -/
abbrev State.holdOf (s : State) (n : Nat) : Option Hold := (s.sec? n).bind (·.hold)

section
variable {s u : State} {t v : TId} {n : Nat}

theorem State.holdBy_of_holdOf (s : State) (t : TId) (n : Nat) :
    s.holdBy t n = (s.holdOf n).bind fun h => if h.holder = t then some h.kind else none := by
  rw [State.holdBy_eq, State.holdOf, Option.bind_assoc]

theorem State.holdBy_congr_hold (h : u.holdOf n = s.holdOf n) (t : TId) : u.holdBy t n = s.holdBy t n := by
  rw [State.holdBy_of_holdOf, State.holdBy_of_holdOf, h]

theorem State.holdBy_of_hold {h : Hold} (hh : s.holdOf n = some h) :
    s.holdBy t n = if h.holder = t then some h.kind else none := by
  rw [State.holdBy_of_holdOf, hh]
  rfl

theorem State.holdBy_of_none (hh : s.holdOf n = none) : s.holdBy t n = none := State.holdBy_of_unheld hh t

/-- How t holds a section decides who else holds it. -/
theorem State.holdOf_of_holdBy {k : HoldKind} (h : s.holdBy t n = some k) : ∃ e, s.holdOf n = some ⟨t, k, e⟩ := by
  rw [State.holdBy_of_holdOf] at h
  obtain ⟨x, hx, hk⟩ := Option.bind_eq_some_iff.mp h
  split at hk
  · next ht =>
    obtain ⟨a, b, c⟩ := x
    dsimp only at ht hk
    exact ⟨c, by rw [hx, ht, Option.some.inj hk]⟩
  · exact nomatch hk

end

/-! ## One grant -/

/-- Section n, none of those granted, keeps its hold between s and u, but that a reservation of t is dropped, which makes a
walk due, or an available section of t's record is reserved. -/
def State.HoldMoved (s u : State) (t : TId) (n : Nat) : Prop :=
  u.holdOf n = s.holdOf n ∨ u.holdOf n = none ∧ s.holdBy t n = some .setting ∧ s.inRecord t n ∧ u.walkDue = true ∨
    u.holdOf n = some ⟨t, .setting, false⟩ ∧ s.Unheld n ∧ ∃ e ∈ (s.route t).entries, e.sec = n ∧ s.available t e = true

/-- A throw of t, for the point of an available section of its record that it holds SETTING in u. -/
def State.ThrowOf (s u : State) (t : TId) (c : BusCmd) : Prop :=
  c.req = .tr t ∧ c.func.blade ≠ none ∧ s.outstanding c.entity = none ∧
    ∃ e ∈ (s.route t).entries, s.available t e = true ∧ u.holdBy t e.sec = some .setting ∧
      (s.pointOf e.sec).map (·.1) = some c.entity

/-- Between s and u the entries es of t's record were GRANTED, each available and in position, and its grant has ended: what
becomes of the track and of the command queue. -/
structure State.Serves (s u : State) (t : TId) (es : List Entry) : Prop where
  ground : ∀ n, (u.sec? n).map (fun x => (x.defn, x.det, x.capture)) = (s.sec? n).map fun x => (x.defn, x.det, x.capture)
  lines : u.lines = s.lines
  site : u.site = s.site
  units : u.units = s.units
  walkDue : s.walkDue = true → u.walkDue = true
  entries : (u.route t).entries = (s.route t).entries
  available : ∀ e ∈ es, s.available t e = true ∧ s.inPosition e = true
  order : es.Sublist (s.ungranted t)
  granted : ∀ n ∈ es.map (·.sec), u.holdOf n = some ⟨t, .granted, false⟩
  rest : ∀ n, n ∉ es.map (·.sec) → s.HoldMoved u t n
  points : ∀ p, u.point? p = (s.point? p).map fun x =>
    { x with lock := if ∃ e ∈ es, (s.pointOf e.sec).map (·.1) = some p then some t else x.lock }
  keys : ∀ n, (u.pointOf n).map (·.1) = (s.pointOf n).map (·.1)
  queue : ∃ cs, u.cmdQueue = s.cmdQueue ++ cs ∧ ∀ c ∈ cs, s.ThrowOf u t c
  room : s.cmdQueue.length ≤ Config.cmdCapacity → u.cmdQueue.length ≤ Config.cmdCapacity
  roomWait : s.roomWait = true → u.roomWait = true

section
variable {s m u : State} {t : TId} {es : List Entry}

/-- Nothing that the track or the queue shows. -/
theorem State.Serves.congr (h : s.Serves m t es) (hsec : u.sections = m.sections) (hpoints : u.points = m.points)
    (hlines : u.lines = m.lines) (hsite : u.site = m.site) (hunits : u.units = m.units) (hqueue : u.cmdQueue = m.cmdQueue)
    (hdue : u.walkDue = m.walkDue) (hroom : m.roomWait = true → u.roomWait = true)
    (hentries : (u.route t).entries = (m.route t).entries) : s.Serves u t es := by
  have hs : ∀ n, u.sec? n = m.sec? n := fun n => by rw [State.sec?, hsec]; rfl
  have hp : ∀ n, u.point? n = m.point? n := fun n => by rw [State.point?, hpoints]; rfl
  have hpo : ∀ n, u.pointOf n = m.pointOf n := fun n => by rw [State.pointOf, hpoints]; rfl
  have hold : ∀ n, u.holdOf n = m.holdOf n := fun n => by rw [State.holdOf, hs]
  have hby : ∀ t n, u.holdBy t n = m.holdBy t n := fun t n => State.holdBy_congr_hold (hold n) t
  obtain ⟨cs, hcs, hthrow⟩ := h.queue
  refine ⟨fun n => by rw [hs]; exact h.ground n, hlines.trans h.lines, hsite.trans h.site, hunits.trans h.units,
    fun hw => hdue.trans (h.walkDue hw), hentries.trans h.entries, h.available, h.order, fun n hn => (hold n).trans (h.granted n hn),
    fun n hn => ?_, fun p => (hp p).trans (h.points p), fun n => by rw [hpo]; exact h.keys n,
    ⟨cs, hqueue.trans hcs, fun c hc => ?_⟩, fun hr => by rw [hqueue]; exact h.room hr, fun hr => hroom (h.roomWait hr)⟩
  · rw [State.HoldMoved, hold, hdue]
    exact h.rest n hn
  · obtain ⟨h1, h2, h3, e, he, hav, hse, hpt⟩ := hthrow c hc
    exact ⟨h1, h2, h3, e, he, hav, (hby _ _).trans hse, hpt⟩

/-- The holds after the run. -/
theorem State.GrantRun.holdOf (h : s.GrantRun m t es) (n : Nat) :
    m.holdOf n = if n ∈ es.map (·.sec) then some ⟨t, .granted, false⟩ else s.holdOf n := by
  by_cases hes : es = []
  · rw [h.run.idle hes, hes]
    rfl
  · obtain ⟨z, hz, heval, -⟩ := h.run.taken hes
    rw [State.holdOf, heval.sameTrack.sec, hz.sections]
    by_cases hn : n ∈ es.map (·.sec)
    · obtain ⟨e, he, rfl⟩ := List.mem_map.mp hn
      obtain ⟨x, hx⟩ := Option.isSome_iff_exists.mp (State.isSome_of_available (h.available e he).1)
      rw [hx]
      simp only [Option.map_some, Option.bind_some, if_pos hn]
    · rw [State.holdOf, if_neg hn]
      simp only [if_neg hn]
      cases s.sec? n <;> rfl

theorem State.GrantRun.only (h : s.GrantRun m t es) : m = { s with
    sections := m.sections, points := m.points, trs := m.trs, tls := m.tls, ceilings := m.ceilings, opss := m.opss } := by
  by_cases hes : es = []
  · rw [h.run.idle hes]
  · obtain ⟨z, hz, heval, -⟩ := h.run.taken hes
    rw [heval.only, hz.only]

/-- The run of units granted, nothing else. -/
theorem State.GrantRun.serves (h : s.GrantRun m t es) : s.Serves m t es := by
  by_cases hes : es = []
  · rw [h.run.idle hes, hes]
    exact ⟨fun _ => rfl, rfl, rfl, rfl, id, rfl, fun _ h => absurd h List.not_mem_nil, List.nil_sublist _,
      fun _ h => absurd h List.not_mem_nil, fun _ _ => .inl rfl, fun p => by simp, fun _ => rfl,
      ⟨[], (List.append_nil _).symm, fun _ h => absurd h List.not_mem_nil⟩, id, id⟩
  · obtain ⟨z, hz, heval, -⟩ := h.run.taken hes
    have hsec : ∀ n, m.sec? n = z.sec? n := heval.sameTrack.sec
    have hpt : ∀ n, m.point? n = z.point? n := heval.sameTrack.point
    have honly := h.only
    refine ⟨fun n => ?_, by rw [honly], by rw [honly], by rw [honly], fun hw => by rw [honly]; exact hw, by rw [honly]; rfl,
      h.available, h.order, fun n hn => ?_, fun n hn => .inl ?_, fun p => (hpt p).trans (hz.points p),
      fun n => State.pointOf_of_ground h.run.ground n, ⟨[], by rw [honly, List.append_nil], fun _ h => absurd h List.not_mem_nil⟩,
      fun hr => by rw [honly]; exact hr, fun hr => by rw [honly]; exact hr⟩
    · rw [hsec, hz.sections, Option.map_map]
      rfl
    · rw [h.holdOf, if_pos hn]
    · rw [h.holdOf, if_neg hn]

/-- What an entry of a section not granted finds after the run. -/
theorem State.GrantRun.entry_other (h : s.GrantRun m t es) (hwf : Table.wf s.points = true) {e : Entry}
    (hn : e.sec ∉ es.map (·.sec)) (v : TId) : m.available v e = s.available v e ∧ m.inPosition e = s.inPosition e ∧
      m.throwFor v e = s.throwFor v e := by
  by_cases hes : es = []
  · rw [h.run.idle hes]
    exact ⟨rfl, rfl, rfl⟩
  · obtain ⟨z, hz, heval, -⟩ := h.run.taken hes
    obtain ⟨h1, h2, h3⟩ := heval.sameTrack.entry v e
    obtain ⟨k1, k2, k3⟩ := hz.entry_other hwf hn v
    exact ⟨h1.trans k1, h2.trans k2, h3.trans k3⟩

theorem State.GrantRun.outstanding (h : s.GrantRun m t es) (p : Nat) : m.outstanding p = s.outstanding p := by
  by_cases hes : es = []
  · rw [h.run.idle hes]
  · obtain ⟨z, hz, heval, -⟩ := h.run.taken hes
    rw [heval.sameTrack.outstanding, hz.outstanding]

/-- The run, and a drop of what t holds SETTING. -/
theorem State.GrantRun.dropped (h : s.GrantRun m t es) (hu : u = m.dropSetting t) : s.Serves u t es := by
  obtain ⟨hsec, honly, -⟩ := m.dropSetting_frame t
  rw [← hu] at hsec honly
  have hm := h.serves
  have hwalk : u.walkDue = (m.walkDue || !(m.settingRun t).isEmpty) := by rw [honly]
  have hold : ∀ n, u.holdOf n = if m.holdBy t n = some .setting ∧ m.inRecord t n then none else m.holdOf n := fun n => by
    rw [State.holdOf, hsec, State.holdOf]
    split <;> cases m.sec? n <;> rfl
  have hpt : ∀ p, u.point? p = m.point? p := fun p => by rw [honly]; rfl
  refine ⟨fun n => ?_, by rw [honly]; exact hm.lines, by rw [honly]; exact hm.site, by rw [honly]; exact hm.units,
    fun hw => by rw [hwalk, hm.walkDue hw, Bool.true_or], by rw [honly]; exact hm.entries, hm.available, hm.order,
    fun n hn => ?_, fun n hn => ?_, fun p => (hpt p).trans (hm.points p), fun n => by rw [honly]; exact hm.keys n, ?_,
    fun hr => by rw [honly]; exact hm.room hr, fun hr => by rw [honly]; exact hm.roomWait hr⟩
  · rw [hsec, Option.map_map]
    exact hm.ground n
  · have hg := hm.granted n hn
    rw [hold, if_neg, hg]
    rintro ⟨hc, -⟩
    rw [State.holdBy_of_hold hg, if_pos rfl] at hc
    exact nomatch hc
  · have hsame : m.holdOf n = s.holdOf n := by rw [h.holdOf, if_neg hn]
    rw [State.HoldMoved, hold]
    split
    · next hc =>
      refine .inr (.inl ⟨rfl, (State.holdBy_congr_hold hsame t).symm.trans hc.1, ?_, ?_⟩)
      · obtain ⟨e, he, hen⟩ := hc.2
        exact ⟨e, hm.entries ▸ he, hen⟩
      · obtain ⟨e, he, hen⟩ := hc.2
        have hne : m.settingRun t ≠ [] := List.ne_nil_of_mem
          (List.mem_filter.mpr ⟨he, decide_eq_true (hen ▸ hc.1)⟩ : e ∈ m.settingRun t)
        rw [hwalk, List.isEmpty_eq_false_iff.mpr hne]
        exact Bool.or_true _
    · exact .inl hsame
  · exact ⟨[], by rw [honly, h.only, List.append_nil], fun _ h => absurd h List.not_mem_nil⟩

/-- The run, and a reservation of the next unit. -/
theorem State.GrantRun.reserved {z : State} (h : s.GrantRun m t es) (hwf : s.TablesWf)
    (hav : ∀ e ∈ m.nextUnit t, m.available t e = true)
    (hroom : m.offerOk ((m.nextUnit t).filterMap (m.throwFor t)) = true) (hz : m.UnitReserved z t (m.nextUnit t)) (heval : z.Evaluated u [t]) :
    s.Serves u t es := by
  have hm := h.serves
  have hzonly := hz.only
  have honly : u = { m with
      sections := z.sections, cmdQueue := z.cmdQueue, trs := u.trs, tls := u.tls, ceilings := u.ceilings, opss := u.opss } := by
    rw [heval.only, hzonly]
  have hsec : ∀ n, u.sec? n = z.sec? n := heval.sameTrack.sec
  have hold : ∀ n, u.holdOf n = if n ∈ (m.nextUnit t).map (·.sec) ∧ m.holdBy t n ≠ some .setting
      then (m.sec? n).bind fun _ => some ⟨t, .setting, false⟩ else m.holdOf n := fun n => by
    rw [State.holdOf, hsec, hz.sections, State.holdOf]
    split <;> cases m.sec? n <;> rfl
  have hunit : ∀ e ∈ m.nextUnit t, e ∈ (s.route t).entries ∧ e.sec ∉ es.map (·.sec) ∧ s.available t e = true ∧
      u.holdBy t e.sec = some .setting := fun e he => by
    have hnot : e.sec ∉ es.map (·.sec) := fun hn => by
      refine State.not_granted_of_available (hav e he) ?_
      rw [h.run.holdBy (fun e he => State.isSome_of_available (h.available e he).1), if_pos hn]
    refine ⟨?_, hnot, ?_, ?_⟩
    · rw [← hm.entries]
      exact (m.nextUnit_sublist t).subset he
    · rw [← (h.entry_other hwf.2.1 hnot t).1]
      exact hav e he
    · by_cases hs : m.holdBy t e.sec = some .setting
      · rw [State.holdBy_congr_hold ((hold e.sec).trans (if_neg fun hc => hc.2 hs))]
        exact hs
      · have hh := hold e.sec
        obtain ⟨x, hx⟩ := Option.isSome_iff_exists.mp (State.isSome_of_available (hav e he))
        rw [if_pos ⟨List.mem_map_of_mem he, hs⟩, hx] at hh
        rw [State.holdBy_of_hold hh, if_pos rfl]
  refine ⟨fun n => ?_, by rw [honly]; exact hm.lines, by rw [honly]; exact hm.site, by rw [honly]; exact hm.units,
    fun hw => by rw [honly]; exact hm.walkDue hw, by rw [honly]; exact hm.entries, hm.available, hm.order,
    fun n hn => ?_, fun n hn => ?_, fun p => ?_, fun n => by rw [honly]; exact hm.keys n,
    ⟨(m.nextUnit t).filterMap (m.throwFor t), ?_, fun c hc => ?_⟩, fun _ => ?_,
    fun hr => by rw [honly]; exact hm.roomWait hr⟩
  · rw [hsec, hz.sections, Option.map_map]
    exact hm.ground n
  · have hg := hm.granted n hn
    rw [hold, if_neg, hg]
    rintro ⟨hc, -⟩
    obtain ⟨e, he, rfl⟩ := List.mem_map.mp hc
    exact (hunit e he).2.1 hn
  · have hsame : m.holdOf n = s.holdOf n := by rw [h.holdOf, if_neg hn]
    rw [State.HoldMoved, hold]
    split
    · next hc =>
      obtain ⟨e, he, rfl⟩ := List.mem_map.mp hc.1
      obtain ⟨x, hx, hx', -⟩ := State.sec_of_available (hav e he)
      obtain ⟨hmem, -, hs, -⟩ := hunit e he
      refine .inr (.inr ⟨by rw [hx]; rfl, ?_, e, hmem, rfl, hs⟩)
      rw [State.Unheld, ← State.holdOf, ← hsame, State.holdOf, hx]
      rcases hx' with hx' | ⟨k, hk, hkt, hks⟩
      · exact hx'
      · refine absurd ?_ hc.2
        rw [State.holdBy_of_hold (h := k) (by rw [State.holdOf, hx]; exact hk), if_pos hkt, hks]
    · exact .inl hsame
  · rw [honly]
    exact hm.points p
  · rw [honly, hzonly, h.only]
  · obtain ⟨e, he, x, hp, -, hout, hb, hreq⟩ := State.mem_throws hc
    obtain ⟨hmem, hnot, hs, hset⟩ := hunit e he
    refine ⟨hreq, by rw [hb]; exact nofun, ?_, e, hmem, hs, hset, ?_⟩
    · rw [← h.outstanding]
      exact hout
    · rw [← hm.keys, hp]
      rfl
  · rw [honly, hzonly, List.length_append]
    exact State.offerOk_room hroom

/-- The run and its end. -/
theorem State.GrantEnds.serves (h : s.GrantRun m t es) (hend : m.GrantEnds u t) (hwf : s.TablesWf) : s.Serves u t es := by
  cases hend with
  | whole hnil hu => exact hu ▸ h.serves
  | unavailable hex hdr hu => exact h.dropped hu
  | noRoom hav hp hr d hd hd' hu =>
    rw [hu]
    exact (h.dropped hd').congr rfl rfl rfl rfl rfl rfl rfl (fun _ => rfl) rfl
  | reserved hav hp hr z hz heval => exact h.reserved hwf hav hr hz heval

end

end Sys2Proof.Machine

/-! PROOFS. What any number of grants in a row do to the track, and what they secure of each section newly GRANTED
(R48 to R52). -/

namespace Sys2Proof.Machine

/-! ## The entries before and the rest of the unit (R48, R51) -/

/-- Entry e stands in t's record behind GRANTED entries alone, and what follows it directly in its passing group is GRANTED
too. -/
structure State.InGrantedRun (s u : State) (t : TId) (e : Entry) (before after : List Entry) : Prop where
  entries : (u.route t).entries = before ++ e :: after
  before : ∀ f ∈ before, u.holdBy t f.sec = some .granted
  unit : s.groupOf e ≠ 0 → ∀ f ∈ after.takeWhile (fun f => decide (s.groupOf f = s.groupOf e)), u.holdBy t f.sec = some .granted

section
variable {s m u : State} {t : TId}

theorem takeWhile_append_dropWhile_self {α : Type} (p : α → Bool) {a : List α} (l : List α) (ha : ∀ x ∈ a, p x = true) :
    (a ++ l.dropWhile p).takeWhile p = a := by
  rw [List.takeWhile_append_of_pos ha]
  cases h : l.dropWhile p with
  | nil => simp
  | cons x r =>
    have hx : p x = false := by simpa [h] using List.head_dropWhile_not p (l := l) (by simp [h])
    rw [List.takeWhile_cons_of_neg (by rw [hx]; exact nofun), List.append_nil]

/-- What follows an entry of the next unit in its group belongs to the unit. -/
theorem State.takeWhile_group {e : Entry} {b a rest : List Entry} (hunit : s.nextUnit t = b ++ e :: a)
    (hrest : s.nextUnit t ++ rest = s.ungranted t) (hg : s.groupOf e ≠ 0) :
    ∀ f ∈ (a ++ rest).takeWhile (fun f => decide (s.groupOf f = s.groupOf e)), f ∈ s.nextUnit t := by
  cases hu : s.ungranted t with
  | nil =>
    rw [State.nextUnit_of_nil hu] at hunit
    exact absurd hunit (by simp)
  | cons x l =>
    have hnext := State.nextUnit_of_cons hu
    have hx : s.groupOf x ≠ 0 := fun hz => by
      rw [if_pos hz] at hnext
      obtain ⟨rfl, hbe⟩ := List.append_eq_singleton_iff.mp (hunit.symm.trans hnext) |>.resolve_right (by simp)
      exact hg (by rw [(List.cons.inj hbe).1, hz])
    rw [if_neg hx] at hnext
    have hgroup : ∀ f ∈ s.nextUnit t, s.groupOf f = s.groupOf x := fun f hf => by
      rw [hnext] at hf
      rcases List.mem_cons.mp hf with rfl | hf
      · rfl
      · simpa using List.mem_takeWhile_imp hf
    have he : s.groupOf e = s.groupOf x := hgroup e (by rw [hunit]; simp)
    have hr : rest = l.dropWhile fun f => decide (s.groupOf f = s.groupOf x) := by
      rw [hu, hnext, List.cons_append] at hrest
      have hl := (List.cons.inj hrest).2
      conv_rhs at hl => rw [← List.takeWhile_append_dropWhile (p := fun f => decide (s.groupOf f = s.groupOf x)) (l := l)]
      exact List.append_cancel_left hl
    have ha : ∀ f ∈ a, f ∈ s.nextUnit t := fun f hf => by
      rw [hunit]
      exact List.mem_append_right _ (List.mem_cons_of_mem _ hf)
    rw [he, hr, takeWhile_append_dropWhile_self _ l fun f hf => decide_eq_true (hgroup f (ha f hf))]
    exact ha

/-- Definition, detection and capture time of every section are the same. -/
def State.SameSections (s u : State) : Prop :=
  ∀ n, (u.sec? n).map (fun x => (x.defn, x.det, x.capture)) = (s.sec? n).map fun x => (x.defn, x.det, x.capture)

theorem State.SameSections.sec (h : s.SameSections u) {n : Nat} {x : Section} (hx : s.sec? n = some x) :
    ∃ y, u.sec? n = some y ∧ y.defn = x.defn ∧ y.det = x.det := by
  have hn := h n
  rw [hx] at hn
  obtain ⟨y, hy, he⟩ := Option.map_eq_some_iff.mp hn
  simp only [Prod.mk.injEq] at he
  exact ⟨y, hy, he.1, he.2.1⟩

theorem State.SameSections.symm (h : s.SameSections u) : u.SameSections s := fun n => (h n).symm

theorem State.SameSections.trans (h : s.SameSections m) (h' : m.SameSections u) : s.SameSections u :=
  fun n => (h' n).trans (h n)

theorem State.SameSections.none (h : s.SameSections u) {n : Nat} (hx : s.sec? n = none) : u.sec? n = none := by
  have hn := h n
  rw [hx] at hn
  exact Option.map_eq_none_iff.mp hn

theorem State.SameSections.groupOf (h : s.SameSections u) : u.groupOf = s.groupOf := by
  funext e
  unfold State.groupOf
  cases hx : s.sec? e.sec with
  | none => rw [h.none hx]
  | some x =>
    obtain ⟨y, hy, hd, -⟩ := h.sec hx
    rw [hy, Option.map_some, Option.map_some, hd]

theorem State.SameSections.detOf (h : s.SameSections u) : u.detOf = s.detOf := by
  funext n
  unfold State.detOf
  cases hx : s.sec? n with
  | none => rw [h.none hx]
  | some x =>
    obtain ⟨y, hy, -, hd⟩ := h.sec hx
    rw [hy, Option.map_some, Option.map_some, hd]

theorem State.UnitsGranted.inGrantedRun : ∀ {us : List (List Entry)} {s : State}, s.TablesWf →
    State.UnitsGranted t us s m → ∀ e ∈ us.flatten, ∃ before after, s.InGrantedRun m t e before after
  | [], _, _, _, e, he => absurd he List.not_mem_nil
  | es :: us, s, hwf, h, e, he => by
    have hall := State.UnitsGranted.grantRun hwf.1 hwf.2.1 h
    have hsome : ∀ e ∈ (es :: us).flatten, (s.sec? e.sec).isSome := fun e he => State.isSome_of_available (hall.available e he).1
    have hgranted : ∀ n, s.holdBy t n = some .granted ∨ n ∈ (es :: us).flatten.map (·.sec) → m.holdBy t n = some .granted :=
      fun n hn => by
        rw [hall.run.holdBy hsome]
        split
        · rfl
        · next hno => exact hn.resolve_right hno
    obtain ⟨hunit, -, -, -, z, m1, htaken, heval, hground, hrest⟩ := h
    rw [List.flatten_cons, List.mem_append] at he
    rcases he with he | he
    · obtain ⟨rest, hpre⟩ := s.nextUnit_prefix t
      obtain ⟨b, a, hba⟩ := List.append_of_mem he
      refine ⟨((s.route t).entries.takeWhile fun e => decide (s.holdBy t e.sec = some .granted)) ++ b, a ++ rest, ?_, fun f hf => ?_,
        fun hg f hf => ?_⟩
      · rw [hall.serves.entries, List.append_assoc, ← List.cons_append, ← List.append_assoc b, ← hba, ← hunit, hpre]
        exact List.takeWhile_append_dropWhile.symm
      · rcases List.mem_append.mp hf with hf | hf
        · exact hgranted _ (.inl (by simpa using List.mem_takeWhile_imp hf))
        · refine hgranted _ (.inr (List.mem_map_of_mem ?_))
          rw [List.flatten_cons, hba]
          exact List.mem_append_left _ (List.mem_append_left _ hf)
      · refine hgranted _ (.inr (List.mem_map_of_mem ?_))
        rw [List.flatten_cons, ← hunit]
        exact List.mem_append_left _ (State.takeWhile_group (hunit.trans hba) hpre hg f hf)
    · have hsame : s.SameSections m1 := fun n => by
        rw [heval.sameTrack.sec, htaken.sections, Option.map_map]
        rfl
      have hwf1 : m1.TablesWf := ⟨(State.sections_wf_of_ground hground).trans hwf.1,
        (State.points_wf_of_ground hground).trans hwf.2.1, by rw [heval.only, htaken.only]; exact hwf.2.2⟩
      obtain ⟨b, a, h1, h2, h3⟩ := State.UnitsGranted.inGrantedRun hwf1 hrest e he
      exact ⟨b, a, h1, h2, by rw [← hsame.groupOf]; exact h3⟩

end

end Sys2Proof.Machine

/-! PROOFS. What any number of grants in a row secure of each section newly GRANTED (R48 to R52). -/

namespace Sys2Proof.Machine

/-- The point p with record x, locked to v, is in the position that entry e requires, with its latch clear and no throw
outstanding in u but v's own toward that position. -/
structure State.PointSecured (u : State) (v : TId) (e : Entry) (p : Nat) (x : Point) : Prop where
  lock : x.lock = some v
  latch : x.latch = none
  pos : x.pos = (requiredBlade e.ent e.ext).pos
  outstanding : ∀ r b, u.outstanding p = some (r, b) → r = .tr v ∧ b = requiredBlade e.ent e.ext

/-- Section n, newly GRANTED to v between s and u, with the entry it is granted for and its point. -/
def State.Secured (s u : State) (v : TId) (n : Nat) : Prop :=
  ∃ e before after, s.InGrantedRun u v e before after ∧ e.sec = n ∧
    ∀ p x, u.pointOf n = some (p, x) → u.PointSecured v e p x ∧ ∀ y, s.point? p = some y → y.lock = none ∨ y.lock = some v

/-- Between s and u grants were made, and nothing else was done to the track: a hold that changed was none or a reservation,
and is a grant or a reservation of a section that is CLEAR and in no stopped zone, or none. -/
structure State.Granting (s u : State) : Prop where
  same : s.SameSections u
  zones : u.inStoppedZone = s.inStoppedZone
  keys : ∀ n, (u.pointOf n).map (·.1) = (s.pointOf n).map (·.1)
  entries : ∀ v, (u.route v).entries = (s.route v).entries
  hold : ∀ n, u.holdOf n = s.holdOf n ∨ (∀ h, s.holdOf n = some h → h.kind = .setting) ∧
    ∀ h, u.holdOf n = some h → (h.kind = .granted ∨ h.kind = .setting) ∧ h.entered = false ∧ s.detOf n = .clear ∧
      ∀ x, s.sec? n = some x → s.inStoppedZone x.defn.zones = false
  points : ∀ p, (∀ v n, (s.pointOf n).map (·.1) = some p → u.holdBy v n = some .granted → s.holdBy v n = some .granted) →
    u.point? p = s.point? p
  lock : ∀ p, ∃ l : Point → Option TId, u.point? p = (s.point? p).map fun x => { x with lock := l x }
  outstanding : ∀ n p h, s.holdOf n = some h → h.kind = .granted → (s.pointOf n).map (·.1) = some p →
    u.outstanding p = s.outstanding p
  secured : ∀ v n, s.holdBy v n ≠ some .granted → u.holdBy v n = some .granted → s.Secured u v n

section
variable {s m u : State} {t v : TId} {n : Nat} {es : List Entry}

theorem State.Granting.refl (s : State) : s.Granting s where
  same _ := rfl
  zones := rfl
  keys _ := rfl
  entries _ := rfl
  hold _ := .inl rfl
  points _ _ := rfl
  lock p := ⟨fun x => x.lock, by simp⟩
  outstanding _ _ _ _ _ _ := rfl
  secured _ _ h h' := absurd h' h

/-- A section held GRANTED stays so. -/
theorem State.Granting.holdOf_granted (h : s.Granting u) {x : Hold} (hx : s.holdOf n = some x) (hk : x.kind = .granted) :
    u.holdOf n = s.holdOf n :=
  (h.hold n).resolve_right fun ⟨hs, _⟩ => absurd (hk.symm.trans (hs x hx)) nofun

theorem State.Granting.granted (h : s.Granting u) (hx : s.holdBy v n = some .granted) : u.holdBy v n = some .granted := by
  obtain ⟨e, he⟩ := State.holdOf_of_holdBy hx
  rw [State.holdBy_congr_hold (h.holdOf_granted he rfl), hx]

theorem State.holder_of_granted (hv : s.holdBy v n = some .granted) (ht : s.holdBy t n = some .granted) : v = t := by
  obtain ⟨e, he⟩ := State.holdOf_of_holdBy hv
  rw [State.holdBy_of_hold he] at ht
  split at ht
  · assumption
  · exact nomatch ht

/-- A point's record comes from its section's. -/
theorem State.pointOf_eq_some_iff (hwf : Table.wf s.points = true) {p : Nat} {x : Point} :
    s.pointOf n = some (p, x) ↔ (s.pointOf n).map (·.1) = some p ∧ s.point? p = some x := by
  constructor
  · exact fun h => ⟨by rw [h]; rfl, (State.pointOf_point hwf h).1⟩
  · rintro ⟨h, hx⟩
    obtain ⟨⟨q, y⟩, hq, rfl⟩ := Option.map_eq_some_iff.mp h
    rw [hq, ← Option.some.inj ((State.pointOf_point hwf hq).1.symm.trans hx)]

/-- The point of a section that is GRANTED already is as it was. -/
theorem State.Granting.point_granted (h : s.Granting u) (hwf : Table.wf s.points = true) {p : Nat}
    (hp : (s.pointOf n).map (·.1) = some p) (hv : s.holdBy v n = some .granted) : u.point? p = s.point? p := by
  refine h.points p fun w k hk hw => ?_
  obtain rfl := State.sec_of_pointOf hwf hk hp
  exact State.holder_of_granted hw (h.granted hv) ▸ hv

theorem State.Granting.trans (h : s.Granting m) (h' : m.Granting u) (hwf : Table.wf s.points = true)
    (hwf' : Table.wf m.points = true) (hwfu : Table.wf u.points = true) : s.Granting u where
  same := h.same.trans h'.same
  zones := h'.zones.trans h.zones
  keys n := (h'.keys n).trans (h.keys n)
  entries v := (h'.entries v).trans (h.entries v)
  hold n := by
    rcases h'.hold n with hu | ⟨hm, hu⟩
    · rcases h.hold n with hs | ⟨hs, hm⟩
      · exact .inl (hu.trans hs)
      · exact .inr ⟨hs, hu ▸ hm⟩
    · have hback : ∀ x, u.holdOf n = some x → (x.kind = .granted ∨ x.kind = .setting) ∧ x.entered = false ∧ s.detOf n = .clear ∧
          ∀ y, s.sec? n = some y → s.inStoppedZone y.defn.zones = false := fun x hx => by
        obtain ⟨h1, h2, h3, h4⟩ := hu x hx
        refine ⟨h1, h2, by rw [← h.same.detOf]; exact h3, fun y hy => ?_⟩
        obtain ⟨z, hz, hd, -⟩ := h.same.sec hy
        rw [← h.zones, ← hd]
        exact h4 z hz
      rcases h.hold n with hs | ⟨hs, -⟩
      · exact .inr ⟨hs ▸ hm, hback⟩
      · exact .inr ⟨hs, hback⟩
  points p hno := by
    refine (h'.points p fun v n hn hu => ?_).trans (h.points p fun v n hn hm => hno v n hn (h'.granted hm))
    rw [h.keys] at hn
    exact h.granted (hno v n hn hu)
  lock p := by
    obtain ⟨l, hl⟩ := h.lock p
    obtain ⟨l', hl'⟩ := h'.lock p
    exact ⟨fun x => l' { x with lock := l x }, by rw [hl', hl, Option.map_map]; rfl⟩
  outstanding n p x hx hk hp :=
    (h'.outstanding n p x ((h.holdOf_granted hx hk).trans hx) hk ((h.keys n).trans hp)).trans (h.outstanding n p x hx hk hp)
  secured v n hs hu := by
    by_cases hm : m.holdBy v n = some .granted
    · obtain ⟨e, b, a, hrun, rfl, hpoint⟩ := h.secured v n hs hm
      refine ⟨e, b, a, ⟨(h'.entries v).trans hrun.entries, fun f hf => h'.granted (hrun.before f hf),
        fun hg f hf => h'.granted (hrun.unit hg f hf)⟩, rfl, fun p x hx => ?_⟩
      have hkey : (m.pointOf e.sec).map (·.1) = some p := by
        rw [← h'.keys, hx]
        rfl
      have hp := h'.point_granted hwf' hkey hm
      have hxm : m.pointOf e.sec = some (p, x) :=
        (State.pointOf_eq_some_iff hwf').mpr ⟨hkey, hp.symm.trans (State.pointOf_point hwfu hx).1⟩
      obtain ⟨⟨h1, h2, h3, h4⟩, h5⟩ := hpoint p x hxm
      obtain ⟨en, hen⟩ := State.holdOf_of_holdBy hm
      rw [← h'.outstanding _ p _ hen rfl hkey] at h4
      exact ⟨⟨h1, h2, h3, h4⟩, h5⟩
    · obtain ⟨e, b, a, hrun, rfl, hpoint⟩ := h'.secured v n hm hu
      refine ⟨e, b, a, ⟨hrun.entries, hrun.before, by rw [← h.same.groupOf]; exact hrun.unit⟩, rfl, fun p x hx => ?_⟩
      obtain ⟨h1, h2⟩ := hpoint p x hx
      refine ⟨h1, fun y hy => h2 y ?_⟩
      refine (h.points p fun w k hk hw => ?_).trans hy
      have hkey : (s.pointOf e.sec).map (·.1) = some p := by
        rw [← h.keys, ← h'.keys, hx]
        rfl
      obtain rfl := State.sec_of_pointOf hwf hk hkey
      exact absurd (State.holder_of_granted (h'.granted hw) hu ▸ hw) hm

/-! ## One grant -/

theorem State.Serves.holdBy_granted (h : s.Serves u t es) (hn : n ∈ es.map (·.sec)) : u.holdBy t n = some .granted := by
  rw [State.holdBy_of_hold (h.granted n hn), if_pos rfl]

/-- A section newly GRANTED is one of those granted, to t. -/
theorem State.Serves.mem_of_newly (h : s.Serves u t es) (hs : s.holdBy v n ≠ some .granted)
    (hu : u.holdBy v n = some .granted) : n ∈ es.map (·.sec) ∧ v = t := by
  by_cases hn : n ∈ es.map (·.sec)
  · exact ⟨hn, State.holder_of_granted hu (h.holdBy_granted hn)⟩
  · rcases h.rest n hn with hr | ⟨hr, -⟩ | ⟨hr, -⟩
    · exact absurd ((State.holdBy_congr_hold hr v).symm.trans hu) hs
    · exact absurd ((State.holdBy_of_none hr).symm.trans hu) nofun
    · rw [State.holdBy_of_hold hr] at hu
      split at hu <;> exact nomatch hu

theorem State.holdOf_of_available {e : Entry} (h : s.available t e = true) :
    s.holdOf e.sec = none ∨ ∃ x, s.holdOf e.sec = some x ∧ x.holder = t ∧ x.kind = .setting := by
  obtain ⟨x, hx, hh, -⟩ := State.sec_of_available h
  rw [State.holdOf, hx]
  exact hh

theorem State.clear_of_available {e : Entry} (h : s.available t e = true) : s.detOf e.sec = .clear ∧
    ∀ x, s.sec? e.sec = some x → s.inStoppedZone x.defn.zones = false := by
  have := State.takeable_of_available (k := .granted) h
  exact ⟨this.det, this.zone⟩

/-- What R49 asks of the point of an available entry. -/
theorem State.point_of_available {e : Entry} (h : s.available t e = true) {p : Nat} {x : Point}
    (hp : s.pointOf e.sec = some (p, x)) : x.latch = none ∧ (x.lock = none ∨ x.lock = some t) ∧
      ∀ r b, s.outstanding p = some (r, b) → r = .tr t ∧ b = requiredBlade e.ent e.ext := by
  obtain ⟨y, -, -, -, -, hpa⟩ := State.sec_of_available h
  unfold State.pointAvailable at hpa
  simp only [hp, Bool.and_eq_true, decide_eq_true_eq, Option.isNone_iff_eq_none] at hpa
  obtain ⟨⟨h1, h2⟩, h3⟩ := hpa
  refine ⟨h1, h2, fun r b hout => ?_⟩
  rw [hout] at h3
  exact of_decide_eq_true h3

/-- Throws queued behind the others change nothing for a point that none is for, whatever becomes of its lock. -/
theorem State.outstanding_of_append {cs : List BusCmd} {p : Nat} {l : Point → Option TId}
    (hq : u.cmdQueue = s.cmdQueue ++ cs) (hcs : ∀ c ∈ cs, c.entity ≠ p)
    (hp : u.point? p = (s.point? p).map fun x => { x with lock := l x }) : u.outstanding p = s.outstanding p := by
  have hqueued : u.queuedThrow p = s.queuedThrow p := by
    rw [State.queuedThrow, hq, List.find?_append, State.queuedThrow]
    have hnone : cs.find? (fun c => c.func.blade.isSome && decide (c.entity = p)) = none :=
      List.find?_eq_none.mpr fun c hc hcp => hcs c hc (of_decide_eq_true (Bool.and_eq_true_iff.mp hcp).2)
    rw [hnone, Option.or_none]
  unfold State.outstanding
  rw [hqueued, hp]
  cases s.point? p <;> rfl

theorem State.Serves.outstanding (h : s.Serves u t es) {p : Nat} (hp : ∀ e ∈ (s.route t).entries, s.available t e = true →
    u.holdBy t e.sec = some .setting → (s.pointOf e.sec).map (·.1) ≠ some p) : u.outstanding p = s.outstanding p := by
  obtain ⟨cs, hcs, hthrow⟩ := h.queue
  refine State.outstanding_of_append hcs (fun c hc hcp => ?_) (h.points p)
  obtain ⟨-, -, -, e, he, hav, hset, hkey⟩ := hthrow c hc
  exact hp e he hav hset (hcp ▸ hkey)

/-- One grant is grants in a row. -/
theorem State.Serves.granting (h : s.Serves u t es) (hwf : Table.wf s.points = true) (hwfu : Table.wf u.points = true)
    (hothers : ∀ v, v ≠ t → (u.route v).entries = (s.route v).entries)
    (hrun : ∀ e ∈ es, ∃ before after, s.InGrantedRun u t e before after) : s.Granting u where
  same := h.ground
  zones := by
    funext z
    simp only [State.inStoppedZone, State.zoneStopped, h.lines, h.site]
  keys := h.keys
  entries v := if hv : v = t then hv ▸ h.entries else hothers v hv
  hold n := by
    by_cases hn : n ∈ es.map (·.sec)
    · obtain ⟨e, he, rfl⟩ := List.mem_map.mp hn
      obtain ⟨hav, -⟩ := h.available e he
      obtain ⟨hdet, hzone⟩ := State.clear_of_available hav
      refine .inr ⟨fun x hx => ?_, fun x hx => ?_⟩
      · rcases State.holdOf_of_available hav with hno | ⟨y, hy, -, hk⟩
        · exact absurd (hno.symm.trans hx) nofun
        · cases hy.symm.trans hx
          exact hk
      · cases (h.granted _ hn).symm.trans hx
        exact ⟨.inl rfl, rfl, hdet, hzone⟩
    · rcases h.rest n hn with hr | ⟨hr, hs, -⟩ | ⟨hr, hs, e, -, rfl, hav⟩
      · exact .inl hr
      · obtain ⟨b, hb⟩ := State.holdOf_of_holdBy hs
        refine .inr ⟨fun x hx => ?_, fun x hx => absurd (hr.symm.trans hx) nofun⟩
        cases hb.symm.trans hx
        rfl
      · obtain ⟨hdet, hzone⟩ := State.clear_of_available hav
        refine .inr ⟨fun x hx => absurd (hs.symm.trans hx) nofun, fun x hx => ?_⟩
        cases hr.symm.trans hx
        exact ⟨.inr rfl, rfl, hdet, hzone⟩
  points p hno := by
    rw [h.points]
    have hnone : ¬ ∃ e ∈ es, (s.pointOf e.sec).map (·.1) = some p := by
      rintro ⟨e, he, hp⟩
      exact State.not_granted_of_available (h.available e he).1
        (hno t e.sec hp (h.holdBy_granted (List.mem_map_of_mem he)))
    simp only [if_neg hnone]
    cases s.point? p <;> rfl
  lock p := ⟨_, h.points p⟩
  outstanding n p x hx hk hp := h.outstanding fun e _ hav _ hkey => by
    obtain rfl := State.sec_of_pointOf hwf hkey hp
    rcases State.holdOf_of_available hav with hno | ⟨y, hy, -, hy'⟩
    · exact absurd (hno.symm.trans hx) nofun
    · cases hy.symm.trans hx
      exact absurd (hk.symm.trans hy') nofun
  secured v n hs hu := by
    obtain ⟨hn, rfl⟩ := h.mem_of_newly hs hu
    obtain ⟨e, he, rfl⟩ := List.mem_map.mp hn
    obtain ⟨b, a, hin⟩ := hrun e he
    obtain ⟨hav, hpos⟩ := h.available e he
    refine ⟨e, b, a, hin, rfl, fun p x hx => ?_⟩
    have hkey : (s.pointOf e.sec).map (·.1) = some p := by
      rw [← h.keys, hx]
      rfl
    obtain ⟨⟨q, y⟩, hy, rfl⟩ := Option.map_eq_some_iff.mp hkey
    obtain ⟨hlatch, hlock, hout⟩ := State.point_of_available hav hy
    have hpoint := (State.pointOf_point hwfu hx).1
    dsimp only at hkey hpoint ⊢
    rw [h.points, (State.pointOf_point hwf hy).1, Option.map_some, if_pos ⟨e, he, hkey⟩] at hpoint
    obtain rfl := Option.some.inj hpoint
    have hposy : y.pos = (requiredBlade e.ent e.ext).pos := by
      unfold State.inPosition at hpos
      rw [hy] at hpos
      exact of_decide_eq_true hpos
    refine ⟨⟨rfl, hlatch, hposy, ?_⟩, fun z hz => ?_⟩
    · rw [h.outstanding fun f _ hf hset hfkey => ?_]
      · exact hout
      · rw [State.sec_of_pointOf hwf hfkey hkey, hu] at hset
        exact nomatch hset
    · cases (State.pointOf_point hwf hy).1.symm.trans hz
      exact hlock

end

end Sys2Proof.Machine

/-! PROOFS. The completion of a grant (R54, R55), and one evaluation of a transporter (R47). -/

namespace Sys2Proof.Machine

/-- Between s and c a grant to t was completed: number, end, state, AUTH, notice and queue. -/
structure State.GrantCompleted (s c : State) (t : TId) (secs : List Nat) : Prop where
  only : c = { s with
    trs := c.trs, routes := c.routes, tls := c.tls, ceilings := c.ceilings, waiting := c.waiting, opss := c.opss }
  route : c.route t = { s.route t with authNum := nextAuth (s.route t).authNum, endPos := s.grantedEnd t }
  state : (c.tr t).state =
    if (s.tr t).state = .parked then (if (s.tr t).stop = .empty then .authorised else .held) else (s.tr t).state
  record : c.tr t = { s.tr t with state := (c.tr t).state, standSeen := (c.tr t).standSeen }
  unparked : (s.tr t).state ≠ .parked → c.tr t = s.tr t
  auth : c.AuthCurrent t
  port : s.OnlyAuth c t
  told : s.Told c [c.grantNotice t secs]
  waiting : c.waiting = if c.fullyGranted t = true then s.waiting.filter fun w => decide (w.t ≠ t)
    else s.waiting.map fun w => if w.t = t then s.waitEntry t else w
  others : ∀ v, v ≠ t → s.SameTransporter c v

section
variable {s c : State} {t : TId}

/-- What leaving PARKED does. -/
theorem State.leaveParked_spec (s : State) (t : TId) :
    s.leaveParked t = { s with trs := (s.leaveParked t).trs } ∧
    ((s.leaveParked t).tr t).state =
      (if (s.tr t).state = .parked then (if (s.tr t).stop = .empty then .authorised else .held) else (s.tr t).state) ∧
    (s.leaveParked t).tr t =
      { s.tr t with state := ((s.leaveParked t).tr t).state, standSeen := ((s.leaveParked t).tr t).standSeen } ∧
    ((s.tr t).state ≠ .parked → s.leaveParked t = s) ∧ ∀ v, v ≠ t → (s.leaveParked t).tr v = s.tr v := by
  unfold State.leaveParked
  by_cases hp : (s.tr t).state = .parked
  · rw [if_pos hp, if_pos hp]
    by_cases hstop : (s.tr t).stop = .empty
    · have he : (s.tr t).stop.isEmpty = true := decide_eq_true hstop
      rw [if_pos he, if_pos hstop]
      exact ⟨rfl, by rw [State.tr_modTr_self], by rw [State.tr_modTr_self], fun h => absurd hp h,
        fun v hv => State.tr_ne s hv _⟩
    · have he : ¬ (s.tr t).stop.isEmpty = true := fun h => hstop (of_decide_eq_true h)
      rw [if_neg he, if_neg hstop]
      exact ⟨rfl, by rw [State.tr_modTr_self], by rw [State.tr_modTr_self], fun h => absurd hp h,
        fun v hv => State.tr_ne s hv _⟩
  · rw [if_neg hp, if_neg hp]
    exact ⟨rfl, rfl, rfl, fun _ => rfl, fun _ _ => rfl⟩

theorem State.completeGrant_completed (s : State) (t : TId) (secs : List Nat) :
    s.GrantCompleted (s.completeGrant t secs) t secs := by
  obtain ⟨s1, hs1⟩ : ∃ s1, s1 = ((s.bumpAuth t).modRoute t fun r => { r with endPos := s.grantedEnd t }).reloadWait t := ⟨_, rfl⟩
  obtain ⟨s2, hs2⟩ : ∃ s2, s2 = s1.leaveParked t := ⟨_, rfl⟩
  obtain ⟨s3, hs3⟩ : ∃ s3, s3 = s2.formAuth t := ⟨_, rfl⟩
  obtain ⟨s4, hs4⟩ : ∃ s4, s4 = s3.postGranted t secs := ⟨_, rfl⟩
  have heq : s.completeGrant t secs = if s4.fullyGranted t then s4.leaveQueue t else s4 := by
    rw [hs4, hs3, hs2, hs1]
    rfl
  have h1only : s1 = { s with routes := s1.routes, waiting := s1.waiting } := by
    rw [hs1]
    rfl
  have h1route : s1.route t = { s.route t with authNum := nextAuth (s.route t).authNum, endPos := s.grantedEnd t } := by
    rw [hs1]
    show ((s.bumpAuth t).modRoute t fun r => { r with endPos := s.grantedEnd t }).route t = _
    rw [State.route_modRoute_self, State.bumpAuth, State.route_modRoute_self]
  have h1other : ∀ v, v ≠ t → s1.route v = s.route v := fun v hv => by
    rw [hs1]
    show ((s.bumpAuth t).modRoute t fun r => { r with endPos := s.grantedEnd t }).route v = _
    rw [State.route_ne _ hv, State.bumpAuth, State.route_ne _ hv]
  obtain ⟨h2only, h2state, h2record, h2same, h2other⟩ := s1.leaveParked_spec t
  obtain ⟨h3auth, h3only, h3port, h3others⟩ := s2.formAuth_spec t
  rw [← hs2] at h2only h2state h2record h2same h2other
  rw [← hs3] at h3auth h3only h3port h3others
  have h4only : s4 = { s3 with opss := s4.opss } := by
    rw [hs4]
    rfl
  have h4told : s3.Told s4 [s4.grantNotice t secs] := by
    have hnotice : s4.grantNotice t secs = s3.grantNotice t secs := by
      rw [h4only]
      rfl
    rw [hnotice, hs4]
    exact State.told_post s3 (s3.grantNotice t secs)
  have h1tr : ∀ v, s1.tr v = s.tr v := fun v => by rw [h1only]; rfl
  rw [h1tr] at h2state h2record h2same
  have hclock : s3.clock = s.clock := by rw [h3only, h2only, h1only]
  have hopss : s3.opss = s.opss := by rw [h3only, h2only, h1only]
  have h4tr : ∀ v, s4.tr v = s2.tr v := fun v => by rw [h4only, h3only]; rfl
  have h4route : ∀ v, s4.route v = s1.route v := fun v => by rw [h4only, h3only, h2only]; rfl
  have h4tl : ∀ v, s4.tl v = s3.tl v := fun v => by rw [h4only]; rfl
  have h2tl : ∀ v, s2.tl v = s.tl v := fun v => by rw [h2only, h1only]; rfl
  have h4wait : s4.waiting = s.waiting.map fun w => if w.t = t then s.waitEntry t else w := by
    rw [h4only, h3only, h2only, hs1]
    rfl
  have hall : s4 = { s with
      trs := s4.trs, routes := s4.routes, tls := s4.tls, ceilings := s4.ceilings, waiting := s4.waiting, opss := s4.opss } := by
    rw [h4only, h3only, h2only, h1only]
  obtain ⟨c, hc⟩ : ∃ c, c = s.completeGrant t secs := ⟨_, rfl⟩
  have hcs : c = { s4 with waiting := c.waiting } := by
    rw [hc, heq]
    split <;> rfl
  have hcfull : c.fullyGranted t = s4.fullyGranted t := by
    rw [hcs]
    rfl
  have hcwait : c.waiting = if s4.fullyGranted t then s4.waiting.filter fun w => decide (w.t ≠ t) else s4.waiting := by
    rw [hc, heq]
    split <;> rfl
  have hctr : ∀ v, c.tr v = s2.tr v := fun v => by rw [hcs]; exact h4tr v
  have hcroute : ∀ v, c.route v = s1.route v := fun v => by rw [hcs]; exact h4route v
  have hctl : ∀ v, c.tl v = s3.tl v := fun v => by rw [hcs]; exact h4tl v
  rw [← hc]
  exact {
    only := by rw [hcs, hall]
    route := (hcroute t).trans h1route
    state := by rw [hctr]; exact h2state
    record := by rw [hctr]; exact h2record
    unparked := fun hp => by rw [hctr, h2same hp, h1tr]
    auth := by
      have hsame : s3.SameForAuth c t := by
        refine ⟨?_, ?_, fun n => ?_, ?_, ?_, ?_⟩
        · rw [hctr, h3only]; rfl
        · rw [hcroute, h3only, h2only]; rfl
        · rw [hcs, h4only]; rfl
        all_goals rw [hcs, h4only]
      exact hsame.authCurrent h3auth (by rw [hctl]) (by rw [hcs, h4only])
    port := by
      have := h3port
      rw [State.OnlyAuth, h2tl] at this
      rw [State.OnlyAuth, hctl]
      exact this
    told := fun k => by
      have hk := h4told k
      rw [hclock, show s3.opsPort k = s.opsPort k by rw [State.opsPort, hopss]; rfl] at hk
      have hn : c.grantNotice t secs = s4.grantNotice t secs := by
        rw [hcs]
        rfl
      rw [hn, show c.opsPort k = s4.opsPort k by rw [hcs]; rfl]
      exact hk
    waiting := by
      rw [hcfull, hcwait, h4wait]
      split
      · rw [List.filter_map]
        have hcomp : ((fun w : Waiting => decide (w.t ≠ t)) ∘ fun w => if w.t = t then s.waitEntry t else w) =
            fun w => decide (w.t ≠ t) := by
          funext w
          by_cases hw : w.t = t
          · simp [hw, State.waitEntry]
          · simp [hw]
        rw [hcomp]
        refine List.map_congr_left (g := id) (fun w hw => ?_) |>.trans (List.map_id _)
        rw [if_neg (by simpa using (List.mem_filter.mp hw).2)]
        rfl
      · rfl
    others := fun v hv => by
      obtain ⟨a1, a2, a3, a4, a5⟩ := h3others v hv
      refine ⟨(hctr v).trans ((h2other v hv).trans (h1tr v)), (hcroute v).trans (h1other v hv),
        (hctl v).trans (a3.trans (h2tl v)), ?_, ?_⟩
      · rw [hcs, h4only]
        refine a4.trans ?_
        rw [h2only, h1only]
      · rw [hcs, h4only, h3only, h2only, h1only] }

/-! ## One evaluation (R47) -/

/-- An evaluation of t is a run of units granted, the end of the grant, and the completion where the run is not empty. -/
structure State.EvaluatedAs (s m r u : State) (t : TId) (es : List Entry) : Prop where
  run : s.GrantRun m t es
  ends : m.GrantEnds r t
  ground : r.ground = s.ground
  unit : ∀ e ∈ es, ∃ before after, s.InGrantedRun m t e before after
  first : es ≠ [] → ∀ e ∈ s.nextUnit t, e ∈ es
  idle : es = [] → u = r
  completed : es ≠ [] → r.GrantCompleted u t (es.map (·.sec))

theorem State.evaluate_as (hwf : s.TablesWf) (t : TId) : ∃ es m r, s.EvaluatedAs m r (s.evaluate t) t es := by
  obtain ⟨us, m, hus, hend, hsecs⟩ := prefixGrant_spec t (s.route t).entries.length s (List.dropWhile_sublist _).length_le
  refine ⟨us.flatten, m, _, State.UnitsGranted.grantRun hwf.1 hwf.2.1 hus, hend, prefixGrant_ground .., State.UnitsGranted.inGrantedRun hwf hus,
    fun hne e he => ?_, fun hnil => ?_, fun hne => ?_⟩
  · cases us with
    | nil => exact absurd rfl hne
    | cons unit us =>
      obtain ⟨hunit, -⟩ := hus
      rw [List.flatten_cons, ← hunit]
      exact List.mem_append_left _ he
  · rw [State.evaluate, hsecs, hnil]
    rfl
  · have hno : (us.flatten.map (·.sec)).isEmpty = false := by
      rw [List.isEmpty_eq_false_iff, ne_eq, List.map_eq_nil_iff]
      exact hne
    rw [State.evaluate, hsecs, hno]
    exact State.completeGrant_completed ..

end

end Sys2Proof.Machine

/-! PROOFS. What evaluations and the walk do to the track (R47, R63, R64). -/

namespace Sys2Proof.Machine

section
variable {s m r u : State} {t v : TId} {es : List Entry}

theorem State.same_trans (h : s.SameTransporter m v) (h' : m.SameTransporter u v) : s.SameTransporter u v := by
  obtain ⟨a1, a2, a3, a4, a5⟩ := h
  obtain ⟨b1, b2, b3, b4, b5⟩ := h'
  exact ⟨b1.trans a1, b2.trans a2, b3.trans a3, b4.trans a4, b5.trans a5⟩

theorem State.GrantRun.others (h : s.GrantRun m t es) (hv : v ≠ t) : s.SameTransporter m v := by
  by_cases hes : es = []
  · rw [h.run.idle hes]
    exact ⟨rfl, rfl, rfl, rfl, rfl⟩
  · obtain ⟨z, hz, heval, -⟩ := h.run.taken hes
    refine State.same_trans (m := z) ?_ (heval.others v (by simpa using hv))
    rw [hz.only]
    exact ⟨rfl, rfl, rfl, rfl, rfl⟩

theorem State.GrantEnds.others (h : m.GrantEnds r t) (hv : v ≠ t) : m.SameTransporter r v := by
  cases h with
  | whole _ hu =>
    rw [hu]
    exact ⟨rfl, rfl, rfl, rfl, rfl⟩
  | unavailable _ _ hu =>
    rw [hu]
    obtain ⟨-, -, -, hothers, -⟩ := m.dropSetting_frame t
    exact hothers v hv
  | noRoom _ _ _ d _ hd hu =>
    rw [hu, hd]
    obtain ⟨-, -, -, hothers, -⟩ := m.dropSetting_frame t
    exact hothers v hv
  | reserved _ _ _ z hz heval =>
    refine State.same_trans (m := z) ?_ (heval.others v (by simpa using hv))
    rw [hz.only]
    exact ⟨rfl, rfl, rfl, rfl, rfl⟩

/-- What an evaluation leaves alone. -/
theorem State.GrantEnds.only (h : m.GrantEnds r t) : r = { m with
    sections := r.sections, trs := r.trs, tls := r.tls, ceilings := r.ceilings, roomWait := r.roomWait, walkDue := r.walkDue
    cmdQueue := r.cmdQueue, opss := r.opss } := by
  cases h with
  | whole _ hu => rw [hu]
  | unavailable _ _ hu =>
    obtain ⟨-, honly, -⟩ := m.dropSetting_frame t
    rw [hu, honly]
  | noRoom _ _ _ d _ hd hu =>
    obtain ⟨-, honly, -⟩ := m.dropSetting_frame t
    rw [hu, hd, honly]
  | reserved _ _ _ z hz heval => rw [heval.only, hz.only]

theorem State.EvaluatedAs.others (h : s.EvaluatedAs m r u t es) (hv : v ≠ t) : s.SameTransporter u v := by
  have hr := State.same_trans (h.run.others hv) (h.ends.others hv)
  by_cases hes : es = []
  · rw [h.idle hes]
    exact hr
  · exact State.same_trans hr ((h.completed hes).others v hv)

theorem State.EvaluatedAs.only (h : s.EvaluatedAs m r u t es) : u = { s with
    sections := u.sections, points := u.points, trs := u.trs, routes := u.routes, tls := u.tls, ceilings := u.ceilings
    waiting := u.waiting, roomWait := u.roomWait, walkDue := u.walkDue, cmdQueue := u.cmdQueue, opss := u.opss } := by
  have hr : r = { s with
      sections := r.sections, points := r.points, trs := r.trs, tls := r.tls, ceilings := r.ceilings, roomWait := r.roomWait
      walkDue := r.walkDue, cmdQueue := r.cmdQueue, opss := r.opss } := by
    rw [h.ends.only, h.run.only]
  by_cases hes : es = []
  · rw [h.idle hes, hr]
  · rw [(h.completed hes).only, hr]

theorem State.EvaluatedAs.serves (h : s.EvaluatedAs m r u t es) (hwf : s.TablesWf) : s.Serves u t es := by
  have hr := State.GrantEnds.serves h.run h.ends hwf
  by_cases hes : es = []
  · rw [h.idle hes]
    exact hr
  · have hc := h.completed hes
    have honly := hc.only
    refine hr.congr ?_ ?_ ?_ ?_ ?_ ?_ ?_ (fun hw => ?_) ?_
    case refine_8 =>
      rw [honly]
      exact hw
    case refine_9 => rw [hc.route]
    all_goals rw [honly]

theorem State.tablesWf_of_ground (hground : u.ground = s.ground) (honly : u = { s with
    sections := u.sections, points := u.points, trs := u.trs, routes := u.routes, tls := u.tls, ceilings := u.ceilings
    waiting := u.waiting, roomWait := u.roomWait, walkDue := u.walkDue, cmdQueue := u.cmdQueue, opss := u.opss })
    (hwf : s.TablesWf) : u.TablesWf := by
  refine ⟨(State.sections_wf_of_ground hground).trans hwf.1, (State.points_wf_of_ground hground).trans hwf.2.1, ?_⟩
  rw [honly]
  exact hwf.2.2

theorem State.evaluate_tablesWf (hwf : s.TablesWf) (t : TId) : (s.evaluate t).TablesWf := by
  obtain ⟨es, m, r, h⟩ := State.evaluate_as hwf t
  exact State.tablesWf_of_ground (s.evaluate_ground t) h.only hwf

/-- What t holds GRANTED when its units are granted it keeps. -/
theorem State.EvaluatedAs.granted (h : s.EvaluatedAs m r u t es) (hwf : s.TablesWf) {n : Nat}
    (hn : m.holdBy t n = some .granted) : u.holdBy t n = some .granted := by
  have hserves := h.serves hwf
  rw [h.run.run.holdBy fun e he => State.isSome_of_available (h.run.available e he).1] at hn
  split at hn
  · next hmem => exact hserves.holdBy_granted hmem
  · next hmem =>
    rcases hserves.rest n hmem with hr | ⟨-, hs, -⟩ | ⟨-, hs, -⟩
    · exact (State.holdBy_congr_hold hr t).trans hn
    · exact absurd (hs.symm.trans hn) nofun
    · exact absurd ((State.holdBy_of_none hs).symm.trans hn) nofun

theorem State.evaluate_granting (hwf : s.TablesWf) (t : TId) : s.Granting (s.evaluate t) := by
  obtain ⟨es, m, r, h⟩ := State.evaluate_as hwf t
  have hserves := h.serves hwf
  refine hserves.granting hwf.2.1 (State.evaluate_tablesWf hwf t).2.1 (fun v hv => by rw [(h.others hv).2.1]) fun e he => ?_
  obtain ⟨b, a, h1, h2, h3⟩ := h.unit e he
  refine ⟨b, a, ?_, fun f hf => h.granted hwf (h2 f hf), fun hg f hf => h.granted hwf (h3 hg f hf)⟩
  rw [hserves.entries, ← h1, h.run.serves.entries]

/-! ## The walk -/

/-- Where the track, the queue of throws and the records are the same, no grant was made. -/
theorem State.granting_of_same (hsec : u.sections = s.sections) (hpoints : u.points = s.points) (hlines : u.lines = s.lines)
    (hsite : u.site = s.site) (hqueue : u.cmdQueue = s.cmdQueue) (hentries : ∀ v, (u.route v).entries = (s.route v).entries) :
    s.Granting u := by
  have hs : ∀ n, u.sec? n = s.sec? n := fun n => by rw [State.sec?, hsec]; rfl
  have hp : ∀ n, u.point? n = s.point? n := fun n => by rw [State.point?, hpoints]; rfl
  have hold : ∀ n, u.holdOf n = s.holdOf n := fun n => by rw [State.holdOf, hs]
  exact {
    same := fun n => by rw [hs]
    zones := by
      funext z
      simp only [State.inStoppedZone, State.zoneStopped, hlines, hsite]
    keys := fun n => by rw [State.pointOf, hpoints]; rfl
    entries := hentries
    hold := fun n => .inl (hold n)
    points := fun p _ => hp p
    lock := fun p => ⟨fun x => x.lock, by rw [hp]; simp⟩
    outstanding := fun _ p _ _ _ _ => by simp only [State.outstanding, State.queuedThrow, hqueue, hp]
    secured := fun v n h h' => absurd ((State.holdBy_congr_hold (hold n) v).symm.trans h') h }

theorem State.walkOne_granting (hwf : s.TablesWf) (t : TId) : s.Granting (s.walkOne t) ∧ (s.walkOne t).TablesWf := by
  unfold State.walkOne
  split
  · exact ⟨State.evaluate_granting hwf t, State.evaluate_tablesWf hwf t⟩
  · exact ⟨.refl s, hwf⟩

theorem State.walkAll_granting : ∀ (ts : List TId) (s : State), s.TablesWf →
    s.Granting (ts.foldl State.walkOne s) ∧ (ts.foldl State.walkOne s).TablesWf
  | [], s, hwf => ⟨.refl s, hwf⟩
  | t :: ts, s, hwf => by
    obtain ⟨h1, h2⟩ := State.walkOne_granting hwf t
    obtain ⟨h3, h4⟩ := State.walkAll_granting ts _ h2
    exact ⟨h1.trans h3 hwf.2.1 h2.2.1 h4.2.1, h4⟩

theorem State.walkOnce_granting (hwf : s.TablesWf) : s.Granting s.walkOnce ∧ s.walkOnce.TablesWf := by
  unfold State.walkOnce
  split
  · exact ⟨State.granting_of_same rfl rfl rfl rfl rfl fun _ => rfl, hwf⟩
  · have hstart : s.Granting { s with walkDue := false, roomWait := false } :=
      State.granting_of_same rfl rfl rfl rfl rfl fun _ => rfl
    obtain ⟨h1, h2⟩ := State.walkAll_granting (s.waiting.map (·.t)) { s with walkDue := false, roomWait := false } hwf
    exact ⟨hstart.trans h1 hwf.2.1 hwf.2.1 h2.2.1, h2⟩

theorem walkFrom_granting : ∀ (n : Nat) (s : State), s.TablesWf → s.Granting (walkFrom n s) ∧ (walkFrom n s).TablesWf
  | 0, _, hwf => State.walkOnce_granting hwf
  | n + 1, s, hwf => by
    obtain ⟨h1, h2⟩ := State.walkOnce_granting hwf
    rw [walkFrom]
    split
    · obtain ⟨h3, h4⟩ := walkFrom_granting n _ h2
      exact ⟨h1.trans h3 hwf.2.1 h2.2.1 h4.2.1, h4⟩
    · exact ⟨h1, h2⟩

theorem State.walkIfDue_granting (hwf : s.TablesWf) : s.Granting s.walkIfDue := by
  unfold State.walkIfDue
  split
  · exact (walkFrom_granting _ s hwf).1
  · exact .refl s

end

end Sys2Proof.Machine

/-! PROOFS. Sections are taken only by JOIN, ROUTE and the walk (R49, R106). -/

namespace Sys2Proof.Machine

/-- Between s and z reservations were dropped at most; what else the track shows is the same. -/
structure State.Cleared (s z : State) : Prop where
  same : s.SameSections z
  zones : z.inStoppedZone = s.inStoppedZone
  points : z.points = s.points
  hold : ∀ n, z.holdOf n = s.holdOf n ∨ z.holdOf n = none ∧ ∀ h, s.holdOf n = some h → h.kind = .setting

section
variable {s z m t : State} {u : TId} {n : Nat}

theorem State.cleared_of_same (hsec : z.sections = s.sections) (hpoints : z.points = s.points) (hlines : z.lines = s.lines)
    (hsite : z.site = s.site) : s.Cleared z := by
  have hs : ∀ n, z.sec? n = s.sec? n := fun n => by rw [State.sec?, hsec]; rfl
  refine ⟨fun n => by rw [hs], ?_, hpoints, fun n => .inl (by rw [State.holdOf, hs])⟩
  funext x
  simp only [State.inStoppedZone, State.zoneStopped, hlines, hsite]

theorem State.Cleared.then (h : s.Cleared m) (hsec : z.sections = m.sections) (hpoints : z.points = m.points)
    (hlines : z.lines = m.lines) (hsite : z.site = m.site) : s.Cleared z := by
  have h' := State.cleared_of_same hsec hpoints hlines hsite
  have hold : ∀ n, z.holdOf n = m.holdOf n := fun n => by rw [State.holdOf, State.sec?, hsec]; rfl
  exact ⟨h.same.trans h'.same, h'.zones.trans h.zones, hpoints.trans h.points, fun n => by rw [hold]; exact h.hold n⟩

theorem State.Withdrawn.cleared (h : s.Withdrawn z u) : s.Cleared z := by
  refine ⟨fun n => ?_, ?_, by rw [h.only], fun n => ?_⟩
  · rw [h.holds, Option.map_map]
    rfl
  · rw [h.only]
    rfl
  · rw [State.holdOf, h.holds]
    by_cases hc : s.holdBy u n = some .setting ∧ s.inRecord u n
    · refine .inr ⟨?_, fun x hx => ?_⟩
      · simp only [if_pos hc]
        cases s.sec? n <;> rfl
      · obtain ⟨e, he⟩ := State.holdOf_of_holdBy hc.1
        cases he.symm.trans hx
        rfl
    · refine .inl ?_
      rw [State.holdOf]
      simp only [if_neg hc]
      cases s.sec? n <;> rfl

/-! ## What a ROUTE does to the track -/

/-- Between s and t reservations were dropped, and then grants made. -/
def State.Routed (s t : State) : Prop := ∃ z, s.Cleared z ∧ z.TablesWf ∧ z.Granting t

theorem State.Cleared.routed (h : s.Cleared z) (hwf : z.TablesWf) : s.Routed z := ⟨z, h, hwf, .refl z⟩

/-- From z on, a new evaluation and the place in the queue. -/
theorem State.Cleared.routed_evaluate (h : s.Cleared z) (hwf : z.TablesWf) (u : TId) : s.Routed ((z.evaluate u).queueIfOpen u) := by
  have hqueue : ((z.evaluate u).queueIfOpen u) = { z.evaluate u with waiting := ((z.evaluate u).queueIfOpen u).waiting } := by
    unfold State.queueIfOpen State.joinQueue
    split
    · rfl
    · split <;> rfl
  have hlast : (z.evaluate u).Granting ((z.evaluate u).queueIfOpen u) := by
    rw [hqueue]
    exact State.granting_of_same rfl rfl rfl rfl rfl fun _ => rfl
  have hwfe := State.evaluate_tablesWf hwf u
  exact ⟨z, h, hwf, (State.evaluate_granting hwf u).trans hlast hwf.2.1 hwfe.2.1 (by rw [hqueue]; exact hwfe.2.1)⟩

theorem State.GrantCompleted.cleared {c : State} {secs : List Nat} (h : s.Cleared m) (hc : m.GrantCompleted c u secs) : s.Cleared c := by
  have honly := hc.only
  refine h.then ?_ ?_ ?_ ?_ <;> rw [honly]

theorem State.GrantCompleted.tablesWf {c : State} {secs : List Nat} (hwf : m.TablesWf) (hc : m.GrantCompleted c u secs) :
    c.TablesWf := by
  rw [hc.only]
  exact hwf

theorem State.rebuild_cleared (hwf : s.TablesWf) (u : TId) (ts : List Triple) (final : Nat) :
    s.Cleared (s.rebuild u ts final) ∧ (s.rebuild u ts final).TablesWf := by
  have hw := s.withdrawRoute_withdrawn u
  have honly : s.rebuild u ts final = { s.withdrawRoute u with routes := (s.rebuild u ts final).routes } := rfl
  refine ⟨hw.cleared.then (by rw [honly]) (by rw [honly]) (by rw [honly]) (by rw [honly]), ?_⟩
  have hwfw : (s.withdrawRoute u).TablesWf := State.tablesWf_of_ground (s.withdrawRoute_ground u) (by rw [hw.only]) hwf
  rw [honly]
  exact hwfw

theorem State.onRoute_routed (hwf : s.TablesWf) (u : TId) (p : List Byte) : s.Routed (s.onRoute u p) := by
  have hrefuse : ∀ r, s.Routed (s.refuse u Config.tyRoute r) := fun r =>
    (State.cleared_of_same (s := s) (z := s.refuse u Config.tyRoute r) rfl rfl rfl rfl).routed hwf
  unfold State.onRoute
  split
  · exact hrefuse _
  · exact hrefuse _
  · next final ts _ =>
    unfold State.routeRequest State.judgeTl
    split
    · exact hrefuse _
    · dsimp only
      split
      · obtain ⟨hcleared, hwfr⟩ := State.rebuild_cleared hwf u ts final
        unfold State.routeParked
        dsimp only
        generalize s.rebuild u ts final = z at hcleared hwfr
        split
        · have hc := State.completeGrant_completed z u []
          exact (State.GrantCompleted.cleared hcleared hc).routed (State.GrantCompleted.tablesWf hwfr hc)
        · split
          · exact hcleared.routed_evaluate hwfr u
          · have honly := (z.bumpAuth u).formAuth_spec u |>.2.1
            refine State.Cleared.routed_evaluate (hcleared.then ?_ ?_ ?_ ?_) ?_ u
            case refine_5 =>
              rw [honly]
              exact hwfr
            all_goals
              rw [honly]
              rfl
      · unfold State.routeRunning
        dsimp only
        obtain ⟨z, hz⟩ : ∃ z, z = s.modRoute u fun r => { r with
          entries := s.routeAfter u ts, finalOff := final, nextIdx := r.nextIdx + (s.newEntries u ts).length } := ⟨_, rfl⟩
        rw [← hz]
        have hcleared : s.Cleared z := by
          rw [hz]
          exact State.cleared_of_same rfl rfl rfl rfl
        have hwfz : z.TablesWf := by
          rw [hz]
          exact hwf
        split
        · split
          · have hc := State.completeGrant_completed z u []
            exact (State.GrantCompleted.cleared hcleared hc).routed (State.GrantCompleted.tablesWf hwfz hc)
          · exact hcleared.routed hwfz
        · exact hcleared.routed_evaluate hwfz u

end

end Sys2Proof.Machine

/-! PROOFS. Sections are taken only by JOIN, ROUTE and the walk, and what a grant secures (R48 to R52, R106). -/

namespace Sys2Proof.Machine

section
variable {s z m t : State} {u v : TId} {n : Nat}

/-! ## What the statements ask -/

/-- Section n is CLEAR, in no stopped zone and held SETTING at most. -/
def State.Takable (s : State) (n : Nat) : Prop := s.detOf n = .clear ∧
  ∀ x, s.sec? n = some x → s.inStoppedZone x.defn.zones = false ∧ ∀ h, x.hold = some h → h.kind = .setting

theorem State.takable_of (hdet : s.detOf n = .clear) (hzone : ∀ x, s.sec? n = some x → s.inStoppedZone x.defn.zones = false)
    (hhold : ∀ h, s.holdOf n = some h → h.kind = .setting) : s.Takable n :=
  ⟨hdet, fun x hx => ⟨hzone x hx, fun h hh => hhold h (by rw [State.holdOf, hx]; exact hh)⟩⟩

theorem State.Cleared.takable (h : s.Cleared z) (hz : z.Takable n) : s.Takable n := by
  obtain ⟨hdet, hrest⟩ := hz
  have hzone : ∀ x, s.sec? n = some x → s.inStoppedZone x.defn.zones = false := fun x hx => by
    obtain ⟨y, hy, hd, -⟩ := h.same.sec hx
    rw [← h.zones, ← hd]
    exact (hrest y hy).1
  refine State.takable_of (by rw [← h.same.detOf]; exact hdet) hzone fun k hk => ?_
  rcases h.hold n with hh | ⟨-, hh⟩
  · obtain ⟨y, hy, hyk⟩ := Option.bind_eq_some_iff.mp (hh.trans hk)
    exact (hrest y hy).2 k hyk
  · exact hh k hk

/-- A section whose hold a grant changed could be taken. -/
theorem State.Granting.takable (h : s.Granting t) (hne : t.holdOf n ≠ s.holdOf n) {k : Hold} (hk : t.holdOf n = some k) :
    s.Takable n ∧ k.entered = false := by
  obtain ⟨hs, ht⟩ := (h.hold n).resolve_left hne
  obtain ⟨-, hentered, hdet, hzone⟩ := ht k hk
  exact ⟨State.takable_of hdet hzone hs, hentered⟩

/-! ## A section newly held (R49) -/

theorem State.Gained.takes {J T : Prop} (h : s.Gained t v J T) (hs : s.holdBy u n = none) (ht : t.holdBy u n ≠ none) :
    u = v ∧ (J ∧ (s.detOf n = .occupied ∨ s.detOf n = .disturbed) ∧ s.Unheld n ∨ T ∧ s.Takable n) := by
  rcases h.gained u n (State.owner_iff.mpr ht) with ho | ⟨hu, hun, hcase⟩
  · exact absurd hs (State.owner_iff.mp ho)
  · refine ⟨hu, ?_⟩
    rcases hcase with ⟨hT, hdet, hzone⟩ | ⟨hJ, hdet⟩
    · exact .inr ⟨hT, State.takable_of hdet hzone fun k hk => absurd (hun.symm.trans hk) nofun⟩
    · exact .inl ⟨hJ, hdet, hun⟩

theorem State.NoneGained.takes (h : s.NoneGained t) (hs : s.holdBy u n = none) : t.holdBy u n = none :=
  Decidable.byContradiction fun ht => State.owner_iff.mp (h u n (State.owner_iff.mpr ht)) hs

theorem tlFrame_taking {c : Instr} {ty : Byte} {p : List Byte} (h : tlFrame c = some (v, ty, p)) :
    (ty = Config.tyJoin → c = .join v p) ∧ (ty = Config.tyRoute → c = .route v p) := by
  cases c <;> cases h
  case join => exact ⟨fun _ => rfl, fun h => absurd h (by decide)⟩
  case route => exact ⟨fun h => absurd h (by decide), fun _ => rfl⟩
  all_goals exact ⟨fun h => absurd h (by decide), fun h => absurd h (by decide)⟩

/-- How a command brought u section n. -/
def State.TakenBy (s : State) (c : Instr) (u : TId) (n : Nat) : Prop :=
  ((∃ p, c = .join u p) ∨ bytesAt (.tl u) c) ∧ (s.detOf n = .occupied ∨ s.detOf n = .disturbed) ∧ s.Unheld n ∨
  ((∃ p, c = .route u p) ∨ bytesAt (.tl u) c ∨ c = .pendingQueueWalk) ∧ s.Takable n

theorem State.Takable.congr (h : m.Takable n) (hsec : m.sections = s.sections) (hlines : m.lines = s.lines)
    (hsite : m.site = s.site) : s.Takable n := by
  have hs : ∀ n, m.sec? n = s.sec? n := fun n => by rw [State.sec?, hsec]; rfl
  obtain ⟨hdet, hrest⟩ := h
  rw [State.detOf, hs] at hdet
  refine ⟨hdet, fun x hx => ?_⟩
  obtain ⟨h1, h2⟩ := hrest x ((hs n).trans hx)
  refine ⟨?_, h2⟩
  rw [← h1]
  simp only [State.inStoppedZone, State.zoneStopped, hlines, hsite]

theorem exec_taken {c : Instr} (hdone : s.IntakeDone) (hwf : s.TablesWf) (hexec : exec c s = .next t)
    (hs : s.holdBy u n = none) (ht : t.holdBy u n ≠ none) : s.TakenBy c u n := by
  rw [State.intakeDone_iff] at hdone
  cases exec_course hexec with
  | held => exact absurd hs ht
  | restart => exact absurd rfl ht
  | event h => exact absurd (State.NoneGained.takes ((h fun _ => False).noneGained hwf id id id) hs) ht
  | walk =>
    have hgrant := State.walkIfDue_granting hwf
    have hne : s.walkIfDue.holdOf n ≠ s.holdOf n := fun heq => ht ((State.holdBy_congr_hold heq u).trans hs)
    obtain ⟨k, hk⟩ := Option.ne_none_iff_exists'.mp ht
    obtain ⟨e, he⟩ := State.holdOf_of_holdBy hk
    exact .inr ⟨.inr (.inr rfl), (hgrant.takable hne he).1⟩
  | @opsFrame _ o ty tag p hold h =>
    obtain ⟨m, hports, hm⟩ := State.frameArrives_once hold (hdone (.ops o)) ⟨ty, tag :: p⟩
    have hnone : s.NoneGained (s.frameArrives (.ops o) ⟨ty, tag :: p⟩) := by
      rcases hm with hm | hm <;> rw [hm]
      · exact hports.noneGained
      · exact hports.noneGained.trans (State.own_ops_noneGained (hports.tablesWf hwf) _).1
    exact absurd (hnone.takes hs) ht
  | @tlFrame _ v ty p hold h =>
    obtain ⟨hjoin, hroute⟩ := tlFrame_taking h
    obtain ⟨m, hports, hm⟩ := State.frameArrives_once hold (hdone (.tl v)) ⟨ty, p⟩
    have hgained : s.Gained (s.frameArrives (.tl v) ⟨ty, p⟩) v (ty = Config.tyJoin) (ty = Config.tyRoute) := by
      rcases hm with hm | hm <;> rw [hm]
      · exact hports.gained
      · exact hports.gained.trans (State.own_tl_gained (hports.tablesWf hwf) ⟨ty, p⟩)
    obtain ⟨rfl, ⟨hty, hrest⟩ | ⟨hty, hrest⟩⟩ := hgained.takes hs ht
    · exact .inl ⟨.inl ⟨p, hjoin hty⟩, hrest⟩
    · exact .inr ⟨.inl ⟨p, hroute hty⟩, hrest⟩
  | @bytes _ l bs hold h =>
    cases l with
    | ops o => exact absurd ((State.receiveBytes_takes (.ops o) bs s).noneGained hwf |>.takes hs) ht
    | tl v =>
      obtain ⟨rfl, ⟨-, hrest⟩ | ⟨-, hrest⟩⟩ := ((State.receiveBytes_takes (.tl v) bs s).gained hwf).takes hs ht
      · exact .inl ⟨.inr h, hrest⟩
      · exact .inr ⟨.inr (.inl h), hrest⟩
  | @startOps o hold => exact absurd ((s.startOps_takes o).noneGained hwf |>.takes hs) ht

/-! ## A section newly GRANTED (R48 to R52) -/

theorem State.Routed.of_same (h : m.Routed t) (hsec : m.sections = s.sections) (hpoints : m.points = s.points)
    (hlines : m.lines = s.lines) (hsite : m.site = s.site) : s.Routed t := by
  obtain ⟨z, hz, hwf, hgrant⟩ := h
  have hm := State.cleared_of_same hsec hpoints hlines hsite
  have hold : ∀ n, m.holdOf n = s.holdOf n := fun n => by rw [State.holdOf, State.sec?, hsec]; rfl
  exact ⟨z, ⟨hm.same.trans hz.same, hz.zones.trans hm.zones, hz.points.trans hpoints,
    fun n => by rw [← hold]; exact hz.hold n⟩, hwf, hgrant⟩

theorem State.own_route_routed (hwf : s.TablesWf) (p : List Byte) : s.Routed (s.own (.tl u) ⟨Config.tyRoute, p⟩) := by
  have hown : s.own (.tl u) ⟨Config.tyRoute, p⟩ = (s.reloadSupervision u).onRoute u p := rfl
  obtain ⟨honly, -⟩ := s.reloadSupervision_spec u
  rw [hown]
  refine State.Routed.of_same (State.onRoute_routed ?_ u p) ?_ ?_ ?_ ?_
  case refine_1 =>
    rw [honly]
    exact hwf
  all_goals rw [honly]

/-- A ROUTE and the walk drop reservations at most and make grants. -/
theorem exec_routed {c : Instr} (hdone : s.IntakeDone) (hwf : s.TablesWf)
    (hc : (∃ q, c = .route u q) ∨ c = .pendingQueueWalk) (hexec : exec c s = .next t) : s.Routed t := by
  rw [State.intakeDone_iff] at hdone
  have hself : s.Cleared s := State.cleared_of_same rfl rfl rfl rfl
  have hlive : ∀ f : State → State, (s.resetHold = none → s.Routed (f s)) → s.Routed (s.live f) := fun f hf => by
    cases hold : s.resetHold with
    | none =>
      rw [State.live_eq hold]
      exact hf hold
    | some r =>
      rw [State.live_held hold]
      exact hself.routed hwf
  rcases hc with ⟨q, rfl⟩ | rfl
  · have hframe : exec (.route u q) s = .next (s.live fun s => s.frameArrives (.tl u) ⟨Config.tyRoute, q⟩) := rfl
    cases hframe.symm.trans hexec
    refine hlive _ fun hold => ?_
    obtain ⟨m, hports, hm⟩ := State.frameArrives_once hold (hdone (.tl u)) ⟨Config.tyRoute, q⟩
    have honly := hports.only
    rcases hm with hm | hm <;> rw [hm]
    · refine (State.cleared_of_same ?_ ?_ ?_ ?_).routed (hports.tablesWf hwf) <;> rw [honly]
    · refine State.Routed.of_same (State.own_route_routed (hports.tablesWf hwf) q) ?_ ?_ ?_ ?_ <;> rw [honly]
  · have hwalk : exec .pendingQueueWalk s = .next (s.live State.walkIfDue) := rfl
    cases hwalk.symm.trans hexec
    exact hlive _ fun _ => ⟨s, hself, hwf, State.walkIfDue_granting hwf⟩

/-- Settles O15: only JOIN, ROUTE and the walk bring a section, and a section newly GRANTED is secured for its holder. -/
theorem grantSafety : Obligations.GrantSafety := by
  refine ⟨fun c s t u n hdone hwf hexec hs ht => ?_, fun c s t u n hdone hwf hc hexec hs ht => ?_⟩
  · rcases exec_taken hdone hwf hexec hs ht with h | h
    · exact .inl h
    · exact .inr h
  · obtain ⟨z, hz, hwfz, hgrant⟩ := exec_routed hdone hwf hc hexec
    have hzn : z.holdBy u n ≠ some .granted := by
      rcases hz.hold n with hh | ⟨hh, -⟩
      · rw [State.holdBy_congr_hold hh]
        exact hs
      · rw [State.holdBy_of_none hh]
        exact nofun
    obtain ⟨b, hb⟩ := State.holdOf_of_holdBy ht
    have hne : t.holdOf n ≠ z.holdOf n := fun heq => hzn ((State.holdBy_congr_hold heq u).symm.trans ht)
    obtain ⟨htakable, rfl⟩ := hgrant.takable hne hb
    obtain ⟨hdet, hrest⟩ := hz.takable htakable
    obtain ⟨e, before, after, hrun, hsec, hpoint⟩ := hgrant.secured u n hzn ht
    refine ⟨hb, hdet, hrest, before, e, after, hrun.entries, hsec, hrun.before, by rw [← hz.same.groupOf]; exact hrun.unit,
      fun p x hx => ?_⟩
    obtain ⟨⟨hlock, hlatch, hpos, hout⟩, hbefore⟩ := hpoint p x hx
    refine ⟨hlock, hlatch, hpos, fun y hy => hbefore y ?_, hout⟩
    rw [State.point?, hz.points]
    exact hy

end

end Sys2Proof.Machine

/-! PROOFS. What the grant of one transporter leaves of another's: its runs, what is available to it, its reservation, and
where its own grant has stopped (R48 to R53). -/

namespace Sys2Proof.Machine

section
variable {s u : State} {t v : TId} {es : List Entry}

/-! ## Runs -/

/-- What a record shows of the holds is the same where the entries and the holds are. -/
structure State.SameRuns (s u : State) (v : TId) : Prop where
  entries : (u.route v).entries = (s.route v).entries
  hold : ∀ n, u.holdBy v n = s.holdBy v n
  same : s.SameSections u

theorem State.SameRuns.run (h : s.SameRuns u v) (k : HoldKind) : u.run v k = s.run v k := by
  simp only [State.run, h.entries, h.hold]

theorem State.SameRuns.grantedRun (h : s.SameRuns u v) : u.grantedRun v = s.grantedRun v := h.run _
theorem State.SameRuns.settingRun (h : s.SameRuns u v) : u.settingRun v = s.settingRun v := h.run _
theorem State.SameRuns.pendingRun (h : s.SameRuns u v) : u.pendingRun v = s.pendingRun v := h.run _
theorem State.SameRuns.tail (h : s.SameRuns u v) : u.tail v = s.tail v := by simp only [State.tail, h.entries, h.hold]

theorem State.SameRuns.fullyGranted (h : s.SameRuns u v) : u.fullyGranted v = s.fullyGranted v := by
  rw [State.fullyGranted, State.fullyGranted, h.settingRun, h.tail]

theorem State.SameRuns.nextUnit (h : s.SameRuns u v) : u.nextUnit v = s.nextUnit v := by
  simp only [State.nextUnit, h.entries, h.hold, h.same.groupOf]

/-! ## Throws -/

theorem State.queuedThrow_blade {p : Nat} {c : BusCmd} (h : s.queuedThrow p = some c) :
    s.outstanding p = c.func.blade.map (fun b => (c.req, b)) ∧ c.func.blade.isSome = true := by
  refine ⟨by rw [State.outstanding, h], ?_⟩
  have := List.find?_some h
  exact (Bool.and_eq_true_iff.mp this).1

/-- What a grant of t does to the throws outstanding: there may be one of t's own where there was none. -/
theorem State.Serves.outstanding_cases (h : s.Serves u t es) (p : Nat) :
    u.outstanding p = s.outstanding p ∨ s.outstanding p = none ∧ ∃ b, u.outstanding p = some (.tr t, b) := by
  obtain ⟨cs, hcs, hthrow⟩ := h.queue
  by_cases hno : ∀ c ∈ cs, c.entity ≠ p
  · exact .inl (State.outstanding_of_append hcs hno (h.points p))
  · right
    have hex : ∃ c ∈ cs, c.entity = p := by simpa only [not_forall, not_not, exists_prop] using hno
    obtain ⟨c, hc, rfl⟩ := hex
    obtain ⟨-, hblade, hout, -⟩ := hthrow c hc
    have hold : s.queuedThrow c.entity = none := by
      cases hq : s.queuedThrow c.entity with
      | none => rfl
      | some d =>
        obtain ⟨h1, h2⟩ := State.queuedThrow_blade hq
        obtain ⟨b, hb⟩ := Option.isSome_iff_exists.mp h2
        rw [hb, hout] at h1
        exact nomatch h1
    have hfound : u.queuedThrow c.entity = cs.find? fun d => d.func.blade.isSome && decide (d.entity = c.entity) := by
      rw [State.queuedThrow, hcs, List.find?_append]
      exact (congrArg (Option.or · _) hold).trans (Option.none_or ..)
    cases hq : u.queuedThrow c.entity with
    | none =>
      have hc' := List.find?_eq_none.mp (hfound.symm.trans hq) c hc
      exact absurd (Bool.and_eq_true_iff.mpr ⟨Option.isSome_iff_ne_none.mpr hblade, decide_eq_true rfl⟩) hc'
    | some d =>
      obtain ⟨h1, h2⟩ := State.queuedThrow_blade hq
      obtain ⟨b, hb⟩ := Option.isSome_iff_exists.mp h2
      rw [hb, (hthrow d (List.mem_of_find?_eq_some (hfound.symm.trans hq))).1] at h1
      exact ⟨hout, b, h1⟩

/-! ## Another transporter -/

theorem State.Serves.holdBy_other (h : s.Serves u t es) (hv : v ≠ t) (n : Nat) : u.holdBy v n = s.holdBy v n := by
  have hother : ∀ {z : State} {k : HoldKind} {e : Bool}, z.holdOf n = some ⟨t, k, e⟩ → z.holdBy v n = none := fun hz => by
    rw [State.holdBy_of_hold hz, if_neg hv.symm]
  by_cases hn : n ∈ es.map (·.sec)
  · rw [hother (h.granted n hn)]
    obtain ⟨e, he, rfl⟩ := List.mem_map.mp hn
    rcases State.holdOf_of_available (h.available e he).1 with hh | ⟨x, hx, hxt, -⟩
    · rw [State.holdBy_of_none hh]
    · rw [State.holdBy_of_hold hx, hxt, if_neg hv.symm]
  · rcases h.rest n hn with hr | ⟨hr, hs, -⟩ | ⟨hr, hs, -⟩
    · exact State.holdBy_congr_hold hr v
    · rw [State.holdBy_of_none hr, State.holdBy_other hs hv]
    · rw [hother hr, State.holdBy_of_none hs]

theorem State.EvaluatedAs.sameRuns {m r : State} (h : s.EvaluatedAs m r u t es) (hwf : s.TablesWf) (hv : v ≠ t) : s.SameRuns u v :=
  ⟨by rw [(h.others hv).2.1], (h.serves hwf).holdBy_other hv, (h.serves hwf).ground⟩

theorem State.Serves.same (h : s.Serves u t es) : s.SameSections u := h.ground

theorem State.Serves.inStoppedZone (h : s.Serves u t es) : u.inStoppedZone = s.inStoppedZone := by
  funext z
  simp only [State.inStoppedZone, State.zoneStopped, h.lines, h.site]

/-- The point of a section whose point is none of those granted is as it was. -/
theorem State.Serves.pointOf_other (h : s.Serves u t es) (hwf : Table.wf s.points = true) (hwfu : Table.wf u.points = true)
    {n p : Nat} (hkey : (s.pointOf n).map (·.1) = some p) (hno : ∀ e ∈ es, (s.pointOf e.sec).map (·.1) ≠ some p) :
    u.pointOf n = s.pointOf n := by
  obtain ⟨⟨q, x⟩, hx, rfl⟩ := Option.map_eq_some_iff.mp hkey
  rw [hx]
  refine (State.pointOf_eq_some_iff hwfu).mpr ⟨(h.keys n).trans hkey, ?_⟩
  rw [h.points, (State.pointOf_point hwf hx).1, Option.map_some, if_neg fun ⟨e, he, hp⟩ => hno e he hp]

/-- Every point is where it was. -/
theorem State.Serves.inPosition (h : s.Serves u t es) (hwf : Table.wf s.points = true) (hwfu : Table.wf u.points = true)
    (e : Entry) : u.inPosition e = s.inPosition e := by
  have hkey := h.keys e.sec
  unfold State.inPosition
  cases hs : s.pointOf e.sec with
  | none =>
    rw [hs, Option.map_none, Option.map_eq_none_iff] at hkey
    rw [hkey]
  | some q =>
    obtain ⟨p, x⟩ := q
    rw [hs, Option.map_some] at hkey
    obtain ⟨⟨p', y⟩, hy, rfl⟩ := Option.map_eq_some_iff.mp hkey
    have hpoint := (State.pointOf_point hwfu hy).1
    rw [h.points, (State.pointOf_point hwf hs).1, Option.map_some] at hpoint
    rw [hy, ← Option.some.inj hpoint]

/-- What R49 asks of an entry. -/
theorem State.available_iff {e : Entry} : s.available t e = true ↔ (s.sec? e.sec).isSome = true ∧
    (s.holdOf e.sec = none ∨ s.holdBy t e.sec = some .setting) ∧ s.detOf e.sec = .clear ∧
    (∀ x, s.sec? e.sec = some x → s.inStoppedZone x.defn.zones = false) ∧
    ∀ p x, s.pointOf e.sec = some (p, x) → x.latch = none ∧ (x.lock = none ∨ x.lock = some t) ∧
      ∀ r b, s.outstanding p = some (r, b) → r = .tr t ∧ b = requiredBlade e.ent e.ext := by
  constructor
  · intro h
    obtain ⟨hdet, hzone⟩ := State.clear_of_available h
    refine ⟨State.isSome_of_available h, (State.holdOf_of_available h).imp_right ?_, hdet, hzone,
      fun p x hx => State.point_of_available h hx⟩
    rintro ⟨x, hx, ht, hk⟩
    rw [State.holdBy_of_hold hx, if_pos ht, hk]
  · rintro ⟨hsome, hhold, hdet, hzone, hpoint⟩
    obtain ⟨x, hx⟩ := Option.isSome_iff_exists.mp hsome
    have hpa : s.pointAvailable t e = true := by
      unfold State.pointAvailable
      cases hp : s.pointOf e.sec with
      | none => rfl
      | some q =>
        obtain ⟨p, y⟩ := q
        obtain ⟨h1, h2, h3⟩ := hpoint p y hp
        simp only [h1, Option.isNone_none, Bool.true_and, Bool.and_eq_true, decide_eq_true_eq]
        refine ⟨h2, ?_⟩
        cases hout : s.outstanding p with
        | none => rfl
        | some w => exact decide_eq_true (h3 w.1 w.2 hout)
    have hd : x.det = .clear := by
      rw [State.detOf, hx] at hdet
      exact hdet
    unfold State.available
    rw [hx]
    simp only [hd, hzone x hx, hpa, decide_true, Bool.not_false, Bool.and_true]
    rw [State.holdOf, hx, Option.bind_some] at hhold
    cases hh : x.hold with
    | none => rfl
    | some k =>
      rcases hhold with hno | hset
      · exact absurd (hno.symm.trans hh) nofun
      · rw [State.holdBy_of_hold (h := k) (by rw [State.holdOf, hx]; exact hh)] at hset
        split at hset
        · next ht => exact decide_eq_true ⟨ht, Option.some.inj hset⟩
        · exact nomatch hset

/-- What is available to v after a grant of t that drops nothing was available before, with the same point and throw. -/
theorem State.Serves.available_of (h : s.Serves u t es) (hwf : Table.wf s.points = true) (hwfu : Table.wf u.points = true)
    (hv : v ≠ t) (hdue : u.walkDue = false) {e : Entry} (ha : u.available v e = true) : s.available v e = true ∧
      ∀ p, (s.pointOf e.sec).map (·.1) = some p → u.pointOf e.sec = s.pointOf e.sec ∧ u.outstanding p = s.outstanding p := by
  obtain ⟨hsome, hhold, hdet, hzone, hpoint⟩ := State.available_iff.mp ha
  have hnot : ∀ f ∈ es, (s.pointOf f.sec).map (·.1) = (s.pointOf e.sec).map (·.1) → (s.pointOf e.sec).map (·.1) = none :=
    fun f hf hkey => by
      cases hp : (s.pointOf e.sec).map (·.1) with
      | none => rfl
      | some p =>
        have hsec := State.sec_of_pointOf hwf (hkey.trans hp) hp
        have hg := h.granted e.sec (hsec ▸ List.mem_map_of_mem hf)
        rw [hg, State.holdBy_of_hold hg, if_neg hv.symm] at hhold
        exact hhold.elim nofun nofun
  have hpt : ∀ p, (s.pointOf e.sec).map (·.1) = some p → u.pointOf e.sec = s.pointOf e.sec ∧ u.outstanding p = s.outstanding p :=
    fun p hkey => by
      have hsame := h.pointOf_other hwf hwfu hkey fun f hf hfk => absurd ((hnot f hf (hfk.trans hkey.symm)).symm.trans hkey) nofun
      refine ⟨hsame, (h.outstanding_cases p).resolve_right fun ⟨_, b, hb⟩ => ?_⟩
      obtain ⟨⟨q, x⟩, hx, rfl⟩ := Option.map_eq_some_iff.mp hkey
      have hreq := ((hpoint q x (hsame.trans hx)).2.2 _ _ hb).1
      exact hv (Requester.tr.inj hreq).symm
  refine ⟨State.available_iff.mpr ⟨?_, ?_, by rw [← h.same.detOf]; exact hdet, fun x hx => ?_, fun p x hx => ?_⟩, hpt⟩
  · obtain ⟨y, hy⟩ := Option.isSome_iff_exists.mp hsome
    obtain ⟨x, hx, -⟩ := h.same.symm.sec hy
    rw [hx]
    rfl
  · rw [h.holdBy_other hv] at hhold
    refine hhold.imp_left fun hno => ?_
    have hn : e.sec ∉ es.map (·.sec) := fun hmem => absurd ((h.granted _ hmem).symm.trans hno) nofun
    rcases h.rest _ hn with hr | ⟨-, -, -, hw⟩ | ⟨hr, -⟩
    · exact hr.symm.trans hno
    · exact absurd (hw.symm.trans hdue) nofun
    · exact absurd (hr.symm.trans hno) nofun
  · obtain ⟨y, hy, hd, -⟩ := h.same.sec hx
    rw [← h.inStoppedZone, ← hd]
    exact hzone y hy
  · obtain ⟨h1, h2⟩ := hpt p (by rw [hx]; rfl)
    rw [← h2]
    exact hpoint p x (h1.trans hx)

/-- What v holds SETTING stays available to it. -/
theorem State.Serves.available_keeps (h : s.Serves u t es) (hwf : Table.wf s.points = true) (hwfu : Table.wf u.points = true)
    (hv : v ≠ t) {e : Entry} (ha : s.available v e = true) (hset : s.holdBy v e.sec = some .setting) :
    u.available v e = true ∧ ∀ p, (s.pointOf e.sec).map (·.1) = some p →
      u.pointOf e.sec = s.pointOf e.sec ∧ u.outstanding p = s.outstanding p := by
  obtain ⟨hsome, -, hdet, hzone, hpoint⟩ := State.available_iff.mp ha
  obtain ⟨b, hb⟩ := State.holdOf_of_holdBy hset
  have hnot : ∀ f, s.available t f = true → ∀ p, (s.pointOf e.sec).map (·.1) = some p → (s.pointOf f.sec).map (·.1) ≠ some p :=
    fun f hf p hp hfp => by
      have hsec := State.sec_of_pointOf hwf hfp hp
      rcases hsec ▸ State.holdOf_of_available hf with hno | ⟨x, hx, hxt, -⟩
      · exact absurd (hno.symm.trans hb) nofun
      · cases hb.symm.trans hx
        exact hv hxt
  have hpt : ∀ p, (s.pointOf e.sec).map (·.1) = some p →
      u.pointOf e.sec = s.pointOf e.sec ∧ u.outstanding p = s.outstanding p := fun p hp =>
    ⟨h.pointOf_other hwf hwfu hp fun f hf => hnot f (h.available f hf).1 p hp, h.outstanding fun f _ hf _ => hnot f hf p hp⟩
  refine ⟨State.available_iff.mpr ⟨?_, .inr ((h.holdBy_other hv _).trans hset), by rw [h.same.detOf]; exact hdet,
    fun y hy => ?_, fun p y hy => ?_⟩, hpt⟩
  · obtain ⟨x, hx⟩ := Option.isSome_iff_exists.mp hsome
    obtain ⟨y, hy, -⟩ := h.same.sec hx
    rw [hy]
    rfl
  · obtain ⟨x, hx, hd, -⟩ := h.same.symm.sec hy
    rw [h.inStoppedZone, ← hd]
    exact hzone x hx
  · have hkey : (s.pointOf e.sec).map (·.1) = some p := by
      rw [← h.keys, hy]
      rfl
    obtain ⟨h1, h2⟩ := hpt p hkey
    rw [h2]
    exact hpoint p y (h1.symm.trans hy)

end

end Sys2Proof.Machine

/-! PROOFS. Reservations, and where a grant has stopped, through the grants of others (R50 to R53). -/

namespace Sys2Proof.Machine

/-- t has its next unit es reserved: available, some point out of position, every section held SETTING, and its throw
outstanding for each such point (R52). -/
structure State.ReservedUnit (s : State) (t : TId) (es : List Entry) : Prop where
  unit : s.nextUnit t = es
  available : ∀ e ∈ es, s.available t e = true
  out : ∃ e ∈ es, s.inPosition e = false
  setting : ∀ e ∈ es, s.holdBy t e.sec = some .setting
  thrown : ∀ e ∈ es, s.inPosition e = false → ∃ p x,
    s.pointOf e.sec = some (p, x) ∧ s.outstanding p = some (.tr t, requiredBlade e.ent e.ext)
  room : s.cmdQueue.length ≤ Config.cmdCapacity

section
variable {s m r u : State} {t v : TId} {es us : List Entry}

theorem State.ReservedUnit.grantStops (h : s.ReservedUnit t us) : s.GrantStops t where
  unavailable := fun ⟨e, he, hno⟩ => absurd ((h.available e (h.unit ▸ he)).symm.trans hno) nofun
  granted _ _ := h.unit ▸ h.out
  setting _ _ := .inl ⟨fun e he => List.mem_filter.mpr ⟨(s.nextUnit_sublist t).subset he,
    decide_eq_true (h.setting e (h.unit ▸ he))⟩, fun e he hout => h.thrown e (h.unit ▸ he) hout⟩

/-! ## Through the grant of another -/

theorem State.Serves.sameRuns (h : s.Serves u t es) (hv : v ≠ t) (hentries : (u.route v).entries = (s.route v).entries) :
    s.SameRuns u v := ⟨hentries, h.holdBy_other hv, h.ground⟩

theorem State.ReservedUnit.keeps (hr : s.ReservedUnit v us) (h : s.Serves u t es) (hwf : Table.wf s.points = true)
    (hwfu : Table.wf u.points = true) (hv : v ≠ t) (hentries : (u.route v).entries = (s.route v).entries) :
    u.ReservedUnit v us := by
  have hkeep : ∀ e ∈ us, _ := fun e he => h.available_keeps hwf hwfu hv (hr.available e he) (hr.setting e he)
  obtain ⟨e, he, hout⟩ := hr.out
  refine ⟨(h.sameRuns hv hentries).nextUnit.trans hr.unit, fun e he => (hkeep e he).1,
    ⟨e, he, (h.inPosition hwf hwfu e).trans hout⟩, fun e he => (h.holdBy_other hv _).trans (hr.setting e he),
    fun f hf hfout => ?_, h.room hr.room⟩
  obtain ⟨p, x, hp, hthrow⟩ := hr.thrown f hf ((h.inPosition hwf hwfu f).symm.trans hfout)
  obtain ⟨h1, h2⟩ := (hkeep f hf).2 p (by rw [hp]; rfl)
  exact ⟨p, x, h1.trans hp, h2.trans hthrow⟩

/-- Throws that do not fit before fit no more after another's grant. -/
theorem State.Serves.offerOk_of (h : s.Serves u t es) {cs : List BusCmd} (ho : u.offerOk cs = true) : s.offerOk cs = true := by
  obtain ⟨qs, hqs, -⟩ := h.queue
  unfold State.offerOk at ho ⊢
  rw [Bool.and_eq_true] at ho ⊢
  obtain ⟨hlen, hall⟩ := ho
  refine ⟨decide_eq_true ?_, List.all_eq_true.mpr fun c hc => ?_⟩
  · have := of_decide_eq_true hlen
    rw [hqs, List.length_append] at this
    omega
  · have hcu := List.all_eq_true.mp hall c hc
    rw [Bool.and_eq_true] at hcu ⊢
    obtain ⟨hunit, hthrow⟩ := hcu
    refine ⟨?_, ?_⟩
    · have : u.unit? c.addr = s.unit? c.addr := by
        rw [State.unit?, h.units]
        rfl
      rw [this] at hunit
      exact hunit
    · rw [Bool.or_eq_true] at hthrow ⊢
      refine hthrow.imp_right fun hnone => ?_
      rcases h.outstanding_cases c.entity with heq | ⟨hs, -⟩
      · rw [← heq]
        exact hnone
      · rw [hs]
        rfl

theorem State.throwFor_congr {e : Entry} (hp : u.pointOf e.sec = s.pointOf e.sec)
    (hout : ∀ p, (s.pointOf e.sec).map (·.1) = some p → u.outstanding p = s.outstanding p) : u.throwFor t e = s.throwFor t e := by
  unfold State.throwFor
  rw [hp]
  cases hs : s.pointOf e.sec with
  | none => rfl
  | some q =>
    obtain ⟨p, x⟩ := q
    dsimp only
    rw [hout p (by rw [hs]; rfl)]

/-- Where v's grant has stopped it stays so through another's that drops nothing. -/
theorem State.GrantStops.keeps (hs : s.GrantStops v) (h : s.Serves u t es) (hwf : Table.wf s.points = true)
    (hwfu : Table.wf u.points = true) (hv : v ≠ t) (hdue : u.walkDue = false)
    (hentries : (u.route v).entries = (s.route v).entries) : u.GrantStops v := by
  have hruns := h.sameRuns hv hentries
  have hmem : ∀ e ∈ s.settingRun v, s.holdBy v e.sec = some .setting := fun e he => of_decide_eq_true (List.mem_filter.mp he).2
  have hback : (∀ e ∈ s.nextUnit v, u.available v e = true) → ∀ e ∈ s.nextUnit v, s.available v e = true := fun ha e he =>
    (h.available_of hwf hwfu hv hdue (ha e he)).1
  rw [← hruns.nextUnit] at hback
  constructor
  · rintro ⟨e, he, hno⟩
    rw [hruns.settingRun]
    rw [hruns.nextUnit] at he
    by_cases hall : ∀ f ∈ s.nextUnit v, s.available v f = true
    · rcases hs.setting (List.ne_nil_of_mem he) hall with ⟨hset, -⟩ | ⟨hnil, -⟩
      · exact absurd ((h.available_keeps hwf hwfu hv (hall e he) (hmem e (hset e he))).1.symm.trans hno) nofun
      · exact hnil
    · refine hs.unavailable ?_
      simpa only [not_forall, Bool.not_eq_true, exists_prop] using hall
  · intro hne ha
    have hall := hback ha
    rw [hruns.nextUnit] at hne hall ⊢
    obtain ⟨e, he, hout⟩ := hs.granted hne hall
    exact ⟨e, he, (h.inPosition hwf hwfu e).trans hout⟩
  · intro hne ha
    have hall := hback ha
    rw [hruns.nextUnit] at hne hall ha ⊢
    rw [hruns.settingRun]
    rcases hs.setting hne hall with ⟨hset, hthrow⟩ | ⟨hnil, hwait, hoffer⟩
    · refine .inl ⟨hset, fun e he hout => ?_⟩
      obtain ⟨p, x, hp, hpout⟩ := hthrow e he ((h.inPosition hwf hwfu e).symm.trans hout)
      obtain ⟨h1, h2⟩ := (h.available_keeps hwf hwfu hv (hall e he) (hmem e (hset e he))).2 p (by rw [hp]; rfl)
      exact ⟨p, x, h1.trans hp, h2.trans hpout⟩
    · refine .inr ⟨hnil, h.roomWait hwait, ?_⟩
      have hthrows : (s.nextUnit v).filterMap (u.throwFor v) = (s.nextUnit v).filterMap (s.throwFor v) := by
        refine List.filterMap_congr fun e he => ?_
        have hpt := (h.available_of hwf hwfu hv hdue (ha e he)).2
        refine State.throwFor_congr ?_ fun p hp => (hpt p hp).2
        cases hp : (s.pointOf e.sec).map (·.1) with
        | some p => exact (hpt p hp).1
        | none =>
          have hu := (h.keys e.sec).trans hp
          rw [Option.map_eq_none_iff] at hp hu
          rw [hp, hu]
      rw [hthrows]
      exact eq_false_of_ne_true fun ho => absurd ((h.offerOk_of ho).symm.trans hoffer) nofun

/-! ## After its own evaluation -/

theorem State.nextUnit_of_granted (hentries : (u.route t).entries = (s.route t).entries)
    (hgrant : ∀ n, u.holdBy t n = some .granted ↔ s.holdBy t n = some .granted) (hsame : s.SameSections u) :
    u.nextUnit t = s.nextUnit t := by
  simp only [State.nextUnit, hentries, hgrant, hsame.groupOf]

/-- What a drop leaves of the holds. -/
theorem State.holdBy_of_drop (hd : u = m.dropSetting t) (n : Nat) :
    u.holdBy t n = if m.holdBy t n = some .setting ∧ m.inRecord t n then none else m.holdBy t n := by
  rw [State.holdBy_eq, State.sec_of_drop hd]
  split
  · cases m.sec? n <;> rfl
  · rw [State.holdBy_eq]
    cases m.sec? n <;> rfl

/-- What t's entries find after its reservation is dropped. -/
theorem State.drop_track (hd : u = m.dropSetting t) : u.settingRun t = [] ∧ u.nextUnit t = m.nextUnit t ∧
    (∀ e, u.available t e = true → m.available t e = true) ∧ (∀ e, u.inPosition e = m.inPosition e) ∧
    (∀ e, u.throwFor t e = m.throwFor t e) ∧ ∀ cs, u.offerOk cs = m.offerOk cs := by
  obtain ⟨-, honly, -⟩ := m.dropSetting_frame t
  rw [← hd] at honly
  have hsec := State.sec_of_drop hd
  have hhold := State.holdBy_of_drop hd
  have hentries : (u.route t).entries = (m.route t).entries := by rw [honly]; rfl
  have hpt : ∀ n, u.pointOf n = m.pointOf n := fun n => by rw [honly]; rfl
  have hout : ∀ p, u.outstanding p = m.outstanding p := fun p => by rw [honly]; rfl
  have hsame : m.SameSections u := fun n => by
    rw [hsec, Option.map_map]
    rfl
  have hzone : u.inStoppedZone = m.inStoppedZone := by rw [honly]; rfl
  refine ⟨?_, State.nextUnit_of_granted hentries (fun n => ?_) hsame, fun e ha => ?_,
    fun e => by simp only [State.inPosition, hpt], fun e => by simp only [State.throwFor, hpt, hout],
    fun cs => by rw [honly]; rfl⟩
  · rw [State.settingRun, State.run, List.filter_eq_nil_iff]
    intro e he
    rw [hhold]
    have hin : m.inRecord t e.sec := ⟨e, hentries ▸ he, rfl⟩
    by_cases hs : m.holdBy t e.sec = some .setting
    · rw [if_pos ⟨hs, hin⟩]
      decide
    · rw [if_neg fun hc => hs hc.1, decide_eq_true_eq]
      exact hs
  · rw [hhold]
    split
    · next hc =>
      rw [hc.1]
      exact ⟨nofun, nofun⟩
    · exact Iff.rfl
  · obtain ⟨h1, h2, h3, h4, h5⟩ := State.available_iff.mp ha
    refine State.available_iff.mpr ⟨?_, ?_, by rw [← hsame.detOf]; exact h3, fun x hx => ?_, fun p x hx => ?_⟩
    · obtain ⟨y, hy⟩ := Option.isSome_iff_exists.mp h1
      obtain ⟨x, hx, -⟩ := hsame.symm.sec hy
      rw [hx]
      rfl
    · by_cases hs : m.holdBy t e.sec = some .setting
      · exact .inr hs
      · have hsame : u.holdOf e.sec = m.holdOf e.sec := by
          rw [State.holdOf, hsec]
          simp only [if_neg fun hc : m.holdBy t e.sec = some .setting ∧ m.inRecord t e.sec => hs hc.1]
          rw [State.holdOf]
          cases m.sec? e.sec <;> rfl
        rw [hsame, State.holdBy_congr_hold hsame] at h2
        exact h2
    · obtain ⟨y, hy, hd', -⟩ := hsame.sec hx
      rw [← hzone, ← hd']
      exact h4 y hy
    · rw [← hout]
      exact h5 p x ((hpt _).trans hx)

theorem State.settingRun_of_whole (h : m.nextUnit t = []) : m.settingRun t = [] := by
  have hall := List.dropWhile_eq_nil_iff.mp (State.nextUnit_eq_nil.mp h)
  rw [State.settingRun, State.run, List.filter_eq_nil_iff]
  intro e he
  rw [of_decide_eq_true (hall e he)]
  decide

/-- A unit reserved with its throws. -/
theorem State.UnitReserved.reservedUnit {z : State} (hwf : Table.wf m.points = true)
    (hnodup : ((m.route t).entries.map (·.sec)).Nodup) (hav : ∀ e ∈ m.nextUnit t, m.available t e = true)
    (hp : ∃ e ∈ m.nextUnit t, m.inPosition e = false) (hroom : m.offerOk ((m.nextUnit t).filterMap (m.throwFor t)) = true)
    (hz : m.UnitReserved z t (m.nextUnit t)) : z.ReservedUnit t (m.nextUnit t) := by
  have honly := hz.only
  have hsame : m.SameSections z := fun n => by
    rw [hz.sections, Option.map_map]
    rfl
  have hpt : ∀ n, z.pointOf n = m.pointOf n := hz.pointOf
  have hpos : ∀ e, z.inPosition e = m.inPosition e := fun e => by simp only [State.inPosition, hpt]
  have hset : ∀ e ∈ m.nextUnit t, z.holdBy t e.sec = some .setting := fun e he => by
    obtain ⟨x, hx⟩ := Option.isSome_iff_exists.mp (State.isSome_of_available (hav e he))
    rw [State.holdBy_eq, hz.sections, hx]
    by_cases hs : m.holdBy t e.sec = some .setting
    · rw [State.holdBy_eq, hx] at hs
      simp only [Option.map_some, Option.bind_some]
      rw [if_neg fun hc => hc.2 (by rw [State.holdBy_eq, hx]; exact hs)]
      exact hs
    · simp only [Option.map_some, Option.bind_some]
      rw [if_pos ⟨List.mem_map_of_mem he, hs⟩]
      simp
  have hnd : ((m.nextUnit t).map (·.sec)).Nodup := hnodup.sublist ((m.nextUnit_sublist t).map _)
  have hout : ∀ e ∈ m.nextUnit t, ∀ p x, m.pointOf e.sec = some (p, x) → z.outstanding p =
      if m.inPosition e = false then some (.tr t, requiredBlade e.ent e.ext) else m.outstanding p :=
    fun e he p x hx => hz.outstanding_own hwf hnd hav he hx
  obtain ⟨e, he, heout⟩ := hp
  refine ⟨State.nextUnit_of_granted (by rw [honly]; rfl) (fun n => ?_) hsame, fun e he => ?_, ⟨e, he, (hpos e).trans heout⟩, hset,
    fun f hf hfout => ?_, ?_⟩
  · by_cases hn : n ∈ (m.nextUnit t).map (·.sec)
    · obtain ⟨e, he, rfl⟩ := List.mem_map.mp hn
      rw [hset e he]
      exact ⟨nofun, fun hg => absurd hg (State.not_granted_of_available (hav e he))⟩
    · have hhold : z.holdOf n = m.holdOf n := by
        rw [State.holdOf, hz.sections, State.holdOf]
        simp only [hn, false_and, if_false]
        cases m.sec? n <;> rfl
      rw [State.holdBy_congr_hold hhold]
  · obtain ⟨h1, -, h3, h4, h5⟩ := State.available_iff.mp (hav e he)
    refine State.available_iff.mpr ⟨?_, .inr (hset e he), by rw [hsame.detOf]; exact h3, fun y hy => ?_, fun p x hx => ?_⟩
    · obtain ⟨x, hx⟩ := Option.isSome_iff_exists.mp h1
      obtain ⟨y, hy, -⟩ := hsame.sec hx
      rw [hy]
      rfl
    · obtain ⟨x, hx, hd, -⟩ := hsame.symm.sec hy
      rw [show z.inStoppedZone = m.inStoppedZone by rw [honly]; rfl, ← hd]
      exact h4 x hx
    · rw [hpt] at hx
      obtain ⟨k1, k2, k3⟩ := h5 p x hx
      refine ⟨k1, k2, fun r b hrb => ?_⟩
      rw [hout e he p x hx] at hrb
      split at hrb
      · cases hrb
        exact ⟨rfl, rfl⟩
      · exact k3 r b hrb
  · rw [hpos] at hfout
    have hne : m.pointOf f.sec ≠ none := fun hno => by
      unfold State.inPosition at hfout
      rw [hno] at hfout
      exact nomatch hfout
    obtain ⟨⟨p, x⟩, hx⟩ := Option.ne_none_iff_exists'.mp hne
    exact ⟨p, x, (hpt _).trans hx, (hout f hf p x hx).trans (if_pos hfout)⟩
  · rw [honly, List.length_append]
    exact State.offerOk_room hroom

theorem State.SameTrack.reservedUnit (h : s.SameTrack u) (hentries : (u.route t).entries = (s.route t).entries)
    (hr : s.ReservedUnit t us) : u.ReservedUnit t us := by
  obtain ⟨e, he, hout⟩ := hr.out
  refine ⟨(h.unit hentries).1.trans hr.unit, fun e he => (h.entry t e).1.trans (hr.available e he),
    ⟨e, he, (h.entry t e).2.1.trans hout⟩, fun e he => by rw [h.holdBy]; exact hr.setting e he, fun f hf hfout => ?_,
    by rw [h.cmdQueue]; exact hr.room⟩
  obtain ⟨p, x, hp, hthrow⟩ := hr.thrown f hf ((h.entry t f).2.1.symm.trans hfout)
  exact ⟨p, x, (h.pointOf _).trans hp, (h.outstanding p).trans hthrow⟩

theorem State.SameTrack.grantStops (h : s.SameTrack u) (hentries : (u.route t).entries = (s.route t).entries)
    (hwait : u.roomWait = s.roomWait) (hs : s.GrantStops t) : u.GrantStops t := by
  obtain ⟨hunit, -, hset, -⟩ := h.unit hentries
  have hav : ∀ e, u.available t e = s.available t e := fun e => (h.entry t e).1
  have hpos : ∀ e, u.inPosition e = s.inPosition e := fun e => (h.entry t e).2.1
  have hthrow : u.throwFor t = s.throwFor t := funext fun e => (h.entry t e).2.2
  obtain ⟨h1, h2, h3⟩ := hs
  refine ⟨?_, ?_, ?_⟩
  · rw [hunit, hset]
    simp only [hav]
    exact h1
  · rw [hunit]
    simp only [hav, hpos]
    exact h2
  · rw [hunit, hset, hwait, hthrow]
    simp only [hav, hpos, h.pointOf, h.outstanding, h.offerOk]
    exact h3

/-- Where a grant ends it stops, and what it leaves SETTING is its next unit reserved, or nothing. -/
theorem State.GrantEnds.stops (h : m.GrantEnds r t) (hwf : Table.wf m.points = true)
    (hnodup : ((m.route t).entries.map (·.sec)).Nodup) :
    r.GrantStops t ∧ (r.settingRun t = [] ∨ ∃ us, r.ReservedUnit t us) := by
  cases h with
  | whole hnil hu =>
    subst hu
    refine ⟨⟨fun ⟨e, he, _⟩ => ?_, fun hne => absurd hnil hne, fun hne => absurd hnil hne⟩, .inl (State.settingRun_of_whole hnil)⟩
    rw [hnil] at he
    exact absurd he List.not_mem_nil
  | unavailable hex _ hu =>
    obtain ⟨hset, hunit, hav, -, -, -⟩ := State.drop_track hu
    obtain ⟨e, he, hno⟩ := hex
    have hnot : ¬ ∀ f ∈ r.nextUnit t, r.available t f = true := fun hall =>
      absurd ((hav e (hall e (hunit ▸ he))).symm.trans hno) nofun
    exact ⟨⟨fun _ => hset, fun _ hall => absurd hall hnot, fun _ hall => absurd hall hnot⟩, .inl hset⟩
  | noRoom hav hp hr d _ hd hu =>
    obtain ⟨hset, hunit, -, hpos, hthrow, hoffer⟩ := State.drop_track hd
    have hstop : r.GrantStops t := by
      rw [hu]
      refine ⟨fun _ => hset, fun _ _ => ?_, fun _ _ => .inr ⟨hset, rfl, ?_⟩⟩
      · obtain ⟨e, he, hout⟩ := hp
        exact ⟨e, (hunit ▸ he : e ∈ d.nextUnit t), (hpos e).trans hout⟩
      · have h1 : d.offerOk ((d.nextUnit t).filterMap (d.throwFor t)) = false := by
          rw [hoffer, hunit, show d.throwFor t = m.throwFor t from funext hthrow]
          exact hr
        exact h1
    exact ⟨hstop, .inl (by rw [hu]; exact hset)⟩
  | reserved hav hp hr z hz heval =>
    have hres : r.ReservedUnit t (m.nextUnit t) := by
      refine heval.sameTrack.reservedUnit ?_ (hz.reservedUnit hwf hnodup hav hp hr)
      rw [heval.only]
      rfl
    exact ⟨hres.grantStops, .inr ⟨_, hres⟩⟩

/-- Where an evaluation ends the grant stops. -/
theorem State.EvaluatedAs.stops (h : s.EvaluatedAs m r u t es) (hwf : s.TablesWf)
    (hnodup : ((s.route t).entries.map (·.sec)).Nodup) :
    u.GrantStops t ∧ (u.settingRun t = [] ∨ ∃ us, u.ReservedUnit t us) := by
  have hmwf : Table.wf m.points = true := (State.points_wf_of_ground h.run.run.ground).trans hwf.2.1
  obtain ⟨hstop, hset⟩ := h.ends.stops hmwf (by rw [h.run.serves.entries]; exact hnodup)
  by_cases hes : es = []
  · rw [h.idle hes]
    exact ⟨hstop, hset⟩
  · have hc := h.completed hes
    have honly := hc.only
    have htrack : r.SameTrack u := by
      refine ⟨?_, ?_, ?_, ?_, ?_, ?_⟩ <;> rw [honly]
    have hentries : (u.route t).entries = (r.route t).entries := by rw [hc.route]
    refine ⟨htrack.grantStops hentries (by rw [honly]) hstop, ?_⟩
    rw [(htrack.unit hentries).2.2.1]
    exact hset.imp_right fun ⟨us, hus⟩ => ⟨us, htrack.reservedUnit hentries hus⟩

end

end Sys2Proof.Machine

/-! PROOFS. Where the walk leaves every waiting transporter's grant, and what it gives the first it serves (R63, R64). -/

namespace Sys2Proof.Machine

/-- No section stands twice in a record (R38). -/
def State.SectionsOnce (s : State) : Prop := ∀ t, ((s.route t).entries.map (·.sec)).Nodup

section
variable {s m r u : State} {t v : TId} {es us : List Entry} {P : State → Prop}

/-! ## The shape of a walk -/

theorem State.walkOne_pos (h : s.isWaiting t = true) (hp : s.pendingRun t = []) : s.walkOne t = s.evaluate t :=
  if_pos (by rw [h, hp]; rfl)

theorem State.walkOne_neg (h : ¬ (s.isWaiting t = true ∧ s.pendingRun t = [])) : s.walkOne t = s := by
  refine if_neg fun hc => h ?_
  rw [Bool.and_eq_true] at hc
  exact ⟨hc.1, List.isEmpty_iff.mp hc.2⟩

theorem State.walkOnce_of_waiting (h : s.waiting ≠ []) :
    s.walkOnce = (s.waiting.map (·.t)).foldl State.walkOne { s with walkDue := false, roomWait := false } :=
  if_neg fun hc => h (List.isEmpty_iff.mp hc)

theorem State.walkOnce_of_nil (h : s.waiting = []) : s.walkOnce = { s with walkDue := false } := by
  unfold State.walkOnce
  rw [h]
  rfl

/-- What evaluations of waiting transporters and the marks of a walk keep, the walk keeps. -/
theorem State.walkAll_keeps (heval : ∀ s t, P s → s.isWaiting t = true → s.pendingRun t = [] → P (s.evaluate t)) :
    ∀ (ts : List TId) (s : State), P s → P (ts.foldl State.walkOne s)
  | [], _, h => h
  | t :: ts, s, h => by
    refine State.walkAll_keeps heval ts _ ?_
    by_cases hc : s.isWaiting t = true ∧ s.pendingRun t = []
    · rw [State.walkOne_pos hc.1 hc.2]
      exact heval s t h hc.1 hc.2
    · rw [State.walkOne_neg hc]
      exact h

theorem State.walkOnce_keeps (hmarks : ∀ s a b, P s → P { s with walkDue := a, roomWait := b })
    (heval : ∀ s t, P s → s.isWaiting t = true → s.pendingRun t = [] → P (s.evaluate t)) (h : P s) : P s.walkOnce := by
  by_cases hw : s.waiting = []
  · rw [State.walkOnce_of_nil hw]
    exact hmarks s false s.roomWait h
  · rw [State.walkOnce_of_waiting hw]
    exact State.walkAll_keeps heval _ _ (hmarks s false false h)

theorem walkFrom_keeps (hmarks : ∀ s a b, P s → P { s with walkDue := a, roomWait := b })
    (heval : ∀ s t, P s → s.isWaiting t = true → s.pendingRun t = [] → P (s.evaluate t)) :
    ∀ (n : Nat) (s : State), P s → P (walkFrom n s)
  | 0, _, h => State.walkOnce_keeps hmarks heval h
  | n + 1, s, h => by
    rw [walkFrom]
    split
    · exact walkFrom_keeps hmarks heval n _ (State.walkOnce_keeps hmarks heval h)
    · exact State.walkOnce_keeps hmarks heval h

/-! ## What an evaluation keeps -/

theorem State.evaluate_sectionsOnce (hwf : s.TablesWf) (h : s.SectionsOnce) (t : TId) : (s.evaluate t).SectionsOnce := fun v => by
  rw [(State.evaluate_granting hwf t).entries]
  exact h v

/-- A run pending stays so, and no other comes (R47). -/
theorem State.Serves.pendingRun (h : s.Serves u t es) (hentries : (u.route v).entries = (s.route v).entries) :
    u.pendingRun v = s.pendingRun v := by
  rw [State.pendingRun, State.pendingRun, State.run, State.run, hentries]
  refine List.filter_congr fun e _ => ?_
  by_cases hv : v = t
  · subst hv
    by_cases hn : e.sec ∈ es.map (·.sec)
    · rw [h.holdBy_granted hn]
      obtain ⟨f, hf, hfe⟩ := List.mem_map.mp hn
      rw [← hfe]
      rcases State.holdOf_of_available (h.available f hf).1 with hh | ⟨x, hx, hxt, hk⟩
      · rw [State.holdBy_of_none hh]
        rfl
      · rw [State.holdBy_of_hold hx, if_pos hxt, hk]
        rfl
    · rcases h.rest _ hn with hr | ⟨hr, hs, -⟩ | ⟨hr, hs, -⟩
      · rw [State.holdBy_congr_hold hr]
      · rw [State.holdBy_of_none hr, hs]
        rfl
      · rw [State.holdBy_of_hold hr, State.holdBy_of_none hs, if_pos rfl]
        rfl
  · rw [h.holdBy_other hv]

theorem State.EvaluatedAs.entries (h : s.EvaluatedAs m r u t es) (hwf : s.TablesWf) (v : TId) :
    (u.route v).entries = (s.route v).entries := by
  by_cases hv : v = t
  · rw [hv]
    exact (h.serves hwf).entries
  · rw [(h.others hv).2.1]

/-- Nobody joins the queue by an evaluation, and its order stays. -/
theorem State.EvaluatedAs.waiting (h : s.EvaluatedAs m r u t es) :
    (u.waiting.map (·.t)).Sublist (s.waiting.map (·.t)) := by
  have hr : r.waiting = s.waiting := by rw [h.ends.only, h.run.only]
  by_cases hes : es = []
  · rw [h.idle hes, hr]
  · rw [(h.completed hes).waiting, hr]
    split
    · exact List.filter_sublist.map _
    · rw [List.map_map]
      have hkey : ((fun w : Waiting => w.t) ∘ fun w => if w.t = t then r.waitEntry t else w) = fun w => w.t := by
        funext w
        by_cases hw : w.t = t
        · simp [hw, State.waitEntry]
        · simp [hw]
      rw [hkey]

theorem State.isWaiting_iff : s.isWaiting t = true ↔ t ∈ s.waiting.map (·.t) := by
  rw [State.isWaiting, List.any_eq_true, List.mem_map]
  simp only [decide_eq_true_eq]

/-! ## Every waiting transporter's grant has stopped -/

theorem State.walkAll_stops : ∀ (ts : List TId) (s : State), s.TablesWf → s.SectionsOnce →
    let u := ts.foldl State.walkOne s
    (s.walkDue = true → u.walkDue = true) ∧ (u.waiting.map (·.t)).Sublist (s.waiting.map (·.t)) ∧
      (∀ t, u.pendingRun t = s.pendingRun t) ∧ (u.walkDue = false → (∀ t, s.GrantStops t → u.GrantStops t) ∧
        ∀ t ∈ ts, u.isWaiting t = true → u.pendingRun t = [] → u.GrantStops t)
  | [], s, _, _ => ⟨id, .refl _, fun _ => rfl, fun _ => ⟨fun _ => id, fun _ h => absurd h List.not_mem_nil⟩⟩
  | t :: ts, s, hwf, honce => by
    dsimp only [List.foldl_cons]
    by_cases hc : s.isWaiting t = true ∧ s.pendingRun t = []
    · rw [State.walkOne_pos hc.1 hc.2]
      obtain ⟨es, m, r, he⟩ := State.evaluate_as hwf t
      have hwf1 := State.evaluate_tablesWf hwf t
      have hserves := he.serves hwf
      have hentries := he.entries hwf
      have hstops := (he.stops hwf (honce t)).1
      obtain ⟨h1, h2, h3, h4⟩ := State.walkAll_stops ts (s.evaluate t) hwf1 (State.evaluate_sectionsOnce hwf honce t)
      refine ⟨fun hd => h1 (hserves.walkDue hd), h2.trans he.waiting,
        fun v => (h3 v).trans (hserves.pendingRun (hentries v)), fun hd => ?_⟩
      obtain ⟨k1, k2⟩ := h4 hd
      have hd1 : (s.evaluate t).walkDue = false := eq_false_of_ne_true fun hd1 => absurd ((h1 hd1).symm.trans hd) nofun
      refine ⟨fun v hv => k1 v ?_, fun v hv hw hp => ?_⟩
      · by_cases hvt : v = t
        · rw [hvt]
          exact hstops
        · exact hv.keeps hserves hwf.2.1 hwf1.2.1 hvt hd1 (hentries v)
      · rcases List.mem_cons.mp hv with rfl | hv
        · exact k1 v hstops
        · exact k2 v hv hw hp
    · rw [State.walkOne_neg hc]
      obtain ⟨h1, h2, h3, h4⟩ := State.walkAll_stops ts s hwf honce
      refine ⟨h1, h2, h3, fun hd => ?_⟩
      obtain ⟨k1, k2⟩ := h4 hd
      refine ⟨k1, fun v hv hw hp => ?_⟩
      rcases List.mem_cons.mp hv with rfl | hv
      · exact absurd ⟨State.isWaiting_iff.mpr (h2.subset (State.isWaiting_iff.mp hw)), (h3 v).symm.trans hp⟩ hc
      · exact k2 v hv hw hp

theorem State.walkOnce_stops (hwf : s.TablesWf) (honce : s.SectionsOnce) (hd : s.walkOnce.walkDue = false)
    (hw : s.walkOnce.isWaiting t = true) (hp : s.walkOnce.pendingRun t = []) : s.walkOnce.GrantStops t := by
  by_cases hnil : s.waiting = []
  · rw [State.isWaiting_iff, State.walkOnce_of_nil hnil, hnil] at hw
    exact absurd hw List.not_mem_nil
  · rw [State.walkOnce_of_waiting hnil] at hd hw hp ⊢
    obtain ⟨-, h2, -, h4⟩ := State.walkAll_stops (s.waiting.map (·.t)) { s with walkDue := false, roomWait := false } hwf honce
    exact (h4 hd).2 t (h2.subset (State.isWaiting_iff.mp hw)) hw hp

theorem State.walkOnce_sectionsOnce (hwf : s.TablesWf) (h : s.SectionsOnce) : s.walkOnce.SectionsOnce := fun v => by
  rw [(State.walkOnce_granting hwf).1.entries]
  exact h v

theorem walkFrom_stops : ∀ (n : Nat) (s : State), s.TablesWf → s.SectionsOnce → (walkFrom n s).walkDue = false →
    ∀ t, (walkFrom n s).isWaiting t = true → (walkFrom n s).pendingRun t = [] → (walkFrom n s).GrantStops t
  | 0, _, hwf, honce => fun hd _ hw hp => State.walkOnce_stops hwf honce hd hw hp
  | n + 1, s, hwf, honce => by
    rw [walkFrom]
    split
    · exact walkFrom_stops n _ (State.walkOnce_granting hwf).2 (State.walkOnce_sectionsOnce hwf honce)
    · exact fun hd _ hw hp => State.walkOnce_stops hwf honce hd hw hp

end

end Sys2Proof.Machine

/-! PROOFS. The first transporter that a walk serves (R64). -/

namespace Sys2Proof.Machine

section
variable {s m r u : State} {t v : TId} {es us : List Entry}

/-! ## Evaluations that change nothing -/

theorem State.dropSetting_of_nil (h : s.settingRun t = []) : s.dropSetting t = s := (s.dropSetting_dropped t).nothing h

/-- With nothing reserved and no available next unit, an evaluation changes nothing. -/
theorem State.evaluate_idle (hset : s.settingRun t = [])
    (h : s.nextUnit t = [] ∨ ∃ e ∈ s.nextUnit t, s.available t e = false) : s.evaluate t = s := by
  have hgrant : ∀ n, prefixGrant t n s = (s, []) := fun n => by
    cases n with
    | zero => rfl
    | succ n =>
      rw [prefixGrant]
      split
      · rfl
      · next hunit =>
        obtain ⟨e, he, hno⟩ := h.resolve_left hunit
        rw [if_neg fun hall => absurd ((List.all_eq_true.mp hall e he).symm.trans hno) nofun, State.dropSetting_of_nil hset]
  rw [State.evaluate, hgrant]
  rfl

/-- A reservation whose throws are outstanding needs no throw. -/
theorem State.ReservedUnit.throws (h : s.ReservedUnit t us) : (s.nextUnit t).filterMap (s.throwFor t) = [] := by
  rw [h.unit, List.filterMap_eq_nil_iff]
  intro e he
  cases hc : s.throwFor t e with
  | none => rfl
  | some c =>
    obtain ⟨p, x, hp, hpos, hout, -⟩ := State.throwFor_eq_some.mp hc
    obtain ⟨q, y, hq, hthrow⟩ := h.thrown e he hpos
    cases hp.symm.trans hq
    exact absurd (hout.symm.trans hthrow) nofun

theorem State.ReservedUnit.offerOk (h : s.ReservedUnit t us) : s.offerOk ((s.nextUnit t).filterMap (s.throwFor t)) = true := by
  rw [h.throws, State.offerOk, Bool.and_eq_true]
  exact ⟨decide_eq_true h.room, rfl⟩

/-- A next unit out of position ends the grant at once. -/
theorem State.EvaluatedAs.of_out (h : s.EvaluatedAs m r u t es) (hout : ∃ e ∈ s.nextUnit t, s.inPosition e = false) :
    es = [] ∧ m = s ∧ u = r := by
  have hes : es = [] := Decidable.byContradiction fun hne => by
    obtain ⟨e, he, hno⟩ := hout
    exact absurd ((h.run.available e (h.first hne e he)).2.symm.trans hno) nofun
  exact ⟨hes, h.run.run.idle hes, h.idle hes⟩

/-- Where the next unit is available, out of position, and its throws fit, it is reserved. -/
theorem State.EvaluatedAs.reserves (h : s.EvaluatedAs m r u t es) (hav : ∀ e ∈ s.nextUnit t, s.available t e = true)
    (hout : ∃ e ∈ s.nextUnit t, s.inPosition e = false) (hroom : s.offerOk ((s.nextUnit t).filterMap (s.throwFor t)) = true) :
    es = [] ∧ m = s ∧ u = r ∧ ∃ z, s.UnitReserved z t (s.nextUnit t) ∧ z.Evaluated u [t] := by
  obtain ⟨hes, rfl, rfl⟩ := h.of_out hout
  refine ⟨hes, rfl, rfl, ?_⟩
  cases h.ends with
  | whole hnil =>
    obtain ⟨e, he, -⟩ := hout
    rw [hnil] at he
    exact absurd he List.not_mem_nil
  | unavailable hex =>
    obtain ⟨e, he, hno⟩ := hex
    exact absurd ((hav e he).symm.trans hno) nofun
  | noRoom _ _ hr => exact absurd (hr.symm.trans hroom) nofun
  | reserved _ _ _ z hz heval => exact ⟨z, hz, heval⟩

theorem State.EvaluatedAs.reserved_after {z : State} (hwf : s.TablesWf) (hnodup : ((s.route t).entries.map (·.sec)).Nodup)
    (hav : ∀ e ∈ s.nextUnit t, s.available t e = true) (hout : ∃ e ∈ s.nextUnit t, s.inPosition e = false)
    (hroom : s.offerOk ((s.nextUnit t).filterMap (s.throwFor t)) = true) (hz : s.UnitReserved z t (s.nextUnit t))
    (heval : z.Evaluated u [t]) : u.ReservedUnit t (s.nextUnit t) := by
  refine heval.sameTrack.reservedUnit ?_ (hz.reservedUnit hwf.2.1 hnodup hav hout hroom)
  rw [heval.only]
  rfl

/-- What is reserved stays so through every evaluation. -/
theorem State.ReservedUnit.evaluate (h : s.ReservedUnit t us) (hwf : s.TablesWf) (honce : s.SectionsOnce) (v : TId) :
    (s.evaluate v).ReservedUnit t us := by
  obtain ⟨es, m, r, he⟩ := State.evaluate_as hwf v
  by_cases hv : t = v
  · subst hv
    have hav : ∀ e ∈ s.nextUnit t, s.available t e = true := fun e he => h.available e (h.unit ▸ he)
    have hout : ∃ e ∈ s.nextUnit t, s.inPosition e = false := h.unit ▸ h.out
    obtain ⟨-, -, -, z, hz, heval⟩ := he.reserves hav hout h.offerOk
    have hres := State.EvaluatedAs.reserved_after hwf (honce t) hav hout h.offerOk hz heval
    rw [h.unit] at hres
    exact hres
  · exact h.keeps (he.serves hwf) hwf.2.1 (State.evaluate_tablesWf hwf v).2.1 hv (he.entries hwf t)

/-! ## What a walk keeps of one evaluation -/

/-- What the first served has, and keeps to the end of the walk. -/
structure State.FirstGiven (q : List BusCmd) (granted setting : List Entry) (t : TId) (s : State) : Prop where
  tables : s.TablesWf
  once : s.SectionsOnce
  queue : q <+: s.cmdQueue
  granted : ∀ e ∈ granted, s.holdBy t e.sec = some .granted
  setting : setting ≠ [] → s.ReservedUnit t setting

theorem State.FirstGiven.marks {q : List BusCmd} {granted setting : List Entry} (h : State.FirstGiven q granted setting t s)
    (a b : Bool) : State.FirstGiven q granted setting t { s with walkDue := a, roomWait := b } :=
  ⟨h.tables, h.once, h.queue, h.granted, fun hne =>
    (⟨rfl, rfl, rfl, rfl, rfl, rfl⟩ : s.SameTrack { s with walkDue := a, roomWait := b }).reservedUnit rfl (h.setting hne)⟩

theorem State.FirstGiven.evaluate {q : List BusCmd} {granted setting : List Entry} (h : State.FirstGiven q granted setting t s)
    (v : TId) : State.FirstGiven q granted setting t (s.evaluate v) := by
  obtain ⟨es, m, r, he⟩ := State.evaluate_as h.tables v
  obtain ⟨cs, hcs, -⟩ := (he.serves h.tables).queue
  exact ⟨State.evaluate_tablesWf h.tables v, State.evaluate_sectionsOnce h.tables h.once v,
    h.queue.trans ⟨cs, hcs.symm⟩, fun e he => (State.evaluate_granting h.tables v).granted (h.granted e he),
    fun hne => (h.setting hne).evaluate h.tables h.once v⟩

/-- The walk passes over those before the first served. -/
theorem State.walkAll_idle : ∀ (ts : List TId) (s : State), (∀ v ∈ ts, s.pendingRun v ≠ [] ∨
    s.settingRun v = [] ∧ (s.nextUnit v = [] ∨ ∃ e ∈ s.nextUnit v, s.available v e = false)) → ts.foldl State.walkOne s = s
  | [], _, _ => rfl
  | v :: ts, s, h => by
    have hone : s.walkOne v = s := by
      by_cases hc : s.isWaiting v = true ∧ s.pendingRun v = []
      · rw [State.walkOne_pos hc.1 hc.2]
        obtain ⟨hset, hunit⟩ := (h v List.mem_cons_self).resolve_left (not_not_intro hc.2)
        exact State.evaluate_idle hset hunit
      · exact State.walkOne_neg hc
    rw [List.foldl_cons, hone]
    exact State.walkAll_idle ts s fun w hw => h w (List.mem_cons_of_mem _ hw)

/-- A walk serves the first it serves as it finds it. -/
theorem State.walk_firstGiven {q : List BusCmd} {granted setting : List Entry} (hfirst : s.firstServed t)
    (hgiven : State.FirstGiven q granted setting t
      (({ s with walkDue := false, roomWait := false } : State).evaluate t)) : State.FirstGiven q granted setting t s.walk := by
  have hevals : ∀ (s : State) (v : TId), State.FirstGiven q granted setting t s → s.isWaiting v = true → s.pendingRun v = [] →
      State.FirstGiven q granted setting t (s.evaluate v) := fun _ v h _ _ => h.evaluate v
  obtain ⟨before, w, after, hwait, rfl, hpending, hbefore⟩ := hfirst
  have hidle : (before.map (·.t)).foldl State.walkOne { s with walkDue := false, roomWait := false } =
      { s with walkDue := false, roomWait := false } := State.walkAll_idle _ _ fun v hv => by
    obtain ⟨x, hx, rfl⟩ := List.mem_map.mp hv
    exact hbefore x hx
  have hserved : ({ s with walkDue := false, roomWait := false } : State).isWaiting w.t = true := by
    refine State.isWaiting_iff.mpr ?_
    show w.t ∈ s.waiting.map (·.t)
    rw [hwait]
    simp
  have honce : State.FirstGiven q granted setting w.t s.walkOnce := by
    have hnames : s.waiting.map (·.t) = before.map (·.t) ++ w.t :: after.map (·.t) := by
      rw [hwait, List.map_append, List.map_cons]
    rw [State.walkOnce_of_waiting (by rw [hwait]; simp), hnames, List.foldl_append, List.foldl_cons, hidle, State.walkOne_pos hserved hpending]
    exact State.walkAll_keeps hevals _ _ hgiven
  unfold State.walk
  cases s.waiting.length with
  | zero => exact honce
  | succ n =>
    rw [walkFrom]
    split
    · exact walkFrom_keeps (fun _ a b h => h.marks a b) hevals n _ honce
    · exact honce

/-- What a walk gives the first it serves (R51, R52). -/
theorem State.walk_first (hwf : s.TablesWf) (honce : s.SectionsOnce) (hfirst : s.firstServed t) (hne : s.nextUnit t ≠ [])
    (hav : ∀ e ∈ s.nextUnit t, s.available t e = true) :
    ((∀ e ∈ s.nextUnit t, s.inPosition e = true) → ∀ e ∈ s.nextUnit t, s.walk.holdBy t e.sec = some .granted) ∧
    ((∃ e ∈ s.nextUnit t, s.inPosition e = false) → s.offerOk ((s.nextUnit t).filterMap (s.throwFor t)) = true →
      (∀ e ∈ s.nextUnit t, s.walk.holdBy t e.sec = some .setting) ∧
      ∃ more, s.walk.cmdQueue = s.cmdQueue ++ (s.nextUnit t).filterMap (s.throwFor t) ++ more) := by
  obtain ⟨s1, hs1⟩ : ∃ s1, s1 = ({ s with walkDue := false, roomWait := false } : State) := ⟨_, rfl⟩
  have hunit : s1.nextUnit t = s.nextUnit t := by rw [hs1]; rfl
  have hav1 : ∀ e ∈ s1.nextUnit t, s1.available t e = true := by
    rw [hunit, hs1]
    exact hav
  have hwf1 : s1.TablesWf := by
    rw [hs1]
    exact hwf
  have honce1 : s1.SectionsOnce := by
    rw [hs1]
    exact honce
  obtain ⟨es, m, r, he⟩ := State.evaluate_as hwf1 t
  have hqueue : s1.cmdQueue = s.cmdQueue := by rw [hs1]
  have hbase := State.evaluate_tablesWf hwf1 t
  have honcee := State.evaluate_sectionsOnce hwf1 honce1 t
  refine ⟨fun hpos => ?_, fun hout hroom => ?_⟩
  · have hes : es ≠ [] := fun hes => by
      have hms := he.run.run.idle hes
      subst hms
      have hin : ∀ e ∈ m.nextUnit t, m.inPosition e = true := by
        rw [hunit, hs1]
        exact hpos
      cases he.ends with
      | whole hnil => exact hne (hunit.symm.trans hnil)
      | unavailable hex =>
        obtain ⟨e, hmem, hno⟩ := hex
        exact absurd ((hav1 e hmem).symm.trans hno) nofun
      | noRoom _ hp | reserved _ hp =>
        obtain ⟨e, hmem, hno⟩ := hp
        exact absurd ((hin e hmem).symm.trans hno) nofun
    refine (State.walk_firstGiven (q := []) (setting := []) hfirst ?_).granted
    rw [← hs1]
    refine ⟨hbase, honcee, List.nil_prefix, fun e hmem => ?_, fun h => absurd rfl h⟩
    exact (he.serves hwf1).holdBy_granted (List.mem_map_of_mem (he.first hes e (hunit ▸ hmem)))
  · have hout1 : ∃ e ∈ s1.nextUnit t, s1.inPosition e = false := by
      rw [hunit, hs1]
      exact hout
    have hroom1 : s1.offerOk ((s1.nextUnit t).filterMap (s1.throwFor t)) = true := by
      rw [hunit, hs1]
      exact hroom
    obtain ⟨-, -, -, z, hz, heval⟩ := he.reserves hav1 hout1 hroom1
    have hgiven : State.FirstGiven (s.cmdQueue ++ (s.nextUnit t).filterMap (s.throwFor t)) [] (s.nextUnit t) t s.walk := by
      refine State.walk_firstGiven hfirst ?_
      rw [← hs1]
      refine ⟨hbase, honcee, ⟨[], ?_⟩, fun _ h => absurd h List.not_mem_nil, fun _ => ?_⟩
      · rw [heval.only, hz.only, hunit, hs1, List.append_nil]
        rfl
      · rw [← hunit]
        exact State.EvaluatedAs.reserved_after hwf1 (honce1 t) hav1 hout1 hroom1 hz heval
    obtain ⟨more, hmore⟩ := hgiven.queue
    exact ⟨(hgiven.setting hne).setting, more, hmore.symm⟩

end

end Sys2Proof.Machine

/-! PROOFS. What one evaluation does to the transporter's own records: stop causes, notices, number, end, AUTH and place in the
queue (R47, R54, R55, R121). -/

namespace Sys2Proof.Machine

/-- t's stop causes are those present, or it is OFFLINE and has none evaluated (R121). -/
def State.CausesCurrent (s : State) (t : TId) : Prop := (s.tr t).state = .offline ∨ (s.tr t).stop = s.stopCauses t

/-- What t holds SETTING is its next unit reserved, or nothing. -/
def State.GrantSettled (s : State) (t : TId) : Prop := s.settingRun t = [] ∨ ∃ us, s.ReservedUnit t us

/-- Between s and u nothing happened to t's record, nothing was told, and a current AUTH stays current. -/
structure State.Undisturbed (s u : State) (t : TId) : Prop where
  record : u.tr t = s.tr t
  told : s.Told u []
  auth : s.AuthCurrent t → u.AuthCurrent t

section
variable {s z m r u : State} {t v : TId} {es us : List Entry}

theorem State.Undisturbed.refl (s : State) (t : TId) : s.Undisturbed s t := ⟨rfl, fun _ => rfl, id⟩

theorem State.Undisturbed.trans (h : s.Undisturbed m t) (hc : m.clock = s.clock) (h' : m.Undisturbed u t) : s.Undisturbed u t :=
  ⟨h'.record.trans h.record, h.told.trans hc h'.told, fun ha => h'.auth (h.auth ha)⟩

/-- An evaluation makes the causes current. -/
theorem State.Evaluated.causesCurrent (h : z.Evaluated u [t]) : u.CausesCurrent t := by
  have hrec := h.record t (List.mem_singleton_self _)
  rw [State.CausesCurrent, h.stopCauses, hrec]
  by_cases hx : (z.tr t).state = .offline
  · exact .inl (by rw [Transporter.evaluated, if_pos (.inl hx)]; exact hx)
  · exact .inr (Transporter.evaluated_ne_offline hx _ _).2

/-- Where the causes are current, an evaluation finds nothing. -/
theorem State.Evaluated.undisturbed (h : z.Evaluated u [t]) (hc : z.CausesCurrent t) : z.Undisturbed u t := by
  obtain ⟨h1, h2, h3, -⟩ := h.idle hc
  exact ⟨h1, h2, h3⟩

/-- Track and queue alone changed, and t's stop causes are the same. -/
theorem State.undisturbed_of_track (honly : u = { s with
    sections := u.sections, points := u.points, cmdQueue := u.cmdQueue, roomWait := u.roomWait }) (hsame : s.SameSections u)
    (t : TId) : s.Undisturbed u t := by
  refine ⟨by rw [honly]; rfl, fun k => by rw [honly]; rfl, fun ha => ?_⟩
  have hauth : s.SameForAuth u t := by
    refine ⟨by rw [honly]; rfl, by rw [honly]; rfl, fun n => ?_, by rw [honly], by rw [honly], by rw [honly]⟩
    have := congrArg (Option.map Prod.fst) (hsame n)
    rwa [Option.map_map, Option.map_map] at this
  exact hauth.authCurrent ha (by rw [honly]; rfl) (by rw [honly])

theorem State.causesCurrent_of (hc : s.CausesCurrent t) (htr : u.tr t = s.tr t) (hstop : u.stopCauses t = s.stopCauses t) :
    u.CausesCurrent t := by
  rw [State.CausesCurrent, htr, hstop]
  exact hc

/-! ## The run of units -/

theorem State.RunTaken.track (h : s.RunTaken z t false es) : s.SameSections z := fun n => by
  rw [h.sections, Option.map_map]
  rfl

theorem State.GrantRun.causesCurrent (h : s.GrantRun m t es) (hes : es ≠ [] ∨ s.CausesCurrent t) : m.CausesCurrent t := by
  by_cases hnil : es = []
  · rw [h.run.idle hnil]
    exact hes.resolve_left (not_not_intro hnil)
  · obtain ⟨z, -, heval, -⟩ := h.run.taken hnil
    exact heval.causesCurrent

theorem State.GrantRun.undisturbed (h : s.GrantRun m t es) (hc : s.CausesCurrent t) : s.Undisturbed m t := by
  by_cases hnil : es = []
  · rw [h.run.idle hnil]
    exact .refl s t
  · obtain ⟨z, hz, heval, hstop⟩ := h.run.taken hnil
    have htrack : s.Undisturbed z t := State.undisturbed_of_track (by rw [hz.only]) hz.track t
    refine htrack.trans (by rw [hz.only]) (heval.undisturbed ?_)
    exact State.causesCurrent_of hc htrack.record hstop

/-- What the run tells: what the evaluation of t's stop causes finds. -/
theorem State.GrantRun.told (h : s.GrantRun m t es) (hes : es ≠ []) : s.Told m (s.evaluationNotice t) := by
  obtain ⟨z, hz, heval, hstop⟩ := h.run.taken hes
  have hnotice : z.evaluationNotice t = s.evaluationNotice t := by
    have htr : z.tr t = s.tr t := by rw [hz.only]; rfl
    have hroute : z.route t = s.route t := by rw [hz.only]; rfl
    rw [State.evaluationNotice, htr, hroute, hstop]
    rfl
  have htold := heval.notices
  rw [List.flatMap_singleton, hnotice] at htold
  have hfirst : s.Told z [] := fun k => by rw [hz.only]; rfl
  exact hfirst.trans (by rw [hz.only]) htold

/-! ## The end of the grant -/

theorem State.UnitReserved.track (hz : m.UnitReserved z t us) : m.SameSections z := fun n => by
  rw [hz.sections, Option.map_map]
  rfl

/-- A reservation of available sections brings no stop cause. -/
theorem State.UnitReserved.stopCauses (hz : m.UnitReserved z t us) (hav : ∀ e ∈ us, m.available t e = true)
    (hwf : Table.wf m.sections = true) (hwfz : Table.wf z.sections = true) : z.stopCauses t = m.stopCauses t := by
  refine State.stopCauses_of_stopped hwf hwfz t (by rw [hz.only]) (by rw [hz.only]) (by rw [hz.only]) (by rw [hz.only])
    (fun n => ?_) fun n x y hx hy hstop => ?_
  · rw [hz.sections, Option.map_map]
    rfl
  · rw [hz.sections, hx, Option.map_some, Option.some.injEq] at hy
    by_cases hn : n ∈ us.map (·.sec)
    · obtain ⟨e, he, rfl⟩ := List.mem_map.mp hn
      exact absurd (hstop.symm.trans ((State.clear_of_available (hav e he)).2 x hx)) nofun
    · rw [if_neg fun hc => hn hc.1] at hy
      rw [← hy]

theorem State.GrantEnds.causesCurrent (h : m.GrantEnds r t) (hc : m.CausesCurrent t) : r.CausesCurrent t := by
  have hdrop : ∀ {d}, m.Dropped d t → d.CausesCurrent t := fun {d} hd => by
    by_cases hs : m.settingRun t = []
    · rw [hd.nothing hs]
      exact hc
    · obtain ⟨z, -, -, heval⟩ := hd.drop hs
      exact heval.causesCurrent
  cases h with
  | whole _ hu => exact hu ▸ hc
  | unavailable _ hu => exact hdrop hu
  | noRoom _ _ _ d hd _ hu =>
    have hdc := hdrop hd
    rw [hu]
    exact hdc
  | reserved _ _ _ z _ heval => exact heval.causesCurrent

/-- Where t is settled the end of its grant drops nothing. -/
theorem State.GrantEnds.kept (h : m.GrantEnds r t) (hs : m.GrantSettled t) : r = { m with roomWait := r.roomWait } ∨
    (∀ e ∈ m.nextUnit t, m.available t e = true) ∧ (∃ e ∈ m.nextUnit t, m.inPosition e = false) ∧
      ∃ z, m.UnitReserved z t (m.nextUnit t) ∧ z.Evaluated r [t] := by
  cases h with
  | whole _ hu => exact .inl (by rw [hu])
  | unavailable hex hd _ =>
    rcases hs with hs | ⟨us, hus⟩
    · exact .inl (by rw [hd.nothing hs])
    · obtain ⟨e, he, hno⟩ := hex
      exact absurd ((hus.available e (hus.unit ▸ he)).symm.trans hno) nofun
  | noRoom _ _ hr d hd _ hu =>
    rcases hs with hs | ⟨us, hus⟩
    · exact .inl (by rw [hu, hd.nothing hs])
    · exact absurd (hus.offerOk.symm.trans hr) nofun
  | reserved hav hp _ z hz heval => exact .inr ⟨hav, hp, z, hz, heval⟩

theorem State.GrantEnds.undisturbed (h : m.GrantEnds r t) (hs : m.GrantSettled t) (hc : m.CausesCurrent t)
    (hwf : Table.wf m.sections = true) (hwfr : Table.wf r.sections = true) : m.Undisturbed r t := by
  rcases h.kept hs with hr | ⟨hav, -, z, hz, heval⟩
  · exact State.undisturbed_of_track (by rw [hr]) (fun n => by rw [hr]; rfl) t
  · have htrack : m.Undisturbed z t := State.undisturbed_of_track (by rw [hz.only]) hz.track t
    refine htrack.trans (by rw [hz.only]) (heval.undisturbed (State.causesCurrent_of hc htrack.record ?_))
    refine hz.stopCauses hav hwf ?_
    rw [← heval.sameTrack.sections]
    exact hwfr

/-- The run leaves nothing reserved where nothing was. -/
theorem State.GrantRun.settingRun (h : s.GrantRun m t es) (hs : s.settingRun t = []) : m.settingRun t = [] := by
  rw [State.settingRun, State.run, List.filter_eq_nil_iff] at hs ⊢
  intro e he
  rw [h.run.holdBy fun e he => State.isSome_of_available (h.available e he).1]
  split
  · decide
  · exact hs e (by rw [← h.serves.entries]; exact he)

/-- The run leaves t settled where it was. -/
theorem State.EvaluatedAs.settled_run (h : s.EvaluatedAs m r u t es) (hs : s.GrantSettled t) : m.GrantSettled t := by
  rcases hs with hs | ⟨us, hus⟩
  · exact .inl (h.run.settingRun hs)
  · obtain ⟨-, rfl, -⟩ := h.of_out (hus.unit ▸ hus.out)
    exact .inr ⟨us, hus⟩

/-! ## The whole evaluation -/

theorem State.EvaluatedAs.wf (h : s.EvaluatedAs m r u t es) (hwf : s.TablesWf) :
    Table.wf m.sections = true ∧ Table.wf r.sections = true :=
  ⟨(State.sections_wf_of_ground h.run.run.ground).trans hwf.1, (State.sections_wf_of_ground h.ground).trans hwf.1⟩

theorem State.EvaluatedAs.clock (h : s.EvaluatedAs m r u t es) : m.clock = s.clock ∧ r.clock = s.clock ∧ u.clock = s.clock :=
  ⟨by rw [h.run.only], by rw [h.ends.only, h.run.only], by rw [h.only]⟩

/-- GrantSettled and current, t's record and AUTH are undisturbed up to the completion. -/
theorem State.EvaluatedAs.undisturbed (h : s.EvaluatedAs m r u t es) (hwf : s.TablesWf) (hs : s.GrantSettled t)
    (hc : s.CausesCurrent t) : s.Undisturbed r t := by
  obtain ⟨hm, hr⟩ := h.wf hwf
  exact (h.run.undisturbed hc).trans h.clock.1
    (h.ends.undisturbed (h.settled_run hs) (h.run.causesCurrent (.inr hc)) hm hr)

theorem State.GrantCompleted.stopCauses {secs : List Nat} (h : r.GrantCompleted u t secs) (v : TId) :
    u.stopCauses v = r.stopCauses v := by
  have honly := h.only
  refine congrFun (State.stopCauses_eq ?_ ?_ ?_ ?_ ?_) v <;> rw [honly]

theorem State.GrantCompleted.causesCurrent {secs : List Nat} (h : r.GrantCompleted u t secs) (hc : r.CausesCurrent t) :
    u.CausesCurrent t := by
  rw [State.CausesCurrent, h.stopCauses, h.record]
  dsimp only
  rw [h.state]
  rcases hc with hc | hc
  · refine .inl ?_
    rw [hc, if_neg nofun]
  · exact .inr hc

theorem State.EvaluatedAs.causesCurrent (h : s.EvaluatedAs m r u t es) (hc : es ≠ [] ∨ s.CausesCurrent t) : u.CausesCurrent t := by
  have hr := h.ends.causesCurrent (h.run.causesCurrent hc)
  by_cases hes : es = []
  · rw [h.idle hes]
    exact hr
  · exact (h.completed hes).causesCurrent hr

/-- Number and end of t after its evaluation. -/
theorem State.EvaluatedAs.route (h : s.EvaluatedAs m r u t es) : (es = [] → u.route t = s.route t) ∧
    (es ≠ [] → u.route t = { s.route t with authNum := nextAuth (s.route t).authNum, endPos := u.grantedEnd t }) := by
  have hr : r.route t = s.route t := by rw [h.ends.only, h.run.only]; rfl
  refine ⟨fun hes => by rw [h.idle hes, hr], fun hes => ?_⟩
  have hc := h.completed hes
  have honly := hc.only
  have hend : u.grantedEnd t = r.grantedEnd t := by
    have hentries : (u.route t).entries = (r.route t).entries := by rw [hc.route]
    have hfinal : (u.route t).finalOff = (r.route t).finalOff := by rw [hc.route]
    have hhold : u.holdBy = r.holdBy := State.holdBy_congr (by rw [honly])
    have hlen : u.pathLen = r.pathLen := by rw [honly]; rfl
    simp only [State.grantedEnd, State.grantedRun, State.run, hentries, hfinal, hhold, hlen]
  rw [hc.route, hr, hend]

/-- The queue after t's evaluation. -/
theorem State.EvaluatedAs.queue (h : s.EvaluatedAs m r u t es) : (es = [] → u.waiting = s.waiting) ∧
    (es ≠ [] → u.waiting = if u.fullyGranted t = true then s.waiting.filter fun w => decide (w.t ≠ t)
      else s.waiting.map fun w => if w.t = t then s.waitEntry t else w) := by
  have hr : r.waiting = s.waiting := by rw [h.ends.only, h.run.only]
  refine ⟨fun hes => by rw [h.idle hes, hr], fun hes => ?_⟩
  have hentry : r.waitEntry t = s.waitEntry t := by rw [h.ends.only, h.run.only]; rfl
  rw [(h.completed hes).waiting, hr, hentry]

theorem Transporter.evaluated_parked_iff (x : Transporter) (c : StopSet) (b : Bool) :
    (x.evaluated c b).state = .parked ↔ x.state = .parked := by
  rcases (x.evaluated_state c b).2 with h | ⟨h | h, h' | h'⟩ <;> rw [h]
  all_goals rw [h']
  all_goals exact ⟨nofun, nofun⟩

theorem State.Evaluated.parked {ts : List TId} (h : z.Evaluated u ts) (v : TId) : (u.tr v).state = .parked ↔ (z.tr v).state = .parked := by
  by_cases hv : v ∈ ts
  · rw [h.record v hv]
    exact Transporter.evaluated_parked_iff ..
  · rw [(h.others v hv).1]

/-- Before the completion PARKED stays PARKED. -/
theorem State.EvaluatedAs.parked (h : s.EvaluatedAs m r u t es) : (r.tr t).state = .parked ↔ (s.tr t).state = .parked := by
  have hm : (m.tr t).state = .parked ↔ (s.tr t).state = .parked := by
    by_cases hes : es = []
    · rw [h.run.run.idle hes]
    · obtain ⟨z, hz, heval, -⟩ := h.run.run.taken hes
      rw [heval.parked, show z.tr t = s.tr t by rw [hz.only]; rfl]
  rw [← hm]
  have hdrop : ∀ {d}, m.Dropped d t → ((d.tr t).state = .parked ↔ (m.tr t).state = .parked) := fun {d} hd => by
    by_cases hs : m.settingRun t = []
    · rw [hd.nothing hs]
    · obtain ⟨z, hz, -, heval⟩ := hd.drop hs
      rw [heval.parked, show z.tr t = m.tr t by rw [hz]; rfl]
  cases h.ends with
  | whole _ hu => rw [hu]
  | unavailable _ hu => exact hdrop hu
  | noRoom _ _ _ d hd _ hu =>
    have hdp := hdrop hd
    rw [hu]
    exact hdp
  | reserved _ _ _ z hz heval => rw [heval.parked, show z.tr t = m.tr t by rw [hz.only]; rfl]

end

end Sys2Proof.Machine

/-! PROOFS. What an evaluation tells, and which sections are newly GRANTED after it (R46, R47, R54). -/

namespace Sys2Proof.Machine

section
variable {s₀ s m r u : State} {t v : TId} {es : List Entry}

/-! ## What an evaluation tells -/

theorem State.GrantEnds.told (h : m.GrantEnds r t) : ∃ bs, m.Told r bs := by
  cases h with
  | whole _ hu => exact ⟨[], State.told_nil (by rw [hu])⟩
  | unavailable _ hu =>
    obtain ⟨-, bs, -, hbs⟩ := hu.told
    exact ⟨bs, hbs⟩
  | noRoom _ _ _ d hd _ hu =>
    obtain ⟨-, bs, -, hbs⟩ := hd.told
    refine ⟨bs, fun k => ?_⟩
    rw [hu]
    exact hbs k
  | reserved _ _ _ z hz heval =>
    have hfirst : m.Told z [] := State.told_nil (by rw [hz.only])
    exact ⟨_, hfirst.trans (by rw [hz.only]) heval.notices⟩

theorem State.EvaluatedAs.told (h : s.EvaluatedAs m r u t es) : ∃ bs,
    s.Told u bs ∧ (es ≠ [] → ∃ cs, bs = cs ++ [u.grantNotice t (es.map (·.sec))]) := by
  have hm : ∃ bs, s.Told m bs := by
    by_cases hes : es = []
    · exact ⟨[], State.told_nil (by rw [h.run.run.idle hes])⟩
    · exact ⟨_, h.run.told hes⟩
  obtain ⟨bs, hbs⟩ := hm
  obtain ⟨cs, hcs⟩ := h.ends.told
  have hr := hbs.trans h.clock.1 hcs
  by_cases hes : es = []
  · rw [h.idle hes]
    exact ⟨_, hr, fun hne => absurd hes hne⟩
  · exact ⟨_, hr.trans h.clock.2.1 (h.completed hes).told, fun _ => ⟨_, rfl⟩⟩

/-- A queue that has not overflowed has taken the notice, and holds what it held. -/
theorem OpsPort.addNotice_kept {n : Notice} {p : OpsPort} (h : (p.addNotice n).overflow = false) :
    p.overflow = false ∧ (p.addNotice n).notices = p.notices ++ [n] := by
  unfold OpsPort.addNotice at h ⊢
  by_cases hroom : p.notices.length < Config.noticeCapacity
  · rw [if_pos hroom] at h ⊢
    exact ⟨h, rfl⟩
  · rw [if_neg hroom] at h
    exact nomatch h

/-- A queue that has not overflowed holds what it held and what was posted. -/
theorem OpsPort.notices_of_foldl (c : Clock) : ∀ (bs : List NoticeBody) (p : OpsPort),
    (bs.foldl (fun p b => p.addNotice ⟨c, b⟩) p).overflow = false → p.overflow = false ∧
      (bs.foldl (fun p b => p.addNotice ⟨c, b⟩) p).notices = p.notices ++ bs.map fun b => ⟨c, b⟩
  | [], p, h => ⟨h, (List.append_nil _).symm⟩
  | b :: bs, p, h => by
    obtain ⟨h1, h2⟩ := OpsPort.notices_of_foldl c bs _ h
    obtain ⟨h3, h4⟩ := OpsPort.addNotice_kept h1
    exact ⟨h3, by rw [List.foldl_cons, h2, h4, List.append_assoc]; rfl⟩

/-- Where a queue has not overflowed, what was posted stands in it, behind what it held. -/
theorem State.Told.notices {bs : List NoticeBody} (h : s.Told u bs) {k : OpsId} (hk : (u.opsPort k).overflow = false) :
    (s.opsPort k).overflow = false ∧ (u.opsPort k).notices = (s.opsPort k).notices ++ bs.map fun b => ⟨s.clock, b⟩ := by
  rw [h k] at hk ⊢
  exact OpsPort.notices_of_foldl _ _ _ hk

/-! ## The sections newly GRANTED -/

theorem State.mem_newlyGranted {e : Entry} : e ∈ s₀.newlyGranted u t ↔
    e ∈ (u.route t).entries ∧ u.holdBy t e.sec = some .granted ∧ s₀.holdBy t e.sec ≠ some .granted := by
  rw [State.newlyGranted, List.mem_filter, decide_eq_true_eq]

theorem State.newlyGranted_congr (hentries : (u.route t).entries = (s.route t).entries)
    (hold : ∀ n, u.holdBy t n = s.holdBy t n) : s₀.newlyGranted u t = s₀.newlyGranted s t := by
  simp only [State.newlyGranted, hentries, hold]

theorem State.newlyGranted_self (h : ∀ n, u.holdBy t n = s₀.holdBy t n) : s₀.newlyGranted u t = [] := by
  rw [State.newlyGranted, List.filter_eq_nil_iff]
  intro e _ hc
  obtain ⟨h1, h2⟩ := of_decide_eq_true hc
  exact h2 ((h _).symm.trans h1)

/-- After the grant t holds GRANTED what it held so, and what was granted. -/
theorem State.Serves.holdBy_granted_iff (h : s.Serves u t es) (n : Nat) :
    u.holdBy t n = some .granted ↔ s.holdBy t n = some .granted ∨ n ∈ es.map (·.sec) := by
  by_cases hn : n ∈ es.map (·.sec)
  · exact ⟨fun _ => .inr hn, fun _ => h.holdBy_granted hn⟩
  · rw [or_iff_left hn]
    rcases h.rest n hn with hr | ⟨hr, hs, -⟩ | ⟨hr, hs, -⟩
    · rw [State.holdBy_congr_hold hr]
    · rw [State.holdBy_of_none hr, hs]
      exact ⟨nofun, nofun⟩
    · rw [State.holdBy_of_hold hr, State.holdBy_of_none hs, if_pos rfl]
      exact ⟨nofun, nofun⟩

/-- What is newly GRANTED stands in front of what is not GRANTED (R51). -/
theorem State.Granting.newly_front (h : s₀.Granting s) (honce : s.SectionsOnce) {e : Entry}
    (he : e ∈ s₀.newlyGranted s t) : e ∉ s.ungranted t := by
  obtain ⟨hmem, hs, hs₀⟩ := State.mem_newlyGranted.mp he
  obtain ⟨f, b, a, hrun, hsec, -⟩ := h.secured t e.sec hs₀ hs
  have hall : ∀ x ∈ b ++ [f], decide (s.holdBy t x.sec = some .granted) = true := fun x hx => by
    rcases List.mem_append.mp hx with hx | hx
    · exact decide_eq_true (hrun.before x hx)
    · rw [List.mem_singleton.mp hx, hsec]
      exact decide_eq_true hs
  have hsplit : (s.route t).entries = (b ++ [f]) ++ a := by rw [hrun.entries]; simp
  have hnodup := honce t
  rw [hsplit, List.map_append, List.nodup_append] at hnodup
  rw [State.ungranted, hsplit, List.dropWhile_append_of_pos hall]
  intro hc
  refine hnodup.2.2 e.sec ?_ e.sec (List.mem_map_of_mem ((List.dropWhile_sublist _).subset hc)) rfl
  rw [← hsec]
  exact List.mem_map_of_mem (by simp)

theorem State.newlyGranted_append (hg : s₀.Granting s) (honce : s.SectionsOnce) (h : s.Serves u t es) :
    s₀.newlyGranted u t = s₀.newlyGranted s t ++ es := by
  have hsplit : (s.route t).entries =
      ((s.route t).entries.takeWhile fun e => decide (s.holdBy t e.sec = some .granted)) ++ s.ungranted t :=
    List.takeWhile_append_dropWhile.symm
  have hnodup := honce t
  rw [hsplit, List.map_append, List.nodup_append] at hnodup
  obtain ⟨-, hback, hdisj⟩ := hnodup
  have hnot : ∀ e ∈ es, s.holdBy t e.sec ≠ some .granted := fun e he => State.not_granted_of_available (h.available e he).1
  have hes : (s.ungranted t).filter (fun e => decide (e.sec ∈ es.map (·.sec))) = es := filter_mem_of_sublist h.order hback
  have hfront : ∀ e ∈ (s.route t).entries.takeWhile (fun e => decide (s.holdBy t e.sec = some .granted)),
      s.holdBy t e.sec = some .granted := fun e he => by simpa using List.mem_takeWhile_imp he
  have hbehind : ∀ e ∈ s.ungranted t, ¬ (s.holdBy t e.sec = some .granted ∧ s₀.holdBy t e.sec ≠ some .granted) :=
    fun e he hc => hg.newly_front honce (State.mem_newlyGranted.mpr ⟨(List.dropWhile_sublist _).subset he, hc⟩) he
  have hold : (s.ungranted t).filter (fun e => decide (s.holdBy t e.sec = some .granted ∧ s₀.holdBy t e.sec ≠ some .granted)) = [] :=
    List.filter_eq_nil_iff.mpr fun e he => by simpa using hbehind e he
  rw [State.newlyGranted, State.newlyGranted, h.entries, hsplit, List.filter_append, List.filter_append, hold, List.append_nil]
  congr 1
  · refine List.filter_congr fun e he => decide_eq_decide.mpr ?_
    rw [h.holdBy_granted_iff, or_iff_left fun hn => ?_]
    obtain ⟨f, hf, hfe⟩ := List.mem_map.mp hn
    exact hnot f hf (hfe ▸ hfront e he)
  · rw [← hes]
    refine List.filter_congr fun e he => decide_eq_decide.mpr ?_
    rw [h.holdBy_granted_iff]
    refine ⟨fun ⟨hu, hs₀⟩ => hu.resolve_left fun hs => hbehind e he ⟨hs, hs₀⟩, fun hn => ⟨.inr hn, fun hs₀ => ?_⟩⟩
    obtain ⟨f, hf, hfe⟩ := List.mem_map.mp hn
    exact hnot f hf (hfe ▸ hg.granted hs₀)

end

end Sys2Proof.Machine

/-! PROOFS. What any number of evaluations in a walk do (R63, R64, R54): the invariant of the walk. -/

namespace Sys2Proof.Machine

/-- What becomes of an entry of the pending queue between s₀ and s (R54 step 6, R60): it stays where its transporter was
granted nothing, goes where all of its route is granted, and is loaded again where a part is. -/
def State.keptEntry (s₀ s : State) (w : Waiting) : Option Waiting :=
  if s₀.newlyGranted s w.t = [] then some w else if s.fullyGranted w.t = true then none else some (s₀.waitEntry w.t)

/-- What t has in s, having been granted sections since s₀. -/
structure State.Bestowed (s₀ s : State) (t : TId) : Prop where
  endPos : (s.route t).endPos = s.grantedEnd t
  auth : s.AuthCurrent t
  causes : s.CausesCurrent t
  unparked : (s.tr t).state ≠ .parked
  parked : (s₀.tr t).state = .parked → (s.tr t).state = if (s.tr t).stop = .empty then .authorised else .held
  told : ∀ k : OpsId, (s.opsPort k).overflow = false → ∃ secs, secs ≠ [] ∧ secs <:+ (s₀.newlyGranted s t).map (·.sec) ∧
    (⟨s₀.clock, s.grantNotice t secs⟩ : Notice) ∈ (s.opsPort k).notices

/-- Between s₀ and s the transporters of L, all waiting in s₀, were evaluated, the last first, some more than once. -/
structure State.Walked (s₀ : State) (L : List TId) (s : State) : Prop where
  only : s = { s₀ with
    sections := s.sections, points := s.points, trs := s.trs, routes := s.routes, tls := s.tls, ceilings := s.ceilings
    waiting := s.waiting, roomWait := s.roomWait, walkDue := s.walkDue, cmdQueue := s.cmdQueue, opss := s.opss }
  tables : s.TablesWf
  granting : s₀.Granting s
  within : ∀ t ∈ L, s₀.isWaiting t = true ∧ s₀.pendingRun t = []
  others : ∀ t ∉ L, s₀.SameTransporter s t
  holds : ∀ n, s.holdOf n = s₀.holdOf n ∨ (∀ h, s₀.holdOf n = some h → h.kind = .setting ∧ h.holder ∈ L) ∧
    ∀ h, s.holdOf n = some h → (h.kind = .granted ∨ h.kind = .setting) ∧ h.entered = false ∧ h.holder ∈ L ∧
      ∃ e ∈ (s₀.route h.holder).entries, e.sec = n
  queue : ∃ cs, s.cmdQueue = s₀.cmdQueue ++ cs ∧ ∀ d ∈ cs, d.func.blade ≠ none ∧ ∃ t ∈ L, d.req = .tr t
  waiting : s.waiting = s₀.waiting.filterMap (s₀.keptEntry s)
  finalOff : ∀ t, (s.route t).finalOff = (s₀.route t).finalOff
  number : ∀ t, ∃ j ≤ L.count t, (s.route t).authNum = nextAuth^[j] (s₀.route t).authNum ∧
    (s₀.newlyGranted s t = [] ↔ j = 0)
  ungranted : ∀ t, s₀.newlyGranted s t = [] → (s.route t).endPos = (s₀.route t).endPos ∧
    ((s.tr t).state = .parked ↔ (s₀.tr t).state = .parked)
  settled : ∀ t ∈ L, s.GrantSettled t
  granted : ∀ t, s₀.newlyGranted s t ≠ [] → s₀.Bestowed s t

section
variable {s₀ s m r u : State} {t v : TId} {es : List Entry} {L : List TId}

/-! ## The queue -/

theorem State.filterMap_keptEntry (ws : List Waiting) : ws.filterMap (s₀.keptEntry s) =
    ((ws.filter fun w => decide (s₀.newlyGranted s w.t = [] ∨ s.fullyGranted w.t = false)).map
      fun w => if s₀.newlyGranted s w.t = [] then w else s₀.waitEntry w.t) := by
  induction ws with
  | nil => rfl
  | cons w ws ih =>
    by_cases hnil : s₀.newlyGranted s w.t = []
    · have hw : s₀.keptEntry s w = some w := if_pos hnil
      rw [List.filterMap_cons_some hw, List.filter_cons_of_pos (by simp [hnil]), List.map_cons, if_pos hnil, ih]
    · by_cases hfull : s.fullyGranted w.t = true
      · have hw : s₀.keptEntry s w = none := (if_neg hnil).trans (if_pos hfull)
        rw [List.filterMap_cons_none hw, List.filter_cons_of_neg (by simp [hnil, hfull]), ih]
      · have hw : s₀.keptEntry s w = some (s₀.waitEntry w.t) := (if_neg hnil).trans (if_neg hfull)
        rw [List.filterMap_cons_some hw, List.filter_cons_of_pos (by simp [hnil, hfull]), List.map_cons, if_neg hnil, ih]

theorem State.keptEntry_key {w x : Waiting} (h : s₀.keptEntry s w = some x) : x.t = w.t := by
  unfold State.keptEntry at h
  split at h
  · rw [← Option.some.inj h]
  · split at h
    · exact nomatch h
    · rw [← Option.some.inj h]
      rfl

/-- Without a run pending, a route is fully granted when every section of it is GRANTED. -/
theorem State.fullyGranted_iff (hp : s.pendingRun t = []) : s.fullyGranted t = true ↔
    ∀ e ∈ (s.route t).entries, s.holdBy t e.sec = some .granted := by
  rw [State.pendingRun, State.run, List.filter_eq_nil_iff] at hp
  rw [State.fullyGranted, Bool.and_eq_true, List.isEmpty_iff, List.isEmpty_iff, State.settingRun, State.run, State.tail,
    List.filter_eq_nil_iff, List.filter_eq_nil_iff]
  constructor
  · rintro ⟨hset, htail⟩ e he
    have h1 := hset e he
    have h2 := htail e he
    have h3 := hp e he
    rw [decide_eq_true_eq] at h1 h2 h3
    cases hk : s.holdBy t e.sec with
    | none => exact absurd hk h2
    | some k =>
      cases k with
      | granted => rfl
      | setting => exact absurd hk h1
      | releasePending => exact absurd hk h3
  · intro h
    refine ⟨fun e he => ?_, fun e he => ?_⟩ <;> rw [h e he] <;> decide

/-! ## What the invariant says of the holds -/

theorem State.Granting.pendingRun (h : s₀.Granting s) (t : TId) : s.pendingRun t = s₀.pendingRun t := by
  rw [State.pendingRun, State.pendingRun, State.run, State.run, h.entries]
  refine List.filter_congr fun e _ => decide_eq_decide.mpr ?_
  rcases h.hold e.sec with hs | ⟨h1, h2⟩
  · rw [State.holdBy_congr_hold hs]
  · constructor
    · intro hc
      obtain ⟨b, hb⟩ := State.holdOf_of_holdBy hc
      exact absurd (h2 _ hb).1 (by rintro (hk | hk) <;> exact nomatch hk)
    · intro hc
      obtain ⟨b, hb⟩ := State.holdOf_of_holdBy hc
      exact nomatch h1 _ hb

/-- Nothing is gained or lost by who was not evaluated. -/
theorem State.Walked.holdBy_other (h : s₀.Walked L s) (ht : t ∉ L) (n : Nat) : s.holdBy t n = s₀.holdBy t n := by
  rcases h.holds n with hs | ⟨h1, h2⟩
  · exact State.holdBy_congr_hold hs t
  · have hnone : ∀ {z : State}, (∀ x, z.holdOf n = some x → x.holder ∈ L) → z.holdBy t n = none := fun {z} hz => by
      cases hx : z.holdOf n with
      | none => exact State.holdBy_of_none hx
      | some x => rw [State.holdBy_of_hold hx, if_neg fun hc : x.holder = t => ht (hc ▸ hz x hx)]
    rw [hnone fun x hx => (h1 x hx).2, hnone fun x hx => (h2 x hx).2.2.1]

theorem State.Walked.newly_other (h : s₀.Walked L s) (ht : t ∉ L) : s₀.newlyGranted s t = [] :=
  State.newlyGranted_self (h.holdBy_other ht)

theorem State.Walked.isWaiting (h : s₀.Walked L s) (hw : s.isWaiting t = true) : s₀.isWaiting t = true := by
  rw [State.isWaiting_iff, h.waiting] at hw
  obtain ⟨x, hx, rfl⟩ := List.mem_map.mp hw
  obtain ⟨w, hw, hk⟩ := List.mem_filterMap.mp hx
  exact State.isWaiting_iff.mpr (List.mem_map.mpr ⟨w, hw, (State.keptEntry_key hk).symm⟩)

/-- Who waits and was granted sections has not been granted all. -/
theorem State.Walked.not_full (h : s₀.Walked L s) (hw : s.isWaiting t = true) (hnew : s₀.newlyGranted s t ≠ []) :
    s.fullyGranted t = false := by
  rw [State.isWaiting_iff, h.waiting] at hw
  obtain ⟨x, hx, rfl⟩ := List.mem_map.mp hw
  obtain ⟨w, -, hk⟩ := List.mem_filterMap.mp hx
  rw [State.keptEntry_key hk] at hnew ⊢
  by_contra hfull
  rw [Bool.not_eq_false] at hfull
  exact nomatch hk.symm.trans ((if_neg hnew).trans (if_pos hfull))

theorem State.Walked.entries (h : s₀.Walked L s) (t : TId) : (s.route t).entries = (s₀.route t).entries := h.granting.entries t

theorem State.Walked.once (h : s₀.Walked L s) (honce : s₀.SectionsOnce) : s.SectionsOnce := fun t => by
  rw [h.entries]
  exact honce t

/-! ## The start, and the marks of a walk -/

theorem State.Walked.refl (hwf : s₀.TablesWf) : s₀.Walked [] s₀ := by
  have hnew : ∀ t, s₀.newlyGranted s₀ t = [] := fun t => State.newlyGranted_self fun _ => rfl
  refine ⟨rfl, hwf, .refl s₀, nofun, fun t _ => ⟨rfl, rfl, rfl, rfl, rfl⟩, fun n => .inl rfl, ⟨[], (List.append_nil _).symm, nofun⟩,
    ?_, fun _ => rfl, fun t => ⟨0, Nat.zero_le _, rfl, iff_of_true (hnew t) rfl⟩, fun t _ => ⟨rfl, Iff.rfl⟩, nofun,
    fun t ht => absurd (hnew t) ht⟩
  have hkept : s₀.keptEntry s₀ = some := funext fun w => if_pos (hnew w.t)
  rw [hkept, List.filterMap_some]

theorem State.Walked.marks (h : s₀.Walked L s) (hwf : s₀.TablesWf) (a b : Bool) : s₀.Walked L { s with walkDue := a, roomWait := b } where
  only := by
    have := h.only
    rw [this]
  tables := h.tables
  granting := h.granting.trans (State.granting_of_same rfl rfl rfl rfl rfl fun _ => rfl) hwf.2.1 h.tables.2.1 h.tables.2.1
  within := h.within
  others := h.others
  holds := h.holds
  queue := h.queue
  waiting := h.waiting
  finalOff := h.finalOff
  number := h.number
  ungranted := h.ungranted
  settled t ht := (h.settled t ht).imp id fun ⟨us, hus⟩ =>
    ⟨us, (⟨rfl, rfl, rfl, rfl, rfl, rfl⟩ : s.SameTrack { s with walkDue := a, roomWait := b }).reservedUnit rfl hus⟩
  granted t ht := by
    obtain ⟨h1, h2, h3, h4, h5, h6⟩ := h.granted t ht
    exact ⟨h1, h2, h3, h4, h5, h6⟩

end

end Sys2Proof.Machine

/-! PROOFS. One evaluation more in a walk: holds, queue, number, and what a transporter granted sections keeps (R54, R56, R64). -/

namespace Sys2Proof.Machine

section
variable {s₀ s m r u : State} {t v : TId} {es : List Entry} {L : List TId}

/-! ## What the evaluation of another keeps -/

/-- The stop causes of v follow its own holds (R121). -/
theorem State.SameRuns.stopCauses (h : s.SameRuns u v) (hwf : Table.wf s.sections = true) (hwfu : Table.wf u.sections = true)
    (hstop : u.allStop = s.allStop) (hlines : u.lines = s.lines) (hsite : u.site = s.site) (hband : u.band = s.band) :
    u.stopCauses v = s.stopCauses v := by
  have hheld : ∀ (z : State) (n : Nat) (x : Section), z.sec? n = some x →
      ((∃ h, x.hold = some h ∧ h.holder = v) ↔ (z.holdBy v n).isSome = true) := fun z n x hx => by
    rw [State.holdBy, hx]
    dsimp only
    cases x.hold with
    | none => simp
    | some b => by_cases hb : b.holder = v <;> simp [hb]
  refine State.stopCauses_of_stopped hwf hwfu v hstop hlines hsite hband (fun n => ?_) fun n x y hx hy _ => ?_
  · have := congrArg (Option.map Prod.fst) (h.same n)
    rwa [Option.map_map, Option.map_map] at this
  · rw [hheld u n y hy, hheld s n x hx, h.hold]

theorem State.SameSections.pathLen (h : s.SameSections u) : u.pathLen = s.pathLen := by
  funext e
  cases hx : s.sec? e.sec with
  | none => simp only [State.pathLen, hx, h.none hx]
  | some x =>
    obtain ⟨y, hy, hdefn, -⟩ := h.sec hx
    simp only [State.pathLen, hx, hy, hdefn]

/-- The end of what t is granted reads its record and what it holds GRANTED. -/
theorem State.grantedEnd_congr (hentries : (u.route t).entries = (s.route t).entries)
    (hfinal : (u.route t).finalOff = (s.route t).finalOff) (hsame : s.SameSections u)
    (hold : ∀ n, u.holdBy t n = some .granted ↔ s.holdBy t n = some .granted) : u.grantedEnd t = s.grantedEnd t := by
  simp only [State.grantedEnd, State.grantedRun, State.run, hentries, hfinal, hold, hsame.pathLen]

theorem State.grantNotice_congr (hroute : u.route t = s.route t) (secs : List Nat) : u.grantNotice t secs = s.grantNotice t secs := by
  simp only [State.grantNotice, State.entryAt, hroute]

theorem State.EvaluatedAs.authCurrent_other (h : s.EvaluatedAs m r u t es) (hwf : s.TablesWf) (hv : v ≠ t) (ha : s.AuthCurrent v) :
    u.AuthCurrent v := by
  obtain ⟨htr, hroute, htl, hceil, -⟩ := h.others hv
  have hauth : s.SameForAuth u v := by
    refine ⟨htr, hroute, fun n => ?_, by rw [h.only], by rw [h.only], by rw [h.only]⟩
    have := congrArg (Option.map Prod.fst) ((h.serves hwf).ground n)
    rwa [Option.map_map, Option.map_map] at this
  exact hauth.authCurrent ha (by rw [htl]) hceil

theorem State.EvaluatedAs.causesCurrent_other (h : s.EvaluatedAs m r u t es) (hwf : s.TablesWf) (hwfu : u.TablesWf) (hv : v ≠ t)
    (hc : s.CausesCurrent v) : u.CausesCurrent v := by
  refine State.causesCurrent_of hc (h.others hv).1 ?_
  refine (h.sameRuns hwf hv).stopCauses hwf.1 hwfu.1 ?_ ?_ ?_ ?_ <;> rw [h.only]

theorem State.EvaluatedAs.newly_other (h : s.EvaluatedAs m r u t es) (hwf : s.TablesWf) (hv : v ≠ t) :
    s₀.newlyGranted u v = s₀.newlyGranted s v :=
  State.newlyGranted_congr (h.entries hwf v) ((h.serves hwf).holdBy_other hv)

/-- What stands in a queue at the end that has not overflowed. -/
theorem State.Bestowed.told_kept (h : s₀.Bestowed s t) {bs : List NoticeBody} (htold : s.Told u bs) (hroute : u.route t = s.route t)
    (hnew : s₀.newlyGranted u t = s₀.newlyGranted s t) (k : OpsId) (hk : (u.opsPort k).overflow = false) :
    ∃ secs, secs ≠ [] ∧ secs <:+ (s₀.newlyGranted u t).map (·.sec) ∧
      (⟨s₀.clock, u.grantNotice t secs⟩ : Notice) ∈ (u.opsPort k).notices := by
  obtain ⟨hk', hnotices⟩ := htold.notices hk
  obtain ⟨secs, hne, hsuf, hmem⟩ := h.told k hk'
  refine ⟨secs, hne, hnew ▸ hsuf, ?_⟩
  rw [hnotices, State.grantNotice_congr hroute]
  exact List.mem_append_left _ hmem

theorem State.Bestowed.other (h : s₀.Bestowed s v) (he : s.EvaluatedAs m r u t es) (hwf : s.TablesWf) (hwfu : u.TablesWf)
    (hv : v ≠ t) : s₀.Bestowed u v := by
  obtain ⟨htr, hroute, -⟩ := he.others hv
  have hserves := he.serves hwf
  obtain ⟨bs, hbs, -⟩ := he.told
  refine ⟨?_, he.authCurrent_other hwf hv h.auth, he.causesCurrent_other hwf hwfu hv h.causes, by rw [htr]; exact h.unparked,
    fun hp => by rw [htr]; exact h.parked hp, h.told_kept hbs hroute (he.newly_other hwf hv)⟩
  rw [hroute, h.endPos]
  refine (State.grantedEnd_congr (by rw [hroute]) (by rw [hroute]) hserves.same fun n => ?_).symm
  rw [hserves.holdBy_other hv]

end

end Sys2Proof.Machine

/-! PROOFS. One evaluation more in a walk: the invariant is kept (R54, R56, R64). -/

namespace Sys2Proof.Machine

section
variable {s₀ s m r u : State} {t v : TId} {es : List Entry} {L : List TId}

/-! ## Who is evaluated -/

theorem State.Walked.newly_self (hw : s₀.Walked L s) (honce : s₀.SectionsOnce) (h : s.Serves u t es) :
    s₀.newlyGranted u t = s₀.newlyGranted s t ++ es := State.newlyGranted_append hw.granting (hw.once honce) h

theorem State.Walked.mem_of_newly (hw : s₀.Walked L s) (h : s₀.newlyGranted s t ≠ []) : t ∈ L :=
  of_not_not fun hc => h (hw.newly_other hc)

/-- An evaluation that grants nothing leaves t what it was granted before. -/
theorem State.Bestowed.idle (h : s₀.Bestowed s t) (he : s.EvaluatedAs m r u t []) (hwf : s.TablesWf) (hs : s.GrantSettled t)
    (hnew : s₀.newlyGranted u t = s₀.newlyGranted s t) : s₀.Bestowed u t := by
  have hserves := he.serves hwf
  have hroute := he.route.1 rfl
  have hun := he.undisturbed hwf hs h.causes
  rw [← he.idle rfl] at hun
  refine ⟨?_, hun.auth h.auth, he.causesCurrent (.inr h.causes), by rw [hun.record]; exact h.unparked,
    fun hp => by rw [hun.record]; exact h.parked hp, h.told_kept hun.told hroute hnew⟩
  rw [hroute, h.endPos]
  refine (State.grantedEnd_congr (by rw [hroute]) (by rw [hroute]) hserves.same fun n => ?_).symm
  rw [hserves.holdBy_granted_iff, List.map_nil]
  exact or_iff_left List.not_mem_nil

/-- An evaluation that grants sections gives t what a grant gives. -/
theorem State.Walked.bestowed (hw : s₀.Walked L s) (honce : s₀.SectionsOnce) (he : s.EvaluatedAs m r u t es) (hes : es ≠ []) :
    s₀.Bestowed u t := by
  have hc := he.completed hes
  have hroute := he.route.2 hes
  have hrecord := hc.record
  have hstop : (u.tr t).stop = (r.tr t).stop := by rw [hrecord]
  refine ⟨by rw [hroute], hc.auth, he.causesCurrent (.inl hes), ?_, fun hp => ?_, fun k hk => ?_⟩
  · rw [hc.state]
    split
    · split <;> exact nofun
    · assumption
  · by_cases hnew : s₀.newlyGranted s t = []
    · rw [hc.state, if_pos (he.parked.mpr ((hw.ungranted t hnew).2.mpr hp)), hstop]
    · have hb := hw.granted t hnew
      have hun := he.undisturbed hw.tables (hw.settled t (hw.mem_of_newly hnew)) hb.causes
      have hno : (r.tr t).state ≠ .parked := by
        rw [hun.record]
        exact hb.unparked
      rw [hc.unparked hno, hun.record]
      exact hb.parked hp
  · obtain ⟨bs, hbs, hlast⟩ := he.told
    obtain ⟨cs, rfl⟩ := hlast hes
    refine ⟨es.map (·.sec), by simpa using hes, ?_, ?_⟩
    · rw [hw.newly_self honce (he.serves hw.tables), List.map_append]
      exact List.suffix_append _ _
    · have hclock : s.clock = s₀.clock := by rw [hw.only]
      rw [(hbs.notices hk).2, ← hclock]
      simp

/-! ## The fields of the invariant -/

theorem State.Walked.step_holds (hw : s₀.Walked L s) (h : s.Serves u t es) (n : Nat) : u.holdOf n = s₀.holdOf n ∨
    (∀ h, s₀.holdOf n = some h → h.kind = .setting ∧ h.holder ∈ t :: L) ∧
    ∀ h, u.holdOf n = some h → (h.kind = .granted ∨ h.kind = .setting) ∧ h.entered = false ∧ h.holder ∈ t :: L ∧
      ∃ e ∈ (s₀.route h.holder).entries, e.sec = n := by
  have hrecord : ∀ e ∈ (s.route t).entries, e ∈ (s₀.route t).entries := fun e he => by
    rw [← hw.entries]
    exact he
  have hmoved : u.holdOf n = s.holdOf n ∨ (∀ h, s.holdOf n = some h → h.kind = .setting ∧ h.holder = t) ∧
      ∀ h, u.holdOf n = some h → (h.kind = .granted ∨ h.kind = .setting) ∧ h.entered = false ∧ h.holder = t ∧
        ∃ e ∈ (s₀.route t).entries, e.sec = n := by
    by_cases hn : n ∈ es.map (·.sec)
    · obtain ⟨e, he, rfl⟩ := List.mem_map.mp hn
      refine .inr ⟨fun x hx => ?_, fun x hx => ?_⟩
      · rcases State.holdOf_of_available (h.available e he).1 with hnone | ⟨y, hy, hyt, hk⟩
        · exact nomatch hx.symm.trans hnone
        · obtain rfl := Option.some.inj (hx.symm.trans hy)
          exact ⟨hk, hyt⟩
      · obtain rfl := Option.some.inj (hx.symm.trans (h.granted _ hn))
        exact ⟨.inl rfl, rfl, rfl, e, hrecord e ((List.dropWhile_sublist _).subset (h.order.subset he)), rfl⟩
    · rcases h.rest n hn with hr | ⟨hr, hs, -⟩ | ⟨hr, hs, e, he, hsec, -⟩
      · exact .inl hr
      · obtain ⟨b, hb⟩ := State.holdOf_of_holdBy hs
        refine .inr ⟨fun x hx => ?_, fun x hx => absurd (hx.symm.trans hr) nofun⟩
        obtain rfl := Option.some.inj (hx.symm.trans hb)
        exact ⟨rfl, rfl⟩
      · refine .inr ⟨fun x hx => absurd (hx.symm.trans hs) nofun, fun x hx => ?_⟩
        obtain rfl := Option.some.inj (hx.symm.trans hr)
        exact ⟨.inr rfl, rfl, rfl, e, hrecord e he, hsec⟩
  rcases hmoved with hu | ⟨h1, h2⟩ <;> rcases hw.holds n with hs | ⟨h3, h4⟩
  · exact .inl (hu.trans hs)
  · refine .inr ⟨fun x hx => ⟨(h3 x hx).1, List.mem_cons_of_mem _ (h3 x hx).2⟩, fun x hx => ?_⟩
    obtain ⟨k1, k2, k3, k4⟩ := h4 x (hu.symm.trans hx)
    exact ⟨k1, k2, List.mem_cons_of_mem _ k3, k4⟩
  · refine .inr ⟨fun x hx => ?_, fun x hx => ?_⟩
    · obtain ⟨k1, k2⟩ := h1 x (hs.trans hx)
      exact ⟨k1, k2 ▸ List.mem_cons_self⟩
    · obtain ⟨k1, k2, k3, k4⟩ := h2 x hx
      exact ⟨k1, k2, k3 ▸ List.mem_cons_self, k3.symm ▸ k4⟩
  · refine .inr ⟨fun x hx => ⟨(h3 x hx).1, List.mem_cons_of_mem _ (h3 x hx).2⟩, fun x hx => ?_⟩
    obtain ⟨k1, k2, k3, k4⟩ := h2 x hx
    exact ⟨k1, k2, k3 ▸ List.mem_cons_self, k3.symm ▸ k4⟩

/-- Who waits is kept by those evaluated so far. -/
theorem State.Walked.kept_of_waiting (hw : s₀.Walked L s) {w : Waiting} (h : s.isWaiting w.t = true) :
    ∃ x, s₀.keptEntry s w = some x := by
  unfold State.keptEntry
  split
  · exact ⟨_, rfl⟩
  · next hnew =>
    rw [if_neg (by rw [hw.not_full h hnew]; exact nofun)]
    exact ⟨_, rfl⟩

theorem State.Walked.step_waiting (hw : s₀.Walked L s) (honce : s₀.SectionsOnce) (he : s.EvaluatedAs m r u t es)
    (hwait : s.isWaiting t = true) (hp : s.pendingRun t = []) : u.waiting = s₀.waiting.filterMap (s₀.keptEntry u) := by
  have hserves := he.serves hw.tables
  have hself := hw.newly_self honce hserves
  have hother : ∀ w : Waiting, w.t ≠ t → s₀.keptEntry u w = s₀.keptEntry s w := fun w hne => by
    rw [State.keptEntry, State.keptEntry, he.newly_other hw.tables hne, (he.sameRuns hw.tables hne).fullyGranted]
  by_cases hes : es = []
  · subst hes
    have hfull : u.fullyGranted t = s.fullyGranted t := by
      rw [Bool.eq_iff_iff, State.fullyGranted_iff hp,
        State.fullyGranted_iff ((hserves.pendingRun (he.entries hw.tables t)).trans hp), hserves.entries]
      refine forall₂_congr fun e _ => ?_
      rw [hserves.holdBy_granted_iff, List.map_nil]
      exact or_iff_left List.not_mem_nil
    have hkept : s₀.keptEntry u = s₀.keptEntry s := by
      funext w
      by_cases hwt : w.t = t
      · rw [State.keptEntry, State.keptEntry, hwt, hself, List.append_nil, hfull]
      · exact hother w hwt
    rw [he.queue.1 rfl, hkept, hw.waiting]
  · have hnew : s₀.newlyGranted u t ≠ [] := by
      rw [hself]
      exact List.append_ne_nil_of_right_ne_nil _ hes
    have hentry : s.waitEntry t = s₀.waitEntry t := by rw [hw.only]; rfl
    rw [he.queue.2 hes, hw.waiting, hentry]
    by_cases hfull : u.fullyGranted t = true
    · rw [if_pos hfull, List.filter_filterMap]
      refine List.filterMap_congr fun w _ => ?_
      by_cases hwt : w.t = t
      · obtain ⟨x, hx⟩ := hw.kept_of_waiting (w := w) (hwt ▸ hwait)
        rw [hx, State.keptEntry, hwt, if_neg hnew, if_pos hfull]
        simp [State.keptEntry_key hx, hwt]
      · rw [hother w hwt]
        cases hx : s₀.keptEntry s w with
        | none => rfl
        | some x => simp [State.keptEntry_key hx, hwt]
    · rw [if_neg hfull, List.map_filterMap]
      refine List.filterMap_congr fun w _ => ?_
      by_cases hwt : w.t = t
      · obtain ⟨x, hx⟩ := hw.kept_of_waiting (w := w) (hwt ▸ hwait)
        rw [hx, State.keptEntry, hwt, if_neg hnew, if_neg hfull]
        simp [State.keptEntry_key hx, hwt]
      · rw [hother w hwt]
        cases hx : s₀.keptEntry s w with
        | none => rfl
        | some x => simp [State.keptEntry_key hx, hwt]

theorem State.Walked.step_number (hw : s₀.Walked L s) (honce : s₀.SectionsOnce) (he : s.EvaluatedAs m r u t es) (v : TId) :
    ∃ j ≤ (t :: L).count v, (u.route v).authNum = nextAuth^[j] (s₀.route v).authNum ∧ (s₀.newlyGranted u v = [] ↔ j = 0) := by
  obtain ⟨j, hj, hnum, hnew⟩ := hw.number v
  by_cases hv : v = t
  · subst hv
    have hself := hw.newly_self honce (he.serves hw.tables)
    rw [List.count_cons_self]
    by_cases hes : es = []
    · refine ⟨j, by omega, by rw [he.route.1 hes, hnum], ?_⟩
      rw [hself, hes, List.append_nil, hnew]
    · refine ⟨j + 1, by omega, ?_, iff_of_false ?_ (Nat.succ_ne_zero j)⟩
      · rw [he.route.2 hes, Function.iterate_succ_apply', ← hnum]
      · rw [hself]
        exact List.append_ne_nil_of_right_ne_nil _ hes
  · rw [List.count_cons_of_ne (Ne.symm hv)]
    refine ⟨j, hj, by rw [(he.others hv).2.1, hnum], ?_⟩
    rw [he.newly_other hw.tables hv, hnew]

theorem State.Walked.step_ungranted (hw : s₀.Walked L s) (honce : s₀.SectionsOnce) (he : s.EvaluatedAs m r u t es) (v : TId)
    (hnew : s₀.newlyGranted u v = []) : (u.route v).endPos = (s₀.route v).endPos ∧
      ((u.tr v).state = .parked ↔ (s₀.tr v).state = .parked) := by
  by_cases hv : v = t
  · subst hv
    rw [hw.newly_self honce (he.serves hw.tables), List.append_eq_nil_iff] at hnew
    obtain ⟨h1, h2⟩ := hw.ungranted v hnew.1
    rw [he.route.1 hnew.2, he.idle hnew.2, he.parked]
    exact ⟨h1, h2⟩
  · rw [he.newly_other hw.tables hv] at hnew
    obtain ⟨htr, hroute, -⟩ := he.others hv
    rw [htr, hroute]
    exact hw.ungranted v hnew

theorem State.Walked.step_granted (hw : s₀.Walked L s) (honce : s₀.SectionsOnce) (he : s.EvaluatedAs m r u t es) (hwfu : u.TablesWf)
    (v : TId) (hnew : s₀.newlyGranted u v ≠ []) : s₀.Bestowed u v := by
  by_cases hv : v = t
  · subst hv
    have hself := hw.newly_self honce (he.serves hw.tables)
    by_cases hes : es = []
    · subst hes
      rw [List.append_nil] at hself
      rw [hself] at hnew
      exact (hw.granted v hnew).idle he hw.tables (hw.settled v (hw.mem_of_newly hnew)) hself
    · exact hw.bestowed honce he hes
  · rw [he.newly_other hw.tables hv] at hnew
    exact (hw.granted v hnew).other he hw.tables hwfu hv

theorem State.GrantSettled.other (h : s.GrantSettled v) (he : s.EvaluatedAs m r u t es) (hwf : s.TablesWf) (hwfu : u.TablesWf)
    (hv : v ≠ t) : u.GrantSettled v :=
  h.imp (fun hs => (he.sameRuns hwf hv).settingRun.trans hs) fun ⟨us, hus⟩ =>
    ⟨us, hus.keeps (he.serves hwf) hwf.2.1 hwfu.2.1 hv (he.entries hwf v)⟩

/-! ## The step -/

theorem State.Walked.evaluate (hw : s₀.Walked L s) (hwf : s₀.TablesWf) (honce : s₀.SectionsOnce) (hwait : s.isWaiting t = true)
    (hp : s.pendingRun t = []) : s₀.Walked (t :: L) (s.evaluate t) := by
  obtain ⟨es, m, r, he⟩ := State.evaluate_as hw.tables t
  have hwfu := State.evaluate_tablesWf hw.tables t
  have hg := State.evaluate_granting hw.tables t
  generalize s.evaluate t = u at he hwfu hg ⊢
  have hserves := he.serves hw.tables
  exact {
    only := by rw [he.only, hw.only]
    tables := hwfu
    granting := hw.granting.trans hg hwf.2.1 hw.tables.2.1 hwfu.2.1
    within := fun v hv => (List.mem_cons.mp hv).elim
      (fun hvt => hvt ▸ ⟨hw.isWaiting hwait, (hw.granting.pendingRun t).symm.trans hp⟩) (hw.within v)
    others := fun v hv => by
      rw [List.mem_cons, not_or] at hv
      exact State.same_trans (hw.others v hv.2) (he.others hv.1)
    holds := hw.step_holds hserves
    queue := by
      obtain ⟨cs, hcs, h1⟩ := hw.queue
      obtain ⟨ds, hds, h2⟩ := hserves.queue
      refine ⟨cs ++ ds, by rw [hds, hcs, List.append_assoc], fun d hd => ?_⟩
      rcases List.mem_append.mp hd with hd | hd
      · obtain ⟨hblade, v, hv, hreq⟩ := h1 d hd
        exact ⟨hblade, v, List.mem_cons_of_mem _ hv, hreq⟩
      · obtain ⟨hreq, hblade, -⟩ := h2 d hd
        exact ⟨hblade, t, List.mem_cons_self, hreq⟩
    waiting := hw.step_waiting honce he hwait hp
    finalOff := fun v => by
      rw [← hw.finalOff v]
      by_cases hv : v = t
      · subst hv
        by_cases hes : es = []
        · rw [he.route.1 hes]
        · rw [he.route.2 hes]
      · rw [(he.others hv).2.1]
    number := hw.step_number honce he
    ungranted := hw.step_ungranted honce he
    settled := fun v hv => by
      by_cases hvt : v = t
      · rw [hvt]
        exact (he.stops hw.tables (hw.once honce t)).2
      · exact (hw.settled v ((List.mem_cons.mp hv).resolve_left hvt)).other he hw.tables hwfu hvt
    granted := hw.step_granted honce he hwfu }

/-! ## The walk -/

/-- The transporters of ts that wait are evaluated, each as often as it stands there at most. -/
theorem State.Walked.walkAll (hwf : s₀.TablesWf) (honce : s₀.SectionsOnce) : ∀ (ts : List TId) {L : List TId} {s : State},
    s₀.Walked L s → ∃ L', s₀.Walked L' (ts.foldl State.walkOne s) ∧ ∀ v, L'.count v ≤ ts.count v + L.count v
  | [], L, _, hw => ⟨L, hw, fun _ => by simp⟩
  | t :: ts, L, s, hw => by
    rw [List.foldl_cons]
    by_cases hc : s.isWaiting t = true ∧ s.pendingRun t = []
    · rw [State.walkOne_pos hc.1 hc.2]
      obtain ⟨L', h1, h2⟩ := State.Walked.walkAll hwf honce ts (hw.evaluate hwf honce hc.1 hc.2)
      refine ⟨L', h1, fun v => (h2 v).trans ?_⟩
      rw [List.count_cons, List.count_cons]
      omega
    · rw [State.walkOne_neg hc]
      obtain ⟨L', h1, h2⟩ := State.Walked.walkAll hwf honce ts hw
      exact ⟨L', h1, fun v => (h2 v).trans (by rw [List.count_cons]; omega)⟩

/-- One walk evaluates each waiting transporter at most once. -/
theorem State.Walked.walkOnce (hwf : s₀.TablesWf) (honce : s₀.SectionsOnce) (hw : s₀.Walked L s) (hq : s.QueueOnce) :
    ∃ L', s₀.Walked L' s.walkOnce ∧ ∀ v, L'.count v ≤ L.count v + 1 := by
  by_cases hnil : s.waiting = []
  · rw [State.walkOnce_of_nil hnil]
    exact ⟨L, hw.marks hwf false s.roomWait, fun v => Nat.le_succ _⟩
  · rw [State.walkOnce_of_waiting hnil]
    obtain ⟨L', h1, h2⟩ := State.Walked.walkAll hwf honce (s.waiting.map (·.t)) (hw.marks hwf false false)
    refine ⟨L', h1, fun v => (h2 v).trans ?_⟩
    have hcount : (s.waiting.map (·.t)).count v ≤ 1 := List.nodup_iff_count_le_one.mp hq v
    omega

/-- The queue keeps its order, and nobody joins it. -/
theorem State.Walked.queue_sublist (hw : s₀.Walked L s) : (s.waiting.map (·.t)).Sublist (s₀.waiting.map (·.t)) := by
  have hkey : ((fun w : Waiting => w.t) ∘ fun w => if s₀.newlyGranted s w.t = [] then w else s₀.waitEntry w.t) = fun w => w.t := by
    funext w
    dsimp only [Function.comp_apply]
    split <;> rfl
  rw [hw.waiting, State.filterMap_keptEntry, List.map_map, hkey]
  exact List.filter_sublist.map _

theorem State.Walked.queueOnce (hw : s₀.Walked L s) (hq : s₀.QueueOnce) : s.QueueOnce := hw.queue_sublist.nodup hq

theorem State.Walked.walkFrom (hwf : s₀.TablesWf) (honce : s₀.SectionsOnce) (hq : s₀.QueueOnce) : ∀ (n : Nat) {L : List TId} {s : State},
    s₀.Walked L s → ∃ L', s₀.Walked L' (walkFrom n s) ∧ ∀ v, L'.count v ≤ L.count v + (n + 1)
  | 0, _, _, hw => State.Walked.walkOnce hwf honce hw (hw.queueOnce hq)
  | n + 1, L, s, hw => by
    obtain ⟨L1, h1, h2⟩ := State.Walked.walkOnce hwf honce hw (hw.queueOnce hq)
    rw [Machine.walkFrom]
    split
    · obtain ⟨L', h3, h4⟩ := State.Walked.walkFrom hwf honce hq n h1
      exact ⟨L', h3, fun v => (h4 v).trans (by have := h2 v; omega)⟩
    · exact ⟨L1, h1, fun v => (h2 v).trans (by omega)⟩

end

end Sys2Proof.Machine

/-! PROOFS. A walk in which no reservation stands tells its grants and what stop causes tell, and causes no further walk
(R63, R54, R121). -/

namespace Sys2Proof.Machine

section
variable {s m r u z : State} {t v : TId} {es : List Entry}

/-! ## One evaluation of a transporter that holds no reservation -/

/-- Where the causes are current an evaluation tells nothing. -/
theorem State.CausesCurrent.evaluationNotice (h : s.CausesCurrent t) : s.evaluationNotice t = [] := by
  unfold State.evaluationNotice
  by_cases hstop : (s.tr t).stop = s.stopCauses t
  · rw [if_pos hstop]
  · have hoff := h.resolve_right hstop
    rw [if_neg hstop, hoff, if_neg (fun hc => absurd hc.1 nofun), if_neg (fun hc => absurd hc.1 nofun)]

theorem State.evaluationNotice_congr (htr : u.tr t = s.tr t) (hroute : u.route t = s.route t) (hstop : u.stopCauses t = s.stopCauses t) :
    u.evaluationNotice t = s.evaluationNotice t := by
  simp only [State.evaluationNotice, htr, hroute, hstop]

/-- Where nothing was reserved the end of the grant drops nothing: it tells what the evaluation after a reservation finds. -/
theorem State.GrantEnds.told_quiet (h : m.GrantEnds r t) (hwf : m.TablesWf) (hwfr : r.TablesWf)
    (hnodup : ((m.route t).entries.map (·.sec)).Nodup) (hs : m.settingRun t = []) :
    r.walkDue = m.walkDue ∧ (m.Told r [] ∧ r.settingRun t = [] ∨ m.Told r (m.evaluationNotice t) ∧ r.settingRun t ≠ []) := by
  cases h with
  | whole _ hu => exact ⟨by rw [hu], .inl ⟨State.told_nil (by rw [hu]), hu ▸ hs⟩⟩
  | unavailable _ hu _ =>
    have hr := hu.nothing hs
    exact ⟨by rw [hr], .inl ⟨State.told_nil (by rw [hr]), hr ▸ hs⟩⟩
  | noRoom _ _ _ d hd _ hu =>
    rw [hd.nothing hs] at hu
    have hset : ({ m with roomWait := true } : State).settingRun t = [] := hs
    exact ⟨by rw [hu], .inl ⟨State.told_nil (by rw [hu]), by rw [hu]; exact hset⟩⟩
  | reserved hav hp hr z hz heval =>
    have hzwf : Table.wf z.sections = true := by
      rw [← heval.sameTrack.sections]
      exact hwfr.1
    have hnotice : z.evaluationNotice t = m.evaluationNotice t :=
      State.evaluationNotice_congr (by rw [hz.only]; rfl) (by rw [hz.only]; rfl) (hz.stopCauses hav hwf.1 hzwf)
    have htold := heval.notices
    rw [List.flatMap_singleton, hnotice] at htold
    have hfirst : m.Told z [] := State.told_nil (by rw [hz.only])
    refine ⟨by rw [heval.only, hz.only], .inr ⟨hfirst.trans (by rw [hz.only]) htold, ?_⟩⟩
    have hsame := heval.sameTrack
    obtain ⟨e, he, -⟩ := id hp
    refine List.ne_nil_of_mem (List.mem_filter.mpr ⟨?_, decide_eq_true ?_⟩ : e ∈ r.settingRun t)
    · rw [heval.only, hz.only]
      exact (m.nextUnit_sublist t).subset he
    · rw [State.holdBy_congr hsame.sections]
      exact (hz.reservedUnit hwf.2.1 hnodup hav hp hr).setting e he

/-- An evaluation of a transporter that holds no reservation tells what R54 and R121 call for, and causes no walk. -/
theorem State.EvaluatedAs.told_quiet (h : s.EvaluatedAs m r u t es) (hwf : s.TablesWf) (honce : s.SectionsOnce)
    (hs : s.settingRun t = []) :
    u.walkDue = s.walkDue ∧ s.Told u ((if es = [] ∧ u.settingRun t = [] then [] else s.evaluationNotice t) ++
      if es = [] then [] else [u.grantNotice t (es.map (·.sec))]) := by
  have hmwf : m.TablesWf := State.tablesWf_of_ground h.run.run.ground (by rw [h.run.only]) hwf
  have hrwf : r.TablesWf := State.tablesWf_of_ground (h.ground.trans h.run.run.ground.symm) (by rw [h.ends.only]) hmwf
  obtain ⟨hdue, hends⟩ := h.ends.told_quiet hmwf hrwf (by rw [h.run.serves.entries]; exact honce t) (h.run.settingRun hs)
  have hmdue : m.walkDue = s.walkDue := by rw [h.run.only]
  by_cases hes : es = []
  · have hm := h.run.run.idle hes
    rw [hm] at hends hdue
    rw [h.idle hes]
    refine ⟨hdue, ?_⟩
    rw [if_pos hes, List.append_nil]
    rcases hends with ⟨htold, hset⟩ | ⟨htold, hset⟩
    · rw [if_pos ⟨hes, hset⟩]
      exact htold
    · rw [if_neg fun hc => hset hc.2]
      exact htold
  · have hc := h.completed hes
    refine ⟨?_, ?_⟩
    · rw [hc.only]
      exact hdue.trans hmdue
    · rw [if_neg fun hc => hes hc.1, if_neg hes]
      have hquiet : m.Told r [] := by
        rw [(h.run.causesCurrent (.inl hes)).evaluationNotice] at hends
        exact hends.elim (·.1) (·.1)
      have hr : s.Told r (s.evaluationNotice t) := by
        have := (h.run.told hes).trans h.clock.1 hquiet
        rwa [List.append_nil] at this
      exact hr.trans h.clock.2.1 hc.told

theorem State.evaluate_told (hwf : s.TablesWf) (honce : s.SectionsOnce) (hs : s.settingRun t = []) :
    (s.evaluate t).walkDue = s.walkDue ∧ s.Told (s.evaluate t) (s.grantTold (s.evaluate t) t) := by
  obtain ⟨es, m, r, h⟩ := State.evaluate_as hwf t
  have hnew : s.newlyGranted (s.evaluate t) t = es := by
    rw [State.newlyGranted_append (.refl s) honce (h.serves hwf), State.newlyGranted_self fun _ => rfl, List.nil_append]
  rw [State.grantTold, hnew]
  exact h.told_quiet hwf honce hs

/-! ## The walk -/

/-- What the grant of v tells reads v's record, route, holds and stop causes before, and its route and holds after. -/
theorem State.grantTold_congr {s' u' : State} (htr : s'.tr v = s.tr v) (hroute : s'.route v = s.route v)
    (hhold : ∀ n, s'.holdBy v n = s.holdBy v n) (hstop : s'.stopCauses v = s.stopCauses v) (huroute : u'.route v = u.route v)
    (huhold : ∀ n, u'.holdBy v n = u.holdBy v n) : s'.grantTold u' v = s.grantTold u v := by
  have hnew : s'.newlyGranted u' v = s.newlyGranted u v := by
    simp only [State.newlyGranted, huroute, hhold, huhold]
  have hset : u'.settingRun v = u.settingRun v := by
    simp only [State.settingRun, State.run, huroute, huhold]
  rw [State.grantTold, State.grantTold, hnew, hset, State.evaluationNotice_congr htr hroute hstop, State.grantNotice_congr huroute]

/-- Nothing is told of who is granted and holds nothing. -/
theorem State.grantTold_same (hhold : ∀ n, u.holdBy v n = s.holdBy v n) (hset : u.settingRun v = []) : s.grantTold u v = [] := by
  rw [State.grantTold, State.newlyGranted_self hhold, hset]
  rfl

/-- What an evaluation, or none, of one transporter keeps of v. -/
structure State.LeftAlone (s u : State) (v : TId) : Prop where
  same : s.SameTransporter u v
  runs : s.SameRuns u v
  stopCauses : u.stopCauses v = s.stopCauses v

theorem State.LeftAlone.refl (s : State) (v : TId) : s.LeftAlone s v :=
  ⟨⟨rfl, rfl, rfl, rfl, rfl⟩, ⟨rfl, fun _ => rfl, fun _ => rfl⟩, rfl⟩

theorem State.LeftAlone.trans (h : s.LeftAlone m v) (h' : m.LeftAlone u v) : s.LeftAlone u v :=
  ⟨State.same_trans h.same h'.same, ⟨h'.runs.entries.trans h.runs.entries, fun n => (h'.runs.hold n).trans (h.runs.hold n),
    h.runs.same.trans h'.runs.same⟩, h'.stopCauses.trans h.stopCauses⟩

theorem State.walkOne_leftAlone (hwf : s.TablesWf) (hv : v ≠ t) : s.LeftAlone (s.walkOne t) v := by
  by_cases hc : s.isWaiting t = true ∧ s.pendingRun t = []
  · rw [State.walkOne_pos hc.1 hc.2]
    obtain ⟨es, m, r, h⟩ := State.evaluate_as hwf t
    have hruns := h.sameRuns hwf hv
    have honly := h.only
    refine ⟨h.others hv, hruns, hruns.stopCauses hwf.1 (State.evaluate_tablesWf hwf t).1 ?_ ?_ ?_ ?_⟩ <;> rw [honly]
  · rw [State.walkOne_neg hc]
    exact .refl s v

theorem State.walkOne_told (hwf : s.TablesWf) (honce : s.SectionsOnce) (hs : s.settingRun t = []) :
    (s.walkOne t).walkDue = s.walkDue ∧ (s.walkOne t).clock = s.clock ∧ s.Told (s.walkOne t) (s.grantTold (s.walkOne t) t) := by
  by_cases hc : s.isWaiting t = true ∧ s.pendingRun t = []
  · rw [State.walkOne_pos hc.1 hc.2]
    obtain ⟨es, m, r, h⟩ := State.evaluate_as hwf t
    obtain ⟨h1, h2⟩ := State.evaluate_told hwf honce hs
    exact ⟨h1, h.clock.2.2, h2⟩
  · rw [State.walkOne_neg hc]
    refine ⟨rfl, rfl, ?_⟩
    rw [State.grantTold_same (fun _ => rfl) hs]
    exact State.told_nil rfl

theorem State.walkAll_told : ∀ (ts : List TId) (s : State), ts.Nodup → s.TablesWf → s.SectionsOnce →
    (∀ v ∈ ts, s.settingRun v = []) →
    let u := ts.foldl State.walkOne s
    u.walkDue = s.walkDue ∧ s.Told u (ts.flatMap (s.grantTold u)) ∧ ∀ v ∉ ts, s.LeftAlone u v
  | [], s, _, _, _, _ => ⟨rfl, fun _ => rfl, fun v _ => .refl s v⟩
  | t :: ts, s, hnodup, hwf, honce, hs => by
    obtain ⟨ht, hts⟩ := List.nodup_cons.mp hnodup
    obtain ⟨hdue, hclock, htold⟩ := State.walkOne_told hwf honce (hs t List.mem_cons_self)
    obtain ⟨hg, hwf1⟩ := State.walkOne_granting hwf t
    have halone : ∀ v, v ≠ t → s.LeftAlone (s.walkOne t) v := fun v hv => State.walkOne_leftAlone hwf hv
    have hne : ∀ v ∈ ts, v ≠ t := fun v hv hvt => ht (hvt ▸ hv)
    obtain ⟨h1, h2, h3⟩ := State.walkAll_told ts (s.walkOne t) hts hwf1 (fun v => by rw [hg.entries]; exact honce v) fun v hv =>
      (halone v (hne v hv)).runs.settingRun.trans (hs v (List.mem_cons_of_mem _ hv))
    dsimp only [List.foldl_cons]
    generalize hw : s.walkOne t = w at *
    generalize ts.foldl State.walkOne w = u at *
    have hfirst : s.grantTold w t = s.grantTold u t := by
      obtain ⟨⟨-, hroute, -⟩, hruns, -⟩ := h3 t ht
      exact (State.grantTold_congr rfl rfl (fun _ => rfl) rfl hroute hruns.hold).symm
    have hrest : ts.flatMap (w.grantTold u) = ts.flatMap (s.grantTold u) := List.flatMap_congr fun v hv => by
      obtain ⟨⟨htr, hroute, -⟩, hruns, hstop⟩ := halone v (hne v hv)
      exact State.grantTold_congr htr hroute hruns.hold hstop rfl fun _ => rfl
    refine ⟨h1.trans hdue, ?_, fun v hv => ?_⟩
    · rw [List.flatMap_cons, ← hfirst, ← hrest]
      exact htold.trans hclock h2
    · rw [List.mem_cons, not_or] at hv
      exact (halone v hv.1).trans (h3 v hv.2)

theorem State.walkOnce_told (hwf : s.TablesWf) (honce : s.SectionsOnce) (hq : s.QueueOnce)
    (hs : ∀ w ∈ s.waiting, s.settingRun w.t = []) : s.walkOnce.walkDue = false ∧
      s.Told s.walkOnce (s.waiting.flatMap fun w => s.grantTold s.walkOnce w.t) := by
  by_cases hnil : s.waiting = []
  · rw [State.walkOnce_of_nil hnil, hnil]
    exact ⟨rfl, fun _ => rfl⟩
  · have hset : ∀ v ∈ s.waiting.map (·.t), s.settingRun v = [] := fun v hv => by
      obtain ⟨w, hw, rfl⟩ := List.mem_map.mp hv
      exact hs w hw
    obtain ⟨h1, h2, -⟩ := State.walkAll_told (s.waiting.map (·.t)) { s with walkDue := false, roomWait := false } hq hwf honce hset
    rw [← State.walkOnce_of_waiting hnil] at h1 h2
    rw [List.flatMap_map] at h2
    exact ⟨h1, h2⟩

/-- Where no waiting transporter holds a reservation, the walk ends with its first round. -/
theorem walkFrom_quiet (n : Nat) (hd : s.walkOnce.walkDue = false) : walkFrom n s = s.walkOnce := by
  cases n with
  | zero => rfl
  | succ n => rw [walkFrom, hd, if_neg nofun]

end

end Sys2Proof.Machine

/-! PROOFS. The walk of the pending queue (O58). -/

namespace Sys2Proof.Machine

section
variable {s₀ s u : State} {t : TId} {L : List TId}

/-! ## Numbers -/

/-- The number after j increments, for fewer than a full turn (R56). -/
theorem nextAuth_iterate (n : Nat) : ∀ j, 1 ≤ j → j ≤ 254 →
    nextAuth^[j] n = if n + j ≤ 255 then n + j else if 255 ≤ n then j else n + j - 255
  | 0, h, _ => absurd h (by omega)
  | j + 1, _, hle => by
    rw [Function.iterate_succ_apply']
    by_cases hj : j = 0
    · subst hj
      simp only [Function.iterate_zero, id_eq, nextAuth, ge_iff_le, Nat.zero_add]
      split_ifs <;> omega
    · rw [nextAuth_iterate n j (by omega) (by omega), nextAuth]
      split_ifs <;> omega

theorem nextAuth_iterate_ne (n : Nat) {j : Nat} (h1 : 1 ≤ j) (h2 : j ≤ 254) : nextAuth^[j] n ≠ n := by
  rw [nextAuth_iterate n j h1 h2]
  split_ifs <;> omega

/-! ## The track -/

theorem State.Granting.mem_newly (h : s₀.Granting s) {n : Nat} (hs : s.holdBy t n = some .granted)
    (hs₀ : s₀.holdBy t n ≠ some .granted) : ∃ e ∈ s₀.newlyGranted s t, e.sec = n := by
  obtain ⟨e, b, a, hrun, rfl, -⟩ := h.secured t n hs₀ hs
  exact ⟨e, State.mem_newlyGranted.mpr ⟨by rw [hrun.entries]; simp, hs, hs₀⟩, rfl⟩

theorem State.Walked.trackGranted (h : s₀.Walked L s) :
    s₀.TrackGranted s (fun t => s₀.isWaiting t = true ∧ s₀.pendingRun t = []) where
  detection := h.granting.same
  holds n := (h.holds n).imp id fun ⟨h1, h2⟩ => by
    refine ⟨fun x hx => ⟨(h1 x hx).1, h.within _ (h1 x hx).2⟩, fun x hx => ?_⟩
    obtain ⟨hk, hent, hL, e, he, hsec⟩ := h2 x hx
    exact ⟨hk, hent, h.within _ hL, e, by rw [h.entries]; exact he, hsec⟩
  locked v e he p hp := by
    obtain ⟨-, hs, hs₀⟩ := State.mem_newlyGranted.mp he
    obtain ⟨f, b, a, -, -, hpoint⟩ := h.granting.secured v e.sec hs₀ hs
    obtain ⟨⟨q, x⟩, hq, rfl⟩ := Option.map_eq_some_iff.mp ((h.granting.keys e.sec).trans hp)
    obtain ⟨hsec, -⟩ := hpoint q x hq
    obtain ⟨l, hl⟩ := h.granting.lock q
    have hx := ((State.pointOf_eq_some_iff h.tables.2.1).mp hq).2
    cases hy : s₀.point? q with
    | none =>
      rw [hy] at hl
      exact nomatch hx.symm.trans hl
    | some y =>
      rw [hy, hx, Option.map_some, Option.some.injEq] at hl
      have hlock : l y = some v := by
        rw [← hsec.lock, hl]
      rw [hx, hl, hlock]
      rfl
  points p hp := h.granting.points p fun v n hkey hs => of_not_not fun hs₀ => by
    obtain ⟨e, he, rfl⟩ := h.granting.mem_newly hs hs₀
    exact hp v e he hkey

/-! ## What each transporter gets -/

theorem State.Walked.granted_iff (h : s₀.Walked L s) (t : TId) :
    (∃ e ∈ (s₀.route t).entries, s.holdBy t e.sec = some .granted ∧ s₀.holdBy t e.sec ≠ some .granted) ↔
      s₀.newlyGranted s t ≠ [] := by
  constructor
  · rintro ⟨e, he, hs⟩
    exact List.ne_nil_of_mem (State.mem_newlyGranted.mpr ⟨by rw [h.entries]; exact he, hs⟩)
  · intro hne
    obtain ⟨e, he⟩ := List.exists_mem_of_ne_nil _ hne
    obtain ⟨hmem, hs⟩ := State.mem_newlyGranted.mp he
    exact ⟨e, by rw [← h.entries]; exact hmem, hs⟩

/-- Who waits still: who waited and was granted nothing, or not all of its route. -/
theorem State.Walked.isWaiting_iff (h : s₀.Walked L s) (t : TId) : s.isWaiting t = true ↔
    s₀.isWaiting t = true ∧ (s₀.newlyGranted s t = [] ∨ s.fullyGranted t = false) := by
  constructor
  · intro hw
    refine ⟨h.isWaiting hw, or_iff_not_imp_left.mpr fun hnew => h.not_full hw hnew⟩
  · rintro ⟨hw, hkept⟩
    rw [State.isWaiting_iff] at hw ⊢
    obtain ⟨w, hmem, rfl⟩ := List.mem_map.mp hw
    rw [h.waiting, State.filterMap_keptEntry, List.map_map]
    refine List.mem_map.mpr ⟨w, List.mem_filter.mpr ⟨hmem, decide_eq_true hkept⟩, ?_⟩
    dsimp only [Function.comp_apply]
    split <;> rfl

theorem State.QueueOnce.length_le (hq : s.QueueOnce) : s.waiting.length ≤ 6 := by
  have := List.Nodup.length_le_card hq
  rwa [List.length_map, Fintype.card_fin] at this

/-- The walk as rounds of evaluations; where nobody who waits holds a reservation, one round. -/
theorem State.walk_walked (hwf : s.TablesWf) (honce : s.SectionsOnce) (hq : s.QueueOnce) :
    ∃ L, s.Walked L s.walk ∧ (∀ t, L.count t ≤ 254) ∧
      ((∀ w ∈ s.waiting, s.settingRun w.t = []) → ∀ t, L.count t ≤ 1) := by
  have hlen := hq.length_le
  by_cases hquiet : ∀ w ∈ s.waiting, s.settingRun w.t = []
  · obtain ⟨L, hL, hcount⟩ := (State.Walked.refl hwf).walkOnce hwf honce hq
    have hone : ∀ t, L.count t ≤ 1 := fun t => (hcount t).trans (by simp)
    rw [State.walk, walkFrom_quiet _ (State.walkOnce_told hwf honce hq hquiet).1]
    exact ⟨L, hL, fun t => (hone t).trans (by omega), fun _ => hone⟩
  · obtain ⟨L, hL, hcount⟩ := State.Walked.walkFrom hwf honce hq s.waiting.length (State.Walked.refl hwf)
    refine ⟨L, hL, fun t => ?_, fun h => absurd h hquiet⟩
    have := hcount t
    rw [List.count_nil] at this
    omega

end

/-! ## The obligation -/

theorem exec_pendingQueueWalk {s : State} (hold : s.resetHold = none) : exec .pendingQueueWalk s = .next s.walkIfDue := by
  have : exec .pendingQueueWalk s = .next (s.live State.walkIfDue) := rfl
  rw [this, State.live, hold]

/-- Settles O58: the evaluations of the walk keep `State.Walked`, which holds what every clause says of the records, the queue
and the track; the first served, the end of each grant and the notices of a single round have arguments of their own. -/
theorem walkResult : Obligations.WalkResult := by
  intro s hhold hq hrise hwf
  have honce : s.SectionsOnce := fun t => (hrise t).2.2
  rw [exec_pendingQueueWalk hhold]
  refine ⟨fun hd => by rw [State.walkIfDue, hd, if_neg nofun], fun hd hnil => ?_, fun hd => ?_⟩
  · have hwalk : s.walk = s.walkOnce := by
      rw [State.walk, hnil]
      rfl
    rw [State.walkIfDue, if_pos hd, hwalk, State.walkOnce_of_nil hnil]
  rw [State.walkIfDue, if_pos hd]
  obtain ⟨L, hL, hcount, hone⟩ := State.walk_walked hwf honce hq
  refine ⟨s.walk, rfl, hL.queue_sublist, fun t ht => ?_, fun t => ⟨hL.entries t, hL.finalOff t, fun hgranted => ?_, fun hno => ?_⟩,
    fun t hfirst hne hav => State.walk_first hwf honce hfirst hne hav, ?_, fun hquiet => ?_,
    walkFrom_stops _ s hwf honce, ?_, hL.trackGranted, hL.only⟩
  · refine hL.others t fun hc => ?_
    obtain ⟨h1, h2⟩ := hL.within t hc
    rcases ht with ht | ht
    · exact absurd (ht.symm.trans h1) nofun
    · exact ht h2
  · have hnew := (hL.granted_iff t).mp hgranted
    obtain ⟨hwait, -⟩ := hL.within t (hL.mem_of_newly hnew)
    have hb := hL.granted t hnew
    obtain ⟨j, hj, hnum, hzero⟩ := hL.number t
    have hpos : 1 ≤ j := Nat.one_le_iff_ne_zero.mpr fun hc => hnew (hzero.mpr hc)
    refine ⟨hwait, ?_, hb.endPos, hb.auth, hb.unparked, ?_, hb.parked, hb.told, fun hquiet => ?_⟩
    · rw [hnum]
      exact nextAuth_iterate_ne _ hpos (hj.trans (hcount t))
    · rw [hL.isWaiting_iff, and_iff_right hwait, or_iff_right hnew]
    · rw [hnum, Nat.le_antisymm (hj.trans (hone hquiet t)) hpos]
      rfl
  · have hnew : s.newlyGranted s.walk t = [] := of_not_not fun hc => hno ((hL.granted_iff t).mpr hc)
    obtain ⟨j, -, hnum, hzero⟩ := hL.number t
    refine ⟨by rw [hnum, hzero.mp hnew]; rfl, (hL.ungranted t hnew).1, ?_⟩
    rw [Bool.eq_iff_iff, hL.isWaiting_iff, and_iff_left (.inl hnew)]
  · rw [hL.waiting, State.filterMap_keptEntry]
  · obtain ⟨h1, h2⟩ := State.walkOnce_told hwf honce hq hquiet
    rw [State.walk, walkFrom_quiet _ h1]
    exact ⟨h1, h2⟩
  · obtain ⟨cs, hcs, hthrow⟩ := hL.queue
    refine ⟨cs, hcs, fun d hd => ?_⟩
    obtain ⟨hblade, t, ht, hreq⟩ := hthrow d hd
    obtain ⟨w, hw, rfl⟩ := List.mem_map.mp (State.isWaiting_iff.mp (hL.within t ht).1)
    exact ⟨hblade, w, hw, hreq⟩

end Sys2Proof.Machine
